-- ==== Sys2Proof/Word.lean ====
section
/-! DEFINITION. The word types of the part: a byte, a 32-bit register word (R5), a 40-bit tagged word (R8 value and tag),
a 40-bit capture time (R11). -/

namespace Sys2Proof

/-- A byte. -/
abbrev Byte := BitVec 8

/-- A register or value word (R5: every register is 32 bits wide). -/
abbrev Word := BitVec 32

/-- A capture time in units of 8 ns (R11). -/
abbrev Capture := BitVec 40

/-- A tagged word (R9): bits 31..0 the value, bits 39..32 the tag. -/
structure Tagged where
  value : Word
  tag : Byte
deriving DecidableEq, Repr

end Sys2Proof
end

