-- ==== Sys2Proof/Syntax.lean ====
section
/-! DEFINITION. The commands the part takes, one constructor per row of spec/opcode_table.json, in the table's order, and the
kinds of operand they carry: access paths, store requests, frames, job descriptors. -/

namespace Sys2Proof

/-- The access paths of R7, each with one read latch and one staged high register. -/
inductive Path
  | host
  | mgmt
  | supervisor
  | thread (e : Fin 8) (t : Fin 4)
deriving DecidableEq, Repr

/-- The sources that write the signal store (R56, R70). A Drover write carries the AUTHB bit of the node's roster entry (R57). -/
inductive StoreSrc
  | dio
  | millwright
  | drover (authb : Bool)
  | engine (e : Fin 8)
  | host
  | mgmt
deriving DecidableEq, Repr

/-- One write presented to the store: the source, the slot, the presented word, an explicit capture time where the source
gives one (R58). -/
structure StoreReq where
  src : StoreSrc
  slot : Fin 131072
  word : Tagged
  capture : Option Capture
deriving DecidableEq, Repr

/-- A general register G0 to G15 of a thread (R86). -/
abbrev GReg := Fin 16

/-- Operand B of a format R instruction that allows an immediate: a register, or X[20:0] sign-extended (R98). -/
inductive OpB
  | reg (b : GReg)
  | imm (x : BitVec 21)
deriving DecidableEq, Repr

/-- Operand M of SCALE: a register, or the unsigned X[20:8] (R100). -/
inductive ScaleM
  | reg (b : GReg)
  | imm (x : BitVec 13)
deriving DecidableEq, Repr

/-- What a gPTP message is to the protocol of its domain (R135): an Announce with its priority vector; a one-step Sync with the master's
time when it was sent, corrections included, in ns; a two-step Sync and the Follow_Up that brings that time; the end of a peer-delay
measurement, in ns; another message. -/
inductive GptpMsg
  | announce (vector : BitVec 208)
  | sync (master : Int)
  | twoStepSync
  | followUp (master : Int)
  | peerDelay (delay : BitVec 32)
  | other
deriving DecidableEq, Repr

/-- What a sample of an encoder's A and B shows: a counted edge in one sense or the other, or an illegal transition (R166). -/
inductive EncStep
  | forward | backward | illegal
deriving DecidableEq, Repr

/-- A write that re-arms an action (R183): the low register of P or of PERIOD, or the control register with EN and WIDTH. -/
inductive ActWrite
  | p (lo : Word) | period (lo : Word) | ctrl (w : Word)
deriving DecidableEq, Repr

/-- The three registers that write the discrete outputs (R187). -/
inductive DioReg
  | out | set | clr
deriving DecidableEq, Repr

/-- A CAN frame on the bus (R195, R203): format 0 Classical CAN, 1 FD, 2 XL; `age`: ns since its start-of-frame. -/
structure CanFrame where
  format : Fin 3
  ide : Bool
  id : BitVec 29
  rtr : Bool
  brs : Bool
  esi : Bool
  dlc : BitVec 4
  sec : Bool
  sdt : Byte
  vcid : Byte
  af : Word
  payload : List Byte
  age : BitVec 32
deriving DecidableEq, Repr

/-- The classes of a detected error in LEC (R227): stuff, form, ACK, bit 1, bit 0, CRC. -/
inductive CanErr
  | stuff | form | ack | bit1 | bit0 | crc
deriving DecidableEq, Repr

/-- The step ISO 11898-1 assigns an error on the error counters: TEC by 8 or unchanged for a transmitter, REC by 1, 8 or unchanged
for a receiver. -/
inductive CanErrStep
  | tx8 | tx0 | rx1 | rx8 | rx0
deriving DecidableEq, Repr


/-- The causes of a stomp (R251). -/
inductive StompCause
  | fcs | oversize | linkLoss
deriving DecidableEq, Repr


/-- The memory BARs (R77). -/
inductive Bar
  | bar0 | bar2 | bar4
deriving DecidableEq, Repr

/-- The causes of a bridge reset (R341). -/
inductive LinkReset
  | linkDown | hotReset | flr | d3hotExit
deriving DecidableEq, Repr

/-- The tamper causes of R392. -/
inductive TamperCause
  | pin (k : Fin 4) | supply | backup | clock | temperature | shield
deriving DecidableEq, Repr

/-- The settings registers of a load channel (R351, R383). -/
inductive LsReg
  | cmd | pwm | thr | inr | vref
deriving DecidableEq, Repr

/-- What a SENSE frame reports of a channel: average and peak current code, temperature (R360). -/
structure SenseCh where
  avg : BitVec 12
  peak : BitVec 12
  temp : BitVec 9
deriving DecidableEq, Repr


/-- The commands (rows of spec/opcode_table.json). Each comment names the row and the rule that gives its effect. -/
inductive Instr
  /-- REGISTER_WRITE, R6. -/
  | registerWrite (p : Path) (a : BitVec 40) (v : Word)
  /-- READ_CLEAR, R6. -/
  | readClear (p : Path) (a : BitVec 40)
  /-- LOW_REGISTER_READ, R7. -/
  | lowRegisterRead (p : Path) (a : BitVec 40)
  /-- HIGH_REGISTER_WRITE, R7. -/
  | highRegisterWrite (p : Path) (a : BitVec 40) (v : Word)
  /-- LOW_REGISTER_COMMIT, R7. -/
  | lowRegisterCommit (p : Path) (a : BitVec 40) (v : Word)
  /-- PAIR_ACCESS_64, R313. -/
  | pairAccess64 (p : Path) (a : BitVec 40) (w : Option (BitVec 64))
  /-- APPLY, R41. -/
  | apply (p : Path) (w : Word)
  /-- IMAGE_APPLY_DONE, R37; `stored`: a staged image that passed stage 6 reads back equal from the structure region (R33). -/
  | imageApplyDone (stored : Bool)
  /-- PART_STAGE_WRITE, R44. -/
  | partStageWrite (p : Path) (a : BitVec 40) (v : Word)
  /-- PART_SUBMIT, R44. -/
  | partSubmit (p : Path) (w : Word)
  /-- PARTIAL_ADD, R45. -/
  | partialAdd
  /-- PARTIAL_REMOVE, R46. -/
  | partialRemove
  /-- PARTIAL_REMOVE_UNDEFINE, R46. -/
  | partialRemoveUndefine (rivals : List StoreReq)
  /-- PARTIAL_REFUSED, R47. -/
  | partialRefused
  /-- HOST_SLOT_WRITE, R80. -/
  | hostSlotWrite (n : Fin 131072) (w : BitVec 64) (rivals : List StoreReq)
  /-- ROUTE_EVENT_DELIVERY, R74. -/
  | routeEventDelivery
  /-- STALE_MARKING, R62. -/
  | staleMarking (n : Fin 131072) (rivals : List StoreReq)
  /-- NODE_LEAVE_MARK, R67. -/
  | nodeLeaveMark (rivals : List StoreReq)
  /-- CONSUMING_READ, R81. -/
  | consumingRead (p : Path) (n : Fin 131072) (rivals : List StoreReq)
  /-- EVENT_START, R90. -/
  | eventStart (e : Fin 8) (t : Fin 4)
  /-- DOORBELL, R87. -/
  | doorbell (p : Path) (e : Fin 8) (v : Word)
  /-- THREAD_TIMER_EXPIRY, R87. -/
  | threadTimerExpiry (e : Fin 8) (t : Fin 4)
  /-- RATE_TOKEN_REFILL, R110. -/
  | rateTokenRefill (e : Fin 8) (k : Fin 256)
  /-- TRAIL_TIMER_EXPIRY, R110. -/
  | trailTimerExpiry (e : Fin 8) (k : Fin 256)
  /-- SLICE_DEMOTION, R91. -/
  | sliceDemotion (e : Fin 8) (t : Fin 4)
  /-- BUDGET_OVERRUN, R92. -/
  | budgetOverrun (e : Fin 8) (t : Fin 4)
  /-- ENGINE_JOB_COMPLETE, R114. -/
  | engineJobComplete (e : Fin 8) (t : Fin 4)
  /-- ASSEMBLY_BUFFER_GRANT, R116. -/
  | assemblyBufferGrant (e : Fin 8) (t : Fin 4)
  /-- ENG_LOAD_UPDATE, R125. -/
  | engLoadUpdate (e : Fin 8)
  /-- NOP, R99. -/
  | nop (e : Fin 8) (t : Fin 4)
  /-- MOV, R99. -/
  | mov (e : Fin 8) (t : Fin 4) (d a : GReg)
  /-- MOVI, R99. -/
  | movi (e : Fin 8) (t : Fin 4) (d : GReg) (imm : BitVec 26)
  /-- MOVU, R99. -/
  | movu (e : Fin 8) (t : Fin 4) (d : GReg) (imm : BitVec 16)
  /-- ADD, R99. -/
  | add (e : Fin 8) (t : Fin 4) (d a : GReg) (b : OpB)
  /-- SUB, R99. -/
  | sub (e : Fin 8) (t : Fin 4) (d a : GReg) (b : OpB)
  /-- MUL, R99. -/
  | mul (e : Fin 8) (t : Fin 4) (d a : GReg) (b : OpB)
  /-- SCALE, R100. -/
  | scale (e : Fin 8) (t : Fin 4) (d a : GReg) (m : ScaleM) (signed trunc : Bool) (sh : Fin 64)
  /-- DIVU, R99. -/
  | divu (e : Fin 8) (t : Fin 4) (d a b : GReg)
  /-- AND, R99. -/
  | and (e : Fin 8) (t : Fin 4) (d a : GReg) (b : OpB)
  /-- OR, R99. -/
  | or (e : Fin 8) (t : Fin 4) (d a : GReg) (b : OpB)
  /-- XOR, R99. -/
  | xor (e : Fin 8) (t : Fin 4) (d a : GReg) (b : OpB)
  /-- SHL, R99. -/
  | shl (e : Fin 8) (t : Fin 4) (d a : GReg) (b : OpB)
  /-- SHR, R99. -/
  | shr (e : Fin 8) (t : Fin 4) (d a : GReg) (b : OpB)
  /-- SAR, R99. -/
  | sar (e : Fin 8) (t : Fin 4) (d a : GReg) (b : OpB)
  /-- MIN, R99. -/
  | min (e : Fin 8) (t : Fin 4) (d a b : GReg) (signed : Bool)
  /-- MAX, R99. -/
  | max (e : Fin 8) (t : Fin 4) (d a b : GReg) (signed : Bool)
  /-- CMP, R99. -/
  | cmp (e : Fin 8) (t : Fin 4) (a : GReg) (b : OpB)
  /-- SEL, R99. -/
  | sel (e : Fin 8) (t : Fin 4) (d a b : GReg) (cond : Fin 16)
  /-- TAGDN, R99. -/
  | tagdn (e : Fin 8) (t : Fin 4) (d a : GReg) (x : BitVec 5)
  /-- TAGRD, R99. -/
  | tagrd (e : Fin 8) (t : Fin 4) (d a : GReg)
  /-- EXT, R99. -/
  | ext (e : Fin 8) (t : Fin 4) (d a : GReg) (signed : Bool) (lenm1 : Fin 32)
  /-- LDS, R99. -/
  | lds (e : Fin 8) (t : Fin 4) (d a : GReg) (imm : BitVec 17)
  /-- STS, R103. -/
  | sts (e : Fin 8) (t : Fin 4) (d a : GReg) (cap : Fin 4) (imm : BitVec 17) (rivals : List StoreReq)
  /-- AGE, R99. -/
  | age (e : Fin 8) (t : Fin 4) (d a : GReg) (imm : BitVec 17)
  /-- LDW, R99. -/
  | ldw (e : Fin 8) (t : Fin 4) (d a : GReg) (imm : BitVec 26)
  /-- STW, R97. -/
  | stw (e : Fin 8) (t : Fin 4) (d a : GReg) (imm : BitVec 26)
  /-- LDT, R99. -/
  | ldt (e : Fin 8) (t : Fin 4) (d a : GReg) (imm : BitVec 26)
  /-- STT, R99. -/
  | stt (e : Fin 8) (t : Fin 4) (d a : GReg) (imm : BitVec 26)
  /-- LDH, R102. -/
  | ldh (e : Fin 8) (t : Fin 4) (d : GReg) (field : Fin 16)
  /-- LKUP, R104. -/
  | lkup (e : Fin 8) (t : Fin 4) (d a : GReg) (frameKey : Bool) (table : Fin 4)
  /-- UNPK, R107. -/
  | unpk (e : Fin 8) (t : Fin 4) (d a : GReg) (base : BitVec 12)
  /-- UNPKS, R109. -/
  | unpks (e : Fin 8) (t : Fin 4) (a : GReg) (base : BitVec 12) (rivals : List StoreReq)
  /-- PACK, R108. -/
  | pack (e : Fin 8) (t : Fin 4) (d a : GReg) (h : Fin 4) (base : BitVec 12)
  /-- PACKS, R109. -/
  | packs (e : Fin 8) (t : Fin 4) (a : GReg) (h : Fin 4) (base : BitVec 12)
  /-- TXOPEN, R116. -/
  | txopen (e : Fin 8) (t : Fin 4) (h : Fin 4) (tmpl : Fin 32)
  /-- TXSEND, R117. -/
  | txsend (e : Fin 8) (t : Fin 4) (a : GReg) (h : Fin 4)
  /-- PORT13_CREDIT_TIMEOUT, R117. -/
  | port13CreditTimeout (e : Fin 8) (t : Fin 4)
  /-- RATE, R110. -/
  | rate (e : Fin 8) (t : Fin 4) (k : Fin 256)
  /-- FRESH, R112. -/
  | fresh (e : Fin 8) (t : Fin 4) (a : GReg) (h : Fin 4) (entry : Fin 512)
  /-- MACGEN, R114. -/
  | macgen (e : Fin 8) (t : Fin 4) (a : GReg) (h : Fin 4) (entry : Fin 512)
  /-- MACVER, R112. -/
  | macver (e : Fin 8) (t : Fin 4) (a : GReg) (entry : Fin 512)
  /-- FLD, R114. -/
  | fld (e : Fin 8) (t : Fin 4) (d a b : GReg)
  /-- FST, R114. -/
  | fst (e : Fin 8) (t : Fin 4) (d a b : GReg)
  /-- POST, R99. -/
  | post (e : Fin 8) (t : Fin 4) (a : GReg) (te : Fin 8) (tt : Fin 4)
  /-- ARM, R99. -/
  | arm (e : Fin 8) (t : Fin 4) (a : GReg) (code : BitVec 16) (periodic : Bool)
  /-- QPUT, R327. -/
  | qput (e : Fin 8) (t : Fin 4) (a b : GReg) (q : Fin 64)
  /-- BR, R101. -/
  | br (e : Fin 8) (t : Fin 4) (cond : Fin 16) (target : BitVec 14)
  /-- CALL, R99. -/
  | call (e : Fin 8) (t : Fin 4) (target : BitVec 14)
  /-- RET, R99. -/
  | ret (e : Fin 8) (t : Fin 4)
  /-- JR, R96. -/
  | jr (e : Fin 8) (t : Fin 4) (a : GReg)
  /-- YIELD, R91. -/
  | yield (e : Fin 8) (t : Fin 4)
  /-- DONE, R88. -/
  | done (e : Fin 8) (t : Fin 4)
  /-- TRAP, R93. -/
  | trap (e : Fin 8) (t : Fin 4) (arg : Byte)
  /-- TD_LOAD, R133. -/
  | tdLoad (p : Path) (dom : Fin 2)
  /-- TD_RATE, R133. -/
  | tdRate (p : Path) (dom : Fin 2)
  /-- TD_ADJ, R133. -/
  | tdAdj (p : Path) (dom : Fin 2)
  /-- LOCK_SET, R136. -/
  | lockSet (p : Path) (dom : Fin 2)
  /-- LOCK_CLR, R136. -/
  | lockClr (p : Path) (dom : Fin 2)
  /-- GPTP_FRAME_RECEIVE, R135. -/
  | gptpFrameReceive (port : Fin 12) (domainNumber : Fin 128) (msg : GptpMsg)
  /-- SYNC_LOSS, R136. -/
  | syncLoss (dom : Fin 2)
  /-- SYS_SELECT, R140. -/
  | sysSelect (p : Path) (sel : Fin 4)
  /-- SYS_SELECT_EFFECT, R139. -/
  | sysSelectEffect
  /-- SYS_RESTART, R144. -/
  | sysRestart (p : Path)
  /-- SLEW_END, R141. -/
  | slewEnd
  /-- TX_TIMESTAMP, R145. -/
  | txTimestamp (port : Fin 12) (hostReq : Bool) (queue : Fin 64) (tag : BitVec 16)
  /-- TSQ_READ, R147. -/
  | tsqRead (p : Path) (port : Fin 12)
  /-- SNAPSHOT, R163. -/
  | snapshot (p : Path)
  /-- PPS_EDGE, R148. -/
  | ppsEdge (k : Fin 4)
  /-- CAPTURE_EDGE, R150. -/
  | captureEdge (i : Fin 8) (rising : Bool) (delay : BitVec 16)
  /-- CAPTURE_READ, R150. -/
  | captureRead (p : Path) (i : Fin 8)
  /-- CAL_WRITE, R153. -/
  | calWrite (p : Path)
  /-- CAL_LOAD, R153. -/
  | calLoad
  /-- CAL_READ_LATCH, R152. -/
  | calReadLatch (p : Path)
  /-- TAMP_CLR, R156. -/
  | tampClr (p : Path)
  /-- CALENDAR_ALARM, R155. -/
  | calendarAlarm
  /-- OSC_STOP, R157. -/
  | oscStop
  /-- ENCODER_EDGE, R169. -/
  | encoderEdge (enc : Fin 4) (step : EncStep) (delay : BitVec 16)
  /-- Z_RESYNC, R167. -/
  | zResync (enc : Fin 4) (rising : Bool) (delay : BitVec 16)
  /-- STALL_TIMEOUT, R171. -/
  | stallTimeout (dom : Fin 4)
  /-- PHASE_SOURCE_UPDATE, R168. -/
  | phaseSourceUpdate (dom : Fin 4)
  /-- PRESET, R174. -/
  | preset (p : Path) (dom : Fin 4)
  /-- ACTION_REARM, R183. -/
  | actionRearm (p : Path) (a : Fin 1024) (w : ActWrite)
  /-- ACTION_CROSSING, R177. -/
  | actionCrossing (dom : Fin 4)
  /-- ACTION_DISPATCH, R178. -/
  | actionDispatch (dom : Fin 4)
  /-- PULSE_END, R176. -/
  | pulseEnd (load : Bool) (line : Fin 32)
  /-- DCMD_SEND, R181. -/
  | dcmdSend (a : Fin 1024)
  /-- DIO_INPUT_ACCEPT, R186. -/
  | dioInputAccept (line : Fin 32) (level : Bool) (stable : BitVec 32) (rivals : List StoreReq)
  /-- DIO_OUT_WRITE, R187. -/
  | dioOutWrite (p : Path) (r : DioReg) (v : Word)
  /-- DIO_WAKE_QUALIFY, R189. -/
  | dioWakeQualify (line : Fin 8) (rising : Bool) (ticks : BitVec 16)
  /-- CAN_FRAME_RECEIVE, R202. -/
  | canFrameReceive (n : Fin 32) (f : CanFrame)
  /-- CAN_BUS_ERROR, R217. -/
  | canBusError (n : Fin 32) (err : CanErr) (step : CanErrStep) (xlData : Bool)
  /-- BUS_OFF_RECOVERY, R217. -/
  | busOffRecovery (n : Fin 32) (seqs : Fin 129)
  /-- PROTOCOL_EXCEPTION, R195. -/
  | protocolException (n : Fin 32) (xl : Bool) (step : CanErrStep)
  /-- TIMING_SEL_WRITE, R199. -/
  | timingSelWrite (p : Path) (n : Fin 32) (sel : Fin 4)
  /-- TIMING_SWITCH, R199. -/
  | timingSwitch (n : Fin 32)
  /-- LISTEN_WRITE, R218. -/
  | listenWrite (p : Path) (n : Fin 32) (listen : Bool)
  /-- LISTEN_EFFECT, R218. -/
  | listenEffect (n : Fin 32)
  /-- CAN_TX_START, R210. -/
  | canTxStart (n : Fin 32)
  /-- CAN_TX_SUCCESS, R209. -/
  | canTxSuccess (n : Fin 32)
  /-- ARBITRATION_LOST, R209. -/
  | arbitrationLost (n : Fin 32)
  /-- CYCLE_START, R214. -/
  | cycleStart (n : Fin 32)
  /-- WINDOW_START, R211. -/
  | windowStart (n : Fin 32)
  /-- WINDOW_END, R212. -/
  | windowEnd (n : Fin 32)
  /-- REF_TIMEOUT, R215. -/
  | refTimeout (n : Fin 32)
  /-- WIN_DATA_WRITE, R216. -/
  | winDataWrite (p : Path) (n : Fin 32) (v : Word)
  /-- CYCLE_WRITE, R216. -/
  | cycleWrite (p : Path) (n : Fin 32) (v : Word)
  /-- CAN_WAKE_MATCH, R220. -/
  | canWakeMatch (n : Fin 32) (ide : Bool) (id : BitVec 29) (byte0 : Option Byte)
  /-- INJECT_GO, R221. -/
  | injectGo (p : Path) (n : Fin 32)
  /-- ETH_FRAME_RECEIVE, R231. -/
  | ethFrameReceive (port : Fin 12) (bytes : List Byte) (fcs : Word) (codeOk : Bool) (age : BitVec 32)
  /-- CUT_THROUGH_DECIDE, R250. -/
  | cutThroughDecide (port : Fin 12) (head : List Byte)
  /-- ADMISSION, R246. -/
  | admission
  /-- STOMP, R251. -/
  | stomp (port : Fin 12) (cause : StompCause) (bytes : List Byte)
  /-- SWITCH_EGRESS_START, R240. -/
  | switchEgressStart (port : Fin 15)
  /-- SWITCH_EGRESS_DONE, R245. -/
  | switchEgressDone (port : Fin 15)
  /-- PORT_LINK_DOWN, R257. -/
  | portLinkDown (port : Fin 12) (halfDuplex : Bool)
  /-- PORT_LINK_UP, R257. -/
  | portLinkUp (port : Fin 12) (speed : Fin 6)
  /-- LINGER_EXPIRY, R257. -/
  | lingerExpiry (port : Fin 15)
  /-- FDB_AGE_OUT, R236. -/
  | fdbAgeOut (mac : BitVec 48) (vid : BitVec 12)
  /-- WAKE_PATTERN_MATCH, R259. -/
  | wakePatternMatch (port : Fin 12) (bytes : List Byte)
  /-- MDIO_START, R260. -/
  | mdioStart (p : Path) (m : Fin 2) (w : Word)
  /-- MDIO_DONE, R260. -/
  | mdioDone (m : Fin 2) (data : BitVec 16)
  /-- RING_FRAME_RECEIVE, R298. -/
  | ringFrameReceive (lane : Fin 2) (bytes : List Byte) (fcs : Word) (codeOk full : Bool) (age : BitVec 40) (rivals : List StoreReq)
  /-- ORDER_GAP_TIMEOUT, R274. -/
  | orderGapTimeout (n : Fin 63)
  /-- RING_BEACON_SEND, R284. -/
  | ringBeaconSend
  /-- EXPORT_TIMER, R278. -/
  | exportTimer (n : Fin 63)
  /-- RING_READ_ISSUE, R280. -/
  | ringReadIssue (n : Fin 63)
  /-- RING_READ_TIMEOUT, R280. -/
  | ringReadTimeout
  /-- RING_WRITE_SEND, R281. -/
  | ringWriteSend (n : Fin 64)
  /-- JOIN_CHALLENGE, R292. -/
  | joinChallenge
  /-- JOIN_RESPONSE_TIMEOUT, R292. -/
  | joinResponseTimeout
  /-- JOIN_VERIFY_DONE, R292. -/
  | joinVerifyDone (rivals : List StoreReq)
  /-- QUARANTINE_EXPIRY, R300. -/
  | quarantineExpiry (n : Fin 63)
  /-- QUAR_CLR, R300. -/
  | quarClr (p : Path) (n : Fin 64)
  /-- LANE_LINK_CHANGE, R268. -/
  | laneLinkChange (lane : Fin 2) (up : Bool)
  /-- HOST_READ, R314. -/
  | hostRead (bar : Bar) (off : BitVec 32) (len : BitVec 16) (whole : Bool)
  /-- HOST_WRITE, R314. -/
  | hostWrite (bar : Bar) (off : BitVec 32) (data : List Byte) (whole : Bool)
  /-- BRIDGE_LOG_READ, R316. -/
  | bridgeLogRead (p : Path)
  /-- VERSION_OFFER, R320. -/
  | versionOffer (p : Path) (q : Fin 64) (offer : BitVec 4)
  /-- QUEUE_ENABLE, R321. -/
  | queueEnable (p : Path) (q : Fin 64)
  /-- QUEUE_DISABLE, R331. -/
  | queueDisable (p : Path) (q : Fin 64)
  /-- RECORD_START, R324. -/
  | recordStart (q : Fin 64)
  /-- RECORD_FINISH, R324. -/
  | recordFinish (q : Fin 64)
  /-- D2H_CONS_WRITE, R328. -/
  | d2hConsWrite (p : Path) (q : Fin 64) (v : Word)
  /-- DROP_REST, R329. -/
  | dropRest (p : Path) (q : Fin 64)
  /-- QPUT_TIMEOUT, R327. -/
  | qputTimeout (e : Fin 8) (t : Fin 4)
  /-- H2D_DOORBELL, R333. -/
  | h2dDoorbell (p : Path) (q : Fin 64) (v : Word)
  /-- DESCRIPTOR_FETCHED, R334. -/
  | descriptorFetched (q : Fin 64) (desc : BitVec 256) (data : Option (List Byte)) (heads : List (Fin 64 × Fin 8))
  /-- PORT12_FRAME_ENTRY, R333. -/
  | port12FrameEntry (q : Fin 64)
  /-- DESCRIPTOR_RETIRE, R333. -/
  | descriptorRetire (q : Fin 64)
  /-- HOLDOFF_EXPIRY, R338. -/
  | holdoffExpiry (q : Fin 64)
  /-- MSIX_UNMASK, R335. -/
  | msixUnmask (p : Path) (v : Fin 128)
  /-- BRIDGE_RESET, R341. -/
  | bridgeReset (cause : LinkReset)
  /-- BUS_MASTER_CHANGE, R342. -/
  | busMasterChange (on : Bool) (mps : Fin 3) (mrrs : Fin 6)
  /-- LOAD_COMMAND_WRITE, R351. -/
  | loadCommandWrite (p : Path) (n : Fin 24) (r : LsReg) (v : Word)
  /-- LATCH_CLEAR, R359. -/
  | latchClear (p : Path) (n : Fin 24) (w : Word)
  /-- OVERCURRENT_TRIP, R355. -/
  | overcurrentTrip (n : Fin 24) (code : BitVec 12)
  /-- FAST_TRIP, R356. -/
  | fastTrip (n : Fin 24) (code : BitVec 16)
  /-- OVERTEMP_SHUTDOWN, R358. -/
  | overtempShutdown (n : Fin 24)
  /-- INRUSH_END, R357. -/
  | inrushEnd (n : Fin 24)
  /-- PWM_PERIOD_START, R353. -/
  | pwmPeriodStart (n : Fin 24) (vbat : BitVec 13)
  /-- DIAG_CHECK, R361. -/
  | diagCheck (n : Fin 24) (on off : Bool) (vbat : BitVec 13)
  /-- SUPPLY_SHUTDOWN, R363. -/
  | supplyShutdown (die : Fin 2) (isOver : Bool)
  /-- SUPPLY_RESTART, R363. -/
  | supplyRestart (die : Fin 2) (vbat : BitVec 13)
  /-- GROUND_LOSS, R363. -/
  | groundLoss
  /-- REVERSE_BATTERY, R363. -/
  | reverseBattery (present : Bool)
  /-- HEARTBEAT, R368; `w`, here and in the other frames of the links: the 64 bits that arrive (R367). -/
  | heartbeat (die : Fin 2) (w : BitVec 64)
  /-- SET_FRAME, R368. -/
  | setFrame (die : Fin 2) (w : BitVec 64)
  /-- SAFE_FRAME, R376. -/
  | safeFrame (die : Fin 2) (w : BitVec 64)
  /-- CLEAR_FRAME, R368. -/
  | clearFrame (die : Fin 2) (w : BitVec 64)
  /-- READBACK, R372. -/
  | readback (die : Fin 2) (w : BitVec 64)
  /-- TAKEOVER, R372. -/
  | takeover (die : Fin 2) (w : BitVec 64)
  /-- PARK, R377. -/
  | park (die : Fin 2) (w : BitVec 64)
  /-- STATUS_FRAME, R369. -/
  | statusFrame (die : Fin 2) (w : BitVec 64)
  /-- SENSE_FRAME, R360. -/
  | senseFrame (die : Fin 2) (w : BitVec 64) (chs : List SenseCh) (vbat : BitVec 13)
  /-- STATE_FRAME, R372. -/
  | stateFrame (die : Fin 2) (w : BitVec 64)
  /-- LINK_FRAME_RETRY, R369. -/
  | linkFrameRetry (die : Fin 2)
  /-- LINK_DOWN, R369. -/
  | linkDown (die : Fin 2)
  /-- POWER_DIE_HOLD, R370. -/
  | powerDieHold (die : Fin 2)
  /-- HOLD_POLICY, R370. -/
  | holdPolicy (die : Fin 2)
  /-- POWER_DIE_POWERUP, R371. -/
  | powerDiePowerup (die : Fin 2)
  /-- POWERUP_TAKEOVER_TIMEOUT, R371. -/
  | powerupTakeoverTimeout (die : Fin 2)
  /-- LIMP_ENTRY, R373. -/
  | limpEntry
  /-- LIMP_N_RELEASE, R373. -/
  | limpNRelease
  /-- LHI_FOLLOW, R374. -/
  | lhiFollow (pin : Fin 8) (level : Bool)
  /-- LIMP_LATCH_CLEAR, R374. -/
  | limpLatchClear (n : Fin 24)
  /-- SUPPLY_LIMIT_REPORT, R350. -/
  | supplyLimitReport
  /-- XTS_ENC, R398. -/
  | xtsEnc (input : Option (List Byte))
  /-- XTS_DEC, R398. -/
  | xtsDec (input : Option (List Byte))
  /-- GCM_ENC, R398. -/
  | gcmEnc (input aad : Option (List Byte))
  /-- GCM_DEC, R398. -/
  | gcmDec (input aad : Option (List Byte))
  /-- CMAC_GEN, R398. -/
  | cmacGen (input : Option (List Byte))
  /-- CMAC_VER, R398. -/
  | cmacVer (input : Option (List Byte))
  /-- UNWRAP, R389. -/
  | unwrap (blob : Option (List Byte))
  /-- WRAP, R398. -/
  | wrap (input : Option (List Byte))
  /-- DERIVE, R390. -/
  | derive (label : Option (List Byte))
  /-- GENERATE, R390. -/
  | generate
  /-- RANDOM, R398. -/
  | random
  /-- SHAKE, R398. -/
  | shake (input : Option (List Byte))
  /-- MLDSA_VER, R403. -/
  | mldsaVer (message keySig : Option (List Byte))
  /-- MLDSA_SIGN, R404. -/
  | mldsaSign (message blob : Option (List Byte))
  /-- ATTEST, R405. -/
  | attest (nonce : Option (List Byte))
  /-- CIPHER_JOB_DONE, R401. -/
  | cipherJobDone (i : Fin 20)
  /-- CPH_DONE_READ, R401. -/
  | cphDoneRead (p : Path)
  /-- CPH_LOAD_UPDATE, R420. -/
  | cphLoadUpdate
  /-- KS_ERASE, R391. -/
  | ksErase (p : Path) (slot : Fin 256)
  /-- KS_LOCK, R391. -/
  | ksLock (p : Path) (slot : Fin 256)
  /-- REMASK_VISIT, R386. -/
  | remaskVisit
  /-- TAMPER_EVENT, R393. -/
  | tamperEvent (cause : TamperCause)
  /-- REDERIVE, R394. -/
  | rederive
  /-- DRBG_HEALTH_FAIL, R395. -/
  | drbgHealthFail
  /-- DRBG_RESUME, R395. -/
  | drbgResume
  /-- DRBG_RESEED, R395. -/
  | drbgReseed
  /-- REC_APPEND, R410. -/
  | recAppend (p : Path)
  /-- RECORDER_WRITE, R408. -/
  | recorderWrite
  /-- CHECKPOINT, R411. -/
  | checkpoint
  /-- CKPT_REQUEST, R411. -/
  | ckptRequest (p : Path)
  /-- CKPT_AGE_EXPIRY, R411. -/
  | ckptAgeExpiry
  /-- CKPT_RETRY, R411. -/
  | ckptRetry
  /-- CHECK_SECTOR_WRITTEN, R411. -/
  | checkSectorWritten
  /-- REC_ACK, R413. -/
  | recAck (p : Path)
  /-- REC_EXPORT_SELECT, R412. -/
  | recExportSelect (p : Path) (lo : Word)
  /-- FAULT_EVENT, R422. -/
  | faultEvent (evs : List (Fin 512 × Fin 256))
  /-- FAULT_WINDOW_CLOSE, R422. -/
  | faultWindowClose (n : Fin 512)
  /-- SEVERE_CLEAR, R423. -/
  | severeClear (p : Path) (k : Fin 16) (v : Word)
  /-- SAFE_EXIT, R429. -/
  | safeExit (p : Path)
  /-- FORCE_SAFE, R430. -/
  | forceSafe (p : Path) (pattern : Fin 8)
  /-- HOLD_CLEAR, R431. -/
  | holdClear (p : Path) (high : Bool) (v : Word)
  /-- ERR_HOLD_WRITE, R433. -/
  | errHoldWrite (p : Path) (hold : Bool)
  /-- ERRMIN_EXPIRY, R433. -/
  | errminExpiry
  /-- FAULT_INJECT, R435. -/
  | faultInject (p : Path) (src : Fin 512) (k : Fin 256) (evs : List (Fin 512 × Fin 256))
  /-- HALF_RESET_START, R442. -/
  | halfResetStart (g : Fin 16)
  /-- HALF_RESET_END, R442. -/
  | halfResetEnd (g : Fin 16)
  /-- POWER_ON, R450. -/
  | powerOn
  /-- POWER_OFF, R450. -/
  | powerOff
  /-- VBAT_VALID, R454; `factoryEn` is the level of the FACTORY_EN pin, stable since 10 µs before (R509), `refclk` whether REFCLK25
  carries a clock (R506). -/
  | vbatValid (factoryEn refclk : Bool)
  /-- VBAT_UNDERVOLTAGE, R455. -/
  | vbatUndervoltage
  /-- VBAT_WARNING, R455. -/
  | vbatWarning
  /-- RST_N_ASSERT, R456. -/
  | rstNAssert
  /-- RST_N_RELEASE, R450; `factoryEn` and `refclk` as for VBAT_VALID. -/
  | rstNRelease (factoryEn refclk : Bool)
  /-- ROM_CHECK_DONE, R482. -/
  | romCheckDone (bad : Option (BitVec 16))
  /-- CONFIGURE_ENTRY, R40. -/
  | configureEntry
  /-- SYS_RESET, R456; `raced`, here and in the other operations of SYS_CTRL: another transition is taken in the same SYS cycle (R451). -/
  | sysReset (p : Path) (raced : Bool)
  /-- SYS_DOZE, R459. -/
  | sysDoze (p : Path) (raced : Bool)
  /-- DOZE_ENTRY_DONE, R459. -/
  | dozeEntryDone
  /-- SYS_SLEEP, R459. -/
  | sysSleep (p : Path) (raced : Bool)
  /-- SLEEP_POWER_DOWN, R459. -/
  | sleepPowerDown
  /-- SYS_RECONFIG, R450. -/
  | sysReconfig (p : Path) (raced : Bool)
  /-- SYS_WAKE, R460. -/
  | sysWake (p : Path) (raced : Bool)
  /-- DOZE_RETURN, R461. -/
  | dozeReturn
  /-- SLEEP_WAKE, R461. -/
  | sleepWake
  /-- HOST_ABSENT, R453. -/
  | hostAbsent
  /-- HOST_ALIVE, R453. -/
  | hostAlive (p : Path)
  /-- PARTIAL_LOSS_CLEAR, R452. -/
  | partialLossClear (p : Path)
  /-- LOCKSTEP_MISMATCH, R458. -/
  | lockstepMismatch
  /-- MGMT_REQUEST, R466. -/
  | mgmtRequest (frame : List Byte)
  /-- MGMT_FETCH, R468. -/
  | mgmtFetch (count : BitVec 16)
  /-- MGMT_SYNC_ERROR, R466: a frame of `count` bytes. -/
  | mgmtSyncError (byte0 : Byte) (count : BitVec 16)
  /-- MGMT_TRUNCATED, R467: a REQUEST that ended after `count` bytes. -/
  | mgmtTruncated (count : BitVec 16)
  /-- MGMT_NOP, R469. -/
  | mgmtNop
  /-- MGMT_STATUS, R469. -/
  | mgmtStatus
  /-- NOTICE_FETCH, R471. -/
  | noticeFetch
  /-- CAL_READ, R469. -/
  | calRead
  /-- MGMT_WAKE, R460. -/
  | mgmtWake
  /-- MGMT_RESET, R469. -/
  | mgmtReset
  /-- MGMT_FORCE_SAFE, R430. -/
  | mgmtForceSafe
  /-- MGMT_LEASE_TAKE, R477. -/
  | mgmtLeaseTake
  /-- MGMT_LEASE_RELEASE, R477. -/
  | mgmtLeaseRelease
  /-- HOST_LEASE_TAKE, R477; `rival`: a TAKE of the management port falls into the same SYS cycle (R478). -/
  | hostLeaseTake (rival : Bool)
  /-- HOST_LEASE_RELEASE, R477. -/
  | hostLeaseRelease
  /-- BLOCK_READ, R470. -/
  | blockRead
  /-- BLOCK_WRITE, R470. -/
  | blockWrite (rivals : List StoreReq)
  /-- REC_EXPORT, R412. -/
  | recExport
  /-- MGMT_ATTEST, R405. -/
  | mgmtAttest
  /-- OTP_READ, R469. -/
  | otpRead
  /-- OTP_PROG, R472. -/
  | otpProg
  /-- OWNER_DIGEST, R473. -/
  | ownerDigest
  /-- TOKEN_NONCE, R475. -/
  | tokenNonce
  /-- FACTORY_TOKEN, R475. -/
  | factoryToken
  /-- LDR_ENTER, R480. -/
  | ldrEnter (p : Path)
  /-- LDR_VERIFY, R481. -/
  | ldrVerify (p : Path)
  /-- VERIFY_DONE, R481. -/
  | verifyDone
  /-- LDR_ACTIVATE, R480. -/
  | ldrActivate (p : Path)
  /-- ACTIVATE_DONE, R480; `part`: that many sectors are written and others are not. -/
  | activateDone (part : Option (Fin 1921))
  /-- LDR_REBOOT, R480. -/
  | ldrReboot (p : Path)
  /-- CONFIRM_DEADLINE, R484. -/
  | confirmDeadline
  /-- BUS_INTEGRATION, R199. -/
  | busIntegration (n : Fin 32)
  /-- PCIE_LINK_UP, R341. -/
  | pcieLinkUp (speed : Fin 4) (width : Fin 3)
  /-- LINK_RECOVERY, R369. -/
  | linkRecovery (die : Fin 2)
  /-- BACKUP_SUPPLY_LOSS, R157. -/
  | backupSupplyLoss
  /-- SYNC_INTERVAL_TIMER, R136. -/
  | syncIntervalTimer (dom : Fin 2)
deriving DecidableEq, Repr

end Sys2Proof
end

