-- ==== Sys2Proof/Decode.lean ====
section
/-! DEFINITION. The command a word spells by the bits of spec/opcode_table.json. No row of the table gives bits: commands reach the
part as bus accesses, frames, pin events and instructions of its own engines, not as words of one code. -/

namespace Sys2Proof

/-- The command spelled by a word: none, since the table gives no row bits. -/
def decodeTableWord (_nbits _w : Nat) : Option Instr := none

end Sys2Proof
end

