-- ==== Sys2Proof/Config.lean ====
section
/-! DEFINITION. The free values: what the spec leaves open, and the algorithms it names by standard and does not give. None has a
body, so nothing can be proved of what they return. -/

namespace Sys2Proof

/-- A free value drawn afresh; the argument is the state's count of draws. -/
opaque Config.free : Nat → Nat

/-- The mask of the ports on which a domain sends Sync under the BMCA (R135): domain, whether it is grandmaster-capable, its priority1
and priority2, what was announced (port, priority vector, age in ns). -/
opaque Config.gptpMasters : Nat → Bool → Nat → Nat → List (Nat × Nat × Nat) → Nat

/-- That mask under external port configuration: domain. -/
opaque Config.gptpExternal : Nat → Nat

/-- The payload of a recorder record whose class the spec gives a content but no layout (R409): the class, the values it holds. -/
opaque Config.recPayload : Nat → List Nat → List Byte

/-- The 24-byte header of a record in an Ethernet intake ring, which no rule lays out: binding, identifier, length, FRC. -/
opaque Config.intakeHeader : Nat → Nat → Nat → Nat → Nat

/-- AES-CMAC (SP 800-38B): key, message; the 16-byte MAC as a number, first byte highest. -/
opaque Config.cmac : List Byte → List Byte → Nat

/-- SHAKE256 (FIPS 202): message, output length in bytes; the output as a number, first byte highest. -/
opaque Config.shake256 : List Byte → Nat → Nat

/-- ML-DSA-65 verification (FIPS 204): public key, message, context, signature. -/
opaque Config.mldsaVerify : List Byte → List Byte → List Byte → List Byte → Bool

/-- ML-DSA-65 signing: private key, message, context, randomness; the 3,309-byte signature as a number, first byte highest. -/
opaque Config.mldsaSign : List Byte → List Byte → List Byte → Nat → Nat

/-- XTS-AES (SP 800-38E): encrypt, key, tweak, data; the output as a number, first byte highest. -/
opaque Config.xts : Bool → List Byte → List Byte → List Byte → Nat

/-- AES-GCM (SP 800-38D) keystream part: key, IV, data; the output as a number, first byte highest. -/
opaque Config.gcm : List Byte → List Byte → List Byte → Nat

/-- AES-GCM tag: key, IV, additional data, ciphertext; 16 bytes as a number, first byte highest. -/
opaque Config.gcmTag : List Byte → List Byte → List Byte → List Byte → Nat

/-- AES key wrap with padding (SP 800-38F), wrapping: key, plain text; the wrapped text as a number, first byte highest. -/
opaque Config.kwpWrap : List Byte → List Byte → Nat

/-- AES key wrap with padding, unwrapping: key, wrapped text; the plain text, or none where the integrity check fails. -/
opaque Config.kwpUnwrap : List Byte → List Byte → Option (List Byte)

/-- The counter-mode KDF of SP 800-108r1 with AES-CMAC: key, label, context, output length; the output as a number. -/
opaque Config.kdf : List Byte → List Byte → List Byte → Nat → Nat

/-- The root key KS0 in the fuses of the unit, 32 bytes. -/
opaque Config.rootKey : List Byte

/-- The digest of Golsemus' firmware key in mask ROM (R481), 32 bytes. -/
opaque Config.firmwareKeyDigest : List Byte

/-- The public half of the Golsemus factory key in mask ROM (R474), 1,952 bytes. -/
opaque Config.factoryKey : List Byte

end Sys2Proof
end

