-- ==== Sys2Proof/Machine/Reg.lean ====
section
/-! DEFINITION. The registers of the part by name: the fabric address of each (node 0, space 0; the base map of R76 and the
register maps of the chapters) and, for each field, its place. `n`, `e`, `t`, `k` and the like are the indices the maps use. -/

namespace Sys2Proof.Machine

/-- A field of a register: the register's address, the field's highest and lowest bit. -/
structure Fld where
  addr : Nat
  hi : Nat
  lo : Nat
deriving DecidableEq, Repr

/-- The width of a field in bits. -/
def Fld.width (x : Fld) : Nat := x.hi + 1 - x.lo


/-! ### Registers of 01_structure_image.md -/

/-- Register IMG_STATUS. -/
def Reg.IMG_STATUS : Nat := 0x100000
/-- IMG_STATUS.STATE. -/
def Fld.IMG_STATUS_STATE : Fld := ⟨Reg.IMG_STATUS, 31, 28⟩
/-- IMG_STATUS.STAGE. -/
def Fld.IMG_STATUS_STAGE : Fld := ⟨Reg.IMG_STATUS, 27, 24⟩
/-- IMG_STATUS.SECTION. -/
def Fld.IMG_STATUS_SECTION : Fld := ⟨Reg.IMG_STATUS, 23, 16⟩
/-- IMG_STATUS.CODE. -/
def Fld.IMG_STATUS_CODE : Fld := ⟨Reg.IMG_STATUS, 15, 8⟩
/-- IMG_STATUS.SOURCE. -/
def Fld.IMG_STATUS_SOURCE : Fld := ⟨Reg.IMG_STATUS, 7, 4⟩

/-- Register IMG_DETAIL. -/
def Reg.IMG_DETAIL : Nat := 0x100004
/-- IMG_DETAIL.DETAIL. -/
def Fld.IMG_DETAIL : Fld := ⟨Reg.IMG_DETAIL, 31, 0⟩

/-- Register IMG_CTRL. -/
def Reg.IMG_CTRL : Nat := 0x100008
/-- IMG_CTRL.KEY. -/
def Fld.IMG_CTRL_KEY : Fld := ⟨Reg.IMG_CTRL, 31, 24⟩
/-- IMG_CTRL.PART_SUBMIT. -/
def Fld.IMG_CTRL_PART_SUBMIT : Fld := ⟨Reg.IMG_CTRL, 1, 1⟩
/-- IMG_CTRL.APPLY. -/
def Fld.IMG_CTRL_APPLY : Fld := ⟨Reg.IMG_CTRL, 0, 0⟩

/-- Register IMG_CAPS. -/
def Reg.IMG_CAPS : Nat := 0x10000C
/-- IMG_CAPS.MAJOR_MASK. -/
def Fld.IMG_CAPS_MAJOR_MASK : Fld := ⟨Reg.IMG_CAPS, 31, 16⟩
/-- IMG_CAPS.MINOR_MAX. -/
def Fld.IMG_CAPS_MINOR_MAX : Fld := ⟨Reg.IMG_CAPS, 15, 8⟩

/-- Register IMG_SEQ. -/
def Reg.IMG_SEQ : Nat := 0x100010
/-- IMG_SEQ.SEQ. -/
def Fld.IMG_SEQ : Fld := ⟨Reg.IMG_SEQ, 31, 0⟩

/-- Register IMG_SEQ_FLOOR. -/
def Reg.IMG_SEQ_FLOOR : Nat := 0x100014
/-- IMG_SEQ_FLOOR.FLOOR. -/
def Fld.IMG_SEQ_FLOOR : Fld := ⟨Reg.IMG_SEQ_FLOOR, 31, 0⟩

/-- Register IMG_DIGEST. -/
def Reg.IMG_DIGEST (k : Nat) : Nat := 0x100020 + 0x4 * k
/-- IMG_DIGEST.DIGEST. -/
def Fld.IMG_DIGEST (k : Nat) : Fld := ⟨(Reg.IMG_DIGEST k), 31, 0⟩

/-- Register IMG_PART_STATUS. -/
def Reg.IMG_PART_STATUS : Nat := 0x100060
/-- IMG_PART_STATUS.BUSY. -/
def Fld.IMG_PART_STATUS_BUSY : Fld := ⟨Reg.IMG_PART_STATUS, 31, 31⟩
/-- IMG_PART_STATUS.WR_LOCKED. -/
def Fld.IMG_PART_STATUS_WR_LOCKED : Fld := ⟨Reg.IMG_PART_STATUS, 30, 30⟩
/-- IMG_PART_STATUS.NODE. -/
def Fld.IMG_PART_STATUS_NODE : Fld := ⟨Reg.IMG_PART_STATUS, 29, 24⟩
/-- IMG_PART_STATUS.CODE. -/
def Fld.IMG_PART_STATUS_CODE : Fld := ⟨Reg.IMG_PART_STATUS, 23, 16⟩
/-- IMG_PART_STATUS.OP. -/
def Fld.IMG_PART_STATUS_OP : Fld := ⟨Reg.IMG_PART_STATUS, 15, 12⟩
/-- IMG_PART_STATUS.STAGE. -/
def Fld.IMG_PART_STATUS_STAGE : Fld := ⟨Reg.IMG_PART_STATUS, 11, 8⟩
/-- IMG_PART_STATUS.COUNT. -/
def Fld.IMG_PART_STATUS_COUNT : Fld := ⟨Reg.IMG_PART_STATUS, 7, 0⟩

/-- Register IMG_PART_NODES_LO. -/
def Reg.IMG_PART_NODES_LO : Nat := 0x100068
/-- IMG_PART_NODES_LO.NODES. -/
def Fld.IMG_PART_NODES_LO_NODES : Fld := ⟨Reg.IMG_PART_NODES_LO, 31, 0⟩

/-- Register IMG_PART_NODES_HI. -/
def Reg.IMG_PART_NODES_HI : Nat := 0x10006C
/-- IMG_PART_NODES_HI.NODES. -/
def Fld.IMG_PART_NODES_HI_NODES : Fld := ⟨Reg.IMG_PART_NODES_HI, 31, 0⟩

/-! ### Registers of 02_signal_store.md -/

/-- Register SIG_DEFINED. -/
def Reg.SIG_DEFINED : Nat := 0x200000
/-- SIG_DEFINED.COUNT. -/
def Fld.SIG_DEFINED_COUNT : Fld := ⟨Reg.SIG_DEFINED, 17, 0⟩

/-- Register SIG_SWEEP. -/
def Reg.SIG_SWEEP : Nat := 0x200004
/-- SIG_SWEEP.SWEEPS. -/
def Fld.SIG_SWEEP_SWEEPS : Fld := ⟨Reg.SIG_SWEEP, 31, 16⟩
/-- SIG_SWEEP.LAST_US. -/
def Fld.SIG_SWEEP_LAST_US : Fld := ⟨Reg.SIG_SWEEP, 15, 0⟩

/-- Register SIG_COLLIDE. -/
def Reg.SIG_COLLIDE : Nat := 0x200008
/-- SIG_COLLIDE.COUNT. -/
def Fld.SIG_COLLIDE_COUNT : Fld := ⟨Reg.SIG_COLLIDE, 31, 0⟩

/-- Register SIG_REFUSED. -/
def Reg.SIG_REFUSED : Nat := 0x20000C
/-- SIG_REFUSED.SOURCE. -/
def Fld.SIG_REFUSED_SOURCE : Fld := ⟨Reg.SIG_REFUSED, 31, 28⟩
/-- SIG_REFUSED.COUNT. -/
def Fld.SIG_REFUSED_COUNT : Fld := ⟨Reg.SIG_REFUSED, 23, 0⟩

/-- Register SIG_REFUSED_SLOT. -/
def Reg.SIG_REFUSED_SLOT : Nat := 0x200010
/-- SIG_REFUSED_SLOT.SLOT. -/
def Fld.SIG_REFUSED_SLOT : Fld := ⟨Reg.SIG_REFUSED_SLOT, 16, 0⟩

/-- Register SIG_STALE_EVT. -/
def Reg.SIG_STALE_EVT : Nat := 0x200014
/-- SIG_STALE_EVT.COUNT. -/
def Fld.SIG_STALE_EVT_COUNT : Fld := ⟨Reg.SIG_STALE_EVT, 31, 0⟩

/-- Register SIG_MARK. -/
def Reg.SIG_MARK : Nat := 0x200018
/-- SIG_MARK.BUSY. -/
def Fld.SIG_MARK_BUSY : Fld := ⟨Reg.SIG_MARK, 31, 31⟩
/-- SIG_MARK.NODE. -/
def Fld.SIG_MARK_NODE : Fld := ⟨Reg.SIG_MARK, 29, 24⟩
/-- SIG_MARK.REMAIN. -/
def Fld.SIG_MARK_REMAIN : Fld := ⟨Reg.SIG_MARK, 17, 0⟩

/-- Register SIG_SUBST. -/
def Reg.SIG_SUBST (k : Nat) : Nat := 0x210000 + 0x4 * k
/-- SIG_SUBST.VALUE. -/
def Fld.SIG_SUBST_VALUE (k : Nat) : Fld := ⟨(Reg.SIG_SUBST k), 31, 0⟩

/-- Register SIG_AGE. -/
def Reg.SIG_AGE (k : Nat) : Nat := 0x220000 + 0x4 * k
/-- SIG_AGE.LIMIT. -/
def Fld.SIG_AGE_LIMIT (k : Nat) : Fld := ⟨(Reg.SIG_AGE k), 31, 0⟩

/-! ### Registers of 03_signal_engines.md -/

/-- Register ENG_STATUS. -/
def Reg.ENG_STATUS (e : Nat) : Nat := 0x400000 + 0x10000 * e
/-- ENG_STATUS.ACTIVE. -/
def Fld.ENG_STATUS_ACTIVE (e : Nat) : Fld := ⟨(Reg.ENG_STATUS e), 16, 16⟩
/-- ENG_STATUS.T3. -/
def Fld.ENG_STATUS_T3 (e : Nat) : Fld := ⟨(Reg.ENG_STATUS e), 15, 12⟩
/-- ENG_STATUS.T2. -/
def Fld.ENG_STATUS_T2 (e : Nat) : Fld := ⟨(Reg.ENG_STATUS e), 11, 8⟩
/-- ENG_STATUS.T1. -/
def Fld.ENG_STATUS_T1 (e : Nat) : Fld := ⟨(Reg.ENG_STATUS e), 7, 4⟩
/-- ENG_STATUS.T0. -/
def Fld.ENG_STATUS_T0 (e : Nat) : Fld := ⟨(Reg.ENG_STATUS e), 3, 0⟩

/-- Register ENG_DOORBELL. -/
def Reg.ENG_DOORBELL (e : Nat) : Nat := 0x400004 + 0x10000 * e
/-- ENG_DOORBELL.THREAD. -/
def Fld.ENG_DOORBELL_THREAD (e : Nat) : Fld := ⟨(Reg.ENG_DOORBELL e), 31, 30⟩
/-- ENG_DOORBELL.CODE. -/
def Fld.ENG_DOORBELL_CODE (e : Nat) : Fld := ⟨(Reg.ENG_DOORBELL e), 15, 0⟩

/-- Register ENG_EVENTS. -/
def Reg.ENG_EVENTS (e : Nat) : Nat := 0x400008 + 0x10000 * e
/-- ENG_EVENTS.COUNT. -/
def Fld.ENG_EVENTS_COUNT (e : Nat) : Fld := ⟨(Reg.ENG_EVENTS e), 31, 0⟩

/-- Register ENG_LOAD. -/
def Reg.ENG_LOAD (e : Nat) : Nat := 0x40000C + 0x10000 * e
/-- ENG_LOAD.ISSUE_PM. -/
def Fld.ENG_LOAD_ISSUE_PM (e : Nat) : Fld := ⟨(Reg.ENG_LOAD e), 9, 0⟩

/-- Register ENG_OVERRUN. -/
def Reg.ENG_OVERRUN (e : Nat) : Nat := 0x400010 + 0x10000 * e
/-- ENG_OVERRUN.THREAD. -/
def Fld.ENG_OVERRUN_THREAD (e : Nat) : Fld := ⟨(Reg.ENG_OVERRUN e), 31, 30⟩
/-- ENG_OVERRUN.BUDGET. -/
def Fld.ENG_OVERRUN_BUDGET (e : Nat) : Fld := ⟨(Reg.ENG_OVERRUN e), 29, 29⟩
/-- ENG_OVERRUN.COUNT. -/
def Fld.ENG_OVERRUN_COUNT (e : Nat) : Fld := ⟨(Reg.ENG_OVERRUN e), 23, 0⟩

/-- Register ENG_EVQ_DROP. -/
def Reg.ENG_EVQ_DROP (e : Nat) : Nat := 0x400014 + 0x10000 * e
/-- ENG_EVQ_DROP.THREAD. -/
def Fld.ENG_EVQ_DROP_THREAD (e : Nat) : Fld := ⟨(Reg.ENG_EVQ_DROP e), 31, 30⟩
/-- ENG_EVQ_DROP.KIND. -/
def Fld.ENG_EVQ_DROP_KIND (e : Nat) : Fld := ⟨(Reg.ENG_EVQ_DROP e), 29, 27⟩
/-- ENG_EVQ_DROP.COUNT. -/
def Fld.ENG_EVQ_DROP_COUNT (e : Nat) : Fld := ⟨(Reg.ENG_EVQ_DROP e), 23, 0⟩

/-- Register ENG_MERGED. -/
def Reg.ENG_MERGED (e : Nat) : Nat := 0x400018 + 0x10000 * e
/-- ENG_MERGED.COUNT. -/
def Fld.ENG_MERGED_COUNT (e : Nat) : Fld := ⟨(Reg.ENG_MERGED e), 31, 0⟩

/-- Register ENG_TRAP. -/
def Reg.ENG_TRAP (e : Nat) : Nat := 0x40001C + 0x10000 * e
/-- ENG_TRAP.THREAD. -/
def Fld.ENG_TRAP_THREAD (e : Nat) : Fld := ⟨(Reg.ENG_TRAP e), 31, 30⟩
/-- ENG_TRAP.CAUSE. -/
def Fld.ENG_TRAP_CAUSE (e : Nat) : Fld := ⟨(Reg.ENG_TRAP e), 29, 26⟩
/-- ENG_TRAP.ARG. -/
def Fld.ENG_TRAP_ARG (e : Nat) : Fld := ⟨(Reg.ENG_TRAP e), 21, 14⟩
/-- ENG_TRAP.PC. -/
def Fld.ENG_TRAP_PC (e : Nat) : Fld := ⟨(Reg.ENG_TRAP e), 13, 0⟩

/-- Register ENG_TRAP_CNT. -/
def Reg.ENG_TRAP_CNT (e : Nat) : Nat := 0x400020 + 0x10000 * e
/-- ENG_TRAP_CNT.COUNT. -/
def Fld.ENG_TRAP_CNT_COUNT (e : Nat) : Fld := ⟨(Reg.ENG_TRAP_CNT e), 31, 0⟩

/-- Register ENG_SHORT. -/
def Reg.ENG_SHORT (e : Nat) : Nat := 0x400024 + 0x10000 * e
/-- ENG_SHORT.COUNT. -/
def Fld.ENG_SHORT_COUNT (e : Nat) : Fld := ⟨(Reg.ENG_SHORT e), 31, 0⟩

/-- Register ENG_AUTHFAIL. -/
def Reg.ENG_AUTHFAIL (e : Nat) : Nat := 0x400028 + 0x10000 * e
/-- ENG_AUTHFAIL.ENTRY. -/
def Fld.ENG_AUTHFAIL_ENTRY (e : Nat) : Fld := ⟨(Reg.ENG_AUTHFAIL e), 31, 23⟩
/-- ENG_AUTHFAIL.REPLAY. -/
def Fld.ENG_AUTHFAIL_REPLAY (e : Nat) : Fld := ⟨(Reg.ENG_AUTHFAIL e), 22, 22⟩
/-- ENG_AUTHFAIL.COUNT. -/
def Fld.ENG_AUTHFAIL_COUNT (e : Nat) : Fld := ⟨(Reg.ENG_AUTHFAIL e), 21, 0⟩

/-- Register ENG_TXREF. -/
def Reg.ENG_TXREF (e : Nat) : Nat := 0x40002C + 0x10000 * e
/-- ENG_TXREF.CODE. -/
def Fld.ENG_TXREF_CODE (e : Nat) : Fld := ⟨(Reg.ENG_TXREF e), 31, 28⟩
/-- ENG_TXREF.COUNT. -/
def Fld.ENG_TXREF_COUNT (e : Nat) : Fld := ⟨(Reg.ENG_TXREF e), 23, 0⟩

/-- Register ENG_INTAKE. -/
def Reg.ENG_INTAKE (e : Nat) : Nat := 0x400030 + 0x10000 * e
/-- ENG_INTAKE.NOBIND. -/
def Fld.ENG_INTAKE_NOBIND (e : Nat) : Fld := ⟨(Reg.ENG_INTAKE e), 31, 16⟩
/-- ENG_INTAKE.LEN. -/
def Fld.ENG_INTAKE_LEN (e : Nat) : Fld := ⟨(Reg.ENG_INTAKE e), 15, 0⟩

/-- Register ENG_ECC. -/
def Reg.ENG_ECC (e : Nat) : Nat := 0x400034 + 0x10000 * e
/-- ENG_ECC.CORR. -/
def Fld.ENG_ECC_CORR (e : Nat) : Fld := ⟨(Reg.ENG_ECC e), 31, 16⟩
/-- ENG_ECC.UNCORR. -/
def Fld.ENG_ECC_UNCORR (e : Nat) : Fld := ⟨(Reg.ENG_ECC e), 15, 0⟩

/-- Register ENG_FRESH_SEL. -/
def Reg.ENG_FRESH_SEL (e : Nat) : Nat := 0x400040 + 0x10000 * e
/-- ENG_FRESH_SEL.ENTRY. -/
def Fld.ENG_FRESH_SEL_ENTRY (e : Nat) : Fld := ⟨(Reg.ENG_FRESH_SEL e), 8, 0⟩

/-- Register ENG_FRESH_LO. -/
def Reg.ENG_FRESH_LO (e : Nat) : Nat := 0x400044 + 0x10000 * e
/-- ENG_FRESH_LO.COUNTER_LO. -/
def Fld.ENG_FRESH_LO_COUNTER_LO (e : Nat) : Fld := ⟨(Reg.ENG_FRESH_LO e), 31, 0⟩

/-- Register ENG_FRESH_HI. -/
def Reg.ENG_FRESH_HI (e : Nat) : Nat := 0x400048 + 0x10000 * e
/-- ENG_FRESH_HI.COUNTER_HI. -/
def Fld.ENG_FRESH_HI_COUNTER_HI (e : Nat) : Fld := ⟨(Reg.ENG_FRESH_HI e), 31, 0⟩

/-- Register ENG_THR_CFG. -/
def Reg.ENG_THR_CFG (e : Nat) (t : Nat) : Nat := 0x400100 + 0x10000 * e + 0x8 * t
/-- ENG_THR_CFG.PRIO. -/
def Fld.ENG_THR_CFG_PRIO (e : Nat) (t : Nat) : Fld := ⟨(Reg.ENG_THR_CFG e t), 17, 16⟩
/-- ENG_THR_CFG.INSN_BUDGET. -/
def Fld.ENG_THR_CFG_INSN_BUDGET (e : Nat) (t : Nat) : Fld := ⟨(Reg.ENG_THR_CFG e t), 15, 0⟩

/-- Register ENG_THR_TIME. -/
def Reg.ENG_THR_TIME (e : Nat) (t : Nat) : Nat := 0x400104 + 0x10000 * e + 0x8 * t
/-- ENG_THR_TIME.SLICE. -/
def Fld.ENG_THR_TIME_SLICE (e : Nat) (t : Nat) : Fld := ⟨(Reg.ENG_THR_TIME e t), 28, 16⟩
/-- ENG_THR_TIME.TIME_BUDGET. -/
def Fld.ENG_THR_TIME_TIME_BUDGET (e : Nat) (t : Nat) : Fld := ⟨(Reg.ENG_THR_TIME e t), 13, 0⟩

/-- Register ENG_RATE. -/
def Reg.ENG_RATE (e : Nat) (k : Nat) : Nat := 0x401000 + 0x10000 * e + 0x4 * k
/-- ENG_RATE.INTERVAL. -/
def Fld.ENG_RATE_INTERVAL (e : Nat) (k : Nat) : Fld := ⟨(Reg.ENG_RATE e k), 31, 0⟩

/-- Register ENG_ADJ. -/
def Reg.ENG_ADJ (e : Nat) (k : Nat) : Nat := 0x402000 + 0x10000 * e + 0x4 * k
/-- ENG_ADJ.VALUE. -/
def Fld.ENG_ADJ_VALUE (e : Nat) (k : Nat) : Fld := ⟨(Reg.ENG_ADJ e k), 31, 0⟩

/-! ### Registers of 04_time_base.md -/

/-- Register TB_FRC_LO. -/
def Reg.TB_FRC_LO : Nat := 0xE00000
/-- TB_FRC_LO.FRC_LO. -/
def Fld.TB_FRC_LO_FRC_LO : Fld := ⟨Reg.TB_FRC_LO, 31, 0⟩

/-- Register TB_FRC_HI. -/
def Reg.TB_FRC_HI : Nat := 0xE00004
/-- TB_FRC_HI.FRC_HI. -/
def Fld.TB_FRC_HI_FRC_HI : Fld := ⟨Reg.TB_FRC_HI, 31, 0⟩

/-- Register TB_SNAP. -/
def Reg.TB_SNAP : Nat := 0xE00010
/-- TB_SNAP.TAKE. -/
def Fld.TB_SNAP_TAKE : Fld := ⟨Reg.TB_SNAP, 0, 0⟩

/-- Register TB_SNAP_FRC_LO. -/
def Reg.TB_SNAP_FRC_LO : Nat := 0xE00018
/-- TB_SNAP_FRC_LO.FRC. -/
def Fld.TB_SNAP_FRC_LO_FRC : Fld := ⟨Reg.TB_SNAP_FRC_LO, 31, 0⟩

/-- Register TB_SNAP_FRC_HI. -/
def Reg.TB_SNAP_FRC_HI : Nat := 0xE0001C
/-- TB_SNAP_FRC_HI.FRC. -/
def Fld.TB_SNAP_FRC_HI_FRC : Fld := ⟨Reg.TB_SNAP_FRC_HI, 31, 0⟩

/-- Register TB_SNAP_SEC_LO. -/
def Reg.TB_SNAP_SEC_LO (d : Nat) : Nat := 0xE00020 + 0x10 * d
/-- TB_SNAP_SEC_LO.SEC. -/
def Fld.TB_SNAP_SEC_LO_SEC (d : Nat) : Fld := ⟨(Reg.TB_SNAP_SEC_LO d), 31, 0⟩

/-- Register TB_SNAP_SEC_HI. -/
def Reg.TB_SNAP_SEC_HI (d : Nat) : Nat := 0xE00024 + 0x10 * d
/-- TB_SNAP_SEC_HI.SET. -/
def Fld.TB_SNAP_SEC_HI_SET (d : Nat) : Fld := ⟨(Reg.TB_SNAP_SEC_HI d), 31, 31⟩
/-- TB_SNAP_SEC_HI.SEC. -/
def Fld.TB_SNAP_SEC_HI_SEC (d : Nat) : Fld := ⟨(Reg.TB_SNAP_SEC_HI d), 15, 0⟩

/-- Register TB_SNAP_NS. -/
def Reg.TB_SNAP_NS (d : Nat) : Nat := 0xE00028 + 0x10 * d
/-- TB_SNAP_NS.NS. -/
def Fld.TB_SNAP_NS (d : Nat) : Fld := ⟨(Reg.TB_SNAP_NS d), 31, 0⟩

/-- Register TB_SNAP_FRAC. -/
def Reg.TB_SNAP_FRAC (d : Nat) : Nat := 0xE0002C + 0x10 * d
/-- TB_SNAP_FRAC.FRAC. -/
def Fld.TB_SNAP_FRAC (d : Nat) : Fld := ⟨(Reg.TB_SNAP_FRAC d), 15, 0⟩

/-- Register TB_TD_STATUS. -/
def Reg.TB_TD_STATUS (d : Nat) : Nat := 0xE00100 + 0x40 * d
/-- TB_TD_STATUS.LOCKED. -/
def Fld.TB_TD_STATUS_LOCKED (d : Nat) : Fld := ⟨(Reg.TB_TD_STATUS d), 31, 31⟩
/-- TB_TD_STATUS.SERVO. -/
def Fld.TB_TD_STATUS_SERVO (d : Nat) : Fld := ⟨(Reg.TB_TD_STATUS d), 30, 30⟩
/-- TB_TD_STATUS.DOMNUM. -/
def Fld.TB_TD_STATUS_DOMNUM (d : Nat) : Fld := ⟨(Reg.TB_TD_STATUS d), 22, 16⟩
/-- TB_TD_STATUS.CODE. -/
def Fld.TB_TD_STATUS_CODE (d : Nat) : Fld := ⟨(Reg.TB_TD_STATUS d), 15, 8⟩
/-- TB_TD_STATUS.MISSED. -/
def Fld.TB_TD_STATUS_MISSED (d : Nat) : Fld := ⟨(Reg.TB_TD_STATUS d), 7, 0⟩

/-- Register TB_TD_OFS_SEC_LO. -/
def Reg.TB_TD_OFS_SEC_LO (d : Nat) : Nat := 0xE00104 + 0x40 * d
/-- TB_TD_OFS_SEC_LO.OFS_SEC. -/
def Fld.TB_TD_OFS_SEC_LO_OFS_SEC (d : Nat) : Fld := ⟨(Reg.TB_TD_OFS_SEC_LO d), 31, 0⟩

/-- Register TB_TD_OFS_SEC_HI. -/
def Reg.TB_TD_OFS_SEC_HI (d : Nat) : Nat := 0xE00108 + 0x40 * d
/-- TB_TD_OFS_SEC_HI.OFS_SEC. -/
def Fld.TB_TD_OFS_SEC_HI_OFS_SEC (d : Nat) : Fld := ⟨(Reg.TB_TD_OFS_SEC_HI d), 15, 0⟩

/-- Register TB_TD_OFS_NS. -/
def Reg.TB_TD_OFS_NS (d : Nat) : Nat := 0xE0010C + 0x40 * d
/-- TB_TD_OFS_NS.OFS_NS. -/
def Fld.TB_TD_OFS_NS_OFS_NS (d : Nat) : Fld := ⟨(Reg.TB_TD_OFS_NS d), 31, 0⟩

/-- Register TB_TD_ANCHOR_LO. -/
def Reg.TB_TD_ANCHOR_LO (d : Nat) : Nat := 0xE00110 + 0x40 * d
/-- TB_TD_ANCHOR_LO.ANCHOR. -/
def Fld.TB_TD_ANCHOR_LO_ANCHOR (d : Nat) : Fld := ⟨(Reg.TB_TD_ANCHOR_LO d), 31, 0⟩

/-- Register TB_TD_ANCHOR_HI. -/
def Reg.TB_TD_ANCHOR_HI (d : Nat) : Nat := 0xE00114 + 0x40 * d
/-- TB_TD_ANCHOR_HI.ANCHOR. -/
def Fld.TB_TD_ANCHOR_HI_ANCHOR (d : Nat) : Fld := ⟨(Reg.TB_TD_ANCHOR_HI d), 31, 0⟩

/-- Register TB_TD_RATE_LO. -/
def Reg.TB_TD_RATE_LO (d : Nat) : Nat := 0xE00118 + 0x40 * d
/-- TB_TD_RATE_LO.RATE. -/
def Fld.TB_TD_RATE_LO_RATE (d : Nat) : Fld := ⟨(Reg.TB_TD_RATE_LO d), 31, 0⟩

/-- Register TB_TD_RATE_HI. -/
def Reg.TB_TD_RATE_HI (d : Nat) : Nat := 0xE0011C + 0x40 * d
/-- TB_TD_RATE_HI.RATE. -/
def Fld.TB_TD_RATE_HI_RATE (d : Nat) : Fld := ⟨(Reg.TB_TD_RATE_HI d), 7, 0⟩

/-- Register TB_TD_ADJ. -/
def Reg.TB_TD_ADJ (d : Nat) : Nat := 0xE00120 + 0x40 * d
/-- TB_TD_ADJ.ADJ. -/
def Fld.TB_TD_ADJ (d : Nat) : Fld := ⟨(Reg.TB_TD_ADJ d), 31, 0⟩

/-- Register TB_TD_CTRL. -/
def Reg.TB_TD_CTRL (d : Nat) : Nat := 0xE00124 + 0x40 * d
/-- TB_TD_CTRL.KEY. -/
def Fld.TB_TD_CTRL_KEY (d : Nat) : Fld := ⟨(Reg.TB_TD_CTRL d), 31, 24⟩
/-- TB_TD_CTRL.LOCK_CLR. -/
def Fld.TB_TD_CTRL_LOCK_CLR (d : Nat) : Fld := ⟨(Reg.TB_TD_CTRL d), 3, 3⟩
/-- TB_TD_CTRL.LOCK_SET. -/
def Fld.TB_TD_CTRL_LOCK_SET (d : Nat) : Fld := ⟨(Reg.TB_TD_CTRL d), 2, 2⟩
/-- TB_TD_CTRL.CMD. -/
def Fld.TB_TD_CTRL_CMD (d : Nat) : Fld := ⟨(Reg.TB_TD_CTRL d), 1, 0⟩

/-- Register TB_SYS_CTRL. -/
def Reg.TB_SYS_CTRL : Nat := 0xE00200
/-- TB_SYS_CTRL.KEY. -/
def Fld.TB_SYS_CTRL_KEY : Fld := ⟨Reg.TB_SYS_CTRL, 31, 24⟩
/-- TB_SYS_CTRL.SEL_WR. -/
def Fld.TB_SYS_CTRL_SEL_WR : Fld := ⟨Reg.TB_SYS_CTRL, 3, 3⟩
/-- TB_SYS_CTRL.RESTART. -/
def Fld.TB_SYS_CTRL_RESTART : Fld := ⟨Reg.TB_SYS_CTRL, 2, 2⟩
/-- TB_SYS_CTRL.SEL. -/
def Fld.TB_SYS_CTRL_SEL : Fld := ⟨Reg.TB_SYS_CTRL, 1, 0⟩

/-- Register TB_SYS_STATUS. -/
def Reg.TB_SYS_STATUS : Nat := 0xE00204
/-- TB_SYS_STATUS.SET. -/
def Fld.TB_SYS_STATUS_SET : Fld := ⟨Reg.TB_SYS_STATUS, 31, 31⟩
/-- TB_SYS_STATUS.SLEWING. -/
def Fld.TB_SYS_STATUS_SLEWING : Fld := ⟨Reg.TB_SYS_STATUS, 30, 30⟩
/-- TB_SYS_STATUS.SRC. -/
def Fld.TB_SYS_STATUS_SRC : Fld := ⟨Reg.TB_SYS_STATUS, 29, 28⟩
/-- TB_SYS_STATUS.PENDING. -/
def Fld.TB_SYS_STATUS_PENDING : Fld := ⟨Reg.TB_SYS_STATUS, 27, 27⟩
/-- TB_SYS_STATUS.CODE. -/
def Fld.TB_SYS_STATUS_CODE : Fld := ⟨Reg.TB_SYS_STATUS, 23, 16⟩
/-- TB_SYS_STATUS.STEPS. -/
def Fld.TB_SYS_STATUS_STEPS : Fld := ⟨Reg.TB_SYS_STATUS, 15, 0⟩

/-- Register TB_SYS_SLEW. -/
def Reg.TB_SYS_SLEW : Nat := 0xE00208
/-- TB_SYS_SLEW.SLEW. -/
def Fld.TB_SYS_SLEW : Fld := ⟨Reg.TB_SYS_SLEW, 9, 0⟩

/-- Register TB_SYS_RESID_LO. -/
def Reg.TB_SYS_RESID_LO : Nat := 0xE0020C
/-- TB_SYS_RESID_LO.RESID. -/
def Fld.TB_SYS_RESID_LO_RESID : Fld := ⟨Reg.TB_SYS_RESID_LO, 31, 0⟩

/-- Register TB_SYS_RESID_HI. -/
def Reg.TB_SYS_RESID_HI : Nat := 0xE00210
/-- TB_SYS_RESID_HI.RESID. -/
def Fld.TB_SYS_RESID_HI_RESID : Fld := ⟨Reg.TB_SYS_RESID_HI, 7, 0⟩

/-- Register TB_TSQ_W0. -/
def Reg.TB_TSQ_W0 (p : Nat) : Nat := 0xE00400 + 0x20 * p
/-- TB_TSQ_W0.W0. -/
def Fld.TB_TSQ_W0 (p : Nat) : Fld := ⟨(Reg.TB_TSQ_W0 p), 31, 0⟩

/-- Register TB_TSQ_W1. -/
def Reg.TB_TSQ_W1 (p : Nat) : Nat := 0xE00404 + 0x20 * p
/-- TB_TSQ_W1.W1. -/
def Fld.TB_TSQ_W1 (p : Nat) : Fld := ⟨(Reg.TB_TSQ_W1 p), 31, 0⟩

/-- Register TB_TSQ_W2. -/
def Reg.TB_TSQ_W2 (p : Nat) : Nat := 0xE00408 + 0x20 * p
/-- TB_TSQ_W2.W2. -/
def Fld.TB_TSQ_W2 (p : Nat) : Fld := ⟨(Reg.TB_TSQ_W2 p), 31, 0⟩

/-- Register TB_TSQ_W3. -/
def Reg.TB_TSQ_W3 (p : Nat) : Nat := 0xE0040C + 0x20 * p
/-- TB_TSQ_W3.W3. -/
def Fld.TB_TSQ_W3 (p : Nat) : Fld := ⟨(Reg.TB_TSQ_W3 p), 31, 0⟩

/-- Register TB_TSQ_STATUS. -/
def Reg.TB_TSQ_STATUS (p : Nat) : Nat := 0xE00410 + 0x20 * p
/-- TB_TSQ_STATUS.CONSUMER. -/
def Fld.TB_TSQ_STATUS_CONSUMER (p : Nat) : Fld := ⟨(Reg.TB_TSQ_STATUS p), 31, 31⟩
/-- TB_TSQ_STATUS.FILL. -/
def Fld.TB_TSQ_STATUS_FILL (p : Nat) : Fld := ⟨(Reg.TB_TSQ_STATUS p), 5, 0⟩

/-- Register TB_TSQ_OVF. -/
def Reg.TB_TSQ_OVF (p : Nat) : Nat := 0xE00414 + 0x20 * p
/-- TB_TSQ_OVF.COUNT. -/
def Fld.TB_TSQ_OVF_COUNT (p : Nat) : Fld := ⟨(Reg.TB_TSQ_OVF p), 31, 0⟩

/-- Register TB_PPS_CTRL. -/
def Reg.TB_PPS_CTRL (k : Nat) : Nat := 0xE00600 + 0x20 * k
/-- TB_PPS_CTRL.EN. -/
def Fld.TB_PPS_CTRL_EN (k : Nat) : Fld := ⟨(Reg.TB_PPS_CTRL k), 31, 31⟩
/-- TB_PPS_CTRL.SRC. -/
def Fld.TB_PPS_CTRL_SRC (k : Nat) : Fld := ⟨(Reg.TB_PPS_CTRL k), 2, 1⟩
/-- TB_PPS_CTRL.POL. -/
def Fld.TB_PPS_CTRL_POL (k : Nat) : Fld := ⟨(Reg.TB_PPS_CTRL k), 0, 0⟩

/-- Register TB_PPS_PERIOD. -/
def Reg.TB_PPS_PERIOD (k : Nat) : Nat := 0xE00604 + 0x20 * k
/-- TB_PPS_PERIOD.PERIOD. -/
def Fld.TB_PPS_PERIOD (k : Nat) : Fld := ⟨(Reg.TB_PPS_PERIOD k), 31, 0⟩

/-- Register TB_PPS_PHASE. -/
def Reg.TB_PPS_PHASE (k : Nat) : Nat := 0xE00608 + 0x20 * k
/-- TB_PPS_PHASE.PHASE. -/
def Fld.TB_PPS_PHASE (k : Nat) : Fld := ⟨(Reg.TB_PPS_PHASE k), 31, 0⟩

/-- Register TB_PPS_WIDTH. -/
def Reg.TB_PPS_WIDTH (k : Nat) : Nat := 0xE0060C + 0x20 * k
/-- TB_PPS_WIDTH.WIDTH. -/
def Fld.TB_PPS_WIDTH (k : Nat) : Fld := ⟨(Reg.TB_PPS_WIDTH k), 31, 0⟩

/-- Register TB_PPS_SKIP. -/
def Reg.TB_PPS_SKIP (k : Nat) : Nat := 0xE00610 + 0x20 * k
/-- TB_PPS_SKIP.COUNT. -/
def Fld.TB_PPS_SKIP_COUNT (k : Nat) : Fld := ⟨(Reg.TB_PPS_SKIP k), 31, 0⟩

/-- Register TB_CAP_W0. -/
def Reg.TB_CAP_W0 (i : Nat) : Nat := 0xE00700 + 0x20 * i
/-- TB_CAP_W0.W0. -/
def Fld.TB_CAP_W0 (i : Nat) : Fld := ⟨(Reg.TB_CAP_W0 i), 31, 0⟩

/-- Register TB_CAP_W1. -/
def Reg.TB_CAP_W1 (i : Nat) : Nat := 0xE00704 + 0x20 * i
/-- TB_CAP_W1.W1. -/
def Fld.TB_CAP_W1 (i : Nat) : Fld := ⟨(Reg.TB_CAP_W1 i), 31, 0⟩

/-- Register TB_CAP_W2. -/
def Reg.TB_CAP_W2 (i : Nat) : Nat := 0xE00708 + 0x20 * i
/-- TB_CAP_W2.W2. -/
def Fld.TB_CAP_W2 (i : Nat) : Fld := ⟨(Reg.TB_CAP_W2 i), 31, 0⟩

/-- Register TB_CAP_W3. -/
def Reg.TB_CAP_W3 (i : Nat) : Nat := 0xE0070C + 0x20 * i
/-- TB_CAP_W3.W3. -/
def Fld.TB_CAP_W3 (i : Nat) : Fld := ⟨(Reg.TB_CAP_W3 i), 31, 0⟩

/-- Register TB_CAP_STATUS. -/
def Reg.TB_CAP_STATUS (i : Nat) : Nat := 0xE00710 + 0x20 * i
/-- TB_CAP_STATUS.FILL. -/
def Fld.TB_CAP_STATUS_FILL (i : Nat) : Fld := ⟨(Reg.TB_CAP_STATUS i), 3, 0⟩

/-- Register TB_CAP_OVF. -/
def Reg.TB_CAP_OVF (i : Nat) : Nat := 0xE00714 + 0x20 * i
/-- TB_CAP_OVF.COUNT. -/
def Fld.TB_CAP_OVF_COUNT (i : Nat) : Fld := ⟨(Reg.TB_CAP_OVF i), 31, 0⟩

/-- Register TB_CAL_SEC_LO. -/
def Reg.TB_CAL_SEC_LO : Nat := 0xE00800
/-- TB_CAL_SEC_LO.SEC. -/
def Fld.TB_CAL_SEC_LO_SEC : Fld := ⟨Reg.TB_CAL_SEC_LO, 31, 0⟩

/-- Register TB_CAL_SEC_HI. -/
def Reg.TB_CAL_SEC_HI : Nat := 0xE00804
/-- TB_CAL_SEC_HI.SEC. -/
def Fld.TB_CAL_SEC_HI_SEC : Fld := ⟨Reg.TB_CAL_SEC_HI, 7, 0⟩

/-- Register TB_CAL_SUB. -/
def Reg.TB_CAL_SUB : Nat := 0xE00808
/-- TB_CAL_SUB.SUB. -/
def Fld.TB_CAL_SUB : Fld := ⟨Reg.TB_CAL_SUB, 14, 0⟩

/-- Register TB_CAL_SET_LO. -/
def Reg.TB_CAL_SET_LO : Nat := 0xE0080C
/-- TB_CAL_SET_LO.SET. -/
def Fld.TB_CAL_SET_LO_SET : Fld := ⟨Reg.TB_CAL_SET_LO, 31, 0⟩

/-- Register TB_CAL_SET_HI. -/
def Reg.TB_CAL_SET_HI : Nat := 0xE00810
/-- TB_CAL_SET_HI.SET. -/
def Fld.TB_CAL_SET_HI_SET : Fld := ⟨Reg.TB_CAL_SET_HI, 7, 0⟩

/-- Register TB_CAL_SET_SUB. -/
def Reg.TB_CAL_SET_SUB : Nat := 0xE00814
/-- TB_CAL_SET_SUB.SET. -/
def Fld.TB_CAL_SET_SUB_SET : Fld := ⟨Reg.TB_CAL_SET_SUB, 14, 0⟩

/-- Register TB_CAL_CTRL. -/
def Reg.TB_CAL_CTRL : Nat := 0xE00818
/-- TB_CAL_CTRL.KEY. -/
def Fld.TB_CAL_CTRL_KEY : Fld := ⟨Reg.TB_CAL_CTRL, 31, 24⟩
/-- TB_CAL_CTRL.TAMP_CLR. -/
def Fld.TB_CAL_CTRL_TAMP_CLR : Fld := ⟨Reg.TB_CAL_CTRL, 1, 1⟩
/-- TB_CAL_CTRL.WRITE. -/
def Fld.TB_CAL_CTRL_WRITE : Fld := ⟨Reg.TB_CAL_CTRL, 0, 0⟩

/-- Register TB_CAL_CALIB. -/
def Reg.TB_CAL_CALIB : Nat := 0xE0081C
/-- TB_CAL_CALIB.CALIB. -/
def Fld.TB_CAL_CALIB : Fld := ⟨Reg.TB_CAL_CALIB, 9, 0⟩

/-- Register TB_CAL_ALARM_LO. -/
def Reg.TB_CAL_ALARM_LO : Nat := 0xE00820
/-- TB_CAL_ALARM_LO.ALARM. -/
def Fld.TB_CAL_ALARM_LO_ALARM : Fld := ⟨Reg.TB_CAL_ALARM_LO, 31, 0⟩

/-- Register TB_CAL_ALARM_HI. -/
def Reg.TB_CAL_ALARM_HI : Nat := 0xE00824
/-- TB_CAL_ALARM_HI.ALARM_EN. -/
def Fld.TB_CAL_ALARM_HI_ALARM_EN : Fld := ⟨Reg.TB_CAL_ALARM_HI, 8, 8⟩
/-- TB_CAL_ALARM_HI.ALARM. -/
def Fld.TB_CAL_ALARM_HI_ALARM : Fld := ⟨Reg.TB_CAL_ALARM_HI, 7, 0⟩

/-- Register TB_CAL_STATUS. -/
def Reg.TB_CAL_STATUS : Nat := 0xE00828
/-- TB_CAL_STATUS.WBUSY. -/
def Fld.TB_CAL_STATUS_WBUSY : Fld := ⟨Reg.TB_CAL_STATUS, 31, 31⟩
/-- TB_CAL_STATUS.ALARM. -/
def Fld.TB_CAL_STATUS_ALARM : Fld := ⟨Reg.TB_CAL_STATUS, 30, 30⟩
/-- TB_CAL_STATUS.OSC_STOP. -/
def Fld.TB_CAL_STATUS_OSC_STOP : Fld := ⟨Reg.TB_CAL_STATUS, 29, 29⟩
/-- TB_CAL_STATUS.BKUP_LOST. -/
def Fld.TB_CAL_STATUS_BKUP_LOST : Fld := ⟨Reg.TB_CAL_STATUS, 28, 28⟩
/-- TB_CAL_STATUS.SETCNT. -/
def Fld.TB_CAL_STATUS_SETCNT : Fld := ⟨Reg.TB_CAL_STATUS, 15, 0⟩

/-- Register TB_CAL_TAMP_FIRST_LO. -/
def Reg.TB_CAL_TAMP_FIRST_LO : Nat := 0xE00830
/-- TB_CAL_TAMP_FIRST_LO.TAMP_FIRST. -/
def Fld.TB_CAL_TAMP_FIRST_LO_TAMP_FIRST : Fld := ⟨Reg.TB_CAL_TAMP_FIRST_LO, 31, 0⟩

/-- Register TB_CAL_TAMP_FIRST_HI. -/
def Reg.TB_CAL_TAMP_FIRST_HI : Nat := 0xE00834
/-- TB_CAL_TAMP_FIRST_HI.TAMP_FIRST. -/
def Fld.TB_CAL_TAMP_FIRST_HI_TAMP_FIRST : Fld := ⟨Reg.TB_CAL_TAMP_FIRST_HI, 7, 0⟩

/-- Register TB_CAL_TAMP_FIRST_SUB. -/
def Reg.TB_CAL_TAMP_FIRST_SUB : Nat := 0xE00838
/-- TB_CAL_TAMP_FIRST_SUB.TAMP_FIRST. -/
def Fld.TB_CAL_TAMP_FIRST_SUB_TAMP_FIRST : Fld := ⟨Reg.TB_CAL_TAMP_FIRST_SUB, 14, 0⟩

/-- Register TB_CAL_TAMP_LAST_LO. -/
def Reg.TB_CAL_TAMP_LAST_LO : Nat := 0xE00840
/-- TB_CAL_TAMP_LAST_LO.TAMP_LAST. -/
def Fld.TB_CAL_TAMP_LAST_LO_TAMP_LAST : Fld := ⟨Reg.TB_CAL_TAMP_LAST_LO, 31, 0⟩

/-- Register TB_CAL_TAMP_LAST_HI. -/
def Reg.TB_CAL_TAMP_LAST_HI : Nat := 0xE00844
/-- TB_CAL_TAMP_LAST_HI.TAMP_LAST. -/
def Fld.TB_CAL_TAMP_LAST_HI_TAMP_LAST : Fld := ⟨Reg.TB_CAL_TAMP_LAST_HI, 7, 0⟩

/-- Register TB_CAL_TAMP_LAST_SUB. -/
def Reg.TB_CAL_TAMP_LAST_SUB : Nat := 0xE00848
/-- TB_CAL_TAMP_LAST_SUB.TAMP_LAST. -/
def Fld.TB_CAL_TAMP_LAST_SUB_TAMP_LAST : Fld := ⟨Reg.TB_CAL_TAMP_LAST_SUB, 14, 0⟩

/-- Register TB_CAL_TAMP_INFO. -/
def Reg.TB_CAL_TAMP_INFO : Nat := 0xE00850
/-- TB_CAL_TAMP_INFO.CNT. -/
def Fld.TB_CAL_TAMP_INFO_CNT : Fld := ⟨Reg.TB_CAL_TAMP_INFO, 31, 16⟩
/-- TB_CAL_TAMP_INFO.CAUSE. -/
def Fld.TB_CAL_TAMP_INFO_CAUSE : Fld := ⟨Reg.TB_CAL_TAMP_INFO, 7, 0⟩

/-! ### Registers of 05_phase_scheduler.md -/

/-- Register PH_DOM_STATUS. -/
def Reg.PH_DOM_STATUS (d : Nat) : Nat := 0xE80000 + 0x40 * d
/-- PH_DOM_STATUS.ACTIVE. -/
def Fld.PH_DOM_STATUS_ACTIVE (d : Nat) : Fld := ⟨(Reg.PH_DOM_STATUS d), 31, 31⟩
/-- PH_DOM_STATUS.STALLED. -/
def Fld.PH_DOM_STATUS_STALLED (d : Nat) : Fld := ⟨(Reg.PH_DOM_STATUS d), 30, 30⟩
/-- PH_DOM_STATUS.FROZEN. -/
def Fld.PH_DOM_STATUS_FROZEN (d : Nat) : Fld := ⟨(Reg.PH_DOM_STATUS d), 29, 29⟩
/-- PH_DOM_STATUS.DIR. -/
def Fld.PH_DOM_STATUS_DIR (d : Nat) : Fld := ⟨(Reg.PH_DOM_STATUS d), 28, 28⟩
/-- PH_DOM_STATUS.SOURCE. -/
def Fld.PH_DOM_STATUS_SOURCE (d : Nat) : Fld := ⟨(Reg.PH_DOM_STATUS d), 27, 26⟩

/-- Register PH_DOM_PHASE_LO. -/
def Reg.PH_DOM_PHASE_LO (d : Nat) : Nat := 0xE80004 + 0x40 * d
/-- PH_DOM_PHASE_LO.PHASE. -/
def Fld.PH_DOM_PHASE_LO_PHASE (d : Nat) : Fld := ⟨(Reg.PH_DOM_PHASE_LO d), 31, 0⟩

/-- Register PH_DOM_PHASE_HI. -/
def Reg.PH_DOM_PHASE_HI (d : Nat) : Nat := 0xE80008 + 0x40 * d
/-- PH_DOM_PHASE_HI.PHASE. -/
def Fld.PH_DOM_PHASE_HI_PHASE (d : Nat) : Fld := ⟨(Reg.PH_DOM_PHASE_HI d), 7, 0⟩

/-- Register PH_DOM_VEL. -/
def Reg.PH_DOM_VEL (d : Nat) : Nat := 0xE8000C + 0x40 * d
/-- PH_DOM_VEL.VEL. -/
def Fld.PH_DOM_VEL (d : Nat) : Fld := ⟨(Reg.PH_DOM_VEL d), 31, 0⟩

/-- Register PH_DOM_EDGE_LO. -/
def Reg.PH_DOM_EDGE_LO (d : Nat) : Nat := 0xE80010 + 0x40 * d
/-- PH_DOM_EDGE_LO.EDGE. -/
def Fld.PH_DOM_EDGE_LO_EDGE (d : Nat) : Fld := ⟨(Reg.PH_DOM_EDGE_LO d), 31, 0⟩

/-- Register PH_DOM_EDGE_HI. -/
def Reg.PH_DOM_EDGE_HI (d : Nat) : Nat := 0xE80014 + 0x40 * d
/-- PH_DOM_EDGE_HI.EDGE. -/
def Fld.PH_DOM_EDGE_HI_EDGE (d : Nat) : Fld := ⟨(Reg.PH_DOM_EDGE_HI d), 7, 0⟩

/-- Register PH_DOM_ETS_LO. -/
def Reg.PH_DOM_ETS_LO (d : Nat) : Nat := 0xE80018 + 0x40 * d
/-- PH_DOM_ETS_LO.ETS. -/
def Fld.PH_DOM_ETS_LO_ETS (d : Nat) : Fld := ⟨(Reg.PH_DOM_ETS_LO d), 31, 0⟩

/-- Register PH_DOM_ETS_HI. -/
def Reg.PH_DOM_ETS_HI (d : Nat) : Nat := 0xE8001C + 0x40 * d
/-- PH_DOM_ETS_HI.ETS. -/
def Fld.PH_DOM_ETS_HI_ETS (d : Nat) : Fld := ⟨(Reg.PH_DOM_ETS_HI d), 31, 0⟩

/-- Register PH_DOM_VMIN. -/
def Reg.PH_DOM_VMIN (d : Nat) : Nat := 0xE80020 + 0x40 * d
/-- PH_DOM_VMIN.VMIN. -/
def Fld.PH_DOM_VMIN (d : Nat) : Fld := ⟨(Reg.PH_DOM_VMIN d), 30, 0⟩

/-- Register PH_DOM_ERRCNT. -/
def Reg.PH_DOM_ERRCNT (d : Nat) : Nat := 0xE80024 + 0x40 * d
/-- PH_DOM_ERRCNT.ZERR. -/
def Fld.PH_DOM_ERRCNT_ZERR (d : Nat) : Fld := ⟨(Reg.PH_DOM_ERRCNT d), 31, 16⟩
/-- PH_DOM_ERRCNT.ILLEGAL. -/
def Fld.PH_DOM_ERRCNT_ILLEGAL (d : Nat) : Fld := ⟨(Reg.PH_DOM_ERRCNT d), 15, 0⟩

/-- Register PH_DOM_PRESET_LO. -/
def Reg.PH_DOM_PRESET_LO (d : Nat) : Nat := 0xE80028 + 0x40 * d
/-- PH_DOM_PRESET_LO.PRESET. -/
def Fld.PH_DOM_PRESET_LO_PRESET (d : Nat) : Fld := ⟨(Reg.PH_DOM_PRESET_LO d), 31, 0⟩

/-- Register PH_DOM_PRESET_HI. -/
def Reg.PH_DOM_PRESET_HI (d : Nat) : Nat := 0xE8002C + 0x40 * d
/-- PH_DOM_PRESET_HI.PRESET. -/
def Fld.PH_DOM_PRESET_HI_PRESET (d : Nat) : Fld := ⟨(Reg.PH_DOM_PRESET_HI d), 7, 0⟩

/-- Register PH_DOM_CTRL. -/
def Reg.PH_DOM_CTRL (d : Nat) : Nat := 0xE80030 + 0x40 * d
/-- PH_DOM_CTRL.KEY. -/
def Fld.PH_DOM_CTRL_KEY (d : Nat) : Fld := ⟨(Reg.PH_DOM_CTRL d), 31, 24⟩
/-- PH_DOM_CTRL.PRESET. -/
def Fld.PH_DOM_CTRL_PRESET (d : Nat) : Fld := ⟨(Reg.PH_DOM_CTRL d), 0, 0⟩

/-- Register PH_LATE. -/
def Reg.PH_LATE : Nat := 0xE80100
/-- PH_LATE.SLOT. -/
def Fld.PH_LATE_SLOT : Fld := ⟨Reg.PH_LATE, 31, 22⟩
/-- PH_LATE.COUNT. -/
def Fld.PH_LATE_COUNT : Fld := ⟨Reg.PH_LATE, 21, 0⟩

/-- Register PH_MISSED. -/
def Reg.PH_MISSED : Nat := 0xE80104
/-- PH_MISSED.SLOT. -/
def Fld.PH_MISSED_SLOT : Fld := ⟨Reg.PH_MISSED, 31, 22⟩
/-- PH_MISSED.COUNT. -/
def Fld.PH_MISSED_COUNT : Fld := ⟨Reg.PH_MISSED, 21, 0⟩

/-- Register PH_SUPPR. -/
def Reg.PH_SUPPR : Nat := 0xE80108
/-- PH_SUPPR.SLOT. -/
def Fld.PH_SUPPR_SLOT : Fld := ⟨Reg.PH_SUPPR, 31, 22⟩
/-- PH_SUPPR.COUNT. -/
def Fld.PH_SUPPR_COUNT : Fld := ⟨Reg.PH_SUPPR, 21, 0⟩

/-- Register PH_ACT_P_LO. -/
def Reg.PH_ACT_P_LO (a : Nat) : Nat := 0xE88000 + 0x20 * a
/-- PH_ACT_P_LO.P. -/
def Fld.PH_ACT_P_LO_P (a : Nat) : Fld := ⟨(Reg.PH_ACT_P_LO a), 31, 0⟩

/-- Register PH_ACT_P_HI. -/
def Reg.PH_ACT_P_HI (a : Nat) : Nat := 0xE88004 + 0x20 * a
/-- PH_ACT_P_HI.P. -/
def Fld.PH_ACT_P_HI_P (a : Nat) : Fld := ⟨(Reg.PH_ACT_P_HI a), 7, 0⟩

/-- Register PH_ACT_PER_LO. -/
def Reg.PH_ACT_PER_LO (a : Nat) : Nat := 0xE88008 + 0x20 * a
/-- PH_ACT_PER_LO.PERIOD. -/
def Fld.PH_ACT_PER_LO_PERIOD (a : Nat) : Fld := ⟨(Reg.PH_ACT_PER_LO a), 31, 0⟩

/-- Register PH_ACT_PER_HI. -/
def Reg.PH_ACT_PER_HI (a : Nat) : Nat := 0xE8800C + 0x20 * a
/-- PH_ACT_PER_HI.PERIOD. -/
def Fld.PH_ACT_PER_HI_PERIOD (a : Nat) : Fld := ⟨(Reg.PH_ACT_PER_HI a), 7, 0⟩

/-- Register PH_ACT_CTRL. -/
def Reg.PH_ACT_CTRL (a : Nat) : Nat := 0xE88010 + 0x20 * a
/-- PH_ACT_CTRL.EN. -/
def Fld.PH_ACT_CTRL_EN (a : Nat) : Fld := ⟨(Reg.PH_ACT_CTRL a), 31, 31⟩
/-- PH_ACT_CTRL.WIDTH. -/
def Fld.PH_ACT_CTRL_WIDTH (a : Nat) : Fld := ⟨(Reg.PH_ACT_CTRL a), 19, 0⟩

/-- Register PH_ACT_SHAPE. -/
def Reg.PH_ACT_SHAPE (a : Nat) : Nat := 0xE88014 + 0x20 * a
/-- PH_ACT_SHAPE.DOMAIN. -/
def Fld.PH_ACT_SHAPE_DOMAIN (a : Nat) : Fld := ⟨(Reg.PH_ACT_SHAPE a), 31, 30⟩
/-- PH_ACT_SHAPE.DIR. -/
def Fld.PH_ACT_SHAPE_DIR (a : Nat) : Fld := ⟨(Reg.PH_ACT_SHAPE a), 29, 28⟩
/-- PH_ACT_SHAPE.KIND. -/
def Fld.PH_ACT_SHAPE_KIND (a : Nat) : Fld := ⟨(Reg.PH_ACT_SHAPE a), 27, 24⟩
/-- PH_ACT_SHAPE.TARGET. -/
def Fld.PH_ACT_SHAPE_TARGET (a : Nat) : Fld := ⟨(Reg.PH_ACT_SHAPE a), 15, 0⟩

/-- Register PH_ACT_STATUS. -/
def Reg.PH_ACT_STATUS (a : Nat) : Nat := 0xE88018 + 0x20 * a
/-- PH_ACT_STATUS.ARMED. -/
def Fld.PH_ACT_STATUS_ARMED (a : Nat) : Fld := ⟨(Reg.PH_ACT_STATUS a), 31, 31⟩
/-- PH_ACT_STATUS.FIRED. -/
def Fld.PH_ACT_STATUS_FIRED (a : Nat) : Fld := ⟨(Reg.PH_ACT_STATUS a), 15, 0⟩

/-- Register DIO_IN. -/
def Reg.DIO_IN : Nat := 0xEC0000
/-- DIO_IN.IN. -/
def Fld.DIO_IN : Fld := ⟨Reg.DIO_IN, 31, 0⟩

/-- Register DIO_OUT. -/
def Reg.DIO_OUT : Nat := 0xEC0004
/-- DIO_OUT.OUT. -/
def Fld.DIO_OUT : Fld := ⟨Reg.DIO_OUT, 31, 0⟩

/-- Register DIO_OUT_SET. -/
def Reg.DIO_OUT_SET : Nat := 0xEC0008
/-- DIO_OUT_SET.OUT. -/
def Fld.DIO_OUT_SET_OUT : Fld := ⟨Reg.DIO_OUT_SET, 31, 0⟩

/-- Register DIO_OUT_CLR. -/
def Reg.DIO_OUT_CLR : Nat := 0xEC000C
/-- DIO_OUT_CLR.OUT. -/
def Fld.DIO_OUT_CLR_OUT : Fld := ⟨Reg.DIO_OUT_CLR, 31, 0⟩

/-- Register DIO_WAKE_SRC. -/
def Reg.DIO_WAKE_SRC : Nat := 0xEC0010
/-- DIO_WAKE_SRC.SRC. -/
def Fld.DIO_WAKE_SRC : Fld := ⟨Reg.DIO_WAKE_SRC, 7, 0⟩

/-- Register DIO_FORCE_EN. -/
def Reg.DIO_FORCE_EN : Nat := 0xEC0014
/-- DIO_FORCE_EN.EN. -/
def Fld.DIO_FORCE_EN : Fld := ⟨Reg.DIO_FORCE_EN, 31, 0⟩

/-- Register DIO_FORCE_VAL. -/
def Reg.DIO_FORCE_VAL : Nat := 0xEC0018
/-- DIO_FORCE_VAL.VAL. -/
def Fld.DIO_FORCE_VAL : Fld := ⟨Reg.DIO_FORCE_VAL, 31, 0⟩

/-! ### Registers of 06_can_controllers.md -/

/-- Register CAN_STATUS. -/
def Reg.CAN_STATUS (n : Nat) : Nat := 0x800000 + 0x1000 * n
/-- CAN_STATUS.STATE. -/
def Fld.CAN_STATUS_STATE (n : Nat) : Fld := ⟨(Reg.CAN_STATUS n), 31, 30⟩
/-- CAN_STATUS.ERRSTATE. -/
def Fld.CAN_STATUS_ERRSTATE (n : Nat) : Fld := ⟨(Reg.CAN_STATUS n), 29, 28⟩
/-- CAN_STATUS.HELD. -/
def Fld.CAN_STATUS_HELD (n : Nat) : Fld := ⟨(Reg.CAN_STATUS n), 27, 27⟩
/-- CAN_STATUS.LEC. -/
def Fld.CAN_STATUS_LEC (n : Nat) : Fld := ⟨(Reg.CAN_STATUS n), 26, 24⟩
/-- CAN_STATUS.TIMING. -/
def Fld.CAN_STATUS_TIMING (n : Nat) : Fld := ⟨(Reg.CAN_STATUS n), 23, 22⟩
/-- CAN_STATUS.CODE. -/
def Fld.CAN_STATUS_CODE (n : Nat) : Fld := ⟨(Reg.CAN_STATUS n), 15, 8⟩

/-- Register CAN_CTRL. -/
def Reg.CAN_CTRL (n : Nat) : Nat := 0x800004 + 0x1000 * n
/-- CAN_CTRL.KEY. -/
def Fld.CAN_CTRL_KEY (n : Nat) : Fld := ⟨(Reg.CAN_CTRL n), 31, 24⟩
/-- CAN_CTRL.TIMING_SEL. -/
def Fld.CAN_CTRL_TIMING_SEL (n : Nat) : Fld := ⟨(Reg.CAN_CTRL n), 5, 4⟩
/-- CAN_CTRL.LISTEN. -/
def Fld.CAN_CTRL_LISTEN (n : Nat) : Fld := ⟨(Reg.CAN_CTRL n), 0, 0⟩

/-- Register CAN_ERRCNT. -/
def Reg.CAN_ERRCNT (n : Nat) : Nat := 0x800008 + 0x1000 * n
/-- CAN_ERRCNT.TEC. -/
def Fld.CAN_ERRCNT_TEC (n : Nat) : Fld := ⟨(Reg.CAN_ERRCNT n), 24, 16⟩
/-- CAN_ERRCNT.REC. -/
def Fld.CAN_ERRCNT_REC (n : Nat) : Fld := ⟨(Reg.CAN_ERRCNT n), 7, 0⟩

/-- Register CAN_BUSOFF. -/
def Reg.CAN_BUSOFF (n : Nat) : Nat := 0x80000C + 0x1000 * n
/-- CAN_BUSOFF.COUNT. -/
def Fld.CAN_BUSOFF_COUNT (n : Nat) : Fld := ⟨(Reg.CAN_BUSOFF n), 31, 16⟩
/-- CAN_BUSOFF.RECOV. -/
def Fld.CAN_BUSOFF_RECOV (n : Nat) : Fld := ⟨(Reg.CAN_BUSOFF n), 7, 0⟩

/-- Register CAN_RXCNT. -/
def Reg.CAN_RXCNT (n : Nat) : Nat := 0x800010 + 0x1000 * n
/-- CAN_RXCNT.COUNT. -/
def Fld.CAN_RXCNT_COUNT (n : Nat) : Fld := ⟨(Reg.CAN_RXCNT n), 31, 0⟩

/-- Register CAN_RXDROP. -/
def Reg.CAN_RXDROP (n : Nat) : Nat := 0x800014 + 0x1000 * n
/-- CAN_RXDROP.SEQ. -/
def Fld.CAN_RXDROP_SEQ (n : Nat) : Fld := ⟨(Reg.CAN_RXDROP n), 31, 16⟩
/-- CAN_RXDROP.COUNT. -/
def Fld.CAN_RXDROP_COUNT (n : Nat) : Fld := ⟨(Reg.CAN_RXDROP n), 15, 0⟩

/-- Register CAN_RXRING. -/
def Reg.CAN_RXRING (n : Nat) : Nat := 0x800018 + 0x1000 * n
/-- CAN_RXRING.PEAK. -/
def Fld.CAN_RXRING_PEAK (n : Nat) : Fld := ⟨(Reg.CAN_RXRING n), 31, 16⟩
/-- CAN_RXRING.FILL. -/
def Fld.CAN_RXRING_FILL (n : Nat) : Fld := ⟨(Reg.CAN_RXRING n), 15, 0⟩

/-- Register CAN_TXCNT. -/
def Reg.CAN_TXCNT (n : Nat) : Nat := 0x80001C + 0x1000 * n
/-- CAN_TXCNT.COUNT. -/
def Fld.CAN_TXCNT_COUNT (n : Nat) : Fld := ⟨(Reg.CAN_TXCNT n), 31, 0⟩

/-- Register CAN_TXREPL. -/
def Reg.CAN_TXREPL (n : Nat) : Nat := 0x800020 + 0x1000 * n
/-- CAN_TXREPL.COUNT. -/
def Fld.CAN_TXREPL_COUNT (n : Nat) : Fld := ⟨(Reg.CAN_TXREPL n), 31, 0⟩

/-- Register CAN_TXHELD. -/
def Reg.CAN_TXHELD (n : Nat) : Nat := 0x800024 + 0x1000 * n
/-- CAN_TXHELD.COUNT. -/
def Fld.CAN_TXHELD_COUNT (n : Nat) : Fld := ⟨(Reg.CAN_TXHELD n), 31, 0⟩

/-- Register CAN_ERRDET. -/
def Reg.CAN_ERRDET (n : Nat) : Nat := 0x800028 + 0x1000 * n
/-- CAN_ERRDET.BIT. -/
def Fld.CAN_ERRDET_BIT (n : Nat) : Fld := ⟨(Reg.CAN_ERRDET n), 31, 24⟩
/-- CAN_ERRDET.STUFF. -/
def Fld.CAN_ERRDET_STUFF (n : Nat) : Fld := ⟨(Reg.CAN_ERRDET n), 23, 16⟩
/-- CAN_ERRDET.CRC. -/
def Fld.CAN_ERRDET_CRC (n : Nat) : Fld := ⟨(Reg.CAN_ERRDET n), 15, 8⟩
/-- CAN_ERRDET.FORM_ACK. -/
def Fld.CAN_ERRDET_FORM_ACK (n : Nat) : Fld := ⟨(Reg.CAN_ERRDET n), 7, 0⟩

/-- Register CAN_LOMERR. -/
def Reg.CAN_LOMERR (n : Nat) : Nat := 0x80002C + 0x1000 * n
/-- CAN_LOMERR.COUNT. -/
def Fld.CAN_LOMERR_COUNT (n : Nat) : Fld := ⟨(Reg.CAN_LOMERR n), 31, 0⟩

/-- Register CAN_NBT. -/
def Reg.CAN_NBT (n : Nat) : Nat := 0x800040 + 0x1000 * n
/-- CAN_NBT.NBT. -/
def Fld.CAN_NBT (n : Nat) : Fld := ⟨(Reg.CAN_NBT n), 31, 0⟩

/-- Register CAN_DBT. -/
def Reg.CAN_DBT (n : Nat) : Nat := 0x800044 + 0x1000 * n
/-- CAN_DBT.DBT. -/
def Fld.CAN_DBT (n : Nat) : Fld := ⟨(Reg.CAN_DBT n), 31, 0⟩

/-- Register CAN_XBT. -/
def Reg.CAN_XBT (n : Nat) : Nat := 0x800048 + 0x1000 * n
/-- CAN_XBT.XBT. -/
def Fld.CAN_XBT (n : Nat) : Fld := ⟨(Reg.CAN_XBT n), 31, 0⟩

/-- Register CAN_PWM. -/
def Reg.CAN_PWM (n : Nat) : Nat := 0x80004C + 0x1000 * n
/-- CAN_PWM.PWM. -/
def Fld.CAN_PWM (n : Nat) : Fld := ⟨(Reg.CAN_PWM n), 31, 0⟩

/-- Register CAN_CYCLE. -/
def Reg.CAN_CYCLE (n : Nat) : Nat := 0x800050 + 0x1000 * n
/-- CAN_CYCLE.REF_TIMEOUT. -/
def Fld.CAN_CYCLE_REF_TIMEOUT (n : Nat) : Fld := ⟨(Reg.CAN_CYCLE n), 31, 16⟩
/-- CAN_CYCLE.CYCLE_US. -/
def Fld.CAN_CYCLE_CYCLE_US (n : Nat) : Fld := ⟨(Reg.CAN_CYCLE n), 15, 0⟩

/-- Register CAN_SCHED. -/
def Reg.CAN_SCHED (n : Nat) : Nat := 0x800054 + 0x1000 * n
/-- CAN_SCHED.CYCLE. -/
def Fld.CAN_SCHED_CYCLE (n : Nat) : Fld := ⟨(Reg.CAN_SCHED n), 31, 26⟩
/-- CAN_SCHED.WINDOW. -/
def Fld.CAN_SCHED_WINDOW (n : Nat) : Fld := ⟨(Reg.CAN_SCHED n), 25, 20⟩
/-- CAN_SCHED.RUNNING. -/
def Fld.CAN_SCHED_RUNNING (n : Nat) : Fld := ⟨(Reg.CAN_SCHED n), 19, 19⟩
/-- CAN_SCHED.REFLOST. -/
def Fld.CAN_SCHED_REFLOST (n : Nat) : Fld := ⟨(Reg.CAN_SCHED n), 18, 18⟩

/-- Register CAN_SCHED_CNT. -/
def Reg.CAN_SCHED_CNT (n : Nat) : Nat := 0x800058 + 0x1000 * n
/-- CAN_SCHED_CNT.MISS. -/
def Fld.CAN_SCHED_CNT_MISS (n : Nat) : Fld := ⟨(Reg.CAN_SCHED_CNT n), 31, 16⟩
/-- CAN_SCHED_CNT.SKIP. -/
def Fld.CAN_SCHED_CNT_SKIP (n : Nat) : Fld := ⟨(Reg.CAN_SCHED_CNT n), 15, 0⟩

/-- Register CAN_WIN_SEL. -/
def Reg.CAN_WIN_SEL (n : Nat) : Nat := 0x80005C + 0x1000 * n
/-- CAN_WIN_SEL.CODE. -/
def Fld.CAN_WIN_SEL_CODE (n : Nat) : Fld := ⟨(Reg.CAN_WIN_SEL n), 23, 16⟩
/-- CAN_WIN_SEL.CYCLE. -/
def Fld.CAN_WIN_SEL_CYCLE (n : Nat) : Fld := ⟨(Reg.CAN_WIN_SEL n), 11, 6⟩
/-- CAN_WIN_SEL.WINDOW. -/
def Fld.CAN_WIN_SEL_WINDOW (n : Nat) : Fld := ⟨(Reg.CAN_WIN_SEL n), 4, 0⟩

/-- Register CAN_WIN_DATA. -/
def Reg.CAN_WIN_DATA (n : Nat) : Nat := 0x800060 + 0x1000 * n
/-- CAN_WIN_DATA.START. -/
def Fld.CAN_WIN_DATA_START (n : Nat) : Fld := ⟨(Reg.CAN_WIN_DATA n), 31, 16⟩
/-- CAN_WIN_DATA.LEN. -/
def Fld.CAN_WIN_DATA_LEN (n : Nat) : Fld := ⟨(Reg.CAN_WIN_DATA n), 15, 0⟩

/-- Register CAN_WIN_SHAPE. -/
def Reg.CAN_WIN_SHAPE (n : Nat) : Nat := 0x800064 + 0x1000 * n
/-- CAN_WIN_SHAPE.KIND. -/
def Fld.CAN_WIN_SHAPE_KIND (n : Nat) : Fld := ⟨(Reg.CAN_WIN_SHAPE n), 31, 30⟩
/-- CAN_WIN_SHAPE.FIRST. -/
def Fld.CAN_WIN_SHAPE_FIRST (n : Nat) : Fld := ⟨(Reg.CAN_WIN_SHAPE n), 29, 24⟩
/-- CAN_WIN_SHAPE.COUNTM1. -/
def Fld.CAN_WIN_SHAPE_COUNTM1 (n : Nat) : Fld := ⟨(Reg.CAN_WIN_SHAPE n), 23, 18⟩

/-- Register CAN_WAKE_ID. -/
def Reg.CAN_WAKE_ID (n : Nat) : Nat := 0x800070 + 0x1000 * n
/-- CAN_WAKE_ID.EN. -/
def Fld.CAN_WAKE_ID_EN (n : Nat) : Fld := ⟨(Reg.CAN_WAKE_ID n), 31, 31⟩
/-- CAN_WAKE_ID.IDE. -/
def Fld.CAN_WAKE_ID_IDE (n : Nat) : Fld := ⟨(Reg.CAN_WAKE_ID n), 30, 30⟩
/-- CAN_WAKE_ID.ID. -/
def Fld.CAN_WAKE_ID_ID (n : Nat) : Fld := ⟨(Reg.CAN_WAKE_ID n), 28, 0⟩

/-- Register CAN_WAKE_MASK. -/
def Reg.CAN_WAKE_MASK (n : Nat) : Nat := 0x800074 + 0x1000 * n
/-- CAN_WAKE_MASK.MASK. -/
def Fld.CAN_WAKE_MASK (n : Nat) : Fld := ⟨(Reg.CAN_WAKE_MASK n), 28, 0⟩

/-- Register CAN_WAKE_DATA. -/
def Reg.CAN_WAKE_DATA (n : Nat) : Nat := 0x800078 + 0x1000 * n
/-- CAN_WAKE_DATA.VALUE. -/
def Fld.CAN_WAKE_DATA_VALUE (n : Nat) : Fld := ⟨(Reg.CAN_WAKE_DATA n), 15, 8⟩
/-- CAN_WAKE_DATA.MASK. -/
def Fld.CAN_WAKE_DATA_MASK (n : Nat) : Fld := ⟨(Reg.CAN_WAKE_DATA n), 7, 0⟩

/-- Register CAN_WAKE_STAT. -/
def Reg.CAN_WAKE_STAT (n : Nat) : Nat := 0x80007C + 0x1000 * n
/-- CAN_WAKE_STAT.WOKE. -/
def Fld.CAN_WAKE_STAT_WOKE (n : Nat) : Fld := ⟨(Reg.CAN_WAKE_STAT n), 31, 31⟩
/-- CAN_WAKE_STAT.IDE. -/
def Fld.CAN_WAKE_STAT_IDE (n : Nat) : Fld := ⟨(Reg.CAN_WAKE_STAT n), 30, 30⟩
/-- CAN_WAKE_STAT.ID. -/
def Fld.CAN_WAKE_STAT_ID (n : Nat) : Fld := ⟨(Reg.CAN_WAKE_STAT n), 28, 0⟩

/-- Register CAN_INJ_HDR. -/
def Reg.CAN_INJ_HDR (n : Nat) (k : Nat) : Nat := 0x800080 + 0x1000 * n + 0x4 * k
/-- CAN_INJ_HDR.HDR. -/
def Fld.CAN_INJ_HDR (n : Nat) (k : Nat) : Fld := ⟨(Reg.CAN_INJ_HDR n k), 31, 0⟩

/-- Register CAN_INJ_CTRL. -/
def Reg.CAN_INJ_CTRL (n : Nat) : Nat := 0x800098 + 0x1000 * n
/-- CAN_INJ_CTRL.CODE. -/
def Fld.CAN_INJ_CTRL_CODE (n : Nat) : Fld := ⟨(Reg.CAN_INJ_CTRL n), 15, 8⟩
/-- CAN_INJ_CTRL.GO. -/
def Fld.CAN_INJ_CTRL_GO (n : Nat) : Fld := ⟨(Reg.CAN_INJ_CTRL n), 0, 0⟩

/-- Register CAN_INJ_DATA. -/
def Reg.CAN_INJ_DATA (n : Nat) (k : Nat) : Nat := 0x800800 + 0x1000 * n + 0x4 * k
/-- CAN_INJ_DATA.DATA. -/
def Fld.CAN_INJ_DATA (n : Nat) (k : Nat) : Fld := ⟨(Reg.CAN_INJ_DATA n k), 31, 0⟩

/-- Register CAN_TXB_STAT. -/
def Reg.CAN_TXB_STAT (n : Nat) (b : Nat) : Nat := 0x800400 + 0x1000 * n + 0x8 * b
/-- CAN_TXB_STAT.STATE. -/
def Fld.CAN_TXB_STAT_STATE (n : Nat) (b : Nat) : Fld := ⟨(Reg.CAN_TXB_STAT n b), 31, 30⟩
/-- CAN_TXB_STAT.OWNER. -/
def Fld.CAN_TXB_STAT_OWNER (n : Nat) (b : Nat) : Fld := ⟨(Reg.CAN_TXB_STAT n b), 29, 26⟩
/-- CAN_TXB_STAT.SCHED. -/
def Fld.CAN_TXB_STAT_SCHED (n : Nat) (b : Nat) : Fld := ⟨(Reg.CAN_TXB_STAT n b), 25, 25⟩
/-- CAN_TXB_STAT.HOLD. -/
def Fld.CAN_TXB_STAT_HOLD (n : Nat) (b : Nat) : Fld := ⟨(Reg.CAN_TXB_STAT n b), 24, 24⟩
/-- CAN_TXB_STAT.LENGTH. -/
def Fld.CAN_TXB_STAT_LENGTH (n : Nat) (b : Nat) : Fld := ⟨(Reg.CAN_TXB_STAT n b), 23, 12⟩
/-- CAN_TXB_STAT.SENT. -/
def Fld.CAN_TXB_STAT_SENT (n : Nat) (b : Nat) : Fld := ⟨(Reg.CAN_TXB_STAT n b), 11, 0⟩

/-- Register CAN_TXB_TS. -/
def Reg.CAN_TXB_TS (n : Nat) (b : Nat) : Nat := 0x800404 + 0x1000 * n + 0x8 * b
/-- CAN_TXB_TS.TS. -/
def Fld.CAN_TXB_TS (n : Nat) (b : Nat) : Fld := ⟨(Reg.CAN_TXB_TS n b), 31, 0⟩

/-! ### Registers of 07_ethernet_switch.md -/

/-- Register ETH_STATUS. -/
def Reg.ETH_STATUS (p : Nat) : Nat := 0xA00000 + 0x1000 * p
/-- ETH_STATUS.LINK. -/
def Fld.ETH_STATUS_LINK (p : Nat) : Fld := ⟨(Reg.ETH_STATUS p), 31, 31⟩
/-- ETH_STATUS.LINGER. -/
def Fld.ETH_STATUS_LINGER (p : Nat) : Fld := ⟨(Reg.ETH_STATUS p), 30, 30⟩
/-- ETH_STATUS.HELD. -/
def Fld.ETH_STATUS_HELD (p : Nat) : Fld := ⟨(Reg.ETH_STATUS p), 29, 29⟩
/-- ETH_STATUS.SPEED. -/
def Fld.ETH_STATUS_SPEED (p : Nat) : Fld := ⟨(Reg.ETH_STATUS p), 28, 26⟩
/-- ETH_STATUS.MODE. -/
def Fld.ETH_STATUS_MODE (p : Nat) : Fld := ⟨(Reg.ETH_STATUS p), 25, 23⟩
/-- ETH_STATUS.CODE. -/
def Fld.ETH_STATUS_CODE (p : Nat) : Fld := ⟨(Reg.ETH_STATUS p), 15, 8⟩

/-- Register ETH_CFG. -/
def Reg.ETH_CFG (p : Nat) : Nat := 0xA00004 + 0x1000 * p
/-- ETH_CFG.MAXFRAME. -/
def Fld.ETH_CFG_MAXFRAME (p : Nat) : Fld := ⟨(Reg.ETH_CFG p), 31, 18⟩
/-- ETH_CFG.LINGER. -/
def Fld.ETH_CFG_LINGER (p : Nat) : Fld := ⟨(Reg.ETH_CFG p), 9, 0⟩

/-- Register ETH_AGE. -/
def Reg.ETH_AGE (p : Nat) : Nat := 0xA00008 + 0x1000 * p
/-- ETH_AGE.MAX_AGE. -/
def Fld.ETH_AGE_MAX_AGE (p : Nat) : Fld := ⟨(Reg.ETH_AGE p), 9, 0⟩

/-- Register ETH_QFILL. -/
def Reg.ETH_QFILL (p : Nat) (c : Nat) : Nat := 0xA00040 + 0x1000 * p + 0x4 * c
/-- ETH_QFILL.PEAK. -/
def Fld.ETH_QFILL_PEAK (p : Nat) (c : Nat) : Fld := ⟨(Reg.ETH_QFILL p c), 31, 16⟩
/-- ETH_QFILL.FILL. -/
def Fld.ETH_QFILL_FILL (p : Nat) (c : Nat) : Fld := ⟨(Reg.ETH_QFILL p c), 15, 0⟩

/-- Register ETH_USE. -/
def Reg.ETH_USE (p : Nat) : Nat := 0xA00060 + 0x1000 * p
/-- ETH_USE.PEAK. -/
def Fld.ETH_USE_PEAK (p : Nat) : Fld := ⟨(Reg.ETH_USE p), 31, 16⟩
/-- ETH_USE.USE. -/
def Fld.ETH_USE_USE (p : Nat) : Fld := ⟨(Reg.ETH_USE p), 15, 0⟩

/-- Register ETH_BUDGET. -/
def Reg.ETH_BUDGET (p : Nat) : Nat := 0xA00064 + 0x1000 * p
/-- ETH_BUDGET.HR. -/
def Fld.ETH_BUDGET_HR (p : Nat) : Fld := ⟨(Reg.ETH_BUDGET p), 31, 16⟩
/-- ETH_BUDGET.B. -/
def Fld.ETH_BUDGET_B (p : Nat) : Fld := ⟨(Reg.ETH_BUDGET p), 15, 0⟩

/-- Register ETH_RX_FRAMES. -/
def Reg.ETH_RX_FRAMES (p : Nat) : Nat := 0xA00100 + 0x1000 * p
/-- ETH_RX_FRAMES.COUNT. -/
def Fld.ETH_RX_FRAMES_COUNT (p : Nat) : Fld := ⟨(Reg.ETH_RX_FRAMES p), 31, 0⟩

/-- Register ETH_RX_OCT_LO. -/
def Reg.ETH_RX_OCT_LO (p : Nat) : Nat := 0xA00104 + 0x1000 * p
/-- ETH_RX_OCT_LO.OCTETS. -/
def Fld.ETH_RX_OCT_LO_OCTETS (p : Nat) : Fld := ⟨(Reg.ETH_RX_OCT_LO p), 31, 0⟩

/-- Register ETH_RX_OCT_HI. -/
def Reg.ETH_RX_OCT_HI (p : Nat) : Nat := 0xA00108 + 0x1000 * p
/-- ETH_RX_OCT_HI.OCTETS. -/
def Fld.ETH_RX_OCT_HI_OCTETS (p : Nat) : Fld := ⟨(Reg.ETH_RX_OCT_HI p), 7, 0⟩

/-- Register ETH_TX_FRAMES. -/
def Reg.ETH_TX_FRAMES (p : Nat) : Nat := 0xA0010C + 0x1000 * p
/-- ETH_TX_FRAMES.COUNT. -/
def Fld.ETH_TX_FRAMES_COUNT (p : Nat) : Fld := ⟨(Reg.ETH_TX_FRAMES p), 31, 0⟩

/-- Register ETH_TX_OCT_LO. -/
def Reg.ETH_TX_OCT_LO (p : Nat) : Nat := 0xA00110 + 0x1000 * p
/-- ETH_TX_OCT_LO.OCTETS. -/
def Fld.ETH_TX_OCT_LO_OCTETS (p : Nat) : Fld := ⟨(Reg.ETH_TX_OCT_LO p), 31, 0⟩

/-- Register ETH_TX_OCT_HI. -/
def Reg.ETH_TX_OCT_HI (p : Nat) : Nat := 0xA00114 + 0x1000 * p
/-- ETH_TX_OCT_HI.OCTETS. -/
def Fld.ETH_TX_OCT_HI_OCTETS (p : Nat) : Fld := ⟨(Reg.ETH_TX_OCT_HI p), 7, 0⟩

/-- Register ETH_RUNT. -/
def Reg.ETH_RUNT (p : Nat) : Nat := 0xA00118 + 0x1000 * p
/-- ETH_RUNT.COUNT. -/
def Fld.ETH_RUNT_COUNT (p : Nat) : Fld := ⟨(Reg.ETH_RUNT p), 31, 0⟩

/-- Register ETH_OVERSIZE. -/
def Reg.ETH_OVERSIZE (p : Nat) : Nat := 0xA0011C + 0x1000 * p
/-- ETH_OVERSIZE.EGRESS. -/
def Fld.ETH_OVERSIZE_EGRESS (p : Nat) : Fld := ⟨(Reg.ETH_OVERSIZE p), 31, 16⟩
/-- ETH_OVERSIZE.INGRESS. -/
def Fld.ETH_OVERSIZE_INGRESS (p : Nat) : Fld := ⟨(Reg.ETH_OVERSIZE p), 15, 0⟩

/-- Register ETH_FCS. -/
def Reg.ETH_FCS (p : Nat) : Nat := 0xA00120 + 0x1000 * p
/-- ETH_FCS.COUNT. -/
def Fld.ETH_FCS_COUNT (p : Nat) : Fld := ⟨(Reg.ETH_FCS p), 31, 0⟩

/-- Register ETH_MACCTRL. -/
def Reg.ETH_MACCTRL (p : Nat) : Nat := 0xA00124 + 0x1000 * p
/-- ETH_MACCTRL.COUNT. -/
def Fld.ETH_MACCTRL_COUNT (p : Nat) : Fld := ⟨(Reg.ETH_MACCTRL p), 31, 0⟩

/-- Register ETH_VLANDROP. -/
def Reg.ETH_VLANDROP (p : Nat) : Nat := 0xA00128 + 0x1000 * p
/-- ETH_VLANDROP.COUNT. -/
def Fld.ETH_VLANDROP_COUNT (p : Nat) : Fld := ⟨(Reg.ETH_VLANDROP p), 31, 0⟩

/-- Register ETH_CUT. -/
def Reg.ETH_CUT (p : Nat) : Nat := 0xA0012C + 0x1000 * p
/-- ETH_CUT.COUNT. -/
def Fld.ETH_CUT_COUNT (p : Nat) : Fld := ⟨(Reg.ETH_CUT p), 31, 0⟩

/-- Register ETH_STOMP. -/
def Reg.ETH_STOMP (p : Nat) : Nat := 0xA00130 + 0x1000 * p
/-- ETH_STOMP.COUNT. -/
def Fld.ETH_STOMP_COUNT (p : Nat) : Fld := ⟨(Reg.ETH_STOMP p), 31, 0⟩

/-- Register ETH_FLUSH. -/
def Reg.ETH_FLUSH (p : Nat) : Nat := 0xA00134 + 0x1000 * p
/-- ETH_FLUSH.COUNT. -/
def Fld.ETH_FLUSH_COUNT (p : Nat) : Fld := ⟨(Reg.ETH_FLUSH p), 31, 0⟩

/-- Register ETH_AGED. -/
def Reg.ETH_AGED (p : Nat) : Nat := 0xA00138 + 0x1000 * p
/-- ETH_AGED.COUNT. -/
def Fld.ETH_AGED_COUNT (p : Nat) : Fld := ⟨(Reg.ETH_AGED p), 31, 0⟩

/-- Register ETH_LINKDOWN. -/
def Reg.ETH_LINKDOWN (p : Nat) : Nat := 0xA0013C + 0x1000 * p
/-- ETH_LINKDOWN.EVENTS. -/
def Fld.ETH_LINKDOWN_EVENTS (p : Nat) : Fld := ⟨(Reg.ETH_LINKDOWN p), 31, 16⟩
/-- ETH_LINKDOWN.DROPS. -/
def Fld.ETH_LINKDOWN_DROPS (p : Nat) : Fld := ⟨(Reg.ETH_LINKDOWN p), 15, 0⟩

/-- Register ETH_DROP. -/
def Reg.ETH_DROP (p : Nat) (c : Nat) : Nat := 0xA00180 + 0x1000 * p + 0x4 * c
/-- ETH_DROP.COUNT. -/
def Fld.ETH_DROP_COUNT (p : Nat) (c : Nat) : Fld := ⟨(Reg.ETH_DROP p c), 31, 0⟩

/-- Register ETH_EVICT. -/
def Reg.ETH_EVICT (p : Nat) (c : Nat) : Nat := 0xA001A0 + 0x1000 * p + 0x4 * c
/-- ETH_EVICT.COUNT. -/
def Fld.ETH_EVICT_COUNT (p : Nat) (c : Nat) : Fld := ⟨(Reg.ETH_EVICT p c), 31, 0⟩

/-- Register SW_FREE. -/
def Reg.SW_FREE : Nat := 0xB00000
/-- SW_FREE.MIN. -/
def Fld.SW_FREE_MIN : Fld := ⟨Reg.SW_FREE, 31, 16⟩
/-- SW_FREE.FREE. -/
def Fld.SW_FREE_FREE : Fld := ⟨Reg.SW_FREE, 15, 0⟩

/-- Register SW_HEADROOM. -/
def Reg.SW_HEADROOM : Nat := 0xB00004
/-- SW_HEADROOM.TOTAL. -/
def Fld.SW_HEADROOM_TOTAL : Fld := ⟨Reg.SW_HEADROOM, 15, 0⟩

/-- Register SW_PLANE. -/
def Reg.SW_PLANE (k : Nat) : Nat := 0xB00010 + 0x4 * k
/-- SW_PLANE.FRAMES. -/
def Fld.SW_PLANE_FRAMES (k : Nat) : Fld := ⟨(Reg.SW_PLANE k), 31, 0⟩

/-- Register SW_FDB. -/
def Reg.SW_FDB : Nat := 0xB00020
/-- SW_FDB.DYN. -/
def Fld.SW_FDB_DYN : Fld := ⟨Reg.SW_FDB, 31, 16⟩
/-- SW_FDB.OVF. -/
def Fld.SW_FDB_OVF : Fld := ⟨Reg.SW_FDB, 15, 0⟩

/-- Register SW_AGING. -/
def Reg.SW_AGING : Nat := 0xB00024
/-- SW_AGING.AGING. -/
def Fld.SW_AGING : Fld := ⟨Reg.SW_AGING, 11, 0⟩

/-- Register SW_WAKE_EN. -/
def Reg.SW_WAKE_EN : Nat := 0xB00030
/-- SW_WAKE_EN.EN. -/
def Fld.SW_WAKE_EN : Fld := ⟨Reg.SW_WAKE_EN, 15, 0⟩

/-- Register SW_WAKE_SRC. -/
def Reg.SW_WAKE_SRC : Nat := 0xB00034
/-- SW_WAKE_SRC.WOKE. -/
def Fld.SW_WAKE_SRC_WOKE : Fld := ⟨Reg.SW_WAKE_SRC, 31, 31⟩
/-- SW_WAKE_SRC.PATTERN. -/
def Fld.SW_WAKE_SRC_PATTERN : Fld := ⟨Reg.SW_WAKE_SRC, 11, 8⟩
/-- SW_WAKE_SRC.PORT. -/
def Fld.SW_WAKE_SRC_PORT : Fld := ⟨Reg.SW_WAKE_SRC, 3, 0⟩

/-- Register SW_MDIO_CMD. -/
def Reg.SW_MDIO_CMD (m : Nat) : Nat := 0xB00040 + 0x8 * m
/-- SW_MDIO_CMD.BUSY. -/
def Fld.SW_MDIO_CMD_BUSY (m : Nat) : Fld := ⟨(Reg.SW_MDIO_CMD m), 31, 31⟩
/-- SW_MDIO_CMD.CL45. -/
def Fld.SW_MDIO_CMD_CL45 (m : Nat) : Fld := ⟨(Reg.SW_MDIO_CMD m), 30, 30⟩
/-- SW_MDIO_CMD.OP. -/
def Fld.SW_MDIO_CMD_OP (m : Nat) : Fld := ⟨(Reg.SW_MDIO_CMD m), 29, 28⟩
/-- SW_MDIO_CMD.MDC. -/
def Fld.SW_MDIO_CMD_MDC (m : Nat) : Fld := ⟨(Reg.SW_MDIO_CMD m), 27, 26⟩
/-- SW_MDIO_CMD.PRTAD. -/
def Fld.SW_MDIO_CMD_PRTAD (m : Nat) : Fld := ⟨(Reg.SW_MDIO_CMD m), 25, 21⟩
/-- SW_MDIO_CMD.DEVAD. -/
def Fld.SW_MDIO_CMD_DEVAD (m : Nat) : Fld := ⟨(Reg.SW_MDIO_CMD m), 20, 16⟩
/-- SW_MDIO_CMD.CODE. -/
def Fld.SW_MDIO_CMD_CODE (m : Nat) : Fld := ⟨(Reg.SW_MDIO_CMD m), 15, 8⟩
/-- SW_MDIO_CMD.COLL. -/
def Fld.SW_MDIO_CMD_COLL (m : Nat) : Fld := ⟨(Reg.SW_MDIO_CMD m), 7, 7⟩

/-- Register SW_MDIO_DATA. -/
def Reg.SW_MDIO_DATA (m : Nat) : Nat := 0xB00044 + 0x8 * m
/-- SW_MDIO_DATA.DATA. -/
def Fld.SW_MDIO_DATA (m : Nat) : Fld := ⟨(Reg.SW_MDIO_DATA m), 15, 0⟩

/-! ### Registers of 08_ring_fabric.md -/

/-- Register RING_STATUS. -/
def Reg.RING_STATUS : Nat := 0xC00000
/-- RING_STATUS.A_LINK. -/
def Fld.RING_STATUS_A_LINK : Fld := ⟨Reg.RING_STATUS, 31, 31⟩
/-- RING_STATUS.B_LINK. -/
def Fld.RING_STATUS_B_LINK : Fld := ⟨Reg.RING_STATUS, 30, 30⟩
/-- RING_STATUS.OPEN. -/
def Fld.RING_STATUS_OPEN : Fld := ⟨Reg.RING_STATUS, 29, 29⟩
/-- RING_STATUS.BREAK_LO. -/
def Fld.RING_STATUS_BREAK_LO : Fld := ⟨Reg.RING_STATUS, 23, 18⟩
/-- RING_STATUS.BREAK_HI. -/
def Fld.RING_STATUS_BREAK_HI : Fld := ⟨Reg.RING_STATUS, 17, 12⟩
/-- RING_STATUS.K. -/
def Fld.RING_STATUS_K : Fld := ⟨Reg.RING_STATUS, 11, 6⟩
/-- RING_STATUS.MEMBERS. -/
def Fld.RING_STATUS_MEMBERS : Fld := ⟨Reg.RING_STATUS, 5, 0⟩

/-- Register RING_CYCLE. -/
def Reg.RING_CYCLE : Nat := 0xC00004
/-- RING_CYCLE.CYCLE. -/
def Fld.RING_CYCLE : Fld := ⟨Reg.RING_CYCLE, 31, 0⟩

/-- Register RING_CAPS. -/
def Reg.RING_CAPS : Nat := 0xC00008
/-- RING_CAPS.VERSIONS. -/
def Fld.RING_CAPS_VERSIONS : Fld := ⟨Reg.RING_CAPS, 3, 0⟩

/-- Register RING_JOIN. -/
def Reg.RING_JOIN : Nat := 0xC0000C
/-- RING_JOIN.NODE. -/
def Fld.RING_JOIN_NODE : Fld := ⟨Reg.RING_JOIN, 31, 26⟩
/-- RING_JOIN.CODE. -/
def Fld.RING_JOIN_CODE : Fld := ⟨Reg.RING_JOIN, 23, 16⟩
/-- RING_JOIN.QUEUE. -/
def Fld.RING_JOIN_QUEUE : Fld := ⟨Reg.RING_JOIN, 15, 12⟩
/-- RING_JOIN.REFUSED. -/
def Fld.RING_JOIN_REFUSED : Fld := ⟨Reg.RING_JOIN, 11, 0⟩

/-- Register RING_NOTMEMBER. -/
def Reg.RING_NOTMEMBER : Nat := 0xC00010
/-- RING_NOTMEMBER.COUNT. -/
def Fld.RING_NOTMEMBER_COUNT : Fld := ⟨Reg.RING_NOTMEMBER, 31, 0⟩

/-- Register RING_MALFORMED. -/
def Reg.RING_MALFORMED : Nat := 0xC00014
/-- RING_MALFORMED.COUNT. -/
def Fld.RING_MALFORMED_COUNT : Fld := ⟨Reg.RING_MALFORMED, 31, 0⟩

/-- Register RING_LANEA. -/
def Reg.RING_LANEA : Nat := 0xC00018
/-- RING_LANEA.LINKDN. -/
def Fld.RING_LANEA_LINKDN : Fld := ⟨Reg.RING_LANEA, 31, 24⟩
/-- RING_LANEA.OVF. -/
def Fld.RING_LANEA_OVF : Fld := ⟨Reg.RING_LANEA, 23, 16⟩
/-- RING_LANEA.FCS. -/
def Fld.RING_LANEA_FCS : Fld := ⟨Reg.RING_LANEA, 15, 0⟩

/-- Register RING_LANEB. -/
def Reg.RING_LANEB : Nat := 0xC0001C
/-- RING_LANEB.LINKDN. -/
def Fld.RING_LANEB_LINKDN : Fld := ⟨Reg.RING_LANEB, 31, 24⟩
/-- RING_LANEB.OVF. -/
def Fld.RING_LANEB_OVF : Fld := ⟨Reg.RING_LANEB, 23, 16⟩
/-- RING_LANEB.FCS. -/
def Fld.RING_LANEB_FCS : Fld := ⟨Reg.RING_LANEB, 15, 0⟩

/-- Register RING_TUNNEL. -/
def Reg.RING_TUNNEL : Nat := 0xC00020
/-- RING_TUNNEL.NOMAP. -/
def Fld.RING_TUNNEL_NOMAP : Fld := ⟨Reg.RING_TUNNEL, 31, 16⟩
/-- RING_TUNNEL.DROP. -/
def Fld.RING_TUNNEL_DROP : Fld := ⟨Reg.RING_TUNNEL, 15, 0⟩

/-- Register RING_EXPORT. -/
def Reg.RING_EXPORT : Nat := 0xC00024
/-- RING_EXPORT.EXPORT_US. -/
def Fld.RING_EXPORT_EXPORT_US : Fld := ⟨Reg.RING_EXPORT, 9, 0⟩

/-- Register RING_QUAR_CLR. -/
def Reg.RING_QUAR_CLR : Nat := 0xC00028
/-- RING_QUAR_CLR.KEY. -/
def Fld.RING_QUAR_CLR_KEY : Fld := ⟨Reg.RING_QUAR_CLR, 31, 24⟩
/-- RING_QUAR_CLR.NODE. -/
def Fld.RING_QUAR_CLR_NODE : Fld := ⟨Reg.RING_QUAR_CLR, 5, 0⟩

/-- Register RING_READS. -/
def Reg.RING_READS : Nat := 0xC0002C
/-- RING_READS.LATE. -/
def Fld.RING_READS_LATE : Fld := ⟨Reg.RING_READS, 31, 16⟩
/-- RING_READS.OUTSTANDING. -/
def Fld.RING_READS_OUTSTANDING : Fld := ⟨Reg.RING_READS, 8, 0⟩

/-- Register RING_NODE_STAT. -/
def Reg.RING_NODE_STAT (n : Nat) : Nat := 0xC01000 + 0x40 * n
/-- RING_NODE_STAT.STATE. -/
def Fld.RING_NODE_STAT_STATE (n : Nat) : Fld := ⟨(Reg.RING_NODE_STAT n), 31, 30⟩
/-- RING_NODE_STAT.PATHS. -/
def Fld.RING_NODE_STAT_PATHS (n : Nat) : Fld := ⟨(Reg.RING_NODE_STAT n), 29, 28⟩
/-- RING_NODE_STAT.VERSION. -/
def Fld.RING_NODE_STAT_VERSION (n : Nat) : Fld := ⟨(Reg.RING_NODE_STAT n), 27, 26⟩
/-- RING_NODE_STAT.POSITION. -/
def Fld.RING_NODE_STAT_POSITION (n : Nat) : Fld := ⟨(Reg.RING_NODE_STAT n), 25, 20⟩
/-- RING_NODE_STAT.MISSED. -/
def Fld.RING_NODE_STAT_MISSED (n : Nat) : Fld := ⟨(Reg.RING_NODE_STAT n), 19, 18⟩
/-- RING_NODE_STAT.SESSION. -/
def Fld.RING_NODE_STAT_SESSION (n : Nat) : Fld := ⟨(Reg.RING_NODE_STAT n), 15, 0⟩

/-- Register RING_NODE_DELAY_A. -/
def Reg.RING_NODE_DELAY_A (n : Nat) : Nat := 0xC01004 + 0x40 * n
/-- RING_NODE_DELAY_A.DELAY. -/
def Fld.RING_NODE_DELAY_A_DELAY (n : Nat) : Fld := ⟨(Reg.RING_NODE_DELAY_A n), 31, 0⟩

/-- Register RING_NODE_DELAY_B. -/
def Reg.RING_NODE_DELAY_B (n : Nat) : Nat := 0xC01008 + 0x40 * n
/-- RING_NODE_DELAY_B.DELAY. -/
def Fld.RING_NODE_DELAY_B_DELAY (n : Nat) : Fld := ⟨(Reg.RING_NODE_DELAY_B n), 31, 0⟩

/-- Register RING_NODE_LAT. -/
def Reg.RING_NODE_LAT (n : Nat) : Nat := 0xC0100C + 0x40 * n
/-- RING_NODE_LAT.LAT. -/
def Fld.RING_NODE_LAT (n : Nat) : Fld := ⟨(Reg.RING_NODE_LAT n), 6, 0⟩

/-- Register RING_NODE_RX. -/
def Reg.RING_NODE_RX (n : Nat) : Nat := 0xC01010 + 0x40 * n
/-- RING_NODE_RX.CAPFUT. -/
def Fld.RING_NODE_RX_CAPFUT (n : Nat) : Fld := ⟨(Reg.RING_NODE_RX n), 31, 16⟩
/-- RING_NODE_RX.GAP. -/
def Fld.RING_NODE_RX_GAP (n : Nat) : Fld := ⟨(Reg.RING_NODE_RX n), 15, 0⟩

/-- Register RING_NODE_DUP. -/
def Reg.RING_NODE_DUP (n : Nat) : Nat := 0xC01014 + 0x40 * n
/-- RING_NODE_DUP.DUP. -/
def Fld.RING_NODE_DUP_DUP (n : Nat) : Fld := ⟨(Reg.RING_NODE_DUP n), 31, 16⟩
/-- RING_NODE_DUP.OLD. -/
def Fld.RING_NODE_DUP_OLD (n : Nat) : Fld := ⟨(Reg.RING_NODE_DUP n), 15, 0⟩

/-- Register RING_NODE_ERR. -/
def Reg.RING_NODE_ERR (n : Nat) : Nat := 0xC01018 + 0x40 * n
/-- RING_NODE_ERR.MALF. -/
def Fld.RING_NODE_ERR_MALF (n : Nat) : Fld := ⟨(Reg.RING_NODE_ERR n), 31, 20⟩
/-- RING_NODE_ERR.MACFAIL. -/
def Fld.RING_NODE_ERR_MACFAIL (n : Nat) : Fld := ⟨(Reg.RING_NODE_ERR n), 19, 8⟩
/-- RING_NODE_ERR.RATE. -/
def Fld.RING_NODE_ERR_RATE (n : Nat) : Fld := ⟨(Reg.RING_NODE_ERR n), 7, 0⟩

/-- Register RING_NODE_TXN. -/
def Reg.RING_NODE_TXN (n : Nat) : Nat := 0xC0101C + 0x40 * n
/-- RING_NODE_TXN.WDISC. -/
def Fld.RING_NODE_TXN_WDISC (n : Nat) : Fld := ⟨(Reg.RING_NODE_TXN n), 31, 20⟩
/-- RING_NODE_TXN.RDTMO. -/
def Fld.RING_NODE_TXN_RDTMO (n : Nat) : Fld := ⟨(Reg.RING_NODE_TXN n), 19, 8⟩
/-- RING_NODE_TXN.QUEUED. -/
def Fld.RING_NODE_TXN_QUEUED (n : Nat) : Fld := ⟨(Reg.RING_NODE_TXN n), 6, 0⟩

/-- Register RING_NODE_EXP. -/
def Reg.RING_NODE_EXP (n : Nat) : Nat := 0xC01020 + 0x40 * n
/-- RING_NODE_EXP.EXPDROP. -/
def Fld.RING_NODE_EXP_EXPDROP (n : Nat) : Fld := ⟨(Reg.RING_NODE_EXP n), 31, 16⟩
/-- RING_NODE_EXP.SENT. -/
def Fld.RING_NODE_EXP_SENT (n : Nat) : Fld := ⟨(Reg.RING_NODE_EXP n), 15, 0⟩

/-- Register RING_NODE_LIMIT. -/
def Reg.RING_NODE_LIMIT (n : Nat) : Nat := 0xC01024 + 0x40 * n
/-- RING_NODE_LIMIT.KB. -/
def Fld.RING_NODE_LIMIT_KB (n : Nat) : Fld := ⟨(Reg.RING_NODE_LIMIT n), 31, 16⟩
/-- RING_NODE_LIMIT.FR. -/
def Fld.RING_NODE_LIMIT_FR (n : Nat) : Fld := ⟨(Reg.RING_NODE_LIMIT n), 15, 0⟩

/-- Register RING_NODE_RD_TMO. -/
def Reg.RING_NODE_RD_TMO (n : Nat) : Nat := 0xC01028 + 0x40 * n
/-- RING_NODE_RD_TMO.RD_TMO. -/
def Fld.RING_NODE_RD_TMO_RD_TMO (n : Nat) : Fld := ⟨(Reg.RING_NODE_RD_TMO n), 16, 0⟩

/-- Register RING_NODE_NODEERR. -/
def Reg.RING_NODE_NODEERR (n : Nat) : Nat := 0xC0102C + 0x40 * n
/-- RING_NODE_NODEERR.DLATE. -/
def Fld.RING_NODE_NODEERR_DLATE (n : Nat) : Fld := ⟨(Reg.RING_NODE_NODEERR n), 31, 16⟩
/-- RING_NODE_NODEERR.WREFUSE. -/
def Fld.RING_NODE_NODEERR_WREFUSE (n : Nat) : Fld := ⟨(Reg.RING_NODE_NODEERR n), 15, 0⟩

/-- Register RING_NODE_BATCH. -/
def Reg.RING_NODE_BATCH (n : Nat) : Nat := 0xC01030 + 0x40 * n
/-- RING_NODE_BATCH.COUNT. -/
def Fld.RING_NODE_BATCH_COUNT (n : Nat) : Fld := ⟨(Reg.RING_NODE_BATCH n), 31, 0⟩

/-! ### Registers of 09_host_bridge_and_queues.md -/

/-- Register HQ_CTRL. -/
def Reg.HQ_CTRL (q : Nat) : Nat := 0xD00000 + 0x100 * q
/-- HQ_CTRL.ENABLE. -/
def Fld.HQ_CTRL_ENABLE (q : Nat) : Fld := ⟨(Reg.HQ_CTRL q), 0, 0⟩

/-- Register HQ_STATUS. -/
def Reg.HQ_STATUS (q : Nat) : Nat := 0xD00004 + 0x100 * q
/-- HQ_STATUS.ENABLED. -/
def Fld.HQ_STATUS_ENABLED (q : Nat) : Fld := ⟨(Reg.HQ_STATUS q), 31, 31⟩
/-- HQ_STATUS.INPROG. -/
def Fld.HQ_STATUS_INPROG (q : Nat) : Fld := ⟨(Reg.HQ_STATUS q), 30, 30⟩
/-- HQ_STATUS.ROLE. -/
def Fld.HQ_STATUS_ROLE (q : Nat) : Fld := ⟨(Reg.HQ_STATUS q), 29, 27⟩
/-- HQ_STATUS.VECTOR. -/
def Fld.HQ_STATUS_VECTOR (q : Nat) : Fld := ⟨(Reg.HQ_STATUS q), 23, 16⟩
/-- HQ_STATUS.CODE. -/
def Fld.HQ_STATUS_CODE (q : Nat) : Fld := ⟨(Reg.HQ_STATUS q), 15, 8⟩

/-- Register HQ_VER. -/
def Reg.HQ_VER (q : Nat) : Nat := 0xD00008 + 0x100 * q
/-- HQ_VER.CHOSEN. -/
def Fld.HQ_VER_CHOSEN (q : Nat) : Fld := ⟨(Reg.HQ_VER q), 19, 16⟩
/-- HQ_VER.CODE. -/
def Fld.HQ_VER_CODE (q : Nat) : Fld := ⟨(Reg.HQ_VER q), 15, 8⟩
/-- HQ_VER.PERMIT. -/
def Fld.HQ_VER_PERMIT (q : Nat) : Fld := ⟨(Reg.HQ_VER q), 7, 4⟩
/-- HQ_VER.OFFER. -/
def Fld.HQ_VER_OFFER (q : Nat) : Fld := ⟨(Reg.HQ_VER q), 3, 0⟩

/-- Register HQ_D2H_BASE_LO. -/
def Reg.HQ_D2H_BASE_LO (q : Nat) : Nat := 0xD00010 + 0x100 * q
/-- HQ_D2H_BASE_LO.BASE. -/
def Fld.HQ_D2H_BASE_LO_BASE (q : Nat) : Fld := ⟨(Reg.HQ_D2H_BASE_LO q), 31, 0⟩

/-- Register HQ_D2H_BASE_HI. -/
def Reg.HQ_D2H_BASE_HI (q : Nat) : Nat := 0xD00014 + 0x100 * q
/-- HQ_D2H_BASE_HI.BASE. -/
def Fld.HQ_D2H_BASE_HI_BASE (q : Nat) : Fld := ⟨(Reg.HQ_D2H_BASE_HI q), 31, 0⟩

/-- Register HQ_D2H_SIZE. -/
def Reg.HQ_D2H_SIZE (q : Nat) : Nat := 0xD00018 + 0x100 * q
/-- HQ_D2H_SIZE.LOG2. -/
def Fld.HQ_D2H_SIZE_LOG2 (q : Nat) : Fld := ⟨(Reg.HQ_D2H_SIZE q), 4, 0⟩

/-- Register HQ_H2D_BASE_LO. -/
def Reg.HQ_H2D_BASE_LO (q : Nat) : Nat := 0xD00020 + 0x100 * q
/-- HQ_H2D_BASE_LO.BASE. -/
def Fld.HQ_H2D_BASE_LO_BASE (q : Nat) : Fld := ⟨(Reg.HQ_H2D_BASE_LO q), 31, 0⟩

/-- Register HQ_H2D_BASE_HI. -/
def Reg.HQ_H2D_BASE_HI (q : Nat) : Nat := 0xD00024 + 0x100 * q
/-- HQ_H2D_BASE_HI.BASE. -/
def Fld.HQ_H2D_BASE_HI_BASE (q : Nat) : Fld := ⟨(Reg.HQ_H2D_BASE_HI q), 31, 0⟩

/-- Register HQ_H2D_SIZE. -/
def Reg.HQ_H2D_SIZE (q : Nat) : Nat := 0xD00028 + 0x100 * q
/-- HQ_H2D_SIZE.LOG2. -/
def Fld.HQ_H2D_SIZE_LOG2 (q : Nat) : Fld := ⟨(Reg.HQ_H2D_SIZE q), 4, 0⟩

/-- Register HQ_WB_LO. -/
def Reg.HQ_WB_LO (q : Nat) : Nat := 0xD00030 + 0x100 * q
/-- HQ_WB_LO.WB. -/
def Fld.HQ_WB_LO_WB (q : Nat) : Fld := ⟨(Reg.HQ_WB_LO q), 31, 0⟩

/-- Register HQ_WB_HI. -/
def Reg.HQ_WB_HI (q : Nat) : Nat := 0xD00034 + 0x100 * q
/-- HQ_WB_HI.WB. -/
def Fld.HQ_WB_HI_WB (q : Nat) : Fld := ⟨(Reg.HQ_WB_HI q), 31, 0⟩

/-- Register HQ_D2H_CONS. -/
def Reg.HQ_D2H_CONS (q : Nat) : Nat := 0xD00040 + 0x100 * q
/-- HQ_D2H_CONS.CONS. -/
def Fld.HQ_D2H_CONS (q : Nat) : Fld := ⟨(Reg.HQ_D2H_CONS q), 31, 0⟩

/-- Register HQ_D2H_FILL. -/
def Reg.HQ_D2H_FILL (q : Nat) : Nat := 0xD00044 + 0x100 * q
/-- HQ_D2H_FILL.FILL. -/
def Fld.HQ_D2H_FILL (q : Nat) : Fld := ⟨(Reg.HQ_D2H_FILL q), 31, 0⟩

/-- Register HQ_D2H_PROD. -/
def Reg.HQ_D2H_PROD (q : Nat) : Nat := 0xD00048 + 0x100 * q
/-- HQ_D2H_PROD.PROD. -/
def Fld.HQ_D2H_PROD (q : Nat) : Fld := ⟨(Reg.HQ_D2H_PROD q), 31, 0⟩

/-- Register HQ_H2D_PROD. -/
def Reg.HQ_H2D_PROD (q : Nat) : Nat := 0xD00050 + 0x100 * q
/-- HQ_H2D_PROD.PROD. -/
def Fld.HQ_H2D_PROD (q : Nat) : Fld := ⟨(Reg.HQ_H2D_PROD q), 31, 0⟩

/-- Register HQ_H2D_CONS. -/
def Reg.HQ_H2D_CONS (q : Nat) : Nat := 0xD00054 + 0x100 * q
/-- HQ_H2D_CONS.CONS. -/
def Fld.HQ_H2D_CONS (q : Nat) : Fld := ⟨(Reg.HQ_H2D_CONS q), 31, 0⟩

/-- Register HQ_CMD_ARG. -/
def Reg.HQ_CMD_ARG (q : Nat) : Nat := 0xD00060 + 0x100 * q
/-- HQ_CMD_ARG.ARG. -/
def Fld.HQ_CMD_ARG (q : Nat) : Fld := ⟨(Reg.HQ_CMD_ARG q), 31, 0⟩

/-- Register HQ_CMD. -/
def Reg.HQ_CMD (q : Nat) : Nat := 0xD00064 + 0x100 * q
/-- HQ_CMD.OP. -/
def Fld.HQ_CMD_OP (q : Nat) : Fld := ⟨(Reg.HQ_CMD q), 3, 0⟩

/-- Register HQ_WM. -/
def Reg.HQ_WM (q : Nat) : Nat := 0xD00068 + 0x100 * q
/-- HQ_WM.LEVEL. -/
def Fld.HQ_WM_LEVEL (q : Nat) : Fld := ⟨(Reg.HQ_WM q), 24, 0⟩

/-- Register HQ_PEAK. -/
def Reg.HQ_PEAK (q : Nat) : Nat := 0xD0006C + 0x100 * q
/-- HQ_PEAK.PEAK. -/
def Fld.HQ_PEAK (q : Nat) : Fld := ⟨(Reg.HQ_PEAK q), 24, 0⟩

/-- Register HQ_IRQ. -/
def Reg.HQ_IRQ (q : Nat) : Nat := 0xD00070 + 0x100 * q
/-- HQ_IRQ.HOLDOFF. -/
def Fld.HQ_IRQ_HOLDOFF (q : Nat) : Fld := ⟨(Reg.HQ_IRQ q), 25, 16⟩
/-- HQ_IRQ.EN_FILL. -/
def Fld.HQ_IRQ_EN_FILL (q : Nat) : Fld := ⟨(Reg.HQ_IRQ q), 2, 2⟩
/-- HQ_IRQ.EN_WM. -/
def Fld.HQ_IRQ_EN_WM (q : Nat) : Fld := ⟨(Reg.HQ_IRQ q), 1, 1⟩
/-- HQ_IRQ.EN_REC. -/
def Fld.HQ_IRQ_EN_REC (q : Nat) : Fld := ⟨(Reg.HQ_IRQ q), 0, 0⟩

/-- Register HQ_RECORDS. -/
def Reg.HQ_RECORDS (q : Nat) : Nat := 0xD00080 + 0x100 * q
/-- HQ_RECORDS.COUNT. -/
def Fld.HQ_RECORDS_COUNT (q : Nat) : Fld := ⟨(Reg.HQ_RECORDS q), 31, 0⟩

/-- Register HQ_DROPPED. -/
def Reg.HQ_DROPPED (q : Nat) : Nat := 0xD00084 + 0x100 * q
/-- HQ_DROPPED.COUNT. -/
def Fld.HQ_DROPPED_COUNT (q : Nat) : Fld := ⟨(Reg.HQ_DROPPED q), 31, 0⟩

/-- Register HQ_LENREF. -/
def Reg.HQ_LENREF (q : Nat) : Nat := 0xD00088 + 0x100 * q
/-- HQ_LENREF.COUNT. -/
def Fld.HQ_LENREF_COUNT (q : Nat) : Fld := ⟨(Reg.HQ_LENREF q), 31, 0⟩

/-- Register HQ_LOST. -/
def Reg.HQ_LOST (q : Nat) : Nat := 0xD0008C + 0x100 * q
/-- HQ_LOST.COUNT. -/
def Fld.HQ_LOST_COUNT (q : Nat) : Fld := ⟨(Reg.HQ_LOST q), 31, 0⟩

/-- Register HQ_REWIND. -/
def Reg.HQ_REWIND (q : Nat) : Nat := 0xD00090 + 0x100 * q
/-- HQ_REWIND.COUNT. -/
def Fld.HQ_REWIND_COUNT (q : Nat) : Fld := ⟨(Reg.HQ_REWIND q), 31, 0⟩

/-- Register HQ_AUTHZERO. -/
def Reg.HQ_AUTHZERO (q : Nat) : Nat := 0xD00094 + 0x100 * q
/-- HQ_AUTHZERO.COUNT. -/
def Fld.HQ_AUTHZERO_COUNT (q : Nat) : Fld := ⟨(Reg.HQ_AUTHZERO q), 31, 0⟩

/-- Register HQ_TXDESC. -/
def Reg.HQ_TXDESC (q : Nat) : Nat := 0xD00098 + 0x100 * q
/-- HQ_TXDESC.COUNT. -/
def Fld.HQ_TXDESC_COUNT (q : Nat) : Fld := ⟨(Reg.HQ_TXDESC q), 31, 0⟩

/-- Register HQ_TXREF. -/
def Reg.HQ_TXREF (q : Nat) : Nat := 0xD0009C + 0x100 * q
/-- HQ_TXREF.COUNT. -/
def Fld.HQ_TXREF_COUNT (q : Nat) : Fld := ⟨(Reg.HQ_TXREF q), 31, 0⟩

/-- Register BRG_PAGE. -/
def Reg.BRG_PAGE (k : Nat) : Nat := 0xD40000 + 0x4 * k
/-- BRG_PAGE.NODE. -/
def Fld.BRG_PAGE_NODE (k : Nat) : Fld := ⟨(Reg.BRG_PAGE k), 9, 4⟩
/-- BRG_PAGE.SPACE. -/
def Fld.BRG_PAGE_SPACE (k : Nat) : Fld := ⟨(Reg.BRG_PAGE k), 3, 0⟩

/-- Register BRG_STATUS. -/
def Reg.BRG_STATUS : Nat := 0xD40010
/-- BRG_STATUS.LINK. -/
def Fld.BRG_STATUS_LINK : Fld := ⟨Reg.BRG_STATUS, 31, 31⟩
/-- BRG_STATUS.BME. -/
def Fld.BRG_STATUS_BME : Fld := ⟨Reg.BRG_STATUS, 30, 30⟩
/-- BRG_STATUS.SPEED. -/
def Fld.BRG_STATUS_SPEED : Fld := ⟨Reg.BRG_STATUS, 29, 27⟩
/-- BRG_STATUS.WIDTH. -/
def Fld.BRG_STATUS_WIDTH : Fld := ⟨Reg.BRG_STATUS, 26, 24⟩
/-- BRG_STATUS.HELD. -/
def Fld.BRG_STATUS_HELD : Fld := ⟨Reg.BRG_STATUS, 6, 0⟩

/-- Register BRG_LOG_W0. -/
def Reg.BRG_LOG_W0 : Nat := 0xD40020
/-- BRG_LOG_W0.VALID. -/
def Fld.BRG_LOG_W0_VALID : Fld := ⟨Reg.BRG_LOG_W0, 31, 31⟩
/-- BRG_LOG_W0.GAP. -/
def Fld.BRG_LOG_W0_GAP : Fld := ⟨Reg.BRG_LOG_W0, 30, 30⟩
/-- BRG_LOG_W0.WRITE. -/
def Fld.BRG_LOG_W0_WRITE : Fld := ⟨Reg.BRG_LOG_W0, 29, 29⟩
/-- BRG_LOG_W0.SRC. -/
def Fld.BRG_LOG_W0_SRC : Fld := ⟨Reg.BRG_LOG_W0, 28, 27⟩
/-- BRG_LOG_W0.CODE. -/
def Fld.BRG_LOG_W0_CODE : Fld := ⟨Reg.BRG_LOG_W0, 23, 16⟩
/-- BRG_LOG_W0.LOST. -/
def Fld.BRG_LOG_W0_LOST : Fld := ⟨Reg.BRG_LOG_W0, 15, 0⟩

/-- Register BRG_LOG_W1. -/
def Reg.BRG_LOG_W1 : Nat := 0xD40024
/-- BRG_LOG_W1.ADDR. -/
def Fld.BRG_LOG_W1_ADDR : Fld := ⟨Reg.BRG_LOG_W1, 31, 0⟩

/-- Register BRG_LOG_W2. -/
def Reg.BRG_LOG_W2 : Nat := 0xD40028
/-- BRG_LOG_W2.BYTES. -/
def Fld.BRG_LOG_W2_BYTES : Fld := ⟨Reg.BRG_LOG_W2, 31, 16⟩
/-- BRG_LOG_W2.ADDR_HI. -/
def Fld.BRG_LOG_W2_ADDR_HI : Fld := ⟨Reg.BRG_LOG_W2, 7, 0⟩

/-- Register BRG_LOG_OVF. -/
def Reg.BRG_LOG_OVF : Nat := 0xD4002C
/-- BRG_LOG_OVF.COUNT. -/
def Fld.BRG_LOG_OVF_COUNT : Fld := ⟨Reg.BRG_LOG_OVF, 31, 0⟩

/-- Register BRG_RESETS. -/
def Reg.BRG_RESETS : Nat := 0xD40030
/-- BRG_RESETS.LINKDN. -/
def Fld.BRG_RESETS_LINKDN : Fld := ⟨Reg.BRG_RESETS, 31, 16⟩
/-- BRG_RESETS.FLR. -/
def Fld.BRG_RESETS_FLR : Fld := ⟨Reg.BRG_RESETS, 15, 0⟩

/-- Register BRG_NOQ. -/
def Reg.BRG_NOQ : Nat := 0xD40034
/-- BRG_NOQ.COUNT. -/
def Fld.BRG_NOQ_COUNT : Fld := ⟨Reg.BRG_NOQ, 31, 0⟩

/-- Register HQ_WM_HIT_LO. -/
def Reg.HQ_WM_HIT_LO : Nat := 0xD40040
/-- HQ_WM_HIT_LO.HIT. -/
def Fld.HQ_WM_HIT_LO_HIT : Fld := ⟨Reg.HQ_WM_HIT_LO, 31, 0⟩

/-- Register HQ_WM_HIT_HI. -/
def Reg.HQ_WM_HIT_HI : Nat := 0xD40044
/-- HQ_WM_HIT_HI.HIT. -/
def Fld.HQ_WM_HIT_HI_HIT : Fld := ⟨Reg.HQ_WM_HIT_HI, 31, 0⟩

/-- Register MSIX_ADDR_LO. -/
def Reg.MSIX_ADDR_LO (v : Nat) : Nat := 0xD80000 + 0x10 * v
/-- MSIX_ADDR_LO.ADDR. -/
def Fld.MSIX_ADDR_LO_ADDR (v : Nat) : Fld := ⟨(Reg.MSIX_ADDR_LO v), 31, 2⟩

/-- Register MSIX_ADDR_HI. -/
def Reg.MSIX_ADDR_HI (v : Nat) : Nat := 0xD80004 + 0x10 * v
/-- MSIX_ADDR_HI.ADDR. -/
def Fld.MSIX_ADDR_HI_ADDR (v : Nat) : Fld := ⟨(Reg.MSIX_ADDR_HI v), 31, 0⟩

/-- Register MSIX_DATA. -/
def Reg.MSIX_DATA (v : Nat) : Nat := 0xD80008 + 0x10 * v
/-- MSIX_DATA.DATA. -/
def Fld.MSIX_DATA (v : Nat) : Fld := ⟨(Reg.MSIX_DATA v), 31, 0⟩

/-- Register MSIX_CTRL. -/
def Reg.MSIX_CTRL (v : Nat) : Nat := 0xD8000C + 0x10 * v
/-- MSIX_CTRL.MASK. -/
def Fld.MSIX_CTRL_MASK (v : Nat) : Fld := ⟨(Reg.MSIX_CTRL v), 0, 0⟩

/-- Register MSIX_PBA. -/
def Reg.MSIX_PBA (k : Nat) : Nat := 0xD81000 + 0x4 * k
/-- MSIX_PBA.PENDING. -/
def Fld.MSIX_PBA_PENDING (k : Nat) : Fld := ⟨(Reg.MSIX_PBA k), 31, 0⟩

/-! ### Registers of 10_load_switches.md -/

/-- Register LS_CH_CMD. -/
def Reg.LS_CH_CMD (n : Nat) : Nat := 0xF00000 + 0x40 * n
/-- LS_CH_CMD.DIAG_EN. -/
def Fld.LS_CH_CMD_DIAG_EN (n : Nat) : Fld := ⟨(Reg.LS_CH_CMD n), 4, 4⟩
/-- LS_CH_CMD.COMP_EN. -/
def Fld.LS_CH_CMD_COMP_EN (n : Nat) : Fld := ⟨(Reg.LS_CH_CMD n), 3, 3⟩
/-- LS_CH_CMD.PWM_EN. -/
def Fld.LS_CH_CMD_PWM_EN (n : Nat) : Fld := ⟨(Reg.LS_CH_CMD n), 2, 2⟩
/-- LS_CH_CMD.ON. -/
def Fld.LS_CH_CMD_ON (n : Nat) : Fld := ⟨(Reg.LS_CH_CMD n), 0, 0⟩

/-- Register LS_CH_PWM. -/
def Reg.LS_CH_PWM (n : Nat) : Nat := 0xF00004 + 0x40 * n
/-- LS_CH_PWM.FREQ. -/
def Fld.LS_CH_PWM_FREQ (n : Nat) : Fld := ⟨(Reg.LS_CH_PWM n), 26, 16⟩
/-- LS_CH_PWM.DUTY. -/
def Fld.LS_CH_PWM_DUTY (n : Nat) : Fld := ⟨(Reg.LS_CH_PWM n), 9, 0⟩

/-- Register LS_CH_THR. -/
def Reg.LS_CH_THR (n : Nat) : Nat := 0xF00008 + 0x40 * n
/-- LS_CH_THR.I_INR. -/
def Fld.LS_CH_THR_I_INR (n : Nat) : Fld := ⟨(Reg.LS_CH_THR n), 27, 16⟩
/-- LS_CH_THR.I_OC. -/
def Fld.LS_CH_THR_I_OC (n : Nat) : Fld := ⟨(Reg.LS_CH_THR n), 11, 0⟩

/-- Register LS_CH_INR. -/
def Reg.LS_CH_INR (n : Nat) : Nat := 0xF0000C + 0x40 * n
/-- LS_CH_INR.INR_MS. -/
def Fld.LS_CH_INR_INR_MS (n : Nat) : Fld := ⟨(Reg.LS_CH_INR n), 7, 0⟩

/-- Register LS_CH_VREF. -/
def Reg.LS_CH_VREF (n : Nat) : Nat := 0xF00010 + 0x40 * n
/-- LS_CH_VREF.VREF. -/
def Fld.LS_CH_VREF (n : Nat) : Fld := ⟨(Reg.LS_CH_VREF n), 11, 0⟩

/-- Register LS_CH_CTRL. -/
def Reg.LS_CH_CTRL (n : Nat) : Nat := 0xF00014 + 0x40 * n
/-- LS_CH_CTRL.KEY. -/
def Fld.LS_CH_CTRL_KEY (n : Nat) : Fld := ⟨(Reg.LS_CH_CTRL n), 31, 24⟩
/-- LS_CH_CTRL.CLR. -/
def Fld.LS_CH_CTRL_CLR (n : Nat) : Fld := ⟨(Reg.LS_CH_CTRL n), 0, 0⟩

/-- Register LS_CH_STATUS. -/
def Reg.LS_CH_STATUS (n : Nat) : Nat := 0xF00018 + 0x40 * n
/-- LS_CH_STATUS.STATE. -/
def Fld.LS_CH_STATUS_STATE (n : Nat) : Fld := ⟨(Reg.LS_CH_STATUS n), 31, 30⟩
/-- LS_CH_STATUS.CAUSE. -/
def Fld.LS_CH_STATUS_CAUSE (n : Nat) : Fld := ⟨(Reg.LS_CH_STATUS n), 29, 28⟩
/-- LS_CH_STATUS.INRUSH. -/
def Fld.LS_CH_STATUS_INRUSH (n : Nat) : Fld := ⟨(Reg.LS_CH_STATUS n), 27, 27⟩
/-- LS_CH_STATUS.LIMP. -/
def Fld.LS_CH_STATUS_LIMP (n : Nat) : Fld := ⟨(Reg.LS_CH_STATUS n), 26, 26⟩
/-- LS_CH_STATUS.SAFE. -/
def Fld.LS_CH_STATUS_SAFE (n : Nat) : Fld := ⟨(Reg.LS_CH_STATUS n), 25, 25⟩
/-- LS_CH_STATUS.HOLD. -/
def Fld.LS_CH_STATUS_HOLD (n : Nat) : Fld := ⟨(Reg.LS_CH_STATUS n), 24, 24⟩
/-- LS_CH_STATUS.DIAG. -/
def Fld.LS_CH_STATUS_DIAG (n : Nat) : Fld := ⟨(Reg.LS_CH_STATUS n), 23, 21⟩
/-- LS_CH_STATUS.PULSE. -/
def Fld.LS_CH_STATUS_PULSE (n : Nat) : Fld := ⟨(Reg.LS_CH_STATUS n), 20, 20⟩
/-- LS_CH_STATUS.CODE. -/
def Fld.LS_CH_STATUS_CODE (n : Nat) : Fld := ⟨(Reg.LS_CH_STATUS n), 17, 10⟩
/-- LS_CH_STATUS.EFF_DUTY. -/
def Fld.LS_CH_STATUS_EFF_DUTY (n : Nat) : Fld := ⟨(Reg.LS_CH_STATUS n), 9, 0⟩

/-- Register LS_CH_SENSE. -/
def Reg.LS_CH_SENSE (n : Nat) : Nat := 0xF0001C + 0x40 * n
/-- LS_CH_SENSE.PEAK. -/
def Fld.LS_CH_SENSE_PEAK (n : Nat) : Fld := ⟨(Reg.LS_CH_SENSE n), 27, 16⟩
/-- LS_CH_SENSE.AVG. -/
def Fld.LS_CH_SENSE_AVG (n : Nat) : Fld := ⟨(Reg.LS_CH_SENSE n), 11, 0⟩

/-- Register LS_CH_TEMP. -/
def Reg.LS_CH_TEMP (n : Nat) : Nat := 0xF00020 + 0x40 * n
/-- LS_CH_TEMP.TMAX. -/
def Fld.LS_CH_TEMP_TMAX (n : Nat) : Fld := ⟨(Reg.LS_CH_TEMP n), 24, 16⟩
/-- LS_CH_TEMP.TEMP. -/
def Fld.LS_CH_TEMP_TEMP (n : Nat) : Fld := ⟨(Reg.LS_CH_TEMP n), 8, 0⟩

/-- Register LS_CH_TRIPS. -/
def Reg.LS_CH_TRIPS (n : Nat) : Nat := 0xF00024 + 0x40 * n
/-- LS_CH_TRIPS.OC. -/
def Fld.LS_CH_TRIPS_OC (n : Nat) : Fld := ⟨(Reg.LS_CH_TRIPS n), 31, 24⟩
/-- LS_CH_TRIPS.FAST. -/
def Fld.LS_CH_TRIPS_FAST (n : Nat) : Fld := ⟨(Reg.LS_CH_TRIPS n), 23, 16⟩
/-- LS_CH_TRIPS.OT. -/
def Fld.LS_CH_TRIPS_OT (n : Nat) : Fld := ⟨(Reg.LS_CH_TRIPS n), 15, 8⟩
/-- LS_CH_TRIPS.DIAGCHG. -/
def Fld.LS_CH_TRIPS_DIAGCHG (n : Nat) : Fld := ⟨(Reg.LS_CH_TRIPS n), 7, 0⟩

/-- Register LS_STATUS. -/
def Reg.LS_STATUS : Nat := 0xF80000
/-- LS_STATUS.LIMP_N. -/
def Fld.LS_STATUS_LIMP_N : Fld := ⟨Reg.LS_STATUS, 31, 31⟩
/-- LS_STATUS.PS0_LINK. -/
def Fld.LS_STATUS_PS0_LINK : Fld := ⟨Reg.LS_STATUS, 30, 30⟩
/-- LS_STATUS.PS1_LINK. -/
def Fld.LS_STATUS_PS1_LINK : Fld := ⟨Reg.LS_STATUS, 29, 29⟩
/-- LS_STATUS.PS0_LIMP. -/
def Fld.LS_STATUS_PS0_LIMP : Fld := ⟨Reg.LS_STATUS, 28, 28⟩
/-- LS_STATUS.PS1_LIMP. -/
def Fld.LS_STATUS_PS1_LIMP : Fld := ⟨Reg.LS_STATUS, 27, 27⟩
/-- LS_STATUS.SUPPLY. -/
def Fld.LS_STATUS_SUPPLY : Fld := ⟨Reg.LS_STATUS, 25, 24⟩
/-- LS_STATUS.LHI. -/
def Fld.LS_STATUS_LHI : Fld := ⟨Reg.LS_STATUS, 23, 16⟩
/-- LS_STATUS.PATTERN. -/
def Fld.LS_STATUS_PATTERN : Fld := ⟨Reg.LS_STATUS, 15, 13⟩
/-- LS_STATUS.SAFE_ACT. -/
def Fld.LS_STATUS_SAFE_ACT : Fld := ⟨Reg.LS_STATUS, 12, 12⟩

/-- Register LS_VBAT. -/
def Reg.LS_VBAT : Nat := 0xF80004
/-- LS_VBAT.VMIN. -/
def Fld.LS_VBAT_VMIN : Fld := ⟨Reg.LS_VBAT, 28, 16⟩
/-- LS_VBAT.VBAT. -/
def Fld.LS_VBAT_VBAT : Fld := ⟨Reg.LS_VBAT, 12, 0⟩

/-- Register LS_TOTAL. -/
def Reg.LS_TOTAL : Nat := 0xF80008
/-- LS_TOTAL.POWER. -/
def Fld.LS_TOTAL_POWER : Fld := ⟨Reg.LS_TOTAL, 31, 16⟩
/-- LS_TOTAL.CURRENT. -/
def Fld.LS_TOTAL_CURRENT : Fld := ⟨Reg.LS_TOTAL, 15, 0⟩

/-- Register LS_DIAG_PERIOD. -/
def Reg.LS_DIAG_PERIOD : Nat := 0xF8000C
/-- LS_DIAG_PERIOD.PERIOD. -/
def Fld.LS_DIAG_PERIOD : Fld := ⟨Reg.LS_DIAG_PERIOD, 9, 0⟩

/-- Register LS_TWARN. -/
def Reg.LS_TWARN : Nat := 0xF80010
/-- LS_TWARN.TWARN. -/
def Fld.LS_TWARN : Fld := ⟨Reg.LS_TWARN, 7, 0⟩

/-- Register LS_SUPPLY. -/
def Reg.LS_SUPPLY : Nat := 0xF80014
/-- LS_SUPPLY.UV. -/
def Fld.LS_SUPPLY_UV : Fld := ⟨Reg.LS_SUPPLY, 31, 16⟩
/-- LS_SUPPLY.OV. -/
def Fld.LS_SUPPLY_OV : Fld := ⟨Reg.LS_SUPPLY, 15, 0⟩

/-- Register LS_LINK. -/
def Reg.LS_LINK (d : Nat) : Nat := 0xF80018 + 0x4 * d
/-- LS_LINK.CRC. -/
def Fld.LS_LINK_CRC (d : Nat) : Fld := ⟨(Reg.LS_LINK d), 31, 24⟩
/-- LS_LINK.RETRY. -/
def Fld.LS_LINK_RETRY (d : Nat) : Fld := ⟨(Reg.LS_LINK d), 23, 16⟩
/-- LS_LINK.DOWN. -/
def Fld.LS_LINK_DOWN (d : Nat) : Fld := ⟨(Reg.LS_LINK d), 15, 8⟩
/-- LS_LINK.TAKEOVER. -/
def Fld.LS_LINK_TAKEOVER (d : Nat) : Fld := ⟨(Reg.LS_LINK d), 7, 0⟩

/-- Register LS_OTP_GLOBAL. -/
def Reg.LS_OTP_GLOBAL (d : Nat) : Nat := 0xFC0000 + 0x40 * d
/-- LS_OTP_GLOBAL.GLOBAL. -/
def Fld.LS_OTP_GLOBAL (d : Nat) : Fld := ⟨(Reg.LS_OTP_GLOBAL d), 31, 0⟩

/-- Register LS_OTP_CH. -/
def Reg.LS_OTP_CH (d : Nat) (k : Nat) : Nat := 0xFC0004 + 0x40 * d + 0x4 * k
/-- LS_OTP_CH.CH. -/
def Fld.LS_OTP_CH (d : Nat) (k : Nat) : Fld := ⟨(Reg.LS_OTP_CH d k), 31, 0⟩

/-! ### Registers of 11_security.md -/

/-- Register KS_STATUS. -/
def Reg.KS_STATUS : Nat := 0x1000000
/-- KS_STATUS.TAMPER. -/
def Fld.KS_STATUS_TAMPER : Fld := ⟨Reg.KS_STATUS, 31, 31⟩
/-- KS_STATUS.DRBG_OK. -/
def Fld.KS_STATUS_DRBG_OK : Fld := ⟨Reg.KS_STATUS, 30, 30⟩
/-- KS_STATUS.CODE. -/
def Fld.KS_STATUS_CODE : Fld := ⟨Reg.KS_STATUS, 23, 16⟩
/-- KS_STATUS.REFUSED. -/
def Fld.KS_STATUS_REFUSED : Fld := ⟨Reg.KS_STATUS, 15, 9⟩
/-- KS_STATUS.VALIDCNT. -/
def Fld.KS_STATUS_VALIDCNT : Fld := ⟨Reg.KS_STATUS, 8, 0⟩

/-- Register KS_REMASK. -/
def Reg.KS_REMASK : Nat := 0x1000004
/-- KS_REMASK.SWEEPS. -/
def Fld.KS_REMASK_SWEEPS : Fld := ⟨Reg.KS_REMASK, 31, 16⟩
/-- KS_REMASK.PERIOD. -/
def Fld.KS_REMASK_PERIOD : Fld := ⟨Reg.KS_REMASK, 9, 0⟩

/-- Register KS_CMD. -/
def Reg.KS_CMD : Nat := 0x1000008
/-- KS_CMD.KEY. -/
def Fld.KS_CMD_KEY : Fld := ⟨Reg.KS_CMD, 31, 24⟩
/-- KS_CMD.OP. -/
def Fld.KS_CMD_OP : Fld := ⟨Reg.KS_CMD, 9, 8⟩
/-- KS_CMD.SLOT. -/
def Fld.KS_CMD_SLOT : Fld := ⟨Reg.KS_CMD, 7, 0⟩

/-- Register KS_TAMPER. -/
def Reg.KS_TAMPER : Nat := 0x1000010
/-- KS_TAMPER.EVENTS. -/
def Fld.KS_TAMPER_EVENTS : Fld := ⟨Reg.KS_TAMPER, 31, 16⟩
/-- KS_TAMPER.CAUSE. -/
def Fld.KS_TAMPER_CAUSE : Fld := ⟨Reg.KS_TAMPER, 7, 0⟩

/-- Register KS_TAMPCFG. -/
def Reg.KS_TAMPCFG : Nat := 0x1000014
/-- KS_TAMPCFG.FILTER. -/
def Fld.KS_TAMPCFG_FILTER : Fld := ⟨Reg.KS_TAMPCFG, 31, 24⟩
/-- KS_TAMPCFG.LEVEL. -/
def Fld.KS_TAMPCFG_LEVEL : Fld := ⟨Reg.KS_TAMPCFG, 11, 8⟩
/-- KS_TAMPCFG.EN. -/
def Fld.KS_TAMPCFG_EN : Fld := ⟨Reg.KS_TAMPCFG, 7, 0⟩

/-- Register KS_DRBG. -/
def Reg.KS_DRBG : Nat := 0x1000018
/-- KS_DRBG.HEALTHFAIL. -/
def Fld.KS_DRBG_HEALTHFAIL : Fld := ⟨Reg.KS_DRBG, 31, 16⟩
/-- KS_DRBG.RESEEDS. -/
def Fld.KS_DRBG_RESEEDS : Fld := ⟨Reg.KS_DRBG, 15, 0⟩

/-- Register KS_ATTR. -/
def Reg.KS_ATTR (k : Nat) : Nat := 0x1001000 + 0x4 * k
/-- KS_ATTR.ATTR. -/
def Fld.KS_ATTR (k : Nat) : Fld := ⟨(Reg.KS_ATTR k), 31, 0⟩

/-- Register CPH_JD. -/
def Reg.CPH_JD (k : Nat) : Nat := 0x1010000 + 0x4 * k
/-- CPH_JD.JD. -/
def Fld.CPH_JD (k : Nat) : Fld := ⟨(Reg.CPH_JD k), 31, 0⟩

/-- Register CPH_SUBMIT. -/
def Reg.CPH_SUBMIT : Nat := 0x1010040
/-- CPH_SUBMIT.GO. -/
def Fld.CPH_SUBMIT_GO : Fld := ⟨Reg.CPH_SUBMIT, 0, 0⟩

/-- Register CPH_STATUS. -/
def Reg.CPH_STATUS : Nat := 0x1010044
/-- CPH_STATUS.FREE. -/
def Fld.CPH_STATUS_FREE : Fld := ⟨Reg.CPH_STATUS, 20, 16⟩
/-- CPH_STATUS.CODE. -/
def Fld.CPH_STATUS_CODE : Fld := ⟨Reg.CPH_STATUS, 15, 8⟩

/-- Register CPH_DONE_W0. -/
def Reg.CPH_DONE_W0 : Nat := 0x1010050
/-- CPH_DONE_W0.W0. -/
def Fld.CPH_DONE_W0 : Fld := ⟨Reg.CPH_DONE_W0, 31, 0⟩

/-- Register CPH_DONE_W. -/
def Reg.CPH_DONE_W (k : Nat) : Nat := 0x1010054 + 0x4 * k
/-- CPH_DONE_W.W. -/
def Fld.CPH_DONE_W (k : Nat) : Fld := ⟨(Reg.CPH_DONE_W k), 31, 0⟩

/-- Register CPH_DONE_OVF. -/
def Reg.CPH_DONE_OVF : Nat := 0x1010068
/-- CPH_DONE_OVF.COUNT. -/
def Fld.CPH_DONE_OVF_COUNT : Fld := ⟨Reg.CPH_DONE_OVF, 31, 0⟩

/-- Register CPH_AUTHFAIL. -/
def Reg.CPH_AUTHFAIL : Nat := 0x101006C
/-- CPH_AUTHFAIL.COUNT. -/
def Fld.CPH_AUTHFAIL_COUNT : Fld := ⟨Reg.CPH_AUTHFAIL, 31, 0⟩

/-- Register CPH_LOAD. -/
def Reg.CPH_LOAD : Nat := 0x1010070
/-- CPH_LOAD.CORE1. -/
def Fld.CPH_LOAD_CORE1 : Fld := ⟨Reg.CPH_LOAD, 25, 16⟩
/-- CPH_LOAD.CORE0. -/
def Fld.CPH_LOAD_CORE0 : Fld := ⟨Reg.CPH_LOAD, 9, 0⟩

/-- Register PQ_STATUS. -/
def Reg.PQ_STATUS : Nat := 0x1020000
/-- PQ_STATUS.BUSY. -/
def Fld.PQ_STATUS_BUSY : Fld := ⟨Reg.PQ_STATUS, 31, 31⟩
/-- PQ_STATUS.CODE. -/
def Fld.PQ_STATUS_CODE : Fld := ⟨Reg.PQ_STATUS, 15, 8⟩

/-- Register PQ_SIGNS. -/
def Reg.PQ_SIGNS : Nat := 0x1020004
/-- PQ_SIGNS.COUNT. -/
def Fld.PQ_SIGNS_COUNT : Fld := ⟨Reg.PQ_SIGNS, 31, 0⟩

/-- Register PQ_ITER. -/
def Reg.PQ_ITER : Nat := 0x1020008
/-- PQ_ITER.ITER. -/
def Fld.PQ_ITER : Fld := ⟨Reg.PQ_ITER, 9, 0⟩

/-- Register PQ_CERT_LEN. -/
def Reg.PQ_CERT_LEN : Nat := 0x102000C
/-- PQ_CERT_LEN.LEN. -/
def Fld.PQ_CERT_LEN : Fld := ⟨Reg.PQ_CERT_LEN, 16, 0⟩

/-- Register PQ_DEVICE_ID. -/
def Reg.PQ_DEVICE_ID (k : Nat) : Nat := 0x1020010 + 0x4 * k
/-- PQ_DEVICE_ID.ID. -/
def Fld.PQ_DEVICE_ID (k : Nat) : Fld := ⟨(Reg.PQ_DEVICE_ID k), 31, 0⟩

/-- Register REC_STATUS. -/
def Reg.REC_STATUS : Nat := 0x1030000
/-- REC_STATUS.FULL. -/
def Fld.REC_STATUS_FULL : Fld := ⟨Reg.REC_STATUS, 31, 31⟩
/-- REC_STATUS.RESERVE. -/
def Fld.REC_STATUS_RESERVE : Fld := ⟨Reg.REC_STATUS, 30, 30⟩
/-- REC_STATUS.WRAP. -/
def Fld.REC_STATUS_WRAP : Fld := ⟨Reg.REC_STATUS, 29, 29⟩
/-- REC_STATUS.CKPT_BUSY. -/
def Fld.REC_STATUS_CKPT_BUSY : Fld := ⟨Reg.REC_STATUS, 28, 28⟩
/-- REC_STATUS.FREE. -/
def Fld.REC_STATUS_FREE : Fld := ⟨Reg.REC_STATUS, 26, 16⟩
/-- REC_STATUS.CODE. -/
def Fld.REC_STATUS_CODE : Fld := ⟨Reg.REC_STATUS, 15, 8⟩
/-- REC_STATUS.FIFO. -/
def Fld.REC_STATUS_FIFO : Fld := ⟨Reg.REC_STATUS, 6, 0⟩

/-- Register REC_NEXT_LO. -/
def Reg.REC_NEXT_LO : Nat := 0x1030008
/-- REC_NEXT_LO.SEQ. -/
def Fld.REC_NEXT_LO_SEQ : Fld := ⟨Reg.REC_NEXT_LO, 31, 0⟩

/-- Register REC_NEXT_HI. -/
def Reg.REC_NEXT_HI : Nat := 0x103000C
/-- REC_NEXT_HI.SEQ. -/
def Fld.REC_NEXT_HI_SEQ : Fld := ⟨Reg.REC_NEXT_HI, 31, 0⟩

/-- Register REC_CKPT_LO. -/
def Reg.REC_CKPT_LO : Nat := 0x1030010
/-- REC_CKPT_LO.SEQ. -/
def Fld.REC_CKPT_LO_SEQ : Fld := ⟨Reg.REC_CKPT_LO, 31, 0⟩

/-- Register REC_CKPT_HI. -/
def Reg.REC_CKPT_HI : Nat := 0x1030014
/-- REC_CKPT_HI.SEQ. -/
def Fld.REC_CKPT_HI_SEQ : Fld := ⟨Reg.REC_CKPT_HI, 31, 0⟩

/-- Register REC_ACKED_LO. -/
def Reg.REC_ACKED_LO : Nat := 0x1030018
/-- REC_ACKED_LO.SEQ. -/
def Fld.REC_ACKED_LO_SEQ : Fld := ⟨Reg.REC_ACKED_LO, 31, 0⟩

/-- Register REC_ACKED_HI. -/
def Reg.REC_ACKED_HI : Nat := 0x103001C
/-- REC_ACKED_HI.SEQ. -/
def Fld.REC_ACKED_HI_SEQ : Fld := ⟨Reg.REC_ACKED_HI, 31, 0⟩

/-- Register REC_OLDEST_LO. -/
def Reg.REC_OLDEST_LO : Nat := 0x1030020
/-- REC_OLDEST_LO.SEQ. -/
def Fld.REC_OLDEST_LO_SEQ : Fld := ⟨Reg.REC_OLDEST_LO, 31, 0⟩

/-- Register REC_OLDEST_HI. -/
def Reg.REC_OLDEST_HI : Nat := 0x1030024
/-- REC_OLDEST_HI.SEQ. -/
def Fld.REC_OLDEST_HI_SEQ : Fld := ⟨Reg.REC_OLDEST_HI, 31, 0⟩

/-- Register REC_CTRL. -/
def Reg.REC_CTRL : Nat := 0x1030028
/-- REC_CTRL.KEY. -/
def Fld.REC_CTRL_KEY : Fld := ⟨Reg.REC_CTRL, 31, 24⟩
/-- REC_CTRL.ACK. -/
def Fld.REC_CTRL_ACK : Fld := ⟨Reg.REC_CTRL, 2, 2⟩
/-- REC_CTRL.CKPT. -/
def Fld.REC_CTRL_CKPT : Fld := ⟨Reg.REC_CTRL, 1, 1⟩
/-- REC_CTRL.APPEND. -/
def Fld.REC_CTRL_APPEND : Fld := ⟨Reg.REC_CTRL, 0, 0⟩

/-- Register REC_APPEND_HDR. -/
def Reg.REC_APPEND_HDR : Nat := 0x103002C
/-- REC_APPEND_HDR.CLASS. -/
def Fld.REC_APPEND_HDR_CLASS : Fld := ⟨Reg.REC_APPEND_HDR, 31, 16⟩
/-- REC_APPEND_HDR.LEN. -/
def Fld.REC_APPEND_HDR_LEN : Fld := ⟨Reg.REC_APPEND_HDR, 5, 0⟩

/-- Register REC_APPEND_D. -/
def Reg.REC_APPEND_D (k : Nat) : Nat := 0x1030030 + 0x4 * k
/-- REC_APPEND_D.DATA. -/
def Fld.REC_APPEND_D_DATA (k : Nat) : Fld := ⟨(Reg.REC_APPEND_D k), 31, 0⟩

/-- Register REC_REFUSED. -/
def Reg.REC_REFUSED : Nat := 0x1030050
/-- REC_REFUSED.FULL. -/
def Fld.REC_REFUSED_FULL : Fld := ⟨Reg.REC_REFUSED, 31, 16⟩
/-- REC_REFUSED.FIFO. -/
def Fld.REC_REFUSED_FIFO : Fld := ⟨Reg.REC_REFUSED, 15, 0⟩

/-- Register REC_ACK_SEQ_LO. -/
def Reg.REC_ACK_SEQ_LO : Nat := 0x1030058
/-- REC_ACK_SEQ_LO.SEQ. -/
def Fld.REC_ACK_SEQ_LO_SEQ : Fld := ⟨Reg.REC_ACK_SEQ_LO, 31, 0⟩

/-- Register REC_ACK_SEQ_HI. -/
def Reg.REC_ACK_SEQ_HI : Nat := 0x103005C
/-- REC_ACK_SEQ_HI.SEQ. -/
def Fld.REC_ACK_SEQ_HI_SEQ : Fld := ⟨Reg.REC_ACK_SEQ_HI, 31, 0⟩

/-- Register REC_ACK_NONCE. -/
def Reg.REC_ACK_NONCE (k : Nat) : Nat := 0x1030060 + 0x4 * k
/-- REC_ACK_NONCE.NONCE. -/
def Fld.REC_ACK_NONCE (k : Nat) : Fld := ⟨(Reg.REC_ACK_NONCE k), 31, 0⟩

/-- Register REC_EXP_SSEQ_LO. -/
def Reg.REC_EXP_SSEQ_LO : Nat := 0x1030080
/-- REC_EXP_SSEQ_LO.SSEQ. -/
def Fld.REC_EXP_SSEQ_LO_SSEQ : Fld := ⟨Reg.REC_EXP_SSEQ_LO, 31, 0⟩

/-- Register REC_EXP_SSEQ_HI. -/
def Reg.REC_EXP_SSEQ_HI : Nat := 0x1030084
/-- REC_EXP_SSEQ_HI.SSEQ. -/
def Fld.REC_EXP_SSEQ_HI_SSEQ : Fld := ⟨Reg.REC_EXP_SSEQ_HI, 31, 0⟩

/-- Register REC_EXP_STATUS. -/
def Reg.REC_EXP_STATUS : Nat := 0x1030088
/-- REC_EXP_STATUS.VALID. -/
def Fld.REC_EXP_STATUS_VALID : Fld := ⟨Reg.REC_EXP_STATUS, 31, 31⟩
/-- REC_EXP_STATUS.CODE. -/
def Fld.REC_EXP_STATUS_CODE : Fld := ⟨Reg.REC_EXP_STATUS, 15, 8⟩

/-- Register REC_EXP_CUR_LO. -/
def Reg.REC_EXP_CUR_LO : Nat := 0x10300A0
/-- REC_EXP_CUR_LO.SSEQ. -/
def Fld.REC_EXP_CUR_LO_SSEQ : Fld := ⟨Reg.REC_EXP_CUR_LO, 31, 0⟩

/-- Register REC_EXP_CUR_HI. -/
def Reg.REC_EXP_CUR_HI : Nat := 0x10300A4
/-- REC_EXP_CUR_HI.SSEQ. -/
def Fld.REC_EXP_CUR_HI_SSEQ : Fld := ⟨Reg.REC_EXP_CUR_HI, 31, 0⟩

/-! ### Registers of 12_faults_and_crossings.md -/

/-- Register FLT_STATUS. -/
def Reg.FLT_STATUS : Nat := 0x1100000
/-- FLT_STATUS.SAFE_ACT. -/
def Fld.FLT_STATUS_SAFE_ACT : Fld := ⟨Reg.FLT_STATUS, 31, 31⟩
/-- FLT_STATUS.PATTERN. -/
def Fld.FLT_STATUS_PATTERN : Fld := ⟨Reg.FLT_STATUS, 30, 28⟩
/-- FLT_STATUS.ERR_N. -/
def Fld.FLT_STATUS_ERR_N : Fld := ⟨Reg.FLT_STATUS, 27, 27⟩
/-- FLT_STATUS.ERRMIN. -/
def Fld.FLT_STATUS_ERRMIN : Fld := ⟨Reg.FLT_STATUS, 26, 26⟩
/-- FLT_STATUS.SEVCNT. -/
def Fld.FLT_STATUS_SEVCNT : Fld := ⟨Reg.FLT_STATUS, 25, 16⟩
/-- FLT_STATUS.CODE. -/
def Fld.FLT_STATUS_CODE : Fld := ⟨Reg.FLT_STATUS, 15, 8⟩
/-- FLT_STATUS.SAFECNT. -/
def Fld.FLT_STATUS_SAFECNT : Fld := ⟨Reg.FLT_STATUS, 7, 0⟩

/-- Register FLT_CTRL. -/
def Reg.FLT_CTRL : Nat := 0x1100004
/-- FLT_CTRL.KEY. -/
def Fld.FLT_CTRL_KEY : Fld := ⟨Reg.FLT_CTRL, 31, 24⟩
/-- FLT_CTRL.PATTERN. -/
def Fld.FLT_CTRL_PATTERN : Fld := ⟨Reg.FLT_CTRL, 4, 2⟩
/-- FLT_CTRL.FORCE. -/
def Fld.FLT_CTRL_FORCE : Fld := ⟨Reg.FLT_CTRL, 1, 1⟩
/-- FLT_CTRL.EXIT. -/
def Fld.FLT_CTRL_EXIT : Fld := ⟨Reg.FLT_CTRL, 0, 0⟩

/-- Register FLT_ERR_HOLD. -/
def Reg.FLT_ERR_HOLD : Nat := 0x1100008
/-- FLT_ERR_HOLD.HOLD. -/
def Fld.FLT_ERR_HOLD : Fld := ⟨Reg.FLT_ERR_HOLD, 0, 0⟩

/-- Register FLT_ERRMIN. -/
def Reg.FLT_ERRMIN : Nat := 0x110000C
/-- FLT_ERRMIN.ERRMIN. -/
def Fld.FLT_ERRMIN : Fld := ⟨Reg.FLT_ERRMIN, 7, 0⟩

/-- Register FLT_HOLD_LO. -/
def Reg.FLT_HOLD_LO : Nat := 0x1100010
/-- FLT_HOLD_LO.CAN. -/
def Fld.FLT_HOLD_LO_CAN : Fld := ⟨Reg.FLT_HOLD_LO, 31, 0⟩

/-- Register FLT_HOLD_HI. -/
def Reg.FLT_HOLD_HI : Nat := 0x1100014
/-- FLT_HOLD_HI.PORT. -/
def Fld.FLT_HOLD_HI_PORT : Fld := ⟨Reg.FLT_HOLD_HI, 14, 0⟩

/-- Register FLT_INJ. -/
def Reg.FLT_INJ : Nat := 0x1100020
/-- FLT_INJ.KEY. -/
def Fld.FLT_INJ_KEY : Fld := ⟨Reg.FLT_INJ, 31, 24⟩
/-- FLT_INJ.SRC. -/
def Fld.FLT_INJ_SRC : Fld := ⟨Reg.FLT_INJ, 16, 8⟩
/-- FLT_INJ.COUNT. -/
def Fld.FLT_INJ_COUNT : Fld := ⟨Reg.FLT_INJ, 7, 0⟩

/-- Register FLT_INJ_COUNTS. -/
def Reg.FLT_INJ_COUNTS : Nat := 0x1100024
/-- FLT_INJ_COUNTS.EN. -/
def Fld.FLT_INJ_COUNTS_EN : Fld := ⟨Reg.FLT_INJ_COUNTS, 0, 0⟩

/-- Register FLT_SEVERE. -/
def Reg.FLT_SEVERE (k : Nat) : Nat := 0x1100040 + 0x4 * k
/-- FLT_SEVERE.SEVERE. -/
def Fld.FLT_SEVERE (k : Nat) : Fld := ⟨(Reg.FLT_SEVERE k), 31, 0⟩

/-- Register FLT_XGRP. -/
def Reg.FLT_XGRP (g : Nat) : Nat := 0x1100100 + 0x4 * g
/-- FLT_XGRP.HALF. -/
def Fld.FLT_XGRP_HALF (g : Nat) : Fld := ⟨(Reg.FLT_XGRP g), 31, 16⟩
/-- FLT_XGRP.DISC. -/
def Fld.FLT_XGRP_DISC (g : Nat) : Fld := ⟨(Reg.FLT_XGRP g), 15, 0⟩

/-- Register FLT_SRC_LIMIT. -/
def Reg.FLT_SRC_LIMIT (n : Nat) : Nat := 0x1110000 + 0x20 * n
/-- FLT_SRC_LIMIT.W. -/
def Fld.FLT_SRC_LIMIT_W (n : Nat) : Fld := ⟨(Reg.FLT_SRC_LIMIT n), 31, 16⟩
/-- FLT_SRC_LIMIT.N. -/
def Fld.FLT_SRC_LIMIT_N (n : Nat) : Fld := ⟨(Reg.FLT_SRC_LIMIT n), 15, 0⟩

/-- Register FLT_SRC_ARM. -/
def Reg.FLT_SRC_ARM (n : Nat) : Nat := 0x1110004 + 0x20 * n
/-- FLT_SRC_ARM.EN. -/
def Fld.FLT_SRC_ARM_EN (n : Nat) : Fld := ⟨(Reg.FLT_SRC_ARM n), 31, 31⟩
/-- FLT_SRC_ARM.PERMIT. -/
def Fld.FLT_SRC_ARM_PERMIT (n : Nat) : Fld := ⟨(Reg.FLT_SRC_ARM n), 30, 28⟩
/-- FLT_SRC_ARM.HOLDSET. -/
def Fld.FLT_SRC_ARM_HOLDSET (n : Nat) : Fld := ⟨(Reg.FLT_SRC_ARM n), 27, 24⟩
/-- FLT_SRC_ARM.PATTERN. -/
def Fld.FLT_SRC_ARM_PATTERN (n : Nat) : Fld := ⟨(Reg.FLT_SRC_ARM n), 23, 21⟩
/-- FLT_SRC_ARM.ARMING. -/
def Fld.FLT_SRC_ARM_ARMING (n : Nat) : Fld := ⟨(Reg.FLT_SRC_ARM n), 5, 0⟩

/-- Register FLT_SRC_STATE. -/
def Reg.FLT_SRC_STATE (n : Nat) : Nat := 0x1110008 + 0x20 * n
/-- FLT_SRC_STATE.STATE. -/
def Fld.FLT_SRC_STATE_STATE (n : Nat) : Fld := ⟨(Reg.FLT_SRC_STATE n), 31, 30⟩
/-- FLT_SRC_STATE.INJ. -/
def Fld.FLT_SRC_STATE_INJ (n : Nat) : Fld := ⟨(Reg.FLT_SRC_STATE n), 29, 29⟩
/-- FLT_SRC_STATE.COUNT. -/
def Fld.FLT_SRC_STATE_COUNT (n : Nat) : Fld := ⟨(Reg.FLT_SRC_STATE n), 15, 0⟩

/-- Register FLT_SRC_REAL. -/
def Reg.FLT_SRC_REAL (n : Nat) : Nat := 0x111000C + 0x20 * n
/-- FLT_SRC_REAL.COUNT. -/
def Fld.FLT_SRC_REAL_COUNT (n : Nat) : Fld := ⟨(Reg.FLT_SRC_REAL n), 31, 0⟩

/-- Register FLT_SRC_INJ. -/
def Reg.FLT_SRC_INJ (n : Nat) : Nat := 0x1110010 + 0x20 * n
/-- FLT_SRC_INJ.COUNT. -/
def Fld.FLT_SRC_INJ_COUNT (n : Nat) : Fld := ⟨(Reg.FLT_SRC_INJ n), 31, 0⟩

/-! ### Registers of 13_modes_and_sequencing.md -/

/-- Register SYS_ID. -/
def Reg.SYS_ID : Nat := 0x0
/-- SYS_ID.PART. -/
def Fld.SYS_ID_PART : Fld := ⟨Reg.SYS_ID, 31, 16⟩
/-- SYS_ID.VARIANT. -/
def Fld.SYS_ID_VARIANT : Fld := ⟨Reg.SYS_ID, 15, 12⟩
/-- SYS_ID.DIE_REV. -/
def Fld.SYS_ID_DIE_REV : Fld := ⟨Reg.SYS_ID, 11, 8⟩

/-- Register SYS_MODE. -/
def Reg.SYS_MODE : Nat := 0x4
/-- SYS_MODE.MODE. -/
def Fld.SYS_MODE_MODE : Fld := ⟨Reg.SYS_MODE, 31, 28⟩
/-- SYS_MODE.PREV. -/
def Fld.SYS_MODE_PREV : Fld := ⟨Reg.SYS_MODE, 27, 24⟩
/-- SYS_MODE.CAUSE. -/
def Fld.SYS_MODE_CAUSE : Fld := ⟨Reg.SYS_MODE, 23, 8⟩

/-- Register SYS_STATUS. -/
def Reg.SYS_STATUS : Nat := 0x8
/-- SYS_STATUS.HALT. -/
def Fld.SYS_STATUS_HALT : Fld := ⟨Reg.SYS_STATUS, 31, 31⟩
/-- SYS_STATUS.FACTORY_PATH. -/
def Fld.SYS_STATUS_FACTORY_PATH : Fld := ⟨Reg.SYS_STATUS, 30, 30⟩
/-- SYS_STATUS.PS_LIMP. -/
def Fld.SYS_STATUS_PS_LIMP : Fld := ⟨Reg.SYS_STATUS, 29, 28⟩
/-- SYS_STATUS.ENTRY. -/
def Fld.SYS_STATUS_ENTRY : Fld := ⟨Reg.SYS_STATUS, 27, 27⟩
/-- SYS_STATUS.CODE. -/
def Fld.SYS_STATUS_CODE : Fld := ⟨Reg.SYS_STATUS, 15, 8⟩

/-- Register SYS_CTRL. -/
def Reg.SYS_CTRL : Nat := 0xC
/-- SYS_CTRL.KEY. -/
def Fld.SYS_CTRL_KEY : Fld := ⟨Reg.SYS_CTRL, 31, 24⟩
/-- SYS_CTRL.OP. -/
def Fld.SYS_CTRL_OP : Fld := ⟨Reg.SYS_CTRL, 3, 0⟩

/-- Register SYS_LOSS. -/
def Reg.SYS_LOSS : Nat := 0x10
/-- SYS_LOSS.PARTIAL. -/
def Fld.SYS_LOSS_PARTIAL : Fld := ⟨Reg.SYS_LOSS, 2, 2⟩
/-- SYS_LOSS.HOST_ABSENT. -/
def Fld.SYS_LOSS_HOST_ABSENT : Fld := ⟨Reg.SYS_LOSS, 1, 1⟩
/-- SYS_LOSS.RING_OPEN. -/
def Fld.SYS_LOSS_RING_OPEN : Fld := ⟨Reg.SYS_LOSS, 0, 0⟩

/-- Register SYS_HOSTCFG. -/
def Reg.SYS_HOSTCFG : Nat := 0x14
/-- SYS_HOSTCFG.TIMEOUT. -/
def Fld.SYS_HOSTCFG_TIMEOUT : Fld := ⟨Reg.SYS_HOSTCFG, 31, 16⟩
/-- SYS_HOSTCFG.GRACE. -/
def Fld.SYS_HOSTCFG_GRACE : Fld := ⟨Reg.SYS_HOSTCFG, 15, 0⟩

/-- Register SYS_HOST_ALIVE. -/
def Reg.SYS_HOST_ALIVE : Nat := 0x18
/-- SYS_HOST_ALIVE.ALIVE. -/
def Fld.SYS_HOST_ALIVE : Fld := ⟨Reg.SYS_HOST_ALIVE, 31, 0⟩

/-- Register SYS_WAKE. -/
def Reg.SYS_WAKE : Nat := 0x1C
/-- SYS_WAKE.WOKE. -/
def Fld.SYS_WAKE_WOKE : Fld := ⟨Reg.SYS_WAKE, 31, 31⟩
/-- SYS_WAKE.KIND. -/
def Fld.SYS_WAKE_KIND : Fld := ⟨Reg.SYS_WAKE, 15, 8⟩
/-- SYS_WAKE.INDEX. -/
def Fld.SYS_WAKE_INDEX : Fld := ⟨Reg.SYS_WAKE, 7, 0⟩

/-- Register SYS_BOOTCNT. -/
def Reg.SYS_BOOTCNT : Nat := 0x20
/-- SYS_BOOTCNT.COUNT. -/
def Fld.SYS_BOOTCNT_COUNT : Fld := ⟨Reg.SYS_BOOTCNT, 31, 0⟩

/-! ### Registers of 14_management_and_update.md -/

/-- Register MGT_STATUS. -/
def Reg.MGT_STATUS : Nat := 0x1200000
/-- MGT_STATUS.HOLDER. -/
def Fld.MGT_STATUS_HOLDER : Fld := ⟨Reg.MGT_STATUS, 31, 30⟩
/-- MGT_STATUS.NOTICES. -/
def Fld.MGT_STATUS_NOTICES : Fld := ⟨Reg.MGT_STATUS, 29, 24⟩
/-- MGT_STATUS.CODE. -/
def Fld.MGT_STATUS_CODE : Fld := ⟨Reg.MGT_STATUS, 23, 16⟩

/-- Register MGT_LEASE. -/
def Reg.MGT_LEASE : Nat := 0x1200004
/-- MGT_LEASE.KEY. -/
def Fld.MGT_LEASE_KEY : Fld := ⟨Reg.MGT_LEASE, 31, 24⟩
/-- MGT_LEASE.RELEASE. -/
def Fld.MGT_LEASE_RELEASE : Fld := ⟨Reg.MGT_LEASE, 1, 1⟩
/-- MGT_LEASE.TAKE. -/
def Fld.MGT_LEASE_TAKE : Fld := ⟨Reg.MGT_LEASE, 0, 0⟩

/-- Register MGT_LEASE_CFG. -/
def Reg.MGT_LEASE_CFG : Nat := 0x1200008
/-- MGT_LEASE_CFG.MGMT_SILENCE. -/
def Fld.MGT_LEASE_CFG_MGMT_SILENCE : Fld := ⟨Reg.MGT_LEASE_CFG, 31, 16⟩
/-- MGT_LEASE_CFG.HOST_SILENCE. -/
def Fld.MGT_LEASE_CFG_HOST_SILENCE : Fld := ⟨Reg.MGT_LEASE_CFG, 15, 0⟩

/-- Register MGT_ERR. -/
def Reg.MGT_ERR : Nat := 0x120000C
/-- MGT_ERR.CRC. -/
def Fld.MGT_ERR_CRC : Fld := ⟨Reg.MGT_ERR, 31, 24⟩
/-- MGT_ERR.SYNC. -/
def Fld.MGT_ERR_SYNC : Fld := ⟨Reg.MGT_ERR, 23, 16⟩
/-- MGT_ERR.TRUNC. -/
def Fld.MGT_ERR_TRUNC : Fld := ⟨Reg.MGT_ERR, 15, 8⟩
/-- MGT_ERR.OVERRUN. -/
def Fld.MGT_ERR_OVERRUN : Fld := ⟨Reg.MGT_ERR, 7, 0⟩

/-- Register MGT_NOTICE_LOST. -/
def Reg.MGT_NOTICE_LOST : Nat := 0x1200010
/-- MGT_NOTICE_LOST.COUNT. -/
def Fld.MGT_NOTICE_LOST_COUNT : Fld := ⟨Reg.MGT_NOTICE_LOST, 31, 0⟩

/-- Register LDR_STATE. -/
def Reg.LDR_STATE : Nat := 0x1210000
/-- LDR_STATE.JOURNAL. -/
def Fld.LDR_STATE_JOURNAL : Fld := ⟨Reg.LDR_STATE, 31, 28⟩
/-- LDR_STATE.STAGE. -/
def Fld.LDR_STATE_STAGE : Fld := ⟨Reg.LDR_STATE, 27, 24⟩
/-- LDR_STATE.CODE. -/
def Fld.LDR_STATE_CODE : Fld := ⟨Reg.LDR_STATE, 23, 16⟩
/-- LDR_STATE.FAILS. -/
def Fld.LDR_STATE_FAILS : Fld := ⟨Reg.LDR_STATE, 15, 8⟩

/-- Register LDR_CTRL. -/
def Reg.LDR_CTRL : Nat := 0x1210004
/-- LDR_CTRL.KEY. -/
def Fld.LDR_CTRL_KEY : Fld := ⟨Reg.LDR_CTRL, 31, 24⟩
/-- LDR_CTRL.OP. -/
def Fld.LDR_CTRL_OP : Fld := ⟨Reg.LDR_CTRL, 3, 0⟩

/-- Register LDR_LEN. -/
def Reg.LDR_LEN : Nat := 0x1210008
/-- LDR_LEN.LEN. -/
def Fld.LDR_LEN : Fld := ⟨Reg.LDR_LEN, 22, 0⟩

/-- Register LDR_ROLLBACK. -/
def Reg.LDR_ROLLBACK : Nat := 0x121000C
/-- LDR_ROLLBACK.COUNTER. -/
def Fld.LDR_ROLLBACK_COUNTER : Fld := ⟨Reg.LDR_ROLLBACK, 31, 0⟩

/-- Register LDR_IMG_ROLLBACK. -/
def Reg.LDR_IMG_ROLLBACK : Nat := 0x1210010
/-- LDR_IMG_ROLLBACK.ROLLBACK. -/
def Fld.LDR_IMG_ROLLBACK : Fld := ⟨Reg.LDR_IMG_ROLLBACK, 31, 0⟩

/-- Register LDR_PROGRESS. -/
def Reg.LDR_PROGRESS : Nat := 0x1210014
/-- LDR_PROGRESS.SECTORS. -/
def Fld.LDR_PROGRESS_SECTORS : Fld := ⟨Reg.LDR_PROGRESS, 10, 0⟩

end Sys2Proof.Machine
end

