-- ==== Sys2Proof/Machine/Tab.lean ====
section
/-! DEFINITION. Sparse tables: a list of (key, entry) pairs in one canonical form (keys strictly rising, no entry equal to
what an unlisted key holds), used for the register file, the signal slots and every RAM the spec gives the part. -/

namespace Sys2Proof.Machine

/-- A sparse table from numbers to entries. -/
abbrev Tab (α : Type) := List (Nat × α)

/-- The entry under key `a`; an unlisted key holds `d a`. -/
def Tab.get {α : Type} (d : Nat → α) : Tab α → Nat → α
  | [], a => d a
  | (k, v) :: t, a => if a = k then v else Tab.get d t a

/-- The entries of the other keys. -/
def Tab.without {α : Type} (t : Tab α) (a : Nat) : Tab α := t.filter (fun e => !decide (e.1 = a))

/-- Sets the entry under key `a`, keeping the canonical form: an entry equal to `d a` is not listed. -/
def Tab.set {α : Type} [DecidableEq α] (d : Nat → α) : Tab α → Nat → α → Tab α
  | [], a, v => if v = d a then [] else [(a, v)]
  | (k, w) :: t, a, v =>
    if a = k then Tab.set d t a v
    else if a < k then (if v = d a then (k, w) :: Tab.without t a else (a, v) :: (k, w) :: Tab.without t a)
    else (k, w) :: Tab.set d t a v

/-- Every listed key is above `b`. -/
def Tab.above {α : Type} (b : Nat) : Tab α → Bool
  | [] => true
  | (k, _) :: t => decide (b < k) && Tab.above b t

/-- The canonical form. -/
def Tab.wf {α : Type} [DecidableEq α] (d : Nat → α) : Tab α → Bool
  | [] => true
  | (k, v) :: t => decide (v ≠ d k) && Tab.above k t && Tab.wf d t

/-- Clears the keys that satisfy `p` (they hold their unlisted value again). -/
def Tab.drop {α : Type} (p : Nat → Bool) (t : Tab α) : Tab α := t.filter (fun e => !p e.1)

/-- Clears the keys from `a` up to, not including, `a + n`. -/
def Tab.dropRange {α : Type} (t : Tab α) (a n : Nat) : Tab α :=
  Tab.drop (fun k => decide (a ≤ k) && decide (k < a + n)) t

/-- The least key that satisfies `p` among the listed entries, with its entry. -/
def Tab.find {α : Type} (p : Nat → α → Bool) : Tab α → Option (Nat × α)
  | [] => none
  | (k, v) :: t => if p k v then some (k, v) else Tab.find p t

/-- The listed keys. -/
def Tab.keys {α : Type} (t : Tab α) : List Nat := t.map Prod.fst

/-- The entries as they stand, rewritten one by one by `f` (used where a whole bank changes at once). -/
def Tab.map {α : Type} [DecidableEq α] (d : Nat → α) (f : Nat → α → α) : Tab α → Tab α
  | [] => []
  | (k, v) :: t => Tab.set d (Tab.map d f t) k (f k v)

end Sys2Proof.Machine
end

