-- ==== Sys2Proof/Machine/RegMap.lean ====
section
/-! DEFINITION. The register maps as data: for every register of the spec's maps its address range, its fields, their access
codes (R6) and reset values; the lookup of an address; what a register reads as when nothing has changed it. A field "held"
is an RW field that is a held setting (R42, R49). Fields whose reset the maps give as "From image", "Kept", "Fused" and the
like stand here at 0 (log entry 2), until the image, the identity region or the MRAM gives them a value. -/

namespace Sys2Proof.Machine

/-- The access codes of R6; `held` is RW whose value the settings store keeps (R42). Reserved bits (RSV) have no field. -/
inductive Acc
  | ro | rw | held | wo | w1c | w1s | rc
deriving DecidableEq, Repr

/-- One field of a register map row. -/
structure FieldRow where
  hi : Nat
  lo : Nat
  acc : Acc
  reset : Nat
deriving DecidableEq, Repr

/-- One register of a register map, with up to two index levels: `base + s1 * i + s2 * j`, `i < n1`, `j < n2`. `pair` is the
width of the high half where the register is the low one of an R7 pair (0: no pair; 33: a LO/HI pair of the map without latch
or staged half). The MSI-X rows are the PCI Express specification's layout (log entry 20). -/
structure RegRow where
  base : Nat
  n1 : Nat
  s1 : Nat
  n2 : Nat
  s2 : Nat
  pair : Nat
  fields : List FieldRow
deriving DecidableEq, Repr

/-- Register map rows of chapter 01. -/
def regRows01 : List RegRow :=
  [/- IMG_STATUS -/ ⟨0x100000, 1, 0x0, 1, 0x0, 0, [⟨31, 28, .ro, 0x0⟩, ⟨27, 24, .ro, 0x0⟩, ⟨23, 16, .ro, 0x0⟩, ⟨15, 8, .ro, 0x0⟩, ⟨7, 4, .ro, 0x0⟩]⟩,
   /- IMG_DETAIL -/ ⟨0x100004, 1, 0x0, 1, 0x0, 0, [⟨31, 0, .ro, 0x0⟩]⟩,
   /- IMG_CTRL -/ ⟨0x100008, 1, 0x0, 1, 0x0, 0, [⟨31, 24, .wo, 0x0⟩, ⟨1, 1, .wo, 0x0⟩, ⟨0, 0, .wo, 0x0⟩]⟩,
   /- IMG_CAPS -/ ⟨0x10000C, 1, 0x0, 1, 0x0, 0, [⟨31, 16, .ro, 0x2⟩, ⟨15, 8, .ro, 0x3⟩]⟩,
   /- IMG_SEQ -/ ⟨0x100010, 1, 0x0, 1, 0x0, 0, [⟨31, 0, .ro, 0x0⟩]⟩,
   /- IMG_SEQ_FLOOR -/ ⟨0x100014, 1, 0x0, 1, 0x0, 0, [⟨31, 0, .ro, 0x0⟩]⟩,
   /- IMG_DIGEST -/ ⟨0x100020, 16, 0x4, 1, 0x0, 0, [⟨31, 0, .ro, 0x0⟩]⟩,
   /- IMG_PART_STATUS -/ ⟨0x100060, 1, 0x0, 1, 0x0, 0, [⟨31, 31, .ro, 0x0⟩, ⟨30, 30, .w1c, 0x0⟩, ⟨29, 24, .ro, 0x0⟩, ⟨23, 16, .ro, 0x0⟩, ⟨15, 12, .ro, 0x0⟩, ⟨11, 8, .ro, 0x0⟩, ⟨7, 0, .ro, 0x0⟩]⟩,
   /- IMG_PART_NODES_LO -/ ⟨0x100068, 1, 0x0, 1, 0x0, 33, [⟨31, 0, .ro, 0x0⟩]⟩,
   /- IMG_PART_NODES_HI -/ ⟨0x10006C, 1, 0x0, 1, 0x0, 0, [⟨31, 0, .ro, 0x0⟩]⟩]

/-- Register map rows of chapter 02. -/
def regRows02 : List RegRow :=
  [/- SIG_DEFINED -/ ⟨0x200000, 1, 0x0, 1, 0x0, 0, [⟨17, 0, .ro, 0x0⟩]⟩,
   /- SIG_SWEEP -/ ⟨0x200004, 1, 0x0, 1, 0x0, 0, [⟨31, 16, .rc, 0x0⟩, ⟨15, 0, .ro, 0x0⟩]⟩,
   /- SIG_COLLIDE -/ ⟨0x200008, 1, 0x0, 1, 0x0, 0, [⟨31, 0, .rc, 0x0⟩]⟩,
   /- SIG_REFUSED -/ ⟨0x20000C, 1, 0x0, 1, 0x0, 0, [⟨31, 28, .ro, 0x0⟩, ⟨23, 0, .rc, 0x0⟩]⟩,
   /- SIG_REFUSED_SLOT -/ ⟨0x200010, 1, 0x0, 1, 0x0, 0, [⟨16, 0, .ro, 0x0⟩]⟩,
   /- SIG_STALE_EVT -/ ⟨0x200014, 1, 0x0, 1, 0x0, 0, [⟨31, 0, .rc, 0x0⟩]⟩,
   /- SIG_MARK -/ ⟨0x200018, 1, 0x0, 1, 0x0, 0, [⟨31, 31, .ro, 0x0⟩, ⟨29, 24, .ro, 0x0⟩, ⟨17, 0, .ro, 0x0⟩]⟩,
   /- SIG_SUBST -/ ⟨0x210000, 8192, 0x4, 1, 0x0, 0, [⟨31, 0, .held, 0x0⟩]⟩,
   /- SIG_AGE -/ ⟨0x220000, 64, 0x4, 1, 0x0, 0, [⟨31, 0, .held, 0x0⟩]⟩]

/-- Register map rows of chapter 03. -/
def regRows03 : List RegRow :=
  [/- ENG_STATUS -/ ⟨0x400000, 8, 0x10000, 1, 0x0, 0, [⟨16, 16, .ro, 0x0⟩, ⟨15, 12, .ro, 0x4⟩, ⟨11, 8, .ro, 0x4⟩, ⟨7, 4, .ro, 0x4⟩, ⟨3, 0, .ro, 0x4⟩]⟩,
   /- ENG_DOORBELL -/ ⟨0x400004, 8, 0x10000, 1, 0x0, 0, [⟨31, 30, .wo, 0x0⟩, ⟨15, 0, .wo, 0x0⟩]⟩,
   /- ENG_EVENTS -/ ⟨0x400008, 8, 0x10000, 1, 0x0, 0, [⟨31, 0, .rc, 0x0⟩]⟩,
   /- ENG_LOAD -/ ⟨0x40000C, 8, 0x10000, 1, 0x0, 0, [⟨9, 0, .ro, 0x0⟩]⟩,
   /- ENG_OVERRUN -/ ⟨0x400010, 8, 0x10000, 1, 0x0, 0, [⟨31, 30, .ro, 0x0⟩, ⟨29, 29, .ro, 0x0⟩, ⟨23, 0, .rc, 0x0⟩]⟩,
   /- ENG_EVQ_DROP -/ ⟨0x400014, 8, 0x10000, 1, 0x0, 0, [⟨31, 30, .ro, 0x0⟩, ⟨29, 27, .ro, 0x0⟩, ⟨23, 0, .rc, 0x0⟩]⟩,
   /- ENG_MERGED -/ ⟨0x400018, 8, 0x10000, 1, 0x0, 0, [⟨31, 0, .rc, 0x0⟩]⟩,
   /- ENG_TRAP -/ ⟨0x40001C, 8, 0x10000, 1, 0x0, 0, [⟨31, 30, .ro, 0x0⟩, ⟨29, 26, .ro, 0x0⟩, ⟨21, 14, .ro, 0x0⟩, ⟨13, 0, .ro, 0x0⟩]⟩,
   /- ENG_TRAP_CNT -/ ⟨0x400020, 8, 0x10000, 1, 0x0, 0, [⟨31, 0, .rc, 0x0⟩]⟩,
   /- ENG_SHORT -/ ⟨0x400024, 8, 0x10000, 1, 0x0, 0, [⟨31, 0, .rc, 0x0⟩]⟩,
   /- ENG_AUTHFAIL -/ ⟨0x400028, 8, 0x10000, 1, 0x0, 0, [⟨31, 23, .ro, 0x0⟩, ⟨22, 22, .ro, 0x0⟩, ⟨21, 0, .rc, 0x0⟩]⟩,
   /- ENG_TXREF -/ ⟨0x40002C, 8, 0x10000, 1, 0x0, 0, [⟨31, 28, .ro, 0x0⟩, ⟨23, 0, .rc, 0x0⟩]⟩,
   /- ENG_INTAKE -/ ⟨0x400030, 8, 0x10000, 1, 0x0, 0, [⟨31, 16, .rc, 0x0⟩, ⟨15, 0, .rc, 0x0⟩]⟩,
   /- ENG_ECC -/ ⟨0x400034, 8, 0x10000, 1, 0x0, 0, [⟨31, 16, .rc, 0x0⟩, ⟨15, 0, .rc, 0x0⟩]⟩,
   /- ENG_FRESH_SEL -/ ⟨0x400040, 8, 0x10000, 1, 0x0, 0, [⟨8, 0, .rw, 0x0⟩]⟩,
   /- ENG_FRESH_LO -/ ⟨0x400044, 8, 0x10000, 1, 0x0, 32, [⟨31, 0, .ro, 0x0⟩]⟩,
   /- ENG_FRESH_HI -/ ⟨0x400048, 8, 0x10000, 1, 0x0, 0, [⟨31, 0, .ro, 0x0⟩]⟩,
   /- ENG_THR_CFG -/ ⟨0x400100, 8, 0x10000, 4, 0x8, 0, [⟨17, 16, .ro, 0x0⟩, ⟨15, 0, .ro, 0x0⟩]⟩,
   /- ENG_THR_TIME -/ ⟨0x400104, 8, 0x10000, 4, 0x8, 0, [⟨28, 16, .ro, 0x0⟩, ⟨13, 0, .ro, 0x0⟩]⟩,
   /- ENG_RATE -/ ⟨0x401000, 8, 0x10000, 256, 0x4, 0, [⟨31, 0, .held, 0x0⟩]⟩,
   /- ENG_ADJ -/ ⟨0x402000, 8, 0x10000, 1024, 0x4, 0, [⟨31, 0, .held, 0x0⟩]⟩]

/-- Register map rows of chapter 04. -/
def regRows04a : List RegRow :=
  [/- TB_FRC_LO -/ ⟨0xE00000, 1, 0x0, 1, 0x0, 32, [⟨31, 0, .ro, 0x0⟩]⟩,
   /- TB_FRC_HI -/ ⟨0xE00004, 1, 0x0, 1, 0x0, 0, [⟨31, 0, .ro, 0x0⟩]⟩,
   /- TB_SNAP -/ ⟨0xE00010, 1, 0x0, 1, 0x0, 0, [⟨0, 0, .wo, 0x0⟩]⟩,
   /- TB_SNAP_FRC_LO -/ ⟨0xE00018, 1, 0x0, 1, 0x0, 32, [⟨31, 0, .ro, 0x0⟩]⟩,
   /- TB_SNAP_FRC_HI -/ ⟨0xE0001C, 1, 0x0, 1, 0x0, 0, [⟨31, 0, .ro, 0x0⟩]⟩,
   /- TB_SNAP_SEC_LO -/ ⟨0xE00020, 3, 0x10, 1, 0x0, 32, [⟨31, 0, .ro, 0x0⟩]⟩,
   /- TB_SNAP_SEC_HI -/ ⟨0xE00024, 3, 0x10, 1, 0x0, 0, [⟨31, 31, .ro, 0x0⟩, ⟨15, 0, .ro, 0x0⟩]⟩,
   /- TB_SNAP_NS -/ ⟨0xE00028, 3, 0x10, 1, 0x0, 0, [⟨31, 0, .ro, 0x0⟩]⟩,
   /- TB_SNAP_FRAC -/ ⟨0xE0002C, 3, 0x10, 1, 0x0, 0, [⟨15, 0, .ro, 0x0⟩]⟩,
   /- TB_TD_STATUS -/ ⟨0xE00100, 2, 0x40, 1, 0x0, 0, [⟨31, 31, .ro, 0x0⟩, ⟨30, 30, .ro, 0x0⟩, ⟨22, 16, .ro, 0x0⟩, ⟨15, 8, .ro, 0x0⟩, ⟨7, 0, .ro, 0x0⟩]⟩,
   /- TB_TD_OFS_SEC_LO -/ ⟨0xE00104, 2, 0x40, 1, 0x0, 16, [⟨31, 0, .rw, 0x0⟩]⟩,
   /- TB_TD_OFS_SEC_HI -/ ⟨0xE00108, 2, 0x40, 1, 0x0, 0, [⟨15, 0, .rw, 0x0⟩]⟩,
   /- TB_TD_OFS_NS -/ ⟨0xE0010C, 2, 0x40, 1, 0x0, 0, [⟨31, 0, .rw, 0x0⟩]⟩,
   /- TB_TD_ANCHOR_LO -/ ⟨0xE00110, 2, 0x40, 1, 0x0, 32, [⟨31, 0, .rw, 0x0⟩]⟩,
   /- TB_TD_ANCHOR_HI -/ ⟨0xE00114, 2, 0x40, 1, 0x0, 0, [⟨31, 0, .rw, 0x0⟩]⟩,
   /- TB_TD_RATE_LO -/ ⟨0xE00118, 2, 0x40, 1, 0x0, 8, [⟨31, 0, .rw, 0x0⟩]⟩,
   /- TB_TD_RATE_HI -/ ⟨0xE0011C, 2, 0x40, 1, 0x0, 0, [⟨7, 0, .rw, 0x0⟩]⟩,
   /- TB_TD_ADJ -/ ⟨0xE00120, 2, 0x40, 1, 0x0, 0, [⟨31, 0, .rw, 0x0⟩]⟩,
   /- TB_TD_CTRL -/ ⟨0xE00124, 2, 0x40, 1, 0x0, 0, [⟨31, 24, .wo, 0x0⟩, ⟨3, 3, .wo, 0x0⟩, ⟨2, 2, .wo, 0x0⟩, ⟨1, 0, .wo, 0x0⟩]⟩,
   /- TB_SYS_CTRL -/ ⟨0xE00200, 1, 0x0, 1, 0x0, 0, [⟨31, 24, .wo, 0x0⟩, ⟨3, 3, .wo, 0x0⟩, ⟨2, 2, .wo, 0x0⟩, ⟨1, 0, .wo, 0x0⟩]⟩,
   /- TB_SYS_STATUS -/ ⟨0xE00204, 1, 0x0, 1, 0x0, 0, [⟨31, 31, .ro, 0x0⟩, ⟨30, 30, .ro, 0x0⟩, ⟨29, 28, .ro, 0x0⟩, ⟨27, 27, .ro, 0x0⟩, ⟨23, 16, .ro, 0x0⟩, ⟨15, 0, .ro, 0x0⟩]⟩,
   /- TB_SYS_SLEW -/ ⟨0xE00208, 1, 0x0, 1, 0x0, 0, [⟨9, 0, .held, 0x0⟩]⟩,
   /- TB_SYS_RESID_LO -/ ⟨0xE0020C, 1, 0x0, 1, 0x0, 8, [⟨31, 0, .ro, 0x0⟩]⟩,
   /- TB_SYS_RESID_HI -/ ⟨0xE00210, 1, 0x0, 1, 0x0, 0, [⟨7, 0, .ro, 0x0⟩]⟩,
   /- TB_TSQ_W0 -/ ⟨0xE00400, 12, 0x20, 1, 0x0, 0, [⟨31, 0, .rc, 0x0⟩]⟩,
   /- TB_TSQ_W1 -/ ⟨0xE00404, 12, 0x20, 1, 0x0, 0, [⟨31, 0, .ro, 0x0⟩]⟩,
   /- TB_TSQ_W2 -/ ⟨0xE00408, 12, 0x20, 1, 0x0, 0, [⟨31, 0, .ro, 0x0⟩]⟩,
   /- TB_TSQ_W3 -/ ⟨0xE0040C, 12, 0x20, 1, 0x0, 0, [⟨31, 0, .ro, 0x0⟩]⟩,
   /- TB_TSQ_STATUS -/ ⟨0xE00410, 12, 0x20, 1, 0x0, 0, [⟨31, 31, .ro, 0x0⟩, ⟨5, 0, .ro, 0x0⟩]⟩,
   /- TB_TSQ_OVF -/ ⟨0xE00414, 12, 0x20, 1, 0x0, 0, [⟨31, 0, .rc, 0x0⟩]⟩,
   /- TB_PPS_CTRL -/ ⟨0xE00600, 4, 0x20, 1, 0x0, 0, [⟨31, 31, .held, 0x0⟩, ⟨2, 1, .ro, 0x0⟩, ⟨0, 0, .ro, 0x0⟩]⟩,
   /- TB_PPS_PERIOD -/ ⟨0xE00604, 4, 0x20, 1, 0x0, 0, [⟨31, 0, .ro, 0x0⟩]⟩,
   /- TB_PPS_PHASE -/ ⟨0xE00608, 4, 0x20, 1, 0x0, 0, [⟨31, 0, .ro, 0x0⟩]⟩,
   /- TB_PPS_WIDTH -/ ⟨0xE0060C, 4, 0x20, 1, 0x0, 0, [⟨31, 0, .ro, 0x0⟩]⟩,
   /- TB_PPS_SKIP -/ ⟨0xE00610, 4, 0x20, 1, 0x0, 0, [⟨31, 0, .rc, 0x0⟩]⟩,
   /- TB_CAP_W0 -/ ⟨0xE00700, 8, 0x20, 1, 0x0, 0, [⟨31, 0, .rc, 0x0⟩]⟩,
   /- TB_CAP_W1 -/ ⟨0xE00704, 8, 0x20, 1, 0x0, 0, [⟨31, 0, .ro, 0x0⟩]⟩,
   /- TB_CAP_W2 -/ ⟨0xE00708, 8, 0x20, 1, 0x0, 0, [⟨31, 0, .ro, 0x0⟩]⟩,
   /- TB_CAP_W3 -/ ⟨0xE0070C, 8, 0x20, 1, 0x0, 0, [⟨31, 0, .ro, 0x0⟩]⟩,
   /- TB_CAP_STATUS -/ ⟨0xE00710, 8, 0x20, 1, 0x0, 0, [⟨3, 0, .ro, 0x0⟩]⟩]

/-- Register map rows of chapter 04. -/
def regRows04b : List RegRow :=
  [/- TB_CAP_OVF -/ ⟨0xE00714, 8, 0x20, 1, 0x0, 0, [⟨31, 0, .rc, 0x0⟩]⟩,
   /- TB_CAL_SEC_LO -/ ⟨0xE00800, 1, 0x0, 1, 0x0, 8, [⟨31, 0, .ro, 0x0⟩]⟩,
   /- TB_CAL_SEC_HI -/ ⟨0xE00804, 1, 0x0, 1, 0x0, 0, [⟨7, 0, .ro, 0x0⟩]⟩,
   /- TB_CAL_SUB -/ ⟨0xE00808, 1, 0x0, 1, 0x0, 0, [⟨14, 0, .ro, 0x0⟩]⟩,
   /- TB_CAL_SET_LO -/ ⟨0xE0080C, 1, 0x0, 1, 0x0, 8, [⟨31, 0, .rw, 0x0⟩]⟩,
   /- TB_CAL_SET_HI -/ ⟨0xE00810, 1, 0x0, 1, 0x0, 0, [⟨7, 0, .rw, 0x0⟩]⟩,
   /- TB_CAL_SET_SUB -/ ⟨0xE00814, 1, 0x0, 1, 0x0, 0, [⟨14, 0, .rw, 0x0⟩]⟩,
   /- TB_CAL_CTRL -/ ⟨0xE00818, 1, 0x0, 1, 0x0, 0, [⟨31, 24, .wo, 0x0⟩, ⟨1, 1, .wo, 0x0⟩, ⟨0, 0, .wo, 0x0⟩]⟩,
   /- TB_CAL_CALIB -/ ⟨0xE0081C, 1, 0x0, 1, 0x0, 0, [⟨9, 0, .rw, 0x0⟩]⟩,
   /- TB_CAL_ALARM_LO -/ ⟨0xE00820, 1, 0x0, 1, 0x0, 9, [⟨31, 0, .rw, 0x0⟩]⟩,
   /- TB_CAL_ALARM_HI -/ ⟨0xE00824, 1, 0x0, 1, 0x0, 0, [⟨8, 8, .rw, 0x0⟩, ⟨7, 0, .rw, 0x0⟩]⟩,
   /- TB_CAL_STATUS -/ ⟨0xE00828, 1, 0x0, 1, 0x0, 0, [⟨31, 31, .ro, 0x0⟩, ⟨30, 30, .w1c, 0x0⟩, ⟨29, 29, .w1c, 0x0⟩, ⟨28, 28, .w1c, 0x0⟩, ⟨15, 0, .ro, 0x0⟩]⟩,
   /- TB_CAL_TAMP_FIRST_LO -/ ⟨0xE00830, 1, 0x0, 1, 0x0, 8, [⟨31, 0, .ro, 0x0⟩]⟩,
   /- TB_CAL_TAMP_FIRST_HI -/ ⟨0xE00834, 1, 0x0, 1, 0x0, 0, [⟨7, 0, .ro, 0x0⟩]⟩,
   /- TB_CAL_TAMP_FIRST_SUB -/ ⟨0xE00838, 1, 0x0, 1, 0x0, 0, [⟨14, 0, .ro, 0x0⟩]⟩,
   /- TB_CAL_TAMP_LAST_LO -/ ⟨0xE00840, 1, 0x0, 1, 0x0, 8, [⟨31, 0, .ro, 0x0⟩]⟩,
   /- TB_CAL_TAMP_LAST_HI -/ ⟨0xE00844, 1, 0x0, 1, 0x0, 0, [⟨7, 0, .ro, 0x0⟩]⟩,
   /- TB_CAL_TAMP_LAST_SUB -/ ⟨0xE00848, 1, 0x0, 1, 0x0, 0, [⟨14, 0, .ro, 0x0⟩]⟩,
   /- TB_CAL_TAMP_INFO -/ ⟨0xE00850, 1, 0x0, 1, 0x0, 0, [⟨31, 16, .ro, 0x0⟩, ⟨7, 0, .ro, 0x0⟩]⟩]

/-- Register map rows of chapter 05. -/
def regRows05 : List RegRow :=
  [/- PH_DOM_STATUS -/ ⟨0xE80000, 4, 0x40, 1, 0x0, 0, [⟨31, 31, .ro, 0x0⟩, ⟨30, 30, .ro, 0x1⟩, ⟨29, 29, .ro, 0x0⟩, ⟨28, 28, .ro, 0x0⟩, ⟨27, 26, .ro, 0x0⟩]⟩,
   /- PH_DOM_PHASE_LO -/ ⟨0xE80004, 4, 0x40, 1, 0x0, 8, [⟨31, 0, .ro, 0x0⟩]⟩,
   /- PH_DOM_PHASE_HI -/ ⟨0xE80008, 4, 0x40, 1, 0x0, 0, [⟨7, 0, .ro, 0x0⟩]⟩,
   /- PH_DOM_VEL -/ ⟨0xE8000C, 4, 0x40, 1, 0x0, 0, [⟨31, 0, .ro, 0x0⟩]⟩,
   /- PH_DOM_EDGE_LO -/ ⟨0xE80010, 4, 0x40, 1, 0x0, 8, [⟨31, 0, .ro, 0x0⟩]⟩,
   /- PH_DOM_EDGE_HI -/ ⟨0xE80014, 4, 0x40, 1, 0x0, 0, [⟨7, 0, .ro, 0x0⟩]⟩,
   /- PH_DOM_ETS_LO -/ ⟨0xE80018, 4, 0x40, 1, 0x0, 32, [⟨31, 0, .ro, 0x0⟩]⟩,
   /- PH_DOM_ETS_HI -/ ⟨0xE8001C, 4, 0x40, 1, 0x0, 0, [⟨31, 0, .ro, 0x0⟩]⟩,
   /- PH_DOM_VMIN -/ ⟨0xE80020, 4, 0x40, 1, 0x0, 0, [⟨30, 0, .held, 0x0⟩]⟩,
   /- PH_DOM_ERRCNT -/ ⟨0xE80024, 4, 0x40, 1, 0x0, 0, [⟨31, 16, .rc, 0x0⟩, ⟨15, 0, .rc, 0x0⟩]⟩,
   /- PH_DOM_PRESET_LO -/ ⟨0xE80028, 4, 0x40, 1, 0x0, 8, [⟨31, 0, .rw, 0x0⟩]⟩,
   /- PH_DOM_PRESET_HI -/ ⟨0xE8002C, 4, 0x40, 1, 0x0, 0, [⟨7, 0, .rw, 0x0⟩]⟩,
   /- PH_DOM_CTRL -/ ⟨0xE80030, 4, 0x40, 1, 0x0, 0, [⟨31, 24, .wo, 0x0⟩, ⟨0, 0, .wo, 0x0⟩]⟩,
   /- PH_LATE -/ ⟨0xE80100, 1, 0x0, 1, 0x0, 0, [⟨31, 22, .ro, 0x0⟩, ⟨21, 0, .rc, 0x0⟩]⟩,
   /- PH_MISSED -/ ⟨0xE80104, 1, 0x0, 1, 0x0, 0, [⟨31, 22, .ro, 0x0⟩, ⟨21, 0, .rc, 0x0⟩]⟩,
   /- PH_SUPPR -/ ⟨0xE80108, 1, 0x0, 1, 0x0, 0, [⟨31, 22, .ro, 0x0⟩, ⟨21, 0, .rc, 0x0⟩]⟩,
   /- PH_ACT_P_LO -/ ⟨0xE88000, 1024, 0x20, 1, 0x0, 8, [⟨31, 0, .held, 0x0⟩]⟩,
   /- PH_ACT_P_HI -/ ⟨0xE88004, 1024, 0x20, 1, 0x0, 0, [⟨7, 0, .held, 0x0⟩]⟩,
   /- PH_ACT_PER_LO -/ ⟨0xE88008, 1024, 0x20, 1, 0x0, 8, [⟨31, 0, .held, 0x0⟩]⟩,
   /- PH_ACT_PER_HI -/ ⟨0xE8800C, 1024, 0x20, 1, 0x0, 0, [⟨7, 0, .held, 0x0⟩]⟩,
   /- PH_ACT_CTRL -/ ⟨0xE88010, 1024, 0x20, 1, 0x0, 0, [⟨31, 31, .held, 0x0⟩, ⟨19, 0, .held, 0x0⟩]⟩,
   /- PH_ACT_SHAPE -/ ⟨0xE88014, 1024, 0x20, 1, 0x0, 0, [⟨31, 30, .ro, 0x0⟩, ⟨29, 28, .ro, 0x0⟩, ⟨27, 24, .ro, 0x0⟩, ⟨15, 0, .ro, 0x0⟩]⟩,
   /- PH_ACT_STATUS -/ ⟨0xE88018, 1024, 0x20, 1, 0x0, 0, [⟨31, 31, .ro, 0x0⟩, ⟨15, 0, .rc, 0x0⟩]⟩,
   /- DIO_IN -/ ⟨0xEC0000, 1, 0x0, 1, 0x0, 0, [⟨31, 0, .ro, 0x0⟩]⟩,
   /- DIO_OUT -/ ⟨0xEC0004, 1, 0x0, 1, 0x0, 0, [⟨31, 0, .rw, 0x0⟩]⟩,
   /- DIO_OUT_SET -/ ⟨0xEC0008, 1, 0x0, 1, 0x0, 0, [⟨31, 0, .w1s, 0x0⟩]⟩,
   /- DIO_OUT_CLR -/ ⟨0xEC000C, 1, 0x0, 1, 0x0, 0, [⟨31, 0, .w1c, 0x0⟩]⟩,
   /- DIO_WAKE_SRC -/ ⟨0xEC0010, 1, 0x0, 1, 0x0, 0, [⟨7, 0, .w1c, 0x0⟩]⟩,
   /- DIO_FORCE_EN -/ ⟨0xEC0014, 1, 0x0, 1, 0x0, 0, [⟨31, 0, .rw, 0x0⟩]⟩,
   /- DIO_FORCE_VAL -/ ⟨0xEC0018, 1, 0x0, 1, 0x0, 0, [⟨31, 0, .rw, 0x0⟩]⟩]

/-- Register map rows of chapter 06. -/
def regRows06 : List RegRow :=
  [/- CAN_STATUS -/ ⟨0x800000, 32, 0x1000, 1, 0x0, 0, [⟨31, 30, .ro, 0x0⟩, ⟨29, 28, .ro, 0x0⟩, ⟨27, 27, .ro, 0x0⟩, ⟨26, 24, .ro, 0x0⟩, ⟨23, 22, .ro, 0x0⟩, ⟨15, 8, .ro, 0x0⟩]⟩,
   /- CAN_CTRL -/ ⟨0x800004, 32, 0x1000, 1, 0x0, 0, [⟨31, 24, .wo, 0x0⟩, ⟨5, 4, .held, 0x0⟩, ⟨0, 0, .held, 0x0⟩]⟩,
   /- CAN_ERRCNT -/ ⟨0x800008, 32, 0x1000, 1, 0x0, 0, [⟨24, 16, .ro, 0x0⟩, ⟨7, 0, .ro, 0x0⟩]⟩,
   /- CAN_BUSOFF -/ ⟨0x80000C, 32, 0x1000, 1, 0x0, 0, [⟨31, 16, .rc, 0x0⟩, ⟨7, 0, .ro, 0x0⟩]⟩,
   /- CAN_RXCNT -/ ⟨0x800010, 32, 0x1000, 1, 0x0, 0, [⟨31, 0, .rc, 0x0⟩]⟩,
   /- CAN_RXDROP -/ ⟨0x800014, 32, 0x1000, 1, 0x0, 0, [⟨31, 16, .ro, 0x0⟩, ⟨15, 0, .rc, 0x0⟩]⟩,
   /- CAN_RXRING -/ ⟨0x800018, 32, 0x1000, 1, 0x0, 0, [⟨31, 16, .rc, 0x0⟩, ⟨15, 0, .ro, 0x0⟩]⟩,
   /- CAN_TXCNT -/ ⟨0x80001C, 32, 0x1000, 1, 0x0, 0, [⟨31, 0, .rc, 0x0⟩]⟩,
   /- CAN_TXREPL -/ ⟨0x800020, 32, 0x1000, 1, 0x0, 0, [⟨31, 0, .rc, 0x0⟩]⟩,
   /- CAN_TXHELD -/ ⟨0x800024, 32, 0x1000, 1, 0x0, 0, [⟨31, 0, .rc, 0x0⟩]⟩,
   /- CAN_ERRDET -/ ⟨0x800028, 32, 0x1000, 1, 0x0, 0, [⟨31, 24, .rc, 0x0⟩, ⟨23, 16, .rc, 0x0⟩, ⟨15, 8, .rc, 0x0⟩, ⟨7, 0, .rc, 0x0⟩]⟩,
   /- CAN_LOMERR -/ ⟨0x80002C, 32, 0x1000, 1, 0x0, 0, [⟨31, 0, .rc, 0x0⟩]⟩,
   /- CAN_NBT -/ ⟨0x800040, 32, 0x1000, 1, 0x0, 0, [⟨31, 0, .ro, 0x0⟩]⟩,
   /- CAN_DBT -/ ⟨0x800044, 32, 0x1000, 1, 0x0, 0, [⟨31, 0, .ro, 0x0⟩]⟩,
   /- CAN_XBT -/ ⟨0x800048, 32, 0x1000, 1, 0x0, 0, [⟨31, 0, .ro, 0x0⟩]⟩,
   /- CAN_PWM -/ ⟨0x80004C, 32, 0x1000, 1, 0x0, 0, [⟨31, 0, .ro, 0x0⟩]⟩,
   /- CAN_CYCLE -/ ⟨0x800050, 32, 0x1000, 1, 0x0, 0, [⟨31, 16, .held, 0x0⟩, ⟨15, 0, .held, 0x0⟩]⟩,
   /- CAN_SCHED -/ ⟨0x800054, 32, 0x1000, 1, 0x0, 0, [⟨31, 26, .ro, 0x0⟩, ⟨25, 20, .ro, 0x3F⟩, ⟨19, 19, .ro, 0x0⟩, ⟨18, 18, .ro, 0x0⟩]⟩,
   /- CAN_SCHED_CNT -/ ⟨0x800058, 32, 0x1000, 1, 0x0, 0, [⟨31, 16, .rc, 0x0⟩, ⟨15, 0, .rc, 0x0⟩]⟩,
   /- CAN_WIN_SEL -/ ⟨0x80005C, 32, 0x1000, 1, 0x0, 0, [⟨23, 16, .ro, 0x0⟩, ⟨11, 6, .rw, 0x0⟩, ⟨4, 0, .rw, 0x0⟩]⟩,
   /- CAN_WIN_DATA -/ ⟨0x800060, 32, 0x1000, 1, 0x0, 0, [⟨31, 16, .held, 0x0⟩, ⟨15, 0, .held, 0x0⟩]⟩,
   /- CAN_WIN_SHAPE -/ ⟨0x800064, 32, 0x1000, 1, 0x0, 0, [⟨31, 30, .ro, 0x0⟩, ⟨29, 24, .ro, 0x0⟩, ⟨23, 18, .ro, 0x0⟩]⟩,
   /- CAN_WAKE_ID -/ ⟨0x800070, 32, 0x1000, 1, 0x0, 0, [⟨31, 31, .held, 0x0⟩, ⟨30, 30, .rw, 0x0⟩, ⟨28, 0, .rw, 0x0⟩]⟩,
   /- CAN_WAKE_MASK -/ ⟨0x800074, 32, 0x1000, 1, 0x0, 0, [⟨28, 0, .rw, 0x0⟩]⟩,
   /- CAN_WAKE_DATA -/ ⟨0x800078, 32, 0x1000, 1, 0x0, 0, [⟨15, 8, .rw, 0x0⟩, ⟨7, 0, .rw, 0x0⟩]⟩,
   /- CAN_WAKE_STAT -/ ⟨0x80007C, 32, 0x1000, 1, 0x0, 0, [⟨31, 31, .w1c, 0x0⟩, ⟨30, 30, .ro, 0x0⟩, ⟨28, 0, .ro, 0x0⟩]⟩,
   /- CAN_INJ_HDR -/ ⟨0x800080, 32, 0x1000, 6, 0x4, 0, [⟨31, 0, .rw, 0x0⟩]⟩,
   /- CAN_INJ_CTRL -/ ⟨0x800098, 32, 0x1000, 1, 0x0, 0, [⟨15, 8, .ro, 0x0⟩, ⟨0, 0, .wo, 0x0⟩]⟩,
   /- CAN_INJ_DATA -/ ⟨0x800800, 32, 0x1000, 512, 0x4, 0, [⟨31, 0, .rw, 0x0⟩]⟩,
   /- CAN_TXB_STAT -/ ⟨0x800400, 32, 0x1000, 64, 0x8, 0, [⟨31, 30, .ro, 0x0⟩, ⟨29, 26, .ro, 0xF⟩, ⟨25, 25, .ro, 0x0⟩, ⟨24, 24, .ro, 0x0⟩, ⟨23, 12, .ro, 0x0⟩, ⟨11, 0, .rc, 0x0⟩]⟩,
   /- CAN_TXB_TS -/ ⟨0x800404, 32, 0x1000, 64, 0x8, 0, [⟨31, 0, .ro, 0x0⟩]⟩]

/-- Register map rows of chapter 07. -/
def regRows07 : List RegRow :=
  [/- ETH_STATUS -/ ⟨0xA00000, 15, 0x1000, 1, 0x0, 0, [⟨31, 31, .ro, 0x0⟩, ⟨30, 30, .ro, 0x0⟩, ⟨29, 29, .ro, 0x0⟩, ⟨28, 26, .ro, 0x7⟩, ⟨25, 23, .ro, 0x0⟩, ⟨15, 8, .ro, 0x0⟩]⟩,
   /- ETH_CFG -/ ⟨0xA00004, 15, 0x1000, 1, 0x0, 0, [⟨31, 18, .held, 0x0⟩, ⟨9, 0, .held, 0x0⟩]⟩,
   /- ETH_AGE -/ ⟨0xA00008, 15, 0x1000, 1, 0x0, 0, [⟨9, 0, .held, 0x0⟩]⟩,
   /- ETH_QFILL -/ ⟨0xA00040, 15, 0x1000, 8, 0x4, 0, [⟨31, 16, .rc, 0x0⟩, ⟨15, 0, .ro, 0x0⟩]⟩,
   /- ETH_USE -/ ⟨0xA00060, 15, 0x1000, 1, 0x0, 0, [⟨31, 16, .rc, 0x0⟩, ⟨15, 0, .ro, 0x0⟩]⟩,
   /- ETH_BUDGET -/ ⟨0xA00064, 15, 0x1000, 1, 0x0, 0, [⟨31, 16, .ro, 0x0⟩, ⟨15, 0, .ro, 0x0⟩]⟩,
   /- ETH_RX_FRAMES -/ ⟨0xA00100, 15, 0x1000, 1, 0x0, 0, [⟨31, 0, .rc, 0x0⟩]⟩,
   /- ETH_RX_OCT_LO -/ ⟨0xA00104, 15, 0x1000, 1, 0x0, 8, [⟨31, 0, .ro, 0x0⟩]⟩,
   /- ETH_RX_OCT_HI -/ ⟨0xA00108, 15, 0x1000, 1, 0x0, 0, [⟨7, 0, .ro, 0x0⟩]⟩,
   /- ETH_TX_FRAMES -/ ⟨0xA0010C, 15, 0x1000, 1, 0x0, 0, [⟨31, 0, .rc, 0x0⟩]⟩,
   /- ETH_TX_OCT_LO -/ ⟨0xA00110, 15, 0x1000, 1, 0x0, 8, [⟨31, 0, .ro, 0x0⟩]⟩,
   /- ETH_TX_OCT_HI -/ ⟨0xA00114, 15, 0x1000, 1, 0x0, 0, [⟨7, 0, .ro, 0x0⟩]⟩,
   /- ETH_RUNT -/ ⟨0xA00118, 15, 0x1000, 1, 0x0, 0, [⟨31, 0, .rc, 0x0⟩]⟩,
   /- ETH_OVERSIZE -/ ⟨0xA0011C, 15, 0x1000, 1, 0x0, 0, [⟨31, 16, .rc, 0x0⟩, ⟨15, 0, .rc, 0x0⟩]⟩,
   /- ETH_FCS -/ ⟨0xA00120, 15, 0x1000, 1, 0x0, 0, [⟨31, 0, .rc, 0x0⟩]⟩,
   /- ETH_MACCTRL -/ ⟨0xA00124, 15, 0x1000, 1, 0x0, 0, [⟨31, 0, .rc, 0x0⟩]⟩,
   /- ETH_VLANDROP -/ ⟨0xA00128, 15, 0x1000, 1, 0x0, 0, [⟨31, 0, .rc, 0x0⟩]⟩,
   /- ETH_CUT -/ ⟨0xA0012C, 15, 0x1000, 1, 0x0, 0, [⟨31, 0, .rc, 0x0⟩]⟩,
   /- ETH_STOMP -/ ⟨0xA00130, 15, 0x1000, 1, 0x0, 0, [⟨31, 0, .rc, 0x0⟩]⟩,
   /- ETH_FLUSH -/ ⟨0xA00134, 15, 0x1000, 1, 0x0, 0, [⟨31, 0, .rc, 0x0⟩]⟩,
   /- ETH_AGED -/ ⟨0xA00138, 15, 0x1000, 1, 0x0, 0, [⟨31, 0, .rc, 0x0⟩]⟩,
   /- ETH_LINKDOWN -/ ⟨0xA0013C, 15, 0x1000, 1, 0x0, 0, [⟨31, 16, .rc, 0x0⟩, ⟨15, 0, .rc, 0x0⟩]⟩,
   /- ETH_DROP -/ ⟨0xA00180, 15, 0x1000, 8, 0x4, 0, [⟨31, 0, .rc, 0x0⟩]⟩,
   /- ETH_EVICT -/ ⟨0xA001A0, 15, 0x1000, 8, 0x4, 0, [⟨31, 0, .rc, 0x0⟩]⟩,
   /- SW_FREE -/ ⟨0xB00000, 1, 0x0, 1, 0x0, 0, [⟨31, 16, .rc, 0x0⟩, ⟨15, 0, .ro, 0x0⟩]⟩,
   /- SW_HEADROOM -/ ⟨0xB00004, 1, 0x0, 1, 0x0, 0, [⟨15, 0, .ro, 0x0⟩]⟩,
   /- SW_PLANE -/ ⟨0xB00010, 4, 0x4, 1, 0x0, 0, [⟨31, 0, .rc, 0x0⟩]⟩,
   /- SW_FDB -/ ⟨0xB00020, 1, 0x0, 1, 0x0, 0, [⟨31, 16, .ro, 0x0⟩, ⟨15, 0, .rc, 0x0⟩]⟩,
   /- SW_AGING -/ ⟨0xB00024, 1, 0x0, 1, 0x0, 0, [⟨11, 0, .held, 0x0⟩]⟩,
   /- SW_WAKE_EN -/ ⟨0xB00030, 1, 0x0, 1, 0x0, 0, [⟨15, 0, .held, 0x0⟩]⟩,
   /- SW_WAKE_SRC -/ ⟨0xB00034, 1, 0x0, 1, 0x0, 0, [⟨31, 31, .w1c, 0x0⟩, ⟨11, 8, .ro, 0x0⟩, ⟨3, 0, .ro, 0x0⟩]⟩,
   /- SW_MDIO_CMD -/ ⟨0xB00040, 2, 0x8, 1, 0x0, 0, [⟨31, 31, .w1s, 0x0⟩, ⟨30, 30, .rw, 0x0⟩, ⟨29, 28, .rw, 0x0⟩, ⟨27, 26, .rw, 0x0⟩, ⟨25, 21, .rw, 0x0⟩, ⟨20, 16, .rw, 0x0⟩, ⟨15, 8, .ro, 0x0⟩, ⟨7, 7, .w1c, 0x0⟩]⟩,
   /- SW_MDIO_DATA -/ ⟨0xB00044, 2, 0x8, 1, 0x0, 0, [⟨15, 0, .rw, 0x0⟩]⟩]

/-- Register map rows of chapter 08. -/
def regRows08 : List RegRow :=
  [/- RING_STATUS -/ ⟨0xC00000, 1, 0x0, 1, 0x0, 0, [⟨31, 31, .ro, 0x0⟩, ⟨30, 30, .ro, 0x0⟩, ⟨29, 29, .ro, 0x0⟩, ⟨23, 18, .ro, 0x0⟩, ⟨17, 12, .ro, 0x0⟩, ⟨11, 6, .ro, 0x0⟩, ⟨5, 0, .ro, 0x0⟩]⟩,
   /- RING_CYCLE -/ ⟨0xC00004, 1, 0x0, 1, 0x0, 0, [⟨31, 0, .ro, 0x0⟩]⟩,
   /- RING_CAPS -/ ⟨0xC00008, 1, 0x0, 1, 0x0, 0, [⟨3, 0, .ro, 0xE⟩]⟩,
   /- RING_JOIN -/ ⟨0xC0000C, 1, 0x0, 1, 0x0, 0, [⟨31, 26, .ro, 0x0⟩, ⟨23, 16, .ro, 0x0⟩, ⟨15, 12, .ro, 0x0⟩, ⟨11, 0, .rc, 0x0⟩]⟩,
   /- RING_NOTMEMBER -/ ⟨0xC00010, 1, 0x0, 1, 0x0, 0, [⟨31, 0, .rc, 0x0⟩]⟩,
   /- RING_MALFORMED -/ ⟨0xC00014, 1, 0x0, 1, 0x0, 0, [⟨31, 0, .rc, 0x0⟩]⟩,
   /- RING_LANEA -/ ⟨0xC00018, 1, 0x0, 1, 0x0, 0, [⟨31, 24, .rc, 0x0⟩, ⟨23, 16, .rc, 0x0⟩, ⟨15, 0, .rc, 0x0⟩]⟩,
   /- RING_LANEB -/ ⟨0xC0001C, 1, 0x0, 1, 0x0, 0, [⟨31, 24, .rc, 0x0⟩, ⟨23, 16, .rc, 0x0⟩, ⟨15, 0, .rc, 0x0⟩]⟩,
   /- RING_TUNNEL -/ ⟨0xC00020, 1, 0x0, 1, 0x0, 0, [⟨31, 16, .rc, 0x0⟩, ⟨15, 0, .rc, 0x0⟩]⟩,
   /- RING_EXPORT -/ ⟨0xC00024, 1, 0x0, 1, 0x0, 0, [⟨9, 0, .held, 0x0⟩]⟩,
   /- RING_QUAR_CLR -/ ⟨0xC00028, 1, 0x0, 1, 0x0, 0, [⟨31, 24, .wo, 0x0⟩, ⟨5, 0, .wo, 0x0⟩]⟩,
   /- RING_READS -/ ⟨0xC0002C, 1, 0x0, 1, 0x0, 0, [⟨31, 16, .rc, 0x0⟩, ⟨8, 0, .ro, 0x0⟩]⟩,
   /- RING_NODE_STAT -/ ⟨0xC01040, 62, 0x40, 1, 0x0, 0, [⟨31, 30, .ro, 0x0⟩, ⟨29, 28, .ro, 0x0⟩, ⟨27, 26, .ro, 0x0⟩, ⟨25, 20, .ro, 0x0⟩, ⟨19, 18, .ro, 0x0⟩, ⟨15, 0, .ro, 0x0⟩]⟩,
   /- RING_NODE_DELAY_A -/ ⟨0xC01044, 62, 0x40, 1, 0x0, 0, [⟨31, 0, .ro, 0xFFFFFFFF⟩]⟩,
   /- RING_NODE_DELAY_B -/ ⟨0xC01048, 62, 0x40, 1, 0x0, 0, [⟨31, 0, .ro, 0xFFFFFFFF⟩]⟩,
   /- RING_NODE_LAT -/ ⟨0xC0104C, 62, 0x40, 1, 0x0, 0, [⟨6, 0, .ro, 0x50⟩]⟩,
   /- RING_NODE_RX -/ ⟨0xC01050, 62, 0x40, 1, 0x0, 0, [⟨31, 16, .rc, 0x0⟩, ⟨15, 0, .rc, 0x0⟩]⟩,
   /- RING_NODE_DUP -/ ⟨0xC01054, 62, 0x40, 1, 0x0, 0, [⟨31, 16, .rc, 0x0⟩, ⟨15, 0, .rc, 0x0⟩]⟩,
   /- RING_NODE_ERR -/ ⟨0xC01058, 62, 0x40, 1, 0x0, 0, [⟨31, 20, .rc, 0x0⟩, ⟨19, 8, .rc, 0x0⟩, ⟨7, 0, .rc, 0x0⟩]⟩,
   /- RING_NODE_TXN -/ ⟨0xC0105C, 62, 0x40, 1, 0x0, 0, [⟨31, 20, .rc, 0x0⟩, ⟨19, 8, .rc, 0x0⟩, ⟨6, 0, .ro, 0x0⟩]⟩,
   /- RING_NODE_EXP -/ ⟨0xC01060, 62, 0x40, 1, 0x0, 0, [⟨31, 16, .rc, 0x0⟩, ⟨15, 0, .rc, 0x0⟩]⟩,
   /- RING_NODE_LIMIT -/ ⟨0xC01064, 62, 0x40, 1, 0x0, 0, [⟨31, 16, .held, 0x0⟩, ⟨15, 0, .held, 0x0⟩]⟩,
   /- RING_NODE_RD_TMO -/ ⟨0xC01068, 62, 0x40, 1, 0x0, 0, [⟨16, 0, .held, 0x0⟩]⟩,
   /- RING_NODE_NODEERR -/ ⟨0xC0106C, 62, 0x40, 1, 0x0, 0, [⟨31, 16, .ro, 0x0⟩, ⟨15, 0, .ro, 0x0⟩]⟩,
   /- RING_NODE_BATCH -/ ⟨0xC01070, 62, 0x40, 1, 0x0, 0, [⟨31, 0, .rc, 0x0⟩]⟩]

/-- Register map rows of chapter 09. -/
def regRows09a : List RegRow :=
  [/- HQ_CTRL -/ ⟨0xD00000, 64, 0x100, 1, 0x0, 0, [⟨0, 0, .rw, 0x0⟩]⟩,
   /- HQ_STATUS -/ ⟨0xD00004, 64, 0x100, 1, 0x0, 0, [⟨31, 31, .ro, 0x0⟩, ⟨30, 30, .ro, 0x0⟩, ⟨29, 27, .ro, 0x0⟩, ⟨23, 16, .ro, 0x0⟩, ⟨15, 8, .ro, 0x0⟩]⟩,
   /- HQ_VER -/ ⟨0xD00008, 64, 0x100, 1, 0x0, 0, [⟨19, 16, .ro, 0x0⟩, ⟨15, 8, .ro, 0x0⟩, ⟨7, 4, .ro, 0x0⟩, ⟨3, 0, .rw, 0x0⟩]⟩,
   /- HQ_D2H_BASE_LO -/ ⟨0xD00010, 64, 0x100, 1, 0x0, 33, [⟨31, 0, .rw, 0x0⟩]⟩,
   /- HQ_D2H_BASE_HI -/ ⟨0xD00014, 64, 0x100, 1, 0x0, 0, [⟨31, 0, .rw, 0x0⟩]⟩,
   /- HQ_D2H_SIZE -/ ⟨0xD00018, 64, 0x100, 1, 0x0, 0, [⟨4, 0, .rw, 0x0⟩]⟩,
   /- HQ_H2D_BASE_LO -/ ⟨0xD00020, 64, 0x100, 1, 0x0, 33, [⟨31, 0, .rw, 0x0⟩]⟩,
   /- HQ_H2D_BASE_HI -/ ⟨0xD00024, 64, 0x100, 1, 0x0, 0, [⟨31, 0, .rw, 0x0⟩]⟩,
   /- HQ_H2D_SIZE -/ ⟨0xD00028, 64, 0x100, 1, 0x0, 0, [⟨4, 0, .rw, 0x0⟩]⟩,
   /- HQ_WB_LO -/ ⟨0xD00030, 64, 0x100, 1, 0x0, 33, [⟨31, 0, .rw, 0x0⟩]⟩,
   /- HQ_WB_HI -/ ⟨0xD00034, 64, 0x100, 1, 0x0, 0, [⟨31, 0, .rw, 0x0⟩]⟩,
   /- HQ_D2H_CONS -/ ⟨0xD00040, 64, 0x100, 1, 0x0, 0, [⟨31, 0, .rw, 0x0⟩]⟩,
   /- HQ_D2H_FILL -/ ⟨0xD00044, 64, 0x100, 1, 0x0, 0, [⟨31, 0, .ro, 0x0⟩]⟩,
   /- HQ_D2H_PROD -/ ⟨0xD00048, 64, 0x100, 1, 0x0, 0, [⟨31, 0, .ro, 0x0⟩]⟩,
   /- HQ_H2D_PROD -/ ⟨0xD00050, 64, 0x100, 1, 0x0, 0, [⟨31, 0, .rw, 0x0⟩]⟩,
   /- HQ_H2D_CONS -/ ⟨0xD00054, 64, 0x100, 1, 0x0, 0, [⟨31, 0, .ro, 0x0⟩]⟩,
   /- HQ_CMD_ARG -/ ⟨0xD00060, 64, 0x100, 1, 0x0, 0, [⟨31, 0, .rw, 0x0⟩]⟩,
   /- HQ_CMD -/ ⟨0xD00064, 64, 0x100, 1, 0x0, 0, [⟨3, 0, .wo, 0x0⟩]⟩,
   /- HQ_WM -/ ⟨0xD00068, 64, 0x100, 1, 0x0, 0, [⟨24, 0, .held, 0x0⟩]⟩,
   /- HQ_PEAK -/ ⟨0xD0006C, 64, 0x100, 1, 0x0, 0, [⟨24, 0, .rc, 0x0⟩]⟩,
   /- HQ_IRQ -/ ⟨0xD00070, 64, 0x100, 1, 0x0, 0, [⟨25, 16, .held, 0x0⟩, ⟨2, 2, .held, 0x0⟩, ⟨1, 1, .held, 0x0⟩, ⟨0, 0, .held, 0x0⟩]⟩,
   /- HQ_RECORDS -/ ⟨0xD00080, 64, 0x100, 1, 0x0, 0, [⟨31, 0, .rc, 0x0⟩]⟩,
   /- HQ_DROPPED -/ ⟨0xD00084, 64, 0x100, 1, 0x0, 0, [⟨31, 0, .rc, 0x0⟩]⟩,
   /- HQ_LENREF -/ ⟨0xD00088, 64, 0x100, 1, 0x0, 0, [⟨31, 0, .rc, 0x0⟩]⟩,
   /- HQ_LOST -/ ⟨0xD0008C, 64, 0x100, 1, 0x0, 0, [⟨31, 0, .rc, 0x0⟩]⟩,
   /- HQ_REWIND -/ ⟨0xD00090, 64, 0x100, 1, 0x0, 0, [⟨31, 0, .rc, 0x0⟩]⟩,
   /- HQ_AUTHZERO -/ ⟨0xD00094, 64, 0x100, 1, 0x0, 0, [⟨31, 0, .rc, 0x0⟩]⟩,
   /- HQ_TXDESC -/ ⟨0xD00098, 64, 0x100, 1, 0x0, 0, [⟨31, 0, .rc, 0x0⟩]⟩,
   /- HQ_TXREF -/ ⟨0xD0009C, 64, 0x100, 1, 0x0, 0, [⟨31, 0, .rc, 0x0⟩]⟩,
   /- BRG_PAGE -/ ⟨0xD40000, 4, 0x4, 1, 0x0, 0, [⟨9, 4, .rw, 0x0⟩, ⟨3, 0, .rw, 0x0⟩]⟩,
   /- BRG_STATUS -/ ⟨0xD40010, 1, 0x0, 1, 0x0, 0, [⟨31, 31, .ro, 0x0⟩, ⟨30, 30, .ro, 0x0⟩, ⟨29, 27, .ro, 0x0⟩, ⟨26, 24, .ro, 0x0⟩, ⟨6, 0, .ro, 0x0⟩]⟩,
   /- BRG_LOG_W0 -/ ⟨0xD40020, 1, 0x0, 1, 0x0, 0, [⟨31, 31, .rc, 0x0⟩, ⟨30, 30, .rc, 0x0⟩, ⟨29, 29, .rc, 0x0⟩, ⟨28, 27, .rc, 0x0⟩, ⟨23, 16, .rc, 0x0⟩, ⟨15, 0, .rc, 0x0⟩]⟩,
   /- BRG_LOG_W1 -/ ⟨0xD40024, 1, 0x0, 1, 0x0, 0, [⟨31, 0, .ro, 0x0⟩]⟩,
   /- BRG_LOG_W2 -/ ⟨0xD40028, 1, 0x0, 1, 0x0, 0, [⟨31, 16, .ro, 0x0⟩, ⟨7, 0, .ro, 0x0⟩]⟩,
   /- BRG_LOG_OVF -/ ⟨0xD4002C, 1, 0x0, 1, 0x0, 0, [⟨31, 0, .rc, 0x0⟩]⟩,
   /- BRG_RESETS -/ ⟨0xD40030, 1, 0x0, 1, 0x0, 0, [⟨31, 16, .rc, 0x0⟩, ⟨15, 0, .rc, 0x0⟩]⟩,
   /- BRG_NOQ -/ ⟨0xD40034, 1, 0x0, 1, 0x0, 0, [⟨31, 0, .rc, 0x0⟩]⟩,
   /- HQ_WM_HIT_LO -/ ⟨0xD40040, 1, 0x0, 1, 0x0, 33, [⟨31, 0, .w1c, 0x0⟩]⟩,
   /- HQ_WM_HIT_HI -/ ⟨0xD40044, 1, 0x0, 1, 0x0, 0, [⟨31, 0, .w1c, 0x0⟩]⟩,
   /- MSIX_ADDR_LO -/ ⟨0xD80000, 128, 0x10, 1, 0x0, 33, [⟨31, 2, .rw, 0x0⟩]⟩]

/-- Register map rows of chapter 09. -/
def regRows09b : List RegRow :=
  [/- MSIX_ADDR_HI -/ ⟨0xD80004, 128, 0x10, 1, 0x0, 0, [⟨31, 0, .rw, 0x0⟩]⟩,
   /- MSIX_DATA -/ ⟨0xD80008, 128, 0x10, 1, 0x0, 0, [⟨31, 0, .rw, 0x0⟩]⟩,
   /- MSIX_CTRL -/ ⟨0xD8000C, 128, 0x10, 1, 0x0, 0, [⟨0, 0, .rw, 0x1⟩]⟩,
   /- MSIX_PBA -/ ⟨0xD81000, 4, 0x4, 1, 0x0, 0, [⟨31, 0, .ro, 0x0⟩]⟩]

/-- Register map rows of chapter 10. -/
def regRows10 : List RegRow :=
  [/- LS_CH_CMD -/ ⟨0xF00000, 24, 0x40, 1, 0x0, 0, [⟨4, 4, .held, 0x0⟩, ⟨3, 3, .rw, 0x0⟩, ⟨2, 2, .rw, 0x0⟩, ⟨0, 0, .rw, 0x0⟩]⟩,
   /- LS_CH_PWM -/ ⟨0xF00004, 24, 0x40, 1, 0x0, 0, [⟨26, 16, .rw, 0x0⟩, ⟨9, 0, .rw, 0x0⟩]⟩,
   /- LS_CH_THR -/ ⟨0xF00008, 24, 0x40, 1, 0x0, 0, [⟨27, 16, .held, 0x0⟩, ⟨11, 0, .held, 0x0⟩]⟩,
   /- LS_CH_INR -/ ⟨0xF0000C, 24, 0x40, 1, 0x0, 0, [⟨7, 0, .held, 0x0⟩]⟩,
   /- LS_CH_VREF -/ ⟨0xF00010, 24, 0x40, 1, 0x0, 0, [⟨11, 0, .held, 0x0⟩]⟩,
   /- LS_CH_CTRL -/ ⟨0xF00014, 24, 0x40, 1, 0x0, 0, [⟨31, 24, .wo, 0x0⟩, ⟨0, 0, .wo, 0x0⟩]⟩,
   /- LS_CH_STATUS -/ ⟨0xF00018, 24, 0x40, 1, 0x0, 0, [⟨31, 30, .ro, 0x0⟩, ⟨29, 28, .ro, 0x0⟩, ⟨27, 27, .ro, 0x0⟩, ⟨26, 26, .ro, 0x0⟩, ⟨25, 25, .ro, 0x0⟩, ⟨24, 24, .ro, 0x0⟩, ⟨23, 21, .ro, 0x0⟩, ⟨20, 20, .ro, 0x0⟩, ⟨17, 10, .ro, 0x0⟩, ⟨9, 0, .ro, 0x0⟩]⟩,
   /- LS_CH_SENSE -/ ⟨0xF0001C, 24, 0x40, 1, 0x0, 0, [⟨27, 16, .ro, 0x0⟩, ⟨11, 0, .ro, 0x0⟩]⟩,
   /- LS_CH_TEMP -/ ⟨0xF00020, 24, 0x40, 1, 0x0, 0, [⟨24, 16, .rc, 0x0⟩, ⟨8, 0, .ro, 0x0⟩]⟩,
   /- LS_CH_TRIPS -/ ⟨0xF00024, 24, 0x40, 1, 0x0, 0, [⟨31, 24, .rc, 0x0⟩, ⟨23, 16, .rc, 0x0⟩, ⟨15, 8, .rc, 0x0⟩, ⟨7, 0, .rc, 0x0⟩]⟩,
   /- LS_STATUS -/ ⟨0xF80000, 1, 0x0, 1, 0x0, 0, [⟨31, 31, .ro, 0x0⟩, ⟨30, 30, .ro, 0x0⟩, ⟨29, 29, .ro, 0x0⟩, ⟨28, 28, .ro, 0x0⟩, ⟨27, 27, .ro, 0x0⟩, ⟨25, 24, .ro, 0x0⟩, ⟨23, 16, .ro, 0x0⟩, ⟨15, 13, .ro, 0x0⟩, ⟨12, 12, .ro, 0x0⟩]⟩,
   /- LS_VBAT -/ ⟨0xF80004, 1, 0x0, 1, 0x0, 0, [⟨28, 16, .rc, 0x1FFF⟩, ⟨12, 0, .ro, 0x0⟩]⟩,
   /- LS_TOTAL -/ ⟨0xF80008, 1, 0x0, 1, 0x0, 0, [⟨31, 16, .ro, 0x0⟩, ⟨15, 0, .ro, 0x0⟩]⟩,
   /- LS_DIAG_PERIOD -/ ⟨0xF8000C, 1, 0x0, 1, 0x0, 0, [⟨9, 0, .held, 0x0⟩]⟩,
   /- LS_TWARN -/ ⟨0xF80010, 1, 0x0, 1, 0x0, 0, [⟨7, 0, .held, 0x0⟩]⟩,
   /- LS_SUPPLY -/ ⟨0xF80014, 1, 0x0, 1, 0x0, 0, [⟨31, 16, .rc, 0x0⟩, ⟨15, 0, .rc, 0x0⟩]⟩,
   /- LS_LINK -/ ⟨0xF80018, 2, 0x4, 1, 0x0, 0, [⟨31, 24, .rc, 0x0⟩, ⟨23, 16, .rc, 0x0⟩, ⟨15, 8, .rc, 0x0⟩, ⟨7, 0, .rc, 0x0⟩]⟩,
   /- LS_OTP_GLOBAL -/ ⟨0xFC0000, 2, 0x40, 1, 0x0, 0, [⟨31, 0, .ro, 0x0⟩]⟩,
   /- LS_OTP_CH -/ ⟨0xFC0004, 2, 0x40, 12, 0x4, 0, [⟨31, 0, .ro, 0x0⟩]⟩]

/-- Register map rows of chapter 11. -/
def regRows11a : List RegRow :=
  [/- KS_STATUS -/ ⟨0x1000000, 1, 0x0, 1, 0x0, 0, [⟨31, 31, .w1c, 0x0⟩, ⟨30, 30, .ro, 0x0⟩, ⟨23, 16, .ro, 0x0⟩, ⟨15, 9, .rc, 0x0⟩, ⟨8, 0, .ro, 0x0⟩]⟩,
   /- KS_REMASK -/ ⟨0x1000004, 1, 0x0, 1, 0x0, 0, [⟨31, 16, .rc, 0x0⟩, ⟨9, 0, .held, 0x0⟩]⟩,
   /- KS_CMD -/ ⟨0x1000008, 1, 0x0, 1, 0x0, 0, [⟨31, 24, .wo, 0x0⟩, ⟨9, 8, .wo, 0x0⟩, ⟨7, 0, .wo, 0x0⟩]⟩,
   /- KS_TAMPER -/ ⟨0x1000010, 1, 0x0, 1, 0x0, 0, [⟨31, 16, .rc, 0x0⟩, ⟨7, 0, .ro, 0x0⟩]⟩,
   /- KS_TAMPCFG -/ ⟨0x1000014, 1, 0x0, 1, 0x0, 0, [⟨31, 24, .ro, 0x0⟩, ⟨11, 8, .ro, 0x0⟩, ⟨7, 0, .ro, 0x0⟩]⟩,
   /- KS_DRBG -/ ⟨0x1000018, 1, 0x0, 1, 0x0, 0, [⟨31, 16, .rc, 0x0⟩, ⟨15, 0, .rc, 0x0⟩]⟩,
   /- KS_ATTR -/ ⟨0x1001000, 256, 0x4, 1, 0x0, 0, [⟨31, 0, .ro, 0x0⟩]⟩,
   /- CPH_JD -/ ⟨0x1010000, 16, 0x4, 1, 0x0, 0, [⟨31, 0, .rw, 0x0⟩]⟩,
   /- CPH_SUBMIT -/ ⟨0x1010040, 1, 0x0, 1, 0x0, 0, [⟨0, 0, .wo, 0x0⟩]⟩,
   /- CPH_STATUS -/ ⟨0x1010044, 1, 0x0, 1, 0x0, 0, [⟨20, 16, .ro, 0x10⟩, ⟨15, 8, .ro, 0x0⟩]⟩,
   /- CPH_DONE_W0 -/ ⟨0x1010050, 1, 0x0, 1, 0x0, 0, [⟨31, 0, .rc, 0x0⟩]⟩,
   /- CPH_DONE_W -/ ⟨0x1010054, 5, 0x4, 1, 0x0, 0, [⟨31, 0, .ro, 0x0⟩]⟩,
   /- CPH_DONE_OVF -/ ⟨0x1010068, 1, 0x0, 1, 0x0, 0, [⟨31, 0, .rc, 0x0⟩]⟩,
   /- CPH_AUTHFAIL -/ ⟨0x101006C, 1, 0x0, 1, 0x0, 0, [⟨31, 0, .rc, 0x0⟩]⟩,
   /- CPH_LOAD -/ ⟨0x1010070, 1, 0x0, 1, 0x0, 0, [⟨25, 16, .ro, 0x0⟩, ⟨9, 0, .ro, 0x0⟩]⟩,
   /- PQ_STATUS -/ ⟨0x1020000, 1, 0x0, 1, 0x0, 0, [⟨31, 31, .ro, 0x0⟩, ⟨15, 8, .ro, 0x0⟩]⟩,
   /- PQ_SIGNS -/ ⟨0x1020004, 1, 0x0, 1, 0x0, 0, [⟨31, 0, .rc, 0x0⟩]⟩,
   /- PQ_ITER -/ ⟨0x1020008, 1, 0x0, 1, 0x0, 0, [⟨9, 0, .ro, 0x0⟩]⟩,
   /- PQ_CERT_LEN -/ ⟨0x102000C, 1, 0x0, 1, 0x0, 0, [⟨16, 0, .ro, 0x0⟩]⟩,
   /- PQ_DEVICE_ID -/ ⟨0x1020010, 4, 0x4, 1, 0x0, 0, [⟨31, 0, .ro, 0x0⟩]⟩,
   /- REC_STATUS -/ ⟨0x1030000, 1, 0x0, 1, 0x0, 0, [⟨31, 31, .ro, 0x0⟩, ⟨30, 30, .ro, 0x0⟩, ⟨29, 29, .ro, 0x0⟩, ⟨28, 28, .ro, 0x0⟩, ⟨26, 16, .ro, 0x0⟩, ⟨15, 8, .ro, 0x0⟩, ⟨6, 0, .ro, 0x0⟩]⟩,
   /- REC_NEXT_LO -/ ⟨0x1030008, 1, 0x0, 1, 0x0, 32, [⟨31, 0, .ro, 0x0⟩]⟩,
   /- REC_NEXT_HI -/ ⟨0x103000C, 1, 0x0, 1, 0x0, 0, [⟨31, 0, .ro, 0x0⟩]⟩,
   /- REC_CKPT_LO -/ ⟨0x1030010, 1, 0x0, 1, 0x0, 32, [⟨31, 0, .ro, 0x0⟩]⟩,
   /- REC_CKPT_HI -/ ⟨0x1030014, 1, 0x0, 1, 0x0, 0, [⟨31, 0, .ro, 0x0⟩]⟩,
   /- REC_ACKED_LO -/ ⟨0x1030018, 1, 0x0, 1, 0x0, 32, [⟨31, 0, .ro, 0x0⟩]⟩,
   /- REC_ACKED_HI -/ ⟨0x103001C, 1, 0x0, 1, 0x0, 0, [⟨31, 0, .ro, 0x0⟩]⟩,
   /- REC_OLDEST_LO -/ ⟨0x1030020, 1, 0x0, 1, 0x0, 32, [⟨31, 0, .ro, 0x0⟩]⟩,
   /- REC_OLDEST_HI -/ ⟨0x1030024, 1, 0x0, 1, 0x0, 0, [⟨31, 0, .ro, 0x0⟩]⟩,
   /- REC_CTRL -/ ⟨0x1030028, 1, 0x0, 1, 0x0, 0, [⟨31, 24, .wo, 0x0⟩, ⟨2, 2, .wo, 0x0⟩, ⟨1, 1, .wo, 0x0⟩, ⟨0, 0, .wo, 0x0⟩]⟩,
   /- REC_APPEND_HDR -/ ⟨0x103002C, 1, 0x0, 1, 0x0, 0, [⟨31, 16, .rw, 0x0⟩, ⟨5, 0, .rw, 0x0⟩]⟩,
   /- REC_APPEND_D -/ ⟨0x1030030, 8, 0x4, 1, 0x0, 0, [⟨31, 0, .rw, 0x0⟩]⟩,
   /- REC_REFUSED -/ ⟨0x1030050, 1, 0x0, 1, 0x0, 0, [⟨31, 16, .rc, 0x0⟩, ⟨15, 0, .rc, 0x0⟩]⟩,
   /- REC_ACK_SEQ_LO -/ ⟨0x1030058, 1, 0x0, 1, 0x0, 32, [⟨31, 0, .rw, 0x0⟩]⟩,
   /- REC_ACK_SEQ_HI -/ ⟨0x103005C, 1, 0x0, 1, 0x0, 0, [⟨31, 0, .rw, 0x0⟩]⟩,
   /- REC_ACK_NONCE -/ ⟨0x1030060, 8, 0x4, 1, 0x0, 0, [⟨31, 0, .ro, 0x0⟩]⟩,
   /- REC_EXP_SSEQ_LO -/ ⟨0x1030080, 1, 0x0, 1, 0x0, 32, [⟨31, 0, .rw, 0x0⟩]⟩,
   /- REC_EXP_SSEQ_HI -/ ⟨0x1030084, 1, 0x0, 1, 0x0, 0, [⟨31, 0, .rw, 0x0⟩]⟩,
   /- REC_EXP_STATUS -/ ⟨0x1030088, 1, 0x0, 1, 0x0, 0, [⟨31, 31, .ro, 0x0⟩, ⟨15, 8, .ro, 0x0⟩]⟩,
   /- REC_EXP_CUR_LO -/ ⟨0x10300A0, 1, 0x0, 1, 0x0, 32, [⟨31, 0, .ro, 0x0⟩]⟩]

/-- Register map rows of chapter 11. -/
def regRows11b : List RegRow :=
  [/- REC_EXP_CUR_HI -/ ⟨0x10300A4, 1, 0x0, 1, 0x0, 0, [⟨31, 0, .ro, 0x0⟩]⟩]

/-- Register map rows of chapter 12. -/
def regRows12 : List RegRow :=
  [/- FLT_STATUS -/ ⟨0x1100000, 1, 0x0, 1, 0x0, 0, [⟨31, 31, .ro, 0x0⟩, ⟨30, 28, .ro, 0x0⟩, ⟨27, 27, .ro, 0x0⟩, ⟨26, 26, .ro, 0x0⟩, ⟨25, 16, .ro, 0x0⟩, ⟨15, 8, .ro, 0x0⟩, ⟨7, 0, .rc, 0x0⟩]⟩,
   /- FLT_CTRL -/ ⟨0x1100004, 1, 0x0, 1, 0x0, 0, [⟨31, 24, .wo, 0x0⟩, ⟨4, 2, .wo, 0x0⟩, ⟨1, 1, .wo, 0x0⟩, ⟨0, 0, .wo, 0x0⟩]⟩,
   /- FLT_ERR_HOLD -/ ⟨0x1100008, 1, 0x0, 1, 0x0, 0, [⟨0, 0, .rw, 0x0⟩]⟩,
   /- FLT_ERRMIN -/ ⟨0x110000C, 1, 0x0, 1, 0x0, 0, [⟨7, 0, .held, 0x0⟩]⟩,
   /- FLT_HOLD_LO -/ ⟨0x1100010, 1, 0x0, 1, 0x0, 33, [⟨31, 0, .w1c, 0x0⟩]⟩,
   /- FLT_HOLD_HI -/ ⟨0x1100014, 1, 0x0, 1, 0x0, 0, [⟨14, 0, .w1c, 0x0⟩]⟩,
   /- FLT_INJ -/ ⟨0x1100020, 1, 0x0, 1, 0x0, 0, [⟨31, 24, .wo, 0x0⟩, ⟨16, 8, .wo, 0x0⟩, ⟨7, 0, .wo, 0x0⟩]⟩,
   /- FLT_INJ_COUNTS -/ ⟨0x1100024, 1, 0x0, 1, 0x0, 0, [⟨0, 0, .rw, 0x0⟩]⟩,
   /- FLT_SEVERE -/ ⟨0x1100040, 16, 0x4, 1, 0x0, 0, [⟨31, 0, .w1c, 0x0⟩]⟩,
   /- FLT_XGRP -/ ⟨0x1100100, 16, 0x4, 1, 0x0, 0, [⟨31, 16, .rc, 0x0⟩, ⟨15, 0, .rc, 0x0⟩]⟩,
   /- FLT_SRC_LIMIT -/ ⟨0x1110000, 512, 0x20, 1, 0x0, 0, [⟨31, 16, .held, 0x0⟩, ⟨15, 0, .held, 0x0⟩]⟩,
   /- FLT_SRC_ARM -/ ⟨0x1110004, 512, 0x20, 1, 0x0, 0, [⟨31, 31, .ro, 0x0⟩, ⟨30, 28, .ro, 0x0⟩, ⟨27, 24, .ro, 0x0⟩, ⟨23, 21, .ro, 0x0⟩, ⟨5, 0, .held, 0x0⟩]⟩,
   /- FLT_SRC_STATE -/ ⟨0x1110008, 512, 0x20, 1, 0x0, 0, [⟨31, 30, .ro, 0x0⟩, ⟨29, 29, .ro, 0x0⟩, ⟨15, 0, .ro, 0x0⟩]⟩,
   /- FLT_SRC_REAL -/ ⟨0x111000C, 512, 0x20, 1, 0x0, 0, [⟨31, 0, .rc, 0x0⟩]⟩,
   /- FLT_SRC_INJ -/ ⟨0x1110010, 512, 0x20, 1, 0x0, 0, [⟨31, 0, .rc, 0x0⟩]⟩]

/-- Register map rows of chapter 13. -/
def regRows13 : List RegRow :=
  [/- SYS_ID -/ ⟨0x0, 1, 0x0, 1, 0x0, 0, [⟨31, 16, .ro, 0x9640⟩, ⟨15, 12, .ro, 0x0⟩, ⟨11, 8, .ro, 0x0⟩]⟩,
   /- SYS_MODE -/ ⟨0x4, 1, 0x0, 1, 0x0, 0, [⟨31, 28, .ro, 0x1⟩, ⟨27, 24, .ro, 0x0⟩, ⟨23, 8, .ro, 0x0⟩]⟩,
   /- SYS_STATUS -/ ⟨0x8, 1, 0x0, 1, 0x0, 0, [⟨31, 31, .ro, 0x0⟩, ⟨30, 30, .ro, 0x0⟩, ⟨29, 28, .ro, 0x0⟩, ⟨27, 27, .ro, 0x0⟩, ⟨15, 8, .ro, 0x0⟩]⟩,
   /- SYS_CTRL -/ ⟨0xC, 1, 0x0, 1, 0x0, 0, [⟨31, 24, .wo, 0x0⟩, ⟨3, 0, .wo, 0x0⟩]⟩,
   /- SYS_LOSS -/ ⟨0x10, 1, 0x0, 1, 0x0, 0, [⟨2, 2, .w1c, 0x0⟩, ⟨1, 1, .ro, 0x0⟩, ⟨0, 0, .ro, 0x0⟩]⟩,
   /- SYS_HOSTCFG -/ ⟨0x14, 1, 0x0, 1, 0x0, 0, [⟨31, 16, .held, 0x0⟩, ⟨15, 0, .held, 0x7D0⟩]⟩,
   /- SYS_HOST_ALIVE -/ ⟨0x18, 1, 0x0, 1, 0x0, 0, [⟨31, 0, .wo, 0x0⟩]⟩,
   /- SYS_WAKE -/ ⟨0x1C, 1, 0x0, 1, 0x0, 0, [⟨31, 31, .w1c, 0x0⟩, ⟨15, 8, .ro, 0x0⟩, ⟨7, 0, .ro, 0x0⟩]⟩,
   /- SYS_BOOTCNT -/ ⟨0x20, 1, 0x0, 1, 0x0, 0, [⟨31, 0, .ro, 0x0⟩]⟩]

/-- Register map rows of chapter 14. -/
def regRows14 : List RegRow :=
  [/- MGT_STATUS -/ ⟨0x1200000, 1, 0x0, 1, 0x0, 0, [⟨31, 30, .ro, 0x0⟩, ⟨29, 24, .ro, 0x0⟩, ⟨23, 16, .ro, 0x0⟩]⟩,
   /- MGT_LEASE -/ ⟨0x1200004, 1, 0x0, 1, 0x0, 0, [⟨31, 24, .wo, 0x0⟩, ⟨1, 1, .wo, 0x0⟩, ⟨0, 0, .wo, 0x0⟩]⟩,
   /- MGT_LEASE_CFG -/ ⟨0x1200008, 1, 0x0, 1, 0x0, 0, [⟨31, 16, .held, 0x7D0⟩, ⟨15, 0, .held, 0x7D0⟩]⟩,
   /- MGT_ERR -/ ⟨0x120000C, 1, 0x0, 1, 0x0, 0, [⟨31, 24, .rc, 0x0⟩, ⟨23, 16, .rc, 0x0⟩, ⟨15, 8, .rc, 0x0⟩, ⟨7, 0, .rc, 0x0⟩]⟩,
   /- MGT_NOTICE_LOST -/ ⟨0x1200010, 1, 0x0, 1, 0x0, 0, [⟨31, 0, .rc, 0x0⟩]⟩,
   /- LDR_STATE -/ ⟨0x1210000, 1, 0x0, 1, 0x0, 0, [⟨31, 28, .ro, 0x0⟩, ⟨27, 24, .ro, 0x0⟩, ⟨23, 16, .ro, 0x0⟩, ⟨15, 8, .ro, 0x0⟩]⟩,
   /- LDR_CTRL -/ ⟨0x1210004, 1, 0x0, 1, 0x0, 0, [⟨31, 24, .wo, 0x0⟩, ⟨3, 0, .wo, 0x0⟩]⟩,
   /- LDR_LEN -/ ⟨0x1210008, 1, 0x0, 1, 0x0, 0, [⟨22, 0, .rw, 0x0⟩]⟩,
   /- LDR_ROLLBACK -/ ⟨0x121000C, 1, 0x0, 1, 0x0, 0, [⟨31, 0, .ro, 0x0⟩]⟩,
   /- LDR_IMG_ROLLBACK -/ ⟨0x1210010, 1, 0x0, 1, 0x0, 0, [⟨31, 0, .ro, 0x0⟩]⟩,
   /- LDR_PROGRESS -/ ⟨0x1210014, 1, 0x0, 1, 0x0, 0, [⟨10, 0, .ro, 0x0⟩]⟩]

/-- Register map rows of chapter 04. -/
def regRows04 : List RegRow := regRows04a ++ regRows04b

/-- Register map rows of chapter 09. -/
def regRows09 : List RegRow := regRows09a ++ regRows09b

/-- Register map rows of chapter 11. -/
def regRows11 : List RegRow := regRows11a ++ regRows11b

/-- Whether the row covers the address. -/
def RegRow.covers (r : RegRow) (a : Nat) : Bool :=
  decide (r.base ≤ a) && decide ((a - r.base) / r.s1 < r.n1) &&
    decide ((a - r.base) % r.s1 % r.s2 = 0) && decide ((a - r.base) % r.s1 / r.s2 < r.n2)

/-- The map rows of the block window an address lies in (the base map, R76); no rows outside every window. -/
def regRowsAt (a : Nat) : List RegRow :=
  if a < 0x100000 then regRows13
  else if a < 0x200000 then regRows01
  else if a < 0x400000 then regRows02
  else if a < 0x800000 then regRows03
  else if a < 0xA00000 then regRows06
  else if a < 0xC00000 then regRows07
  else if a < 0xD00000 then regRows08
  else if a < 0xE00000 then regRows09
  else if a < 0xE80000 then regRows04
  else if a < 0xF00000 then regRows05
  else if a < 0x1000000 then regRows10
  else if a < 0x1100000 then regRows11
  else if a < 0x1200000 then regRows12
  else if a < 0x1300000 then regRows14
  else []

/-- The row of a register address. -/
def regRow (a : Nat) : Option RegRow := (regRowsAt a).find? (fun r => r.covers a)

/-- The bits a field takes in its register. -/
def FieldRow.mask (f : FieldRow) : Nat := (2 ^ (f.hi + 1 - f.lo) - 1) * 2 ^ f.lo

/-- The bits of a row whose access code satisfies `p`. -/
def RegRow.maskOf (r : RegRow) (p : Acc → Bool) : Nat :=
  (r.fields.filter (fun f => p f.acc)).foldl (fun m f => m + f.mask) 0

/-- The bits of the register at an address whose access code satisfies `p`; 0 where no register is. -/
def regMask (p : Acc → Bool) (a : Nat) : Word :=
  match regRow a with
  | some r => BitVec.ofNat 32 (r.maskOf p)
  | none => 0

/-- The reset value of BRG_PAGEk: node and space per R78. -/
def brgPageReset (a : Nat) : Option Word :=
  if a = 0xD40000 then some 0x1 else if a = 0xD40004 then some 0x2
  else if a = 0xD40008 then some 0x4 else if a = 0xD4000C then some 0x11 else none

/-- What the register at an address holds at reset, by the maps' Reset column. -/
def regReset (a : Nat) : Word :=
  match brgPageReset a with
  | some w => w
  | none =>
    match regRow a with
    | some r => BitVec.ofNat 32 (r.fields.foldl (fun m f => m + f.reset * 2 ^ f.lo) 0)
    | none => 0

/-- The width of the high half of the R7 pair whose low register stands at an address (0: no such pair). -/
def pairWidth (a : Nat) : Nat :=
  match regRow a with
  | some r => if r.pair = 33 then 0 else r.pair
  | none => 0

/-- Whether a 64-bit access may start at an address (R313). -/
def pairAccess (a : Nat) : Bool :=
  match regRow a with
  | some r => r.pair ≠ 0
  | none => false

/-- The address of the low register where an address is the high register of an R7 pair. -/
def pairLow (a : Nat) : Option Nat :=
  if 4 ≤ a && pairWidth (a - 4) ≠ 0 then some (a - 4) else none

end Sys2Proof.Machine
end

