-- ==== Sys2Proof/Machine/State.lean ====
section
/-! DEFINITION. The state of the part as plain data: the register file, each block's memories, queues and hidden state, the
queue of waiting commands; the faults and refusals; the state at reset. -/

namespace Sys2Proof.Machine

/-- The twelve operating modes (R17). -/
inductive Mode
  | off | held | rom | loader | configure | run | degraded | safe | limp | doze | sleep | factory
deriving DecidableEq, Repr

/-- The pins of R462, each by its number in its group. FX pins are those the image configures; the inputs of the last row and the load
channels' pins, whose states the load commands show, are left out. -/
inductive PinGroup
  | fx (n : Nat)
  | errN
  | mgmtMiso
  | mgmtIrqN
  | eth (port : Nat)
  | ring (lane : Nat)
  | pcie
deriving DecidableEq, Repr

/-- What a pin does (R462). -/
inductive PinDrive
  | hiZ                            -- high-impedance without a pull; of an open-drain pin, released
  | input (pull : Nat)             -- an input with the pull of R185; 0 for none
  | level (high : Bool)            -- driven to a level
  | asserted                       -- of an open-drain pin: pulled low
  | onSelect                       -- driven while MGMT_CS_N is low
  | busOnly                        -- driven during transactions
  | off                            -- a transmitter without supply: idle
  | electricalIdle
  | pcsIdle
  | active
deriving DecidableEq, Repr

/-- What a command puts out of the part: read data and completions on an access path, requests on the host link, frames on
the buses, responses on the management port. -/
inductive Emit
  | data (p : Path) (addr : Nat) (v : Nat)        -- read data returned on an access path
  | code (p : Path) (code : Nat)                  -- completion code on an access path (R15)
  | completion (bytes : Option (List Byte))       -- completion of a host read; none: Completer Abort
  | hostWrite (addr : Nat) (bytes : List Byte)    -- posted write to host memory
  | hostFetch (addr len : Nat)                    -- read of host memory
  | message (vector addr data : Nat)              -- MSI-X message
  | gptpAnnounce (dom num portMask prio1 prio2 : Nat) (gm : Bool)   -- the supervisor's Announce of a domain
  | gptpSync (dom num portMask : Nat)             -- its two-step Sync
  | gptpFollowUp (dom num port : Nat) (origin : Int)   -- the Follow_Up of a Sync, with the domain's time at its start, ns
  | canFrame (n w0 w1 w2 len : Nat) (esi : Bool) (payload : List Byte)   -- a frame started on a CAN bus; `len`: LENGTH or remote DLC
  | canMode (n : Nat) (level data : Bool)         -- the level a mode line takes: in an XL data phase, or outside one
  | ethFrame (port : Nat) (bytes : List Byte)   -- a frame sent at an external port, with its FCS
  | ethStomp (port : Nat) (bytes : List Byte)   -- a cut-through frame ended with the complement of its FCS
  | ringFrame (lane : Nat) (bytes : List Byte)  -- a device frame on a ring lane, with its FCS
  | mdio (m cmd data : Nat)                     -- an MDIO transaction
  | miso (bytes : List Byte)                      -- what the management port clocks out in a frame
  | refused (addr code : Nat)                     -- the code a setting write is refused with (R50)
  | pps (k : Nat) (level : Bool)                  -- an edge of a PPS pulse, by the level its pin takes
  | dio (line : Nat) (level : Option Bool) (pull : Nat) (slow : Bool)   -- what a DIO pin drives (none: nothing), its pull
  | pinsOff                                       -- every configurable pin goes high-impedance
  | pin (g : PinGroup) (x : PinDrive)             -- the state a pin takes at a change of mode (R462, R463)
  | mgmtIrq (asserted : Bool)                     -- MGMT_IRQ_N (R471)
deriving DecidableEq, Repr

/-! ### Registers and access paths (chapter 00) -/

/-- The read latch and the staged high register of one access path (R7), and the words latched by the last read of a
multi-word entry on it. -/
structure Latch where
  read : Word
  staged : Word
deriving DecidableEq, Repr

/-! ### Signal store (chapter 02) -/

/-- One slot (R53). `exempt`: invalidated and not written since (R60, R66); `shows`: a substitute under rule 1 or 2 is shown,
so reads return the present table entry (R65). -/
structure Slot where
  type : Byte
  ageIdx : Fin 64
  owner : Fin 8
  isDefined : Bool
  consumed : Bool
  rule : Fin 4
  substIdx : Fin 8192
  routePtr : Fin 16384
  capture : Capture
  tag : Byte
  value : Word
  exempt : Bool
  shows : Bool
deriving DecidableEq, Repr

/-- An undefined slot (R54). -/
def slotUndefined : Slot := ⟨0, 0, 0, false, false, 0, 0, 0, 0, 0, 0, false, false⟩

/-- The gone flag of a node's slot window (R67): whether it is set, and the slots written since the declaration. -/
structure Gone where
  on : Bool
  written : List Nat
deriving DecidableEq, Repr

/-- A route event issued and not yet delivered (R69, R74): the slot and the target word that fired. -/
structure RouteEvt where
  slot : Nat
  target : Word
  time : Nat                     -- FRC when the route fired
deriving DecidableEq, Repr

/-- The signal store's own state. -/
structure StoreSt where
  slots : Tab Slot
  routes : Tab Word            -- target words, key 2 * entry + word (R68)
  windows : Tab (Nat × Nat)    -- by node: first slot and count of the node's slot window (R305)
  gone : Tab Gone              -- by node
  routeQ : List RouteEvt       -- oldest first
  markPos : Tab Nat            -- by node: slots of its window the marker has passed (R67)
  sweepNs : Nat                -- time into the present scanner sweep (R62)
deriving DecidableEq, Repr

/-! ### Signal engines (chapter 03) -/

/-- The event a thread runs (R87, R102). `ring` is the receive ring that holds the record: 0 to 31 the ring of that CAN
controller, 32 to 47 the intake ring of Ethernet binding 0 to 15. -/
structure Event where
  kind : Nat
  code : Nat
  source : Nat
  ident : Nat
  length : Nat
  flags : Nat
  accept : Nat
  sdu : Nat
  ts : Capture
  recAddr : Nat
  ring : Option Nat
deriving DecidableEq, Repr

/-- An entry of a thread's event queue (R89): `arrival` is the time of the event that made the entry. -/
structure QEvent where
  kind : Nat
  code : Nat
  source : Nat
  ts : Capture
  arrival : Nat
deriving DecidableEq, Repr

/-- The jobs on freshness entries (R112, R114). -/
inductive MacOp
  | gen
  | ver
  | fresh
deriving DecidableEq, Repr

/-- The key of a MACGEN or MACVER job in flight (R115, R387): `live` while its slot holds what the job loaded, `kept` the key it loaded
(none: not usable) once the slot has been written or erased since, `lost` once a tamper event has cleared it. -/
inductive MacKey
  | live
  | kept (key : Option (List Byte))
  | lost
deriving DecidableEq, Repr

/-- What a thread waits for (R91, R114, R116). -/
inductive Wait
  | ready
  | buffer (h : Fin 4) (tmpl : Fin 32)                                -- TXOPEN, pool empty
  | load (until_ : Nat)                                               -- a slot load, until its result is there
  | mac (op : MacOp) (entry : Fin 512) (h : Fin 4) (layout : Word) (no : Nat) (key : MacKey)   -- FRESH, MACGEN or MACVER, with its ticket
  | credit (h : Fin 4) (len : Nat) (deadline : Nat)                   -- TXSEND for a port-13 credit
  | space (q : Fin 64) (addr : Nat) (len : Nat) (deadline : Nat)      -- QPUT for queue space
  | job (dst : Option (Fin 16)) (result : Option (Tagged × Nat))      -- a job its target has taken; the result once known
deriving DecidableEq, Repr

/-- One hardware thread (R86), with what the engine keeps for it. -/
structure Thread where
  g : Tab Tagged               -- G1 to G15
  pt : Byte
  ct : Byte
  z : Bool
  n : Bool
  c : Bool
  v : Bool
  rl : Bool
  cn : Bool
  job : Nat
  fauth : Bool
  links : List Nat             -- the link stack, newest first
  handles : Tab (Option Nat)   -- H0 to H3: the assembly buffer each names
  ev : Option Event            -- the event in progress
  evq : List QEvent            -- the event queue, oldest first
  pc : Nat
  wait : Wait
  demoted : Bool
  slice : Nat
  insns : Nat
  started : Option Nat         -- the time of the event's first instruction
  lastLds : Option Capture     -- CAPTURE of the last LDS of the event (R103)
  ldsCaps : List Capture       -- every LDS capture of the event (R103)
  timer : Option (Nat × Option Nat × Nat)   -- due time, period where periodic, code (ARM)
  unseen : List Nat            -- slots a partial ADD has defined since the event started (R45)
deriving DecidableEq, Repr

/-- A thread before its first event: registers 0 with tag 0 (log entry 3), nothing open, nothing queued. -/
def threadIdle : Thread :=
  ⟨[], 0x94, 0x94, false, false, false, false, false, false, 0, false, [], [], none, [], 0, .ready, false, 0, 0, none, none, [],
   none, []⟩

/-- A rate limiter (R110): its structure, its tokens, when the next token comes, the thread whose trailing event is armed. -/
structure Limiter where
  min : Nat
  max : Nat
  burst : Nat
  trail : Bool
  trailCode : Nat
  tokens : Nat
  nextToken : Nat
  armed : Option (Nat × Nat)   -- the thread of an armed trailing event and its due time
deriving DecidableEq, Repr

/-- A freshness entry (R111); mode 0 is unused. -/
structure Fresh where
  counter : Nat
  dataId : Nat
  fvBits : Nat
  mode : Nat
  window : Nat
  keySlot : Nat
  macBytes : Nat
deriving DecidableEq, Repr

/-- An epoch record of the freshness area in MRAM (R113). -/
structure Epoch where
  dataId : Nat
  keySlot : Nat
  epoch : Nat
deriving DecidableEq, Repr

/-- A transmit template (R122): the target word and the template bytes. -/
structure Template where
  target : Word
  bytes : List Byte
deriving DecidableEq, Repr

/-- One record held in a receive ring (R88): its place in the ring, its length, the bytes a wrap marker skipped before it,
its arrival time, and the event fields (R102) it gives. -/
structure RingRec where
  start : Nat
  len : Nat
  skip : Nat
  arrival : Nat
  ev : Event
deriving DecidableEq, Repr

/-- A receive ring in an engine's data memory: a CAN receive ring or an Ethernet intake ring. -/
structure RxRing where
  engine : Fin 8
  thread : Fin 4
  base : Nat
  size : Nat
  keyKind : Nat                -- Ethernet bindings: 0 UDP destination port, 1 EtherType
  key : Nat
  wr : Nat                     -- write offset
  used : Nat                   -- bytes in use
  recs : List RingRec          -- oldest first
deriving DecidableEq, Repr

/-- The engines' memories and tables. Keys: engine * size + index. -/
structure EngSt where
  threads : Tab Thread         -- 4 * engine + thread
  imem : Tab (BitVec 40)       -- 16384 * engine + address
  imemCount : Tab Nat          -- loaded instruction count by engine
  dmem : Tab Byte              -- 131072 * engine + address
  vecs : Tab Nat               -- 8 * (4 * engine + thread) + kind
  lktabs : Tab (Nat × Nat)     -- 4 * engine + table: base, count
  limiters : Tab Limiter       -- 256 * engine + index
  fresh : Tab Fresh            -- 512 * engine + index
  epochs : Tab (Option Epoch)  -- 512 * engine + index (MRAM)
  templates : Tab (Option Template)   -- 32 * engine + index
  adj : Tab (Option (Nat × Nat × Nat))  -- 1024 * engine + index: address, min, max
  asmBytes : Tab Byte          -- 65536 * engine + 4096 * buffer + byte
  asmTmpl : Tab (Option Nat)   -- 16 * engine + buffer: the template of an open buffer; none when free
  rings : Tab (Option RxRing)  -- 0 to 31 CAN, 32 to 47 Ethernet bindings
  rr : Tab Nat                 -- by engine: the thread that issued last
  issued : Tab (Nat × Nat × Nat)  -- by engine: the 1 ms interval of its last issue, instructions issued in it and in the one before
  loadMs : Tab Nat             -- by engine: the 1 ms interval ENG_LOAD was last updated for
  macNo : Nat                  -- the ticket the next job on a freshness entry takes (R112)
deriving DecidableEq, Repr

/-! ### Clockmaker (chapter 04) -/

/-- A timestamp entry: words W0 to W3 (R147). -/
structure TsEntry where
  w0 : Word
  w1 : Word
  w2 : Word
  w3 : Word
deriving DecidableEq, Repr

/-- A timestamp or capture FIFO: its entries, oldest first, and the entries lost since the last one stored (R146). -/
structure TsFifo where
  entries : List TsEntry
  lost : Nat
deriving DecidableEq, Repr

/-- An empty FIFO. -/
def fifoEmpty : TsFifo := ⟨[], 0⟩

/-- A network-time domain's gPTP configuration (R161) and what its supervision keeps. -/
structure TdCfg where
  present : Bool
  gmCapable : Bool
  extPorts : Bool
  prio1 : Nat
  prio2 : Nat
  logSync : Int                -- logSyncInterval, -5 to 0
  syncLoss : Nat
  portMask : Nat
  gotSync : Bool               -- a Sync arrived in the present interval
  half : Option (Nat × Nat)    -- the port on which a two-step Sync waits for its Follow_Up, and the FRC of its timestamp point
  small : Option Bool          -- whether every residual offset measured in the present interval was below 1 µs
  good : Nat                   -- consecutive intervals with a residual offset below 1 µs (R136)
  lost : Bool                  -- the loss of sync has been declared
  due : Nat                    -- end of the present Sync interval
  heard : Tab (Nat × Nat)      -- by port: the priority vector announced last, and when
  waits : List Nat             -- the ports of the Syncs that wait for the end of a hold (R137)
  followUps : List Nat         -- the ports of the Syncs sent whose transmit timestamp is awaited
deriving DecidableEq, Repr

/-- A domain without gPTP (R162). -/
def tdNone : TdCfg := ⟨false, false, false, 0, 0, 0, 0, 0, false, none, none, 0, false, 0, [], [], []⟩

/-- The time base's own state. -/
structure TimeSt where
  shadow : Tab Word            -- shadows of the domain parameter registers, by address (R133)
  tdFrac : Tab Nat             -- the part of a domain's offset below 1 ns, in 2^-16 ns (R133 CMD 2)
  cfg : Tab TdCfg
  auto : Bool                  -- R143
  sysSel : Nat                 -- the domain the image names for entry to RUN (R139)
  resid : Int                  -- RESID at `residAt`, ns (R138)
  residAt : Nat                -- the FRC value RESID was last set at
  hold : Int × Nat × Int       -- HOLD: system time in 2^-16 ns, at which FRC value, and the RATE followed
  ports : Tab (Nat × Nat × Int)  -- by port: RX_LAT, TX_LAT, ASYM in 2^-16 ns (R130)
  tsq : Tab TsFifo
  caps : Tab TsFifo
  capCfg : Tab (Nat × Nat × Bool)  -- by input: edge, filter, consumer is the host (R161)
  capNum : Tab Nat             -- by input: the wrapping capture number (R150)
  linkDelay : Tab Nat          -- by port: the peer delay measured, ns, for both domains (R135)
  ppsDone : Tab (List (Int × Int))  -- by output: the runs of consecutive edges output, source times in ns, newest first (R149)
  ppsOn : Tab (Option Nat)     -- by output: when the pulse under way ends (R148)
  calNs : Nat                  -- progress to the next 32.768 kHz edge
  calTaken : Bool              -- the next 32.768 kHz edge has been used to load a set already (R153)
  calWindow : Nat              -- ticks into the present 32 s window (R154)
  oscRuns : Bool
  bkupLost : Bool              -- the backup supply was lost; found at the next power-up (R157)
  tampPending : Bool           -- the tamper registers are not yet copied into a record (R156)
deriving DecidableEq, Repr

/-! ### Host bridge and queues (chapter 09) -/

/-- Who waits for a record (R327). -/
inductive Producer
  | event                        -- SLOT_NOTE, NODE_EVENT, system: nobody waits
  | qput (e : Fin 8) (t : Fin 4)
  | cipher (job : Nat)
  | eth
  | txdone
deriving DecidableEq, Repr

/-- A device-to-host record (R322, R323). `code`: the code its slot is patched with; other than E_OK for a stream found bad (R330,
R400). -/
structure Rec where
  kind : Nat
  infoA : Nat
  infoB : Nat
  test : Bool
  astream : Bool
  ns : Nat
  frac : Nat
  payload : List Byte
  code : Nat
  prod : Producer
deriving DecidableEq, Repr

/-- The record in progress of a queue: where it starts, the payload bytes committed, GAP and LOST as its header carries them. -/
structure Cur where
  item : Rec
  start : Nat
  committed : Nat
  lost : Nat
deriving DecidableEq, Repr

/-- A frame on its way into a port of the switch from the host. -/
structure TxFrame where
  cls : Nat
  bytes : List Byte
  tsReq : Bool
  tag : Nat
deriving DecidableEq, Repr

/-- A fetched host-to-device descriptor not yet retired (R333): its H2D counter, its frames not yet entered. -/
structure Desc where
  counter : Nat
  tag : Nat
  compl : Bool
  code : Nat
  sent : Nat
  frames : List TxFrame
deriving DecidableEq, Repr

/-- What a queue pair keeps beside its registers. -/
structure Queue where
  waiting : List Rec             -- records whose producers wait, oldest first
  cur : Option Cur
  lost : Nat                     -- records lost since the last one written
  wbseq : Nat
  descs : List Desc              -- oldest first
  fetched : Nat                  -- H2D counter of the next descriptor to fetch
  lastMsg : Option Nat           -- when the queue's last message was sent
  gathered : Bool                -- causes gathered since (R338)
  engmask : Nat
  wmDue : List (Nat × Nat)       -- watermark crossings not yet announced (R336): the level and the fill of each
deriving DecidableEq, Repr

/-- A queue with nothing in it. -/
def queueIdle : Queue := ⟨[], none, 0, 0, [], 0, none, false, 0, []⟩

/-- A host request as the bridge takes it: `addr` is the fabric address its page gave it when it was accepted (R78, R315); of BAR4
the offset stands in space 1. -/
structure HostReq where
  bar : Bar
  addr : Nat
  len : Nat
  whole : Bool                   -- all byte enables set
deriving DecidableEq, Repr

/-- A bridge log entry (R316). -/
structure LogEntry where
  w0 : Word
  w1 : Word
  w2 : Word
deriving DecidableEq, Repr

/-- A posted write that stands in the inbound posted buffer, behind one that waits for room in Drover's queues (R282, R310). -/
structure PostedWrite where
  req : HostReq
  data : List Byte
  holder : Nat                   -- the lease holder at its acceptance (R478)
deriving DecidableEq, Repr

/-- The bridge's and the queues' own state. -/
structure HqSt where
  qs : Tab Queue
  classQ : Tab Nat               -- by port-12 class; 0xFF to discard
  sysQ : Nat                     -- 0xFF for none
  ptpQ : Nat
  sbVec : Nat
  log : List LogEntry            -- oldest first
  logLost : Nat
  held : List (Nat × HostReq)    -- held reads (R312): the number of the ring read and the request
  stalled : List HostReq         -- the inbound non-posted buffer while the held-read table is full
  posted : List PostedWrite      -- oldest first
  outPosted : List (Nat × List Byte)  -- the outbound posted buffer of 32 KiB, while the device may issue no request (R310, R342)
  outSource : List (Nat × List Byte)  -- writes that found it full and wait at their sources
  mps : Nat                      -- Max_Payload_Size in bytes
  mrrs : Nat                     -- Max_Read_Request_Size in bytes
  lastServed : Nat               -- the ETH queue a descriptor was fetched for last
deriving DecidableEq, Repr

/-! ### Locksmith and the sealed recorder (chapter 11) -/

/-- A key slot (R385, R386): its attribute word, the mask and the masked key. -/
structure KeySlot where
  attr : Word
  mask : List Byte
  masked : List Byte
deriving DecidableEq, Repr

/-- An empty slot. -/
def keyEmpty : KeySlot := ⟨0, [], []⟩

/-- A region of the key store (R418). -/
structure KeyRegion where
  first : Nat
  count : Nat
  access : Nat
  use : Nat
  lockOk : Bool
  qsets : Nat
deriving DecidableEq, Repr

/-- A cipher job that waits (R397): its 64-byte descriptor and who submitted it. -/
structure Job where
  id : Nat
  desc : List Byte
  mgmt : Bool
deriving DecidableEq, Repr

/-- A cipher job that has started: its code and completion result, the slot whose key it loaded, whether it runs on an AES core, the
queue that takes its record until the record is finished, the key that UNWRAP, DERIVE or GENERATE withholds until it completes (R399). -/
structure RunJob where
  job : Job
  code : Nat
  result : List Byte
  slot : Option Nat
  aes : Bool
  record : Option Nat
  keyOut : Option (Nat × Word × List Byte)   -- target slot, attribute word, key
deriving DecidableEq, Repr

/-- A completion (R401). -/
structure CphEntry where
  w0 : Word
  w1 : Word
  result : List Byte
deriving DecidableEq, Repr

/-- A record on its way into the recorder (R410), stamped when its event happens. -/
structure RecAppend where
  cls : Nat
  payload : List Byte
  flags : Nat
  cal : Nat                      -- calendar seconds and subseconds, as bytes 8 to 14 hold them
  boot : Nat
  frc : Nat
deriving DecidableEq, Repr

/-- A log sector (R407): DATA with its records, or CHECK with body and signature. -/
structure Sector where
  check : Bool
  sseq : Nat
  first : Nat
  last : Nat                     -- the last SEQ it holds or covers
  records : List (List Byte)     -- the 64-byte records of a DATA sector, oldest first
  body : List Byte
  sig : List Byte
deriving DecidableEq, Repr

/-- A control sector (R406): its generation, the SSEQ of the oldest log sector, ACKED, next SEQ, next SSEQ, chain head. -/
structure RecCtl where
  gen : Nat
  oldest : Nat
  acked : Nat
  nextSeq : Nat
  nextSseq : Nat
  head : List Byte
deriving DecidableEq, Repr

/-- Locksmith's own state. -/
structure SecSt where
  slots : Tab KeySlot
  regions : Tab (Option KeyRegion)
  qsets : Tab Nat                -- queue mask by QSET
  cphVec : Nat
  jobs : List Job                -- the 16-entry FIFO, oldest first
  running : List RunJob
  jobCount : Nat
  done : List CphEntry           -- oldest first
  doneLost : Nat
  mgmtDesc : Tab Word            -- the management port's copy of the descriptor registers
  coreBusy : Tab (Option Nat × Nat)  -- by core: since when it is busy, and the ns it was busy in this interval
  cphMs : Nat                    -- the 1 ms interval CPH_LOAD was last updated for
  drbgReqs : Nat
  drbgFailAt : Nat               -- when the last health test failed
  remaskPos : Nat
  remaskDue : Nat                -- when the next visit is due, in 2^-8 ns (R386)
  tampEn : Nat                   -- the tamper enables in force, on VBKUP (R392)
  rederive : Bool                -- KS1, KS254 and KS255 are to be derived again (R394)
  deviceId : List Byte
  devicePub : Tab Byte           -- the device's ML-DSA public key (R405)
  deviceBlob : Tab Byte          -- its private key, wrapped under KS254
  ownerDigest : Option (List Byte)
  fwDigest : List Byte           -- digest of the running firmware image
  cert : Tab Byte
  fifo : List RecAppend          -- the recorder FIFO, oldest first
  recLoss : Bool                 -- records were lost before the next one written
  recLostNote : Nat              -- losses not yet reported by a class 0x000C record
  recLostKept : Nat              -- appends lost at a reset, kept on VBKUP
  deferred : List RecAppend      -- records of stages and transitions that happened while the recorder was stopped
  classes : List (Nat × Nat × Bool × Bool)   -- FIRST, LAST, ROUTE, HOST
  ckptMax : Nat
  chain : List Byte              -- the chain head H; empty while no record has been written
  sectors : List Sector          -- the log ring, oldest first
  nextSseq : Nat
  dataOpen : Bool                -- the last DATA sector still takes records
  sinceCkpt : Nat                -- records appended since the last checkpoint
  uncovered : Option Nat         -- when the oldest record not covered by a checkpoint was written
  uncoveredNext : Option Nat     -- when the oldest record after the checkpoint being signed was written
  ckptWant : Option Nat          -- REASON of a checkpoint that is due
  ckptBody : Option (List Byte × Nat)   -- the checkpoint being signed: body and its LAST_SEQ
  ckptRetry : Option (Nat × Nat) -- when a failed checkpoint is retried, and its REASON
  ackWin : Tab Byte
  expSel : Option Nat            -- the SSEQ the export window shows
  ctlGen : Nat                   -- generations of the control sectors written
  ctls : Tab (Option RecCtl)     -- by sector, 0 and 1
deriving DecidableEq, Repr

/-! ### Reeve (chapter 12) -/

/-- What Reeve keeps of a source beside its registers: the window's opening time and its W and N (R422). -/
structure Src where
  openAt : Nat
  w : Nat
  n : Nat
  withheld : Bool                -- its SAFE and TXHOLD reactions wait for the return from DOZE (R443)
  safeFired : Bool               -- its SAFE reaction fired in the present SEVERE state (R429)
deriving DecidableEq, Repr

/-- A source in IDLE. -/
def srcIdle : Src := ⟨0, 0, 0, false, false⟩

/-- The DIO and hold part of a safe-state pattern (R444). -/
structure Pattern where
  hold : Bool
  holdset : Nat
  dioMask : Nat
  dioVal : Nat
deriving DecidableEq, Repr

/-- A state crossing (R440). The source toggles `take` with a value it holds; `ack` is the toggle the destination returns: while the two
differ a round is in progress. `waiting` is the latest value written meanwhile, `taken` the destination's copy. -/
structure Crossing where
  take : Bool
  ack : Bool
  value : Nat
  waiting : Option Nat
  taken : Nat
deriving DecidableEq, Repr

/-- A crossing as both sides leave reset. -/
def crossIdle : Crossing := ⟨false, false, 0, none, 0⟩

/-- A mismatch of a crossing group (R442): when it began, and whether it lasts until the group's link returns. -/
structure HalfReset where
  since : Nat
  retrain : Bool
deriving DecidableEq, Repr

/-- An event crossing (R439): the 8-bit counter of the source, modulo 256, in Gray code, and the destination's last sample of it, in
binary. -/
structure EvCross where
  source : BitVec 8
  sample : BitVec 8
deriving DecidableEq, Repr

/-- An event crossing as both sides leave reset. -/
def evIdle : EvCross := ⟨0, 0⟩

/-- The fault-source events on their way to Reeve: the crossings, by source, and the events past them that Reeve has not taken, by
source and number (R422, R439). -/
structure FaultQ where
  queue : List (Nat × Nat)
  cross : Tab EvCross
deriving DecidableEq, Repr

/-- Reeve's own state. -/
structure FltSt where
  srcs : Tab Src
  patterns : Tab Pattern
  holdsets : Tab Nat
  dioCtl : Nat                   -- the DIO lines the active patterns control
  errEnd : Option Nat            -- when t_errmin ends
  halfReset : Tab (Option HalfReset)   -- by crossing group (R442)
  crossings : Tab Crossing       -- by crossing group: the state crossing of its link state (R440)
deriving DecidableEq, Repr

/-! ### Modes (chapter 13) -/

/-- A DOZE or SLEEP entry in progress (R459). -/
inductive Entry
  | none
  | doze
  | sleep
deriving DecidableEq, Repr

/-- The mode controller's own state. -/
structure ModeSt where
  detail : Nat                   -- DETAIL of the last transition (R448)
  vbat : Bool                    -- VBAT_LOG is above 4.0 V
  vbatValid : Bool               -- VBAT_LOG has stayed above 5.8 V (R454)
  rstn : Bool                    -- RST_N is high
  factoryPin : Bool              -- the level of the FACTORY_EN pin
  factoryEn : Bool               -- FACTORY_EN as sampled at ROM start
  refclkPin : Bool               -- REFCLK25 carries a clock
  refclk : Bool                  -- the chosen reference is REFCLK25, not the crystal (R506)
  startup : Option Nat           -- the cause CONFIGURE will be entered with, once ROM or a token has opened the way (R450)
  fromFactory : Bool             -- SAFE was entered from FACTORY
  entry : Entry
  entryAt : Nat                  -- when the entry began
  linkDownAt : Option Nat        -- since when the host link or bus mastering has been down (R453)
  aliveAt : Nat                  -- when SYS_HOST_ALIVE was last written
  romStart : Nat                 -- when ROM started last (R483)
  confirmMissed : Bool           -- the confirm deadline of this boot has passed
  staged : Tab Byte              -- space 2, the staging area
  woken : Bool                   -- a wake has been latched in the present DOZE or SLEEP (R460)
deriving DecidableEq, Repr

/-! ### Management port and Tinker (chapter 14) -/

/-- A notice (R471). -/
structure Notice where
  kind : Nat
  inj : Bool
  lost : Nat
  source : Nat                   -- bytes 4 and 5
  cause : Nat
  arg : Nat                      -- bytes 8 to 11
  cal : Nat
deriving DecidableEq, Repr

/-- A request being executed: SEQ, CMD, the payload. -/
structure MgmtReq where
  seq : Nat
  cmd : Nat
  payload : List Byte
deriving DecidableEq, Repr

/-- The management port's and the loader's own state. -/
structure MgmtSt where
  notices : List Notice          -- oldest first
  noticeLost : Nat
  executing : Option MgmtReq
  response : Option (List Byte)  -- the response frame that is ready
  lastReq : Option (List Byte)   -- the bytes of the last executed request
  lastResp : List Byte           -- its response
  lastValid : Nat                -- when the last valid REQUEST arrived
  hostSeen : Nat                 -- when the bridge last accepted a BAR0 or BAR2 request
  verified : List Byte           -- digest of the image VERIFY passed
  journalDigest : List Byte
  journalLen : Nat
  journalRollback : Nat
  journalFmt : Bool
  stageRecs : List (List Byte)   -- stage records not yet appended (R485)
  firmware : Tab Byte            -- the firmware region
  tokenNonce : Option (List Byte)
  ldrCause : Nat                 -- the cause LOADER was entered with
  verifying : Bool
  ringResult : Option (Nat × List Byte)   -- code and data of the ring read a BLOCK_READ waited for
  activating : Option Bool       -- ACTIVATE in progress; which master issued it (true: management port)
deriving DecidableEq, Repr

/-! ### Millwright and the discrete lines (chapter 05) -/

/-- A phase domain: its PHASE item (R192) and what Millwright keeps of it. -/
structure PhDom where
  present : Bool
  source : Nat                   -- 0 encoder, 1 integrated slot, 2 ring encoder
  encoder : Nat
  filter : Nat                   -- the pin filter of the DOMAIN item, 0 to 3 (R166, R192)
  inc : Nat                      -- INC
  vgain : Int
  srcSlot : Nat
  vavg : Nat                     -- 1, 2, 4 or 8
  invert : Bool
  zResync : Bool
  zpos : Nat
  ztol : Nat
  posSlot : Option Nat
  velSlot : Option Nat
  edge : Nat                     -- φ at the last edge or update (EDGE)
  base : Nat                     -- φ that the next edge or update builds on: EDGE, or a later preset (R174)
  edgeAt : Nat                   -- FRC of the last edge or update
  hold : Nat                     -- φ while STALLED or FROZEN
  stalled : Bool
  frozen : Bool
  reverse : Bool
  vNum : Int                     -- the velocity estimate, 2^-24 unit per ns, as a quotient
  vDen : Nat
  lastAdv : Nat                  -- the last update's advance (ring encoder)
  times : List Nat               -- edge times in the present direction, newest first
  count : Option Nat             -- the last COUNT32 word
  seen : Nat                     -- φ as of the last evaluation of crossings
  nextPub : Nat                  -- FRC from which the next edge or update is published
  lastDispatch : Option Nat      -- when the domain dispatched last
  waiting : List (Nat × Nat)     -- crossed actions and their crossing times
  update : Bool                  -- a route event of the slot source waits
deriving DecidableEq, Repr

/-- An unused domain. -/
def phNone : PhDom :=
  ⟨false, 0, 0, 0, 0, 0, 0, 1, false, false, 0, 0, none, none, 0, 0, 0, 0, true, false, false, 0, 1, 0, [], none, 0, 0, none, [], false⟩

/-- The configuration of a discrete line and its accepted input level (R185, R186, R189). -/
structure DioLine where
  pin : Bool                     -- a pin serves the line
  input : Bool
  openDrain : Bool
  slow : Bool
  pull : Nat
  invert : Bool
  slot : Option Nat
  debounce : Nat
  wakeOn : Bool
  wakeEdge : Nat
  wakeFilter : Nat
  level : Option Bool
deriving DecidableEq, Repr

/-- A line without a pin: an output that drives nothing outside (R186). -/
def dioNone : DioLine := ⟨false, false, false, false, 0, false, none, 0, false, 0, 0, none⟩

/-- Millwright's own state. -/
structure PhaseSt where
  doms : Tab PhDom
  dio : Tab DioLine
  pulses : Tab Nat               -- end of the pulse in progress, by target: DIO line, or 32 + load channel
  acted : Tab (Nat × Nat)        -- by target: when an action last took effect on it, and its domain + 1 (R180)
  entryAt : Nat                  -- when service was entered from CONFIGURE (R186)
deriving DecidableEq, Repr

/-! ### Load channels and power dies (chapter 10) -/

/-- What a power die holds for a channel: its last commanded settings, the PWM values in use, latch, inrush window, pulse,
diagnosis (R351 to R362). -/
structure DieCh where
  on : Bool
  pwmEn : Bool
  compEn : Bool
  diagEn : Bool
  freq : Nat
  duty : Nat
  ioc : Nat
  iinr : Nat
  inrMs : Nat
  vref : Nat
  freqUse : Nat                  -- 0 while no PWM period runs
  dutyUse : Nat                  -- DUTY_EFF
  dutyIn : Nat                   -- the DUTY in use
  startAt : Nat                  -- start of the PWM period in progress
  cause : Nat                    -- of the latch; 0 for none
  latchAt : Nat
  inrush : Option Nat            -- end of the inrush window
  pulse : Option Nat             -- end of the pulse the die times
  diag : Nat
  diagPrev : Nat
  diagAt : Option Nat
deriving DecidableEq, Repr

/-- A channel of a die that has just powered up (R371). -/
def chBlank : DieCh := ⟨false, false, false, false, 0, 0, 0, 0, 0, 0, 0, 0, 0, 0, 0, 0, none, none, 0, 0, none⟩

/-- What a power die is doing (R370 to R377), apart from a LIMP that the LIMP_N pin holds it in. -/
inductive DieMode
  | unpowered
  | init (since : Nat)
  | owned
  | hold (since : Nat)
  | off                          -- policy OFF has been applied
  | limp                         -- policy LIMP has been applied
  | parked
deriving DecidableEq, Repr

/-- The state of a channel as STATE and TAKEOVER carry it (R372): FREQ and DUTY in use, the latch's cause, whether LIMP drives it, the end of
its pulse. -/
structure ChState where
  n : Nat
  on : Bool
  pwm : Bool
  comp : Bool
  freq : Nat
  duty : Nat
  cause : Nat
  limp : Bool
  pulse : Option Nat
deriving DecidableEq, Repr

/-- The settings of a channel as a SET frame carries them (R351 to R358). -/
structure ChSet where
  on : Bool
  pwmEn : Bool
  compEn : Bool
  diagEn : Bool
  freq : Nat
  duty : Nat
  ioc : Nat
  iinr : Nat
  inrMs : Nat
  vref : Nat
deriving DecidableEq, Repr

/-- What a SET frame does to the pulse of its channel (R180, R354): `starts` with WIDTH in µs. -/
inductive SetPulse
  | keep
  | ends
  | starts (width : Nat)
deriving DecidableEq, Repr

/-- A logic-to-power frame that waits for its acknowledgement (R368). -/
inductive LinkFrame
  | set (n : Nat) (x : ChSet) (pulse : SetPulse)
  | safe (codes : List (Nat × Nat))
  | clear (n : Nat)
  | readback
  | takeover (id : Nat) (states : List ChState)
  | park
deriving DecidableEq, Repr

/-- A frame in the link's send queue, with its SEQ (R367). -/
structure LinkSend where
  frame : LinkFrame
  seq : Nat
  sentAt : Nat
  retries : Nat
  taken : Bool                   -- the die has received it
  lost : Bool                    -- it was discarded; it waits to be resent
deriving DecidableEq, Repr

/-- What a power die reports of a channel outside a STATUS frame's states: a latch by cause, a DIAG change. -/
inductive DieReport
  | latch (n cause : Nat)
  | diag (n code : Nat)
  | supply (isOver : Bool)
deriving DecidableEq, Repr

/-- A power die and its switch control link. -/
structure Die where
  mode : DieMode
  limpPin : Bool                 -- LIMP through LIMP_N, until a takeover or the end of the assertion
  limpAt : Nat
  stateId : Nat
  supply : Nat                   -- 0 normal, 1 under-voltage off, 2 over-voltage off
  heard : Nat                    -- when the last valid logic frame arrived
  answer : Option (Nat × List ChState)   -- the STATE answer under way
  queue : List LinkSend          -- logic to power, first to go first
  seqOut : Nat                   -- SEQ of the next frame to the die
  seqIn : Nat                    -- SEQ of the last frame from the die
  reports : List DieReport       -- not yet taken by the logic die
  linkHeard : Nat                -- when the last valid frame of the die arrived at the logic die
  linkDown : Bool                -- the link is declared down
  groundLost : Bool
  pwmRef : Nat                   -- the period reference (R352)
deriving DecidableEq, Repr

/-- A power die without supply. -/
def dieNone : Die := ⟨.unpowered, false, 0, 0, 0, 0, none, [], 0, 0, [], 0, false, false, 0⟩

/-- The image's limits of a channel (R381). -/
structure LoadCfg where
  ocMin : Nat
  ocMax : Nat
  inrMax : Nat
  inrMsMax : Nat
  freqMin : Nat
  freqMax : Nat
deriving DecidableEq, Repr

/-- The load channels' own state. -/
structure LoadSt where
  dies : Tab Die
  chs : Tab DieCh
  otp : Tab Word                 -- 13 * die + word, as programmed (R375)
  otpBad : List Nat              -- words that fail their parity
  otpDone : List Nat             -- words that have been programmed
  otpUse : Tab Word              -- the words in use, since the die's last takeover (R472)
  otpBadUse : List Nat           -- of them, those that failed their parity
  cfg : Tab (Option LoadCfg)
  patterns : Tab Nat             -- by pattern: the 2-bit codes of the channels
  ctl : Nat                      -- the channels the active patterns control
  lhi : Nat                      -- filtered levels of LHI7 to LHI0
  lhiAt : Tab Nat
  limpN : Bool                   -- LIMP_N is asserted
  reverse : Bool
  dip : List Nat                 -- the dies that have reported the present supply shutdown (R364)
  dipCode : Nat                  -- its supply code
  warm : List Nat                -- channels above TWARN
  sumI : Nat                     -- LS_TOTAL summed over the present second
  sumP : Nat
  samples : Nat
  sumFrom : Nat
deriving DecidableEq, Repr

/-- The load channels without supply, image or OTP. -/
def loadsNone : LoadSt := ⟨[], [], [], [], [], [], [], [], [], 0, 0, [], false, false, [], 0, [], 0, 0, 0, 0⟩

/-! ### CAN controllers (chapter 06) -/

/-- The content of a transmit buffer (R207): header words W0 to W2, LENGTH, the payload with its padding. -/
structure CanContent where
  w0 : Nat
  w1 : Nat
  w2 : Nat
  len : Nat
  payload : List Byte
deriving DecidableEq, Repr

/-- A transmit buffer beside its STAT register: the content, and whether its frame has been counted as held (R219). -/
structure CanBuf where
  content : CanContent
  heldCounted : Bool
deriving DecidableEq, Repr

/-- A buffer that was never filled. -/
def canBufNone : CanBuf := ⟨⟨0, 0, 0, 0, []⟩, false⟩

/-- A schedule window (R211). -/
structure CanWin where
  kind : Nat
  first : Nat
  count : Nat
  start : Nat                    -- µs
  len : Nat
deriving DecidableEq, Repr

/-- A frame being transmitted: its buffer, the protocol engine's own copy, whether the buffer was filled again since, the time of
its start-of-frame. -/
structure CanTx where
  buf : Nat
  copy : CanContent
  replaced : Bool
  sof : Capture
  esi : Bool                     -- ESI as sent
deriving DecidableEq, Repr

/-- A controller with a CAN_BIND record (R225) and what it keeps beside its registers. -/
structure CanCtl where
  fd : Bool
  xl : Bool
  rxOwn : Bool
  modeLine : Bool                -- a pin is its transceiver mode line (R201)
  modeRx : Bool                  -- OPTIONS [7]: it asserts for received XL frames too
  modeInvert : Bool              -- OPTIONS [6]: it is low while asserted
  timings : List (Word × Word × Word × Word)
  ref : Nat
  refParam : Nat
  sizes : List Nat               -- SIZE16 by buffer
  sets : List (List CanWin)      -- the matrix as the settings have it
  use : List (List CanWin)       -- the matrix in force in the present cycle (R216)
  cycleUse : Nat                 -- CYCLE_US in force
  tx : Option CanTx
  seq : Nat                      -- receive sequence number of the next frame
  steps : List (Option Nat × Int)   -- cycle starts to come: index where a reference message names one, and their time
  cycleAt : Int                  -- start of the present cycle, on the reference's time scale, ns
  inCycle : Bool                 -- a cycle has started since entry or reference loss
  next : Nat                     -- next window of the cycle to start
  win : Option Nat               -- the window in progress
  tried : List Nat               -- buffers started in an exclusive window, or sent in the window in progress
  sent : List Nat                -- buffers successfully sent in the window in progress
  kept : List Nat                -- of those, the ones whose content waits for their next window (HOLD)
  lastRef : Nat                  -- when the last reference message arrived
  landed : Option Int            -- domain time just after a backward step since the present cycle began (R215), ns
  reached : Option Int           -- the latest window start reached, on the domain's scale, ns (R215)
deriving DecidableEq, Repr

/-- The CAN controllers. -/
structure CanSt where
  ctls : Tab (Option CanCtl)
  bufs : Tab CanBuf              -- 64 * controller + buffer
deriving DecidableEq, Repr

/-! ### Ethernet switch (chapter 07) -/

/-- The image's configuration of a port (R264). -/
structure SwPortCfg where
  ceiling : Nat
  pvid : Nat
  defCls : Nat
  learn : Bool
  flood : Bool
  cut : Bool
  tpidAd : Bool                  -- outer TPID 0x88A8
  classMap : Nat
  limits : List Nat              -- Q by class, cells
deriving DecidableEq, Repr

/-- A static entry of the forwarding database (R264). -/
structure FdbStatic where
  mac : Nat
  vid : Nat
  mask : Nat
  cls : Option Nat
deriving DecidableEq, Repr

/-- A wake pattern (R259). -/
structure WakePat where
  mask : List Byte
  check : Nat
  ports : Nat
deriving DecidableEq, Repr

/-- A frame in the cell buffer (R244): the bytes as it entered, its classification, its receive timestamp, the transmit timestamp
asked for it (queue and TAG), the host descriptor it belongs to (queue and H2D counter), the outputs that hold it, its times. -/
structure SwFrame where
  bytes : List Byte
  ingress : Nat
  vid : Nat
  pcp : Nat
  tagged : Bool
  cls : Nat
  cells : Nat
  ns : Nat
  frac : Nat
  tsReq : Option (Nat × Nat)
  desc : Option (Nat × Nat)
  outs : List Nat
  first : Nat                    -- when its first byte arrived
  done : Nat                     -- when its last byte arrived
deriving DecidableEq, Repr

/-- A queued frame: its number, when it was admitted, the port's held time at that moment. -/
structure SwEntry where
  frame : Nat
  at_ : Nat
  heldNs : Nat
deriving DecidableEq, Repr

/-- What an output is transmitting: a stored frame, or a cut-through frame with its ingress port until its last byte has arrived. -/
structure SwTx where
  frame : Option Nat
  cutFrom : Option Nat
  cls : Nat
  cells : Nat
  bytes : List Byte
  broken : Bool                  -- the ingress port of a cut-through frame has lost link
deriving DecidableEq, Repr

/-- What the switch keeps of a port beside its registers. -/
structure SwPort where
  tx : Option SwTx
  queues : Tab (List SwEntry)    -- by class, oldest first
  lingerAt : Option Nat          -- since when LINGER runs
  lingerOut : Bool               -- without link and LINGER run out, or never had link
  backAt : Nat                   -- when the link last returned
  heldNs : Nat                   -- time spent held
  heldAt : Option Nat
  cutLost : Bool                 -- the frame arriving here has lost its cut-through output
  limits : List (Nat × Nat)      -- writes of MAXFRAME, newest first: when, and the value replaced (R233)
deriving DecidableEq, Repr

/-- A port with nothing queued and no link. -/
def swPortIdle : SwPort := ⟨none, [], none, true, 0, 0, none, false, []⟩

/-- The switch's own state. -/
structure SwSt where
  on : Bool                      -- the image holds a SWITCH section
  cfg : Tab (Option SwPortCfg)
  ports : Tab SwPort
  vlans : Tab (Nat × Nat)        -- by VID: member and untagged ports
  fdb : List FdbStatic
  learned : Tab (Nat × Nat)      -- by 4096 * MAC + VID: port, when last seen
  wakes : Tab (Option WakePat)
  frames : Tab (Option SwFrame)  -- by number
  nextFrame : Nat
  adm : List SwFrame             -- frames whose last byte has arrived, oldest first
  free : Int                     -- free(S)
  mdioPins : Tab Bool            -- by master: both pins are assigned
deriving DecidableEq, Repr

/-! ### Drover (chapter 08) -/

/-- A roster entry (R305). Its slot window stands with the store. -/
structure RingRoster where
  authb : Bool
  tunnel : Bool
  keySlot : Nat
  routeFirst : Nat
  routeCount : Nat
  exportFirst : Nat
  exportCount : Nat
  frMax : Nat
  kbMax : Nat
  tunnelVid : Nat
  serial : List Byte
  keyDig : List Byte
deriving DecidableEq, Repr

/-- Who waits for a ring read (R279). -/
inductive ReqBy
  | thread (e : Fin 8) (t : Fin 4)
  | host
  | mgmt
  | nobody
deriving DecidableEq, Repr

/-- A ring read from its issue to its end (R280): `tag` once it has been sent. -/
structure RingRead where
  id : Nat
  node : Nat
  space : Nat
  size : Nat
  off : Nat
  deadline : Nat
  by_ : ReqBy
  tag : Option Nat
deriving DecidableEq, Repr

/-- What a queued request carries (R282, R283); a share stands for a broadcast write at one member. -/
inductive RingBody
  | read (id : Nat)
  | write (space size off : Nat) (data : List Byte)
  | share (id : Nat)
  | dcmd (action cmd exec : Nat)
  | event (bytes : List Byte)
deriving DecidableEq, Repr

/-- A request in a node's queue; `waiter`: the thread whose FST waits until the request is among the 64 entries. -/
structure RingReq where
  body : RingBody
  waiter : Option (Fin 8 × Fin 4)
deriving DecidableEq, Repr

/-- A frame of a node on its way to delivery: its type, transaction tag and payload without MAC trailer. -/
structure RingMsg where
  type : Nat
  txn : Nat
  payload : List Byte
  frc : Nat                      -- FRC at arrival
deriving DecidableEq, Repr

/-- An accepted number held for order (R274); no message where the frame was discarded after its acceptance. The numbers from
`first` up to it are given up as lost. -/
structure RingHeld where
  first : Nat
  seq : Nat
  msg : Option RingMsg
  at_ : Nat
deriving DecidableEq, Repr

/-- What Drover keeps of a node beside its registers. -/
structure RingNode where
  session : Nat
  reqDepth : Nat
  seqBulk : Nat
  seqExpress : Nat
  paceBulk : List Nat            -- when the last frames of the bulk sequence went (R275)
  paceExpress : List Nat
  sent : Nat                     -- requests sent, modulo 256
  finished : Nat                 -- of them finished by the node
  evDone : Nat                   -- requests of the node finished here
  started : Bool                 -- a frame has been accepted since the window was reset
  high : Nat                     -- H of the duplicate window
  seen : List Nat                -- numbers accepted among H − 63 to H
  next : Nat                     -- next number to deliver
  held : List RingHeld           -- ascending from `next`
  queue : List RingReq           -- requests, first to go first; those beyond 64 wait for room
  exports : List Nat             -- pending export descriptors
  exportAt : Option Nat          -- when the first of them became pending
  tokF : Nat                     -- frame tokens, in millionths
  tokB : Nat                     -- byte tokens, in millionths
  tokAt : Nat
  offences : List Nat            -- times of malformed frames, MAC failures, rate discards
  quarAt : Option Nat
  samplesA : List Nat            -- the last 8 delay samples
  samplesB : List Nat
  hopsA : Option Nat             -- hops of the last beacon copy by way of RING_A since ASSIGN
  hopsB : Option Nat
  answered : List (Nat × Bool)   -- cycles a beacon has answered, and whether it was taken
  paths : Nat                    -- lanes heard since the last cycle start
  firstCycle : Nat               -- the first cycle whose beacon counts
deriving DecidableEq, Repr

/-- A node that never joined. -/
def ringNodeIdle : RingNode :=
  ⟨0, 0, 0, 0, [], [], 0, 0, 0, false, 0, [], 0, [], [], [], none, 0, 0, 0, [], none, [], [], none, none, [], 0, 0⟩

/-- A queued HELLO (R292). -/
structure Hello where
  node : Nat
  versions : Nat
  reqDepth : Nat
  payload : List Byte
deriving DecidableEq, Repr

/-- The join past step 2: VERSION, NONCE, when the CHALLENGE went out, the RESPONSE once it is here. -/
structure Joining where
  hello : Hello
  version : Nat
  nonce : List Byte
  since : Nat
  response : Option (List Byte × List Byte)
deriving DecidableEq, Repr

/-- A broadcast write that waits (R281). -/
structure Bcast where
  id : Nat
  space : Nat
  size : Nat
  off : Nat
  data : List Byte
  waiter : Option (Fin 8 × Fin 4)
deriving DecidableEq, Repr

/-- Drover's own state. -/
structure RingSt where
  laneA : Bool                   -- RING_A used
  laneB : Bool
  quarN : Nat
  quarWindow : Nat               -- ms
  quarTime : Nat                 -- s
  eventQ : Nat
  roster : Tab (Option RingRoster)
  nodes : Tab RingNode
  exports : Tab (Option Nat)     -- export descriptors, 64 bits
  reads : List RingRead          -- oldest first
  nextId : Nat                   -- number of the next read or broadcast
  bcast : List Bcast             -- oldest first
  seq63 : Nat
  pace63 : List Nat              -- when the last frames of the DST 63 sequence went
  joinQ : List Hello
  joining : Option Joining
  refused : List (List Byte × Nat)  -- refused SERIALs and when
  lastCycle : Option Nat
  sentAt : List (Nat × Nat)      -- cycle and FRC of the last device beacons
  returns : List (Nat × Nat)     -- cycle and lane of the device beacons that came back
  openRun : Nat                  -- consecutive cycles without a return
  closedRun : Nat                -- consecutive cycles with both
deriving DecidableEq, Repr

/-! ### Structure image (chapter 01) -/

/-- What the check of an image found: the stage reached, the code, the failing section and DETAIL. -/
structure ImgVerdict where
  stage : Nat
  code : Nat
  section_ : Nat
  detail : Nat
deriving DecidableEq, Repr

/-- What a partial REMOVE has deactivated at its first boundary: the slots' route pointers and the route words (R46, R48). -/
structure RouteSave where
  ptrs : List (Nat × Fin 16384)
  words : Tab Word
deriving DecidableEq, Repr

/-- The images the part holds and the check or apply in progress. -/
structure ImgSt where
  region : Tab Byte              -- the structure region in MRAM, 4 MiB
  check : Option Nat             -- SOURCE of a full check that has not come to its end
  part : Tab Byte                -- the partial staging buffer
  partCheck : Option (ImgVerdict × Nat × Nat)  -- the partial being processed: what its check found, OP and NODE
  lossNodes : List Nat           -- the nodes whose refused partial images set the PARTIAL loss (R452)
  removing : Option Nat          -- the node whose slots are undefined at the next store-cycle boundary
  removed : RouteSave            -- what its REMOVE has deactivated
  added : Tab (List Nat × List Nat × List Nat)   -- by node: slots, route words and export descriptors its applied ADD defined
  torn : Bool                    -- the last write of the structure region was cut off (R41)
  settingsDigest : List Byte     -- digest of the image the settings store belongs to; empty after a format (R42)
  pins : Tab Word                -- the applied PINS entries by FX pin (R30)
  buildId : Nat                  -- BUILD_ID of the applied image (R22), 64 bits
deriving DecidableEq, Repr


/-- The part without the queue of waiting commands. -/
structure Dev where
  regs : Tab Word              -- the register file; an unlisted register holds its reset value
  settings : Tab Word          -- the settings store in MRAM (R42), by register address or a key of its own
  latches : Tab Latch          -- by access path (R7)
  mode : Mode
  frc : BitVec 64              -- the free-running counter, 1 ns units (R126)
  tns : Nat                    -- time since power was first applied, in ns; deadlines are kept in it
  store : StoreSt
  eng : EngSt
  time : TimeSt
  phase : PhaseSt
  hq : HqSt
  sec : SecSt
  flt : FltSt
  sys : ModeSt
  img : ImgSt
  mgmt : MgmtSt
  loads : LoadSt
  can : CanSt
  sw : SwSt
  drv : RingSt
  latched : Tab Word           -- words latched by the read of a multi-word entry, by path and register address (R147, R163)
  faultQ : FaultQ              -- fault-source events raised by the blocks (R422, R439)
  out : List Emit              -- what the last command put out of the part
  fresh : Nat                  -- count of free values drawn (the model's own)
deriving DecidableEq, Repr

/-- The state: the part, and the commands that wait, first in first out. -/
structure State where
  dev : Dev
  pending : List Instr
deriving DecidableEq, Repr

/-! ### Reset -/

/-- The signal store without an image. -/
def storeReset : StoreSt := ⟨[], [], [], [], [], [], 0⟩

/-- The engines without an image, with the epochs of the freshness area. -/
def engReset (epochs : Tab (Option Epoch)) : EngSt := ⟨[], [], [], [], [], [], [], [], epochs, [], [], [], [], [], [], [], [], 0⟩

/-- The time base without an image; the oscillator runs. -/
def timeReset : TimeSt :=
  { shadow := [], tdFrac := [], cfg := [], auto := false, sysSel := 0, resid := 0, residAt := 0, hold := (0, 0, 0), ports := []
    tsq := [], caps := [], capCfg := [], capNum := [], linkDelay := [], ppsDone := [], ppsOn := [], calNs := 0, calTaken := false, calWindow := 0, oscRuns := true, bkupLost := false
    tampPending := false }

/-- Millwright without an image. -/
def phaseReset : PhaseSt := ⟨[], [], [], [], 0⟩

/-- The bridge and the queues without an image. -/
def hqReset : HqSt :=
  { qs := [], classQ := [], sysQ := 0xFF, ptpQ := 0xFF, sbVec := 0, log := [], logLost := 0, held := [], stalled := []
    posted := [], outPosted := [], outSource := [], mps := 128, mrrs := 512, lastServed := 63 }

/-- Locksmith and the recorder of a unit that has recorded nothing; DEVICE_ID and firmware digest 0 (log entry 2). -/
def secReset : SecSt :=
  { slots := [], regions := [], qsets := [], cphVec := 0, jobs := [], running := [], jobCount := 0, done := [], doneLost := 0
    mgmtDesc := [], coreBusy := [], cphMs := 0, drbgReqs := 0, drbgFailAt := 0, remaskPos := 0, remaskDue := 0, tampEn := 0, rederive := false
    deviceId := List.replicate 16 0, devicePub := [], deviceBlob := [], ownerDigest := none, fwDigest := List.replicate 64 0, cert := [], fifo := [], recLoss := false
    recLostNote := 0, recLostKept := 0, deferred := [], classes := [], ckptMax := 0, chain := [], sectors := [], nextSseq := 0
    dataOpen := false, sinceCkpt := 0, uncovered := none, uncoveredNext := none, ckptWant := none, ckptBody := none
    ckptRetry := none, ackWin := [], expSel := none, ctlGen := 0, ctls := [] }

/-- Reeve without an image. -/
def fltReset : FltSt := ⟨[], [], [], 0, none, [], []⟩

/-- The mode controller at power-up: VBAT_LOG above 4.0 V and not yet valid, RST_N high (log entry 14). -/
def sysReset : ModeSt :=
  { detail := 0, vbat := true, vbatValid := false, rstn := true, factoryPin := false, factoryEn := false, refclkPin := false, refclk := false, startup := none, fromFactory := false, entry := .none
    entryAt := 0, linkDownAt := some 0, aliveAt := 0, romStart := 0, confirmMissed := false, staged := [], woken := false }

/-- No image. -/
def imgReset : ImgSt := ⟨[], none, [], none, [], none, ⟨[], []⟩, [], false, [], [], 0⟩

/-- The management port and the loader of a unit without an update under way. -/
def mgmtReset : MgmtSt :=
  { notices := [], noticeLost := 0, executing := none, response := none, lastReq := none, lastResp := [], lastValid := 0
    hostSeen := 0, verified := [], journalDigest := [], journalLen := 0, journalRollback := 0, journalFmt := false, stageRecs := []
    firmware := [], tokenNonce := none, ldrCause := 0, verifying := false, ringResult := none, activating := none }

/-- The controllers without an image. -/
def canReset : CanSt := ⟨[], []⟩

/-- The switch without an image. -/
def swReset : SwSt := ⟨false, [], [], [], [], [], [], [], 0, [], 32768, []⟩

/-- Drover without an image. -/
def drvReset : RingSt :=
  { laneA := false, laneB := false, quarN := 0, quarWindow := 0, quarTime := 0, eventQ := 0, roster := [], nodes := [], exports := []
    reads := [], nextId := 0, bcast := [], seq63 := 0, pace63 := [], joinQ := [], joining := none, refused := [], lastCycle := none, sentAt := []
    returns := [], openRun := 0, closedRun := 0 }

/-- The part in HELD, as VBAT_LOG has just powered it: every register at its reset value, SYS_ID fused as RLN-9640-AK (log entry 1). -/
def devReset : Dev :=
  { regs := [(0, 0x96401000)], settings := [], latches := [], mode := .held, frc := 0, tns := 0, store := storeReset
    eng := engReset [], time := timeReset, phase := phaseReset, hq := hqReset, sec := secReset, flt := fltReset, sys := sysReset
    img := imgReset, mgmt := mgmtReset, loads := loadsNone, can := canReset, sw := swReset, drv := drvReset, latched := []
    faultQ := ⟨[], []⟩, out := [], fresh := 0 }

/-- The machine right after reset, no command waiting. -/
def State.reset : State := ⟨devReset, []⟩

/-- Faults. No command of the spec stops the part: refused accesses complete with a code, and every command has an effect. `none`
is raised by nobody; were it raised, that would be safe (a claim about a next state would be unprovable, none would be false). -/
inductive Fault
  | none
deriving DecidableEq, Repr

/-- Refusals. `notModelled` is raised by the dispatch for a command that has no meaning yet, and by nothing else; safe. -/
inductive Refusal
  | notModelled (mnemonic : String)
deriving DecidableEq, Repr

end Sys2Proof.Machine
end

