-- ==== Sys2Proof/Machine/Ops.lean ====
section
/-! DEFINITION. The named operations every block uses: registers and their fields, saturating counters, access-path latches,
fault events, output, free values, time. -/

namespace Sys2Proof.Machine

/-- The result of a command's meaning. -/
abbrev Out := Host.Outcome State Fault Refusal

/-- A command whose effect is a change of the part: the outputs of the command before are gone, the queue stays. -/
def run (f : Dev → Dev) (s : State) : Out := .next { s with dev := f { s.dev with out := [] } }

/-- `f` where `c` holds, no change elsewhere. -/
def Dev.onlyIf (c : Bool) (f : Dev → Dev) (d : Dev) : Dev := if c then f d else d

/-- Applies `f` to every element of a list, first to last. -/
def Dev.each {α : Type} (xs : List α) (f : α → Dev → Dev) (d : Dev) : Dev := xs.foldl (fun d x => f x d) d

/-! ### Error codes (R15) -/

/-- Completed as requested. -/
def E_OK : Nat := 0
/-- Length, count or size refused. -/
def E_LEN : Nat := 1
/-- Address or length not aligned. -/
def E_ALIGN : Nat := 2
/-- Unsupported access size. -/
def E_SIZE : Nat := 3
/-- Key slot invalid or its attributes forbid the operation. -/
def E_KEYUSE : Nat := 4
/-- Tag, signature or identity check failed. -/
def E_AUTH : Nat := 5
/-- Target ring node gone or never present. -/
def E_ABSENT : Nat := 6
/-- No response within the timeout. -/
def E_TIMEOUT : Nat := 7
/-- Access not permitted. -/
def E_PERM : Nat := 8
/-- No common version. -/
def E_VERSION : Nat := 9

/-- The lowest nonzero code that applies (R16); E_OK where none does. -/
def lowestCode (cs : List Nat) : Nat :=
  (cs.filter (· ≠ 0)).foldl (fun m c => if m = 0 || c < m then c else m) 0

/-! ### Registers and fields -/

/-- The bits `hi` to `lo` of a number. -/
def bits (v hi lo : Nat) : Nat := v / 2 ^ lo % 2 ^ (hi + 1 - lo)

/-- Bit `i` of a number. -/
def bit (v i : Nat) : Bool := v / 2 ^ i % 2 = 1

/-- The number with bits `hi` to `lo` replaced by `x`. -/
def setBits (v hi lo x : Nat) : Nat := v - bits v hi lo * 2 ^ lo + x % 2 ^ (hi + 1 - lo) * 2 ^ lo

/-- 1 for true. -/
def b2n (b : Bool) : Nat := if b then 1 else 0

/-- A register as it stands. -/
def Dev.rd (d : Dev) (a : Nat) : Word := Tab.get regReset d.regs a

/-- Sets a register whole. -/
def Dev.wr (a : Nat) (w : Word) (d : Dev) : Dev := { d with regs := Tab.set regReset d.regs a w }

/-- A field as it stands. -/
def Dev.fld (d : Dev) (x : Fld) : Nat := bits (d.rd x.addr).toNat x.hi x.lo

/-- A one-bit field as it stands. -/
def Dev.flag (d : Dev) (x : Fld) : Bool := d.fld x ≠ 0

/-- Sets a field (modulo its width). -/
def Dev.put (x : Fld) (v : Nat) (d : Dev) : Dev :=
  d.wr x.addr (BitVec.ofNat 32 (setBits (d.rd x.addr).toNat x.hi x.lo v))

/-- Sets a one-bit field. -/
def Dev.putFlag (x : Fld) (b : Bool) (d : Dev) : Dev := d.put x (b2n b)

/-- Adds to a counter field, which saturates at its largest value. -/
def Dev.count (x : Fld) (n : Nat) (d : Dev) : Dev := d.put x (min (d.fld x + n) (2 ^ x.width - 1))

/-- Adds one to a saturating counter field. -/
def Dev.bump (x : Fld) (d : Dev) : Dev := d.count x 1

/-- Raises a maximum field to `v` where `v` is larger. -/
def Dev.peak (x : Fld) (v : Nat) (d : Dev) : Dev := d.put x (max (d.fld x) (min v (2 ^ x.width - 1)))

/-- A number held in a low and a high register. -/
def Dev.pair (d : Dev) (lo hi : Fld) : Nat := d.fld lo + d.fld hi * 2 ^ 32

/-- Sets a number held in a low and a high register. -/
def Dev.putPair (lo hi : Fld) (v : Nat) (d : Dev) : Dev := (d.put lo (v % 2 ^ 32)).put hi (v / 2 ^ 32)

/-- Keeps a held setting in the settings store (R42): the register as it now stands. -/
def Dev.storeSetting (a : Nat) (d : Dev) : Dev := { d with settings := Tab.set regReset d.settings a (d.rd a) }

/-! ### Access paths (R7) -/

/-- The number of an access path. -/
def pathIdx : Path → Nat
  | .host => 0
  | .mgmt => 1
  | .supervisor => 2
  | .thread e t => 3 + 4 * e.val + t.val

/-- The latch and staged register of a path. -/
def Dev.latch (d : Dev) (p : Path) : Latch := Tab.get (fun _ => ⟨0, 0⟩) d.latches (pathIdx p)

/-- Sets the latch and staged register of a path. -/
def Dev.setLatch (p : Path) (l : Latch) (d : Dev) : Dev :=
  { d with latches := Tab.set (fun _ => ⟨0, 0⟩) d.latches (pathIdx p) l }

/-- Latches a high half on a path. -/
def Dev.latchRead (p : Path) (w : Word) (d : Dev) : Dev := d.setLatch p { d.latch p with read := w }

/-! ### Pins (R30 to R32) -/

/-- Whether a pin serves an instance of a personality in the image applied last. -/
def Dev.pinBound (d : Dev) (code i : Nat) : Bool :=
  d.img.pins.any (fun e => bits e.2.toNat 31 24 = code && bits e.2.toNat 23 16 = i)

/-! ### Output, fault events, time, free values -/

/-- Puts something out of the part. -/
def Dev.emit (x : Emit) (d : Dev) : Dev := { d with out := d.out ++ [x] }

/-- The crossing group (R441) that the events of a fault source pass, if one that can be reset on one side: the bridge, a ring lane,
the receive errors of a port, the management port's framing. -/
def xgroupOf (src : Nat) : Option Nat :=
  if 280 ≤ src && src ≤ 287 then some 0
  else if src = 264 || src = 265 then some (src - 263)
  else if 244 ≤ src && src ≤ 255 then some (src - 241)
  else if src = 24 then some 15
  else none

/-- Whether one side of a crossing group is in reset (R442). -/
def Dev.halfReset (d : Dev) (g : Nat) : Bool := (Tab.get (fun _ => none) d.flt.halfReset g).isSome

/-- The source writes a value: it starts a round, or waits for the one in progress to end (R440). -/
def Crossing.write (v : Nat) (x : Crossing) : Crossing :=
  if x.take = x.ack then { x with value := v, take := !x.take, waiting := none } else { x with waiting := some v }

/-- The destination takes the value of a round and acknowledges it; the latest waiting value starts the next round. -/
def Crossing.round (x : Crossing) : Crossing :=
  if x.take = x.ack then x
  else
    let x := { x with taken := x.value, ack := x.take }
    match x.waiting with
    | some v => { x with waiting := none }.write v
    | none => x

/-- The value the source wrote last. -/
def Crossing.latest (x : Crossing) : Nat := x.waiting.getD x.value

/-- Both sides are initialised anew: flags and rounds are gone, the destination keeps its copy until the source's value comes over. -/
def Crossing.renew (x : Crossing) : Crossing := { crossIdle with taken := x.taken }.write x.latest

/-- The state crossing of a group. -/
def Dev.crossing (d : Dev) (g : Nat) : Crossing := Tab.get (fun _ => crossIdle) d.flt.crossings g

/-- Changes the state crossing of a group. -/
def Dev.onCrossing (g : Nat) (f : Crossing → Crossing) (d : Dev) : Dev :=
  { d with flt := { d.flt with crossings := Tab.set (fun _ => crossIdle) d.flt.crossings g (f (d.crossing g)) } }

/-- The rounds of a crossing end, at most two, since only the latest value waits; none does while a side of the group is in reset
(R442). -/
def Dev.crossSettle (g : Nat) (d : Dev) : Dev := d.onlyIf (!d.halfReset g) (Dev.onCrossing g (fun x => x.round.round))

/-- A value passes a state crossing: written at the source, and taken once its rounds end. -/
def Dev.crossWrite (g v : Nat) (d : Dev) : Dev := (d.onCrossing g (Crossing.write v)).crossSettle g

/-- A setting write outside its range: the code of R50; the setting keeps its value. -/
def Dev.refuseSetting (a code : Nat) (d : Dev) : Dev := d.emit (.refused a code)

/-- A number as a Gray code. -/
def gray (b : BitVec 8) : BitVec 8 := b ^^^ (b >>> 1)

/-- The number of a Gray code. -/
def ungray (g : BitVec 8) : BitVec 8 :=
  let g := g ^^^ (g >>> 1)
  let g := g ^^^ (g >>> 2)
  g ^^^ (g >>> 4)

/-- `k` events pass an event crossing: the source counts them, and the destination, which samples at least every 127 of them, has
sampled the last (R439). -/
def EvCross.pass (k : Nat) (x : EvCross) : EvCross :=
  let n := ungray x.source + BitVec.ofNat 8 k
  ⟨gray n, n⟩

/-- `k` events of a fault source reach Reeve's side of their crossing. -/
def Dev.eventsPass (src k : Nat) (d : Dev) : Dev :=
  { d with faultQ := ⟨d.faultQ.queue ++ [(src, k)], Tab.set (fun _ => evIdle) d.faultQ.cross src
    ((Tab.get (fun _ => evIdle) d.faultQ.cross src).pass k)⟩ }

/-- `k` events of a fault source, left for Reeve to take (R422); during a mismatch of their crossing group they are discarded and
counted (R442). -/
def Dev.raiseN (src k : Nat) (d : Dev) : Dev :=
  if k = 0 then d
  else
    match xgroupOf src with
    | some g => if d.halfReset g then d.count (Fld.FLT_XGRP_DISC g) k else d.eventsPass src k
    | none => d.eventsPass src k

/-- One event of a fault source. -/
def Dev.raise (src : Nat) (d : Dev) : Dev := d.raiseN src 1

/-! ### Half-resets (R441, R442) -/

/-- A mismatch of a crossing group begins; `retrain`: it lasts until the group's link returns (log entry 195). -/
def Dev.halfResetStart (g : Nat) (retrain : Bool) (d : Dev) : Dev :=
  if d.halfReset g then d
  else
    let d := { d with flt := { d.flt with halfReset := Tab.set (fun _ => none) d.flt.halfReset g (some ⟨d.tns, retrain⟩) } }
    (d.bump (Fld.FLT_XGRP_HALF g)).raise (32 + g)

/-- A mismatch ends: both sides of the group's crossings are re-initialised, and its link state comes over anew. -/
def Dev.halfResetEnd (g : Nat) (d : Dev) : Dev :=
  let d := { d with
    flt := { d.flt with halfReset := Tab.set (fun _ => none) d.flt.halfReset g none }
    faultQ := { d.faultQ with cross := Tab.drop (fun n => xgroupOf n = some g) d.faultQ.cross } }
  (d.onCrossing g Crossing.renew).crossSettle g

/-- A group's link has returned: the side that retrained has left reset with a stable clock. -/
def Dev.retrained (g : Nat) (d : Dev) : Dev :=
  match Tab.get (fun _ => none) d.flt.halfReset g with
  | some x => if x.retrain then d.halfResetEnd g else d
  | none => d

/-- Whether a frame whose first byte passed `age` ns ago was caught partly across a group's crossing when its mismatch began. -/
def Dev.caught (d : Dev) (g age : Nat) : Bool :=
  match Tab.get (fun _ => none) d.flt.halfReset g with
  | some x => decide (d.tns < x.since + age)
  | none => false

/-- FRC bits 42..3: the time in units of 8 ns, 40 bits (R58). -/
def Dev.now8 (d : Dev) : Capture := BitVec.ofNat 40 (d.frc.toNat / 8)

/-- The number of the next free value; drawing it advances the count. -/
def Dev.draw (d : Dev) : Nat × Dev := (d.fresh, { d with fresh := d.fresh + 1 })

/-- Service modes: RUN, DEGRADED, SAFE and FACTORY (R17). -/
def Dev.inService (d : Dev) : Bool := d.mode = .run || d.mode = .degraded || d.mode = .safe || d.mode = .factory

end Sys2Proof.Machine
end

