-- ==== Sys2Proof/Machine/Store.lean ====
section
/-! DEFINITION. The signal store (chapter 02): slots, evaluated reads, tags at write, owner classes, arbitration, age supervision,
invalidation, node windows, routes. -/

namespace Sys2Proof.Machine

/-! ### Tags (R9) -/

/-- A tag byte from its bits. -/
def mkTag (valid stale subst auth test : Bool) (src : Nat) : Byte :=
  BitVec.ofNat 8 (128 * b2n valid + 64 * b2n stale + 32 * b2n subst + 16 * b2n auth + 8 * b2n test + src % 8)

/-- VALID of a tag. -/
def tagValid (t : Byte) : Bool := bit t.toNat 7
/-- STALE of a tag. -/
def tagStale (t : Byte) : Bool := bit t.toNat 6
/-- SUBST of a tag. -/
def tagSubst (t : Byte) : Bool := bit t.toNat 5
/-- AUTH of a tag. -/
def tagAuth (t : Byte) : Bool := bit t.toNat 4
/-- TEST of a tag. -/
def tagTest (t : Byte) : Bool := bit t.toNat 3
/-- SRC of a tag. -/
def tagSrc (t : Byte) : Nat := t.toNat % 8

/-- A tagged word as a 40-bit number. -/
def Tagged.toNat40 (w : Tagged) : Nat := w.tag.toNat * 2 ^ 32 + w.value.toNat

/-- A tagged word from the low 40 bits of a number. -/
def tagged40 (v : Nat) : Tagged := ⟨BitVec.ofNat 32 v, BitVec.ofNat 8 (v / 2 ^ 32)⟩

/-! ### Slots -/

/-- A slot as it stands. -/
def Dev.slot (d : Dev) (n : Nat) : Slot := Tab.get (fun _ => slotUndefined) d.store.slots n

/-- Sets a slot. -/
def Dev.putSlot (n : Nat) (x : Slot) (d : Dev) : Dev :=
  { d with store := { d.store with slots := Tab.set (fun _ => slotUndefined) d.store.slots n x } }

/-- The current content of a substitute-table entry. -/
def Dev.substValue (d : Dev) (i : Nat) : Word := d.rd (Reg.SIG_SUBST i)

/-- A slot's age in units of 8 ns (R11, R60). -/
def Dev.slotAge (d : Dev) (x : Slot) : Nat := (d.now8 - x.capture).toNat

/-- Overdue (R60): supervised, not exempt, and older than its limit. -/
def Dev.overdue (d : Dev) (x : Slot) : Bool :=
  x.ageIdx.val ≠ 0 && !x.exempt && d.slotAge x > (d.rd (Reg.SIG_AGE x.ageIdx.val)).toNat * 125

/-- The marking of age expiry and node leave (R57, R64). -/
def Dev.marked (d : Dev) (x : Slot) : Slot :=
  { x with
    tag := mkTag (tagValid x.tag) true (x.rule.val ≠ 0 || tagSubst x.tag) (x.rule.val = 0 && tagAuth x.tag) (tagTest x.tag)
      (tagSrc x.tag)
    value := if x.rule.val = 1 || x.rule.val = 2 then d.substValue x.substIdx.val else x.value
    shows := x.shows || x.rule.val = 1 || x.rule.val = 2 }

/-- The node whose slot window holds a slot. -/
def Dev.windowNode (d : Dev) (n : Nat) : Option Nat :=
  (Tab.find (fun _ w => decide (w.1 ≤ n) && decide (n < w.1 + w.2)) d.store.windows).map (·.1)

/-- The gone flag of a node. -/
def Dev.gone (d : Dev) (node : Nat) : Gone := Tab.get (fun _ => ⟨false, []⟩) d.store.gone node

/-- Sets the gone flag of a node. -/
def Dev.putGone (node : Nat) (g : Gone) (d : Dev) : Dev :=
  { d with store := { d.store with gone := Tab.set (fun _ => ⟨false, []⟩) d.store.gone node g } }

/-- Whether reads return the slot marked because its node is gone (R67): the flag is set and no write came since. -/
def Dev.slotGone (d : Dev) (n : Nat) : Bool :=
  match d.windowNode n with
  | some node => (d.gone node).on && !(d.gone node).written.contains n
  | none => false

/-- A slot as every read sees it (R54, R56 FROZEN, R61, R64, R65, R67); stores nothing. -/
def Dev.evalSlot (d : Dev) (n : Nat) : Slot :=
  let x := d.slot n
  if !x.isDefined then slotUndefined
  else if x.owner = 7 then { x with value := d.substValue x.substIdx.val, tag := 0xA0 }
  else
    let x := if x.shows then { x with value := d.substValue x.substIdx.val } else x
    if d.slotGone n || (!tagStale x.tag && d.overdue x) then d.marked x else x

/-- Word 0 of a slot as read (R79): value, tag, CAPTURE bits 23..0. -/
def slotWord0 (x : Slot) : Nat := x.value.toNat + x.tag.toNat * 2 ^ 32 + x.capture.toNat % 2 ^ 24 * 2 ^ 40

/-- Word 1 of a slot as read (R53, R79): CAPTURE bits 39..24 and the metadata. -/
def slotWord1 (x : Slot) : Nat :=
  x.capture.toNat / 2 ^ 24 + x.routePtr.val * 2 ^ 16 + x.substIdx.val * 2 ^ 30 + x.rule.val * 2 ^ 43 +
    b2n x.consumed * 2 ^ 45 + b2n x.isDefined * 2 ^ 46 + x.owner.val * 2 ^ 47 + x.ageIdx.val * 2 ^ 50 + x.type.toNat * 2 ^ 56

/-! ### Routes (R68, R69) -/

/-- The target words of a route list from a word index on, up to the first with LAST. -/
def routeWalk (routes : Tab Word) : Nat → Nat → List Word
  | 0, _ => []
  | fuel + 1, i =>
    let w := Tab.get (fun _ => 0) routes i
    if w.getLsbD 31 then [w] else w :: routeWalk routes fuel (i + 1)

/-- The route list of a slot; none where ROUTE_PTR is 0. -/
def Dev.routeList (d : Dev) (x : Slot) : List Word :=
  if x.routePtr.val = 0 then [] else routeWalk d.store.routes (32768 - 2 * x.routePtr.val) (2 * x.routePtr.val)

/-- KIND of a target word. -/
def routeKind (w : Word) : Nat := bits w.toNat 29 27

/-- "Change" (R69): a difference in VALUE or in tag bits 39..35. -/
def slotChanged (old new : Slot) : Bool := old.value ≠ new.value || old.tag.toNat / 8 ≠ new.tag.toNat / 8

/-- Fires a slot's routes after an accepted write or a stored marking, subject to ON_CHANGE (R68). -/
def Dev.fireRoutes (n : Nat) (old new : Slot) (d : Dev) : Dev :=
  let ws := (d.routeList new).filter (fun w =>
    routeKind w ≠ 0 && routeKind w < 6 && (!w.getLsbD 30 || slotChanged old new))
  { d with store := { d.store with routeQ := d.store.routeQ ++ ws.map (fun w => ⟨n, w, d.frc.toNat⟩) } }

/-! ### Writes -/

/-- The code of a source in SIG_REFUSED (R84). -/
def srcCode : StoreSrc → Nat
  | .dio => 0
  | .millwright => 1
  | .drover _ => 2
  | .engine _ => 3
  | .host => 4
  | .mgmt => 5

/-- The arbitration priority of a source (R70); 1 wins. -/
def srcPrio : StoreSrc → Nat
  | .dio => 2
  | .millwright => 3
  | .drover _ => 4
  | .engine e => 5 + e.val
  | .host => 13
  | .mgmt => 14

/-- The source is an engine. -/
def srcIsEngine : StoreSrc → Bool
  | .engine _ => true
  | _ => false

/-- The source is the host or the management port. -/
def srcIsHost : StoreSrc → Bool
  | .host => true
  | .mgmt => true
  | _ => false

/-- Whether an owner class admits a source (R56). -/
def ownerAdmits (owner : Fin 8) (src : StoreSrc) : Bool :=
  match owner.val with
  | 0 => true
  | 1 => srcCode src = 2
  | 2 => srcIsEngine src
  | 3 => srcIsHost src
  | 4 => srcCode src = 1
  | 5 => srcCode src = 0
  | 6 => srcIsEngine src || srcIsHost src
  | _ => false

/-- The tag the store forms from each source (R57). -/
def formTag (src : StoreSrc) (t : Byte) : Byte :=
  match src with
  | .engine _ => t
  | .drover authb => mkTag (tagValid t) (tagStale t) (tagSubst t) (authb && tagAuth t) (tagTest t) 2
  | .host => mkTag (tagValid t) false (tagSubst t) false (tagTest t) 3
  | .mgmt => mkTag (tagValid t) false (tagSubst t) false (tagTest t) 3
  | .millwright => mkTag true false false false false 5
  | .dio => mkTag true false false false (tagTest t) 6

/-- Only engine and Drover writes carry an explicit capture time (R58). -/
def srcCapture (src : StoreSrc) (now : Capture) (c : Option Capture) : Capture :=
  match src with
  | .engine _ => c.getD now
  | .drover _ => c.getD now
  | _ => now

/-- Counts a refused write (R54, R56, R72). -/
def Dev.storeRefuse (src : StoreSrc) (n : Nat) (d : Dev) : Dev :=
  ((d.bump Fld.SIG_REFUSED_COUNT).put Fld.SIG_REFUSED_SOURCE (srcCode src)).put Fld.SIG_REFUSED_SLOT n

/-- Whether a slot admits a write of a source. -/
def Dev.storeAdmits (d : Dev) (src : StoreSrc) (n : Nat) : Bool := (d.slot n).isDefined && ownerAdmits (d.slot n).owner src

/-- The slot after an accepted write (R57, R58, R59, R65). -/
def Dev.written (d : Dev) (r : StoreReq) : Slot :=
  { d.slot r.slot.val with
    value := r.word.value
    tag := formTag r.src r.word.tag
    capture := srcCapture r.src d.now8 r.capture
    consumed := false
    exempt := false
    shows := false }

/-- Notes a write into a gone node's window (R67). -/
def Dev.noteGoneWrite (n : Nat) (d : Dev) : Dev :=
  match d.windowNode n with
  | some node =>
    if (d.gone node).on then d.putGone node { d.gone node with written := n :: (d.gone node).written } else d
  | none => d

/-- Stores an accepted write and fires the slot's routes. -/
def Dev.storeAccept (r : StoreReq) (d : Dev) : Dev :=
  let old := d.slot r.slot.val
  let new := d.written r
  ((d.putSlot r.slot.val new).noteGoneWrite r.slot.val).fireRoutes r.slot.val old new

/-- The request of highest priority. -/
def topReq : List StoreReq → Option StoreReq
  | [] => none
  | r :: rs =>
    match topReq rs with
    | some b => if srcPrio b.src < srcPrio r.src then some b else some r
    | none => some r

/-- Writes that reach one slot in one store cycle (R70): each that the slot does not admit is refused and counted; of the
others the one of highest priority is stored and the rest are counted in SIG_COLLIDE. -/
def Dev.storeCycle (rs : List StoreReq) (d : Dev) : Dev :=
  let ok := rs.filter (fun r => d.storeAdmits r.src r.slot.val)
  let d := d.each (rs.filter (fun r => !d.storeAdmits r.src r.slot.val)) (fun r => Dev.storeRefuse r.src r.slot.val)
  match topReq ok with
  | some r => (d.count Fld.SIG_COLLIDE_COUNT (ok.length - 1)).storeAccept r
  | none => d

/-- The writes among `rs` that fall on slot `n`. -/
def onSlot (n : Fin 131072) (rs : List StoreReq) : List StoreReq := rs.filter (fun r => r.slot = n)

/-- One write with its rivals of the same store cycle on the same slot. -/
def Dev.storeWrite (r : StoreReq) (rivals : List StoreReq) (d : Dev) : Dev := d.storeCycle (r :: onSlot r.slot rivals)

/-- The code a host or management write to a slot completes with (R54, R56; a write that loses arbitration completes E_OK). -/
def Dev.storeCode (d : Dev) (src : StoreSrc) (n : Nat) : Nat := if d.storeAdmits src n then E_OK else E_PERM

/-! ### Markings -/

/-- Stores the marking into a slot, counts it and fires the routes (R57, R59, R62). -/
def Dev.storeMark (n : Nat) (d : Dev) : Dev :=
  let old := d.slot n
  let new := { d.marked old with consumed := false }
  ((d.putSlot n new).bump Fld.SIG_STALE_EVT_COUNT).fireRoutes n old new

/-- Whether the age scanner marks a slot (R62); a FROZEN slot reads its substitute and is not marked. -/
def Dev.scanMarks (d : Dev) (n : Nat) : Bool :=
  (d.slot n).isDefined && (d.slot n).owner ≠ 7 && !tagStale (d.slot n).tag && d.overdue (d.slot n)

/-- The age scanner's visit of a slot, with the writes of the same store cycle: an admitted write wins and the marking is
dropped (R71). -/
def Dev.scanVisit (n : Fin 131072) (rivals : List StoreReq) (d : Dev) : Dev :=
  if d.scanMarks n.val then
    if (onSlot n rivals).any (fun r => d.storeAdmits r.src r.slot.val) then d.storeCycle (onSlot n rivals)
    else (d.storeCycle (onSlot n rivals)).storeMark n.val
  else d

/-! ### Invalidation (R66) and node windows (R67) -/

/-- The slot after invalidation (R64 right column). -/
def Dev.invalidated (d : Dev) (x : Slot) : Slot :=
  { x with
    value := if x.rule.val = 2 then d.substValue x.substIdx.val else 0
    tag := if x.rule.val = 2 then 0x20 else 0
    capture := 0
    consumed := true
    exempt := true
    shows := x.rule.val = 2 }

/-- Invalidates a slot where it is defined. -/
def Dev.invalidate (n : Nat) (d : Dev) : Dev :=
  if (d.slot n).isDefined then d.putSlot n (d.invalidated (d.slot n)) else d

/-- The defined slots of a range. -/
def Dev.definedIn (d : Dev) (first count : Nat) : List Nat :=
  (d.store.slots.filter (fun e => decide (first ≤ e.1) && decide (e.1 < first + count) && e.2.isDefined)).map (·.1)

/-- Invalidates the defined slots of a range. -/
def Dev.invalidateRange (first count : Nat) (d : Dev) : Dev := d.each (d.definedIn first count) Dev.invalidate

/-- The slots of a range become undefined (R46). -/
def Dev.undefineRange (first count : Nat) (d : Dev) : Dev :=
  { d with store := { d.store with slots := d.store.slots.dropRange first count } }

/-- The number of defined slots. -/
def Dev.definedCount (d : Dev) : Nat := (d.store.slots.filter (fun e => e.2.isDefined)).length

/-- The slot window of a node. -/
def Dev.window (d : Dev) (node : Nat) : Nat × Nat := Tab.get (fun _ => (0, 0)) d.store.windows node

/-- The marker's position in a node's window. -/
def Dev.markPos (d : Dev) (node : Nat) : Nat := Tab.get (fun _ => 0) d.store.markPos node

/-- Sets the marker's position in a node's window. -/
def Dev.putMarkPos (node i : Nat) (d : Dev) : Dev :=
  { d with store := { d.store with markPos := Tab.set (fun _ => 0) d.store.markPos node i } }

/-- The node whose window the marker works on: the lowest with its gone flag set and slots left. -/
def Dev.markNode (d : Dev) : Option Nat :=
  (Tab.find (fun node g => g.on && decide (d.markPos node < (d.window node).2)) d.store.gone).map (·.1)

/-- SIG_MARK shows the window the marker works on and what is left of it (R84). -/
def Dev.markShow (d : Dev) : Dev :=
  match d.markNode with
  | some node =>
    ((d.putFlag Fld.SIG_MARK_BUSY true).put Fld.SIG_MARK_NODE node).put Fld.SIG_MARK_REMAIN ((d.window node).2 - d.markPos node)
  | none => (d.putFlag Fld.SIG_MARK_BUSY false).put Fld.SIG_MARK_REMAIN 0

/-- A node is declared gone (R67): its window's gone flag is set and the marker starts. -/
def Dev.nodeGone (node : Nat) (d : Dev) : Dev :=
  if (d.window node).2 = 0 then d else ((d.putGone node ⟨true, []⟩).putMarkPos node 0).markShow

/-- Writes that reach slots in the store cycle of their structural invalidation, which wins (R70): each that its slot does not admit
is refused, the others are discarded and counted. -/
def Dev.invalidationWins (rs : List StoreReq) (d : Dev) : Dev :=
  let ok := rs.filter (fun r => d.storeAdmits r.src r.slot.val)
  (d.each (rs.filter (fun r => !d.storeAdmits r.src r.slot.val)) (fun r => Dev.storeRefuse r.src r.slot.val)).count
    Fld.SIG_COLLIDE_COUNT ok.length

/-- The writes among `rs` that fall into a node's slot window. -/
def Dev.inWindow (d : Dev) (node : Nat) (rs : List StoreReq) : List StoreReq :=
  rs.filter (fun r => decide ((d.window node).1 ≤ r.slot.val) && decide (r.slot.val < (d.window node).1 + (d.window node).2))

/-- A rejoin is declared (R66, R67): the gone flag is cleared and the window invalidated, whatever else writes it in that cycle. -/
def Dev.nodeRejoin (node : Nat) (rivals : List StoreReq) (d : Dev) : Dev :=
  let d := d.invalidationWins (d.inWindow node rivals)
  ((d.putGone node ⟨false, []⟩).invalidateRange (d.window node).1 (d.window node).2).markShow

/-- One step of the background marker (R67): the next slot of the window gets the marking unless it was written since the
declaration. A marking that loses to a write of the same cycle is dropped, and not counted as a discarded write (R71; log entry 142). -/
def Dev.markStep (rivals : List StoreReq) (d : Dev) : Dev :=
  match d.markNode with
  | none => d
  | some node =>
    let n := (d.window node).1 + d.markPos node
    let rs := rivals.filter (fun r => r.slot.val = n)
    let won := rs.any (fun r => d.storeAdmits r.src r.slot.val)
    let marks := (d.slot n).isDefined && (d.slot n).owner ≠ 7 && !(d.gone node).written.contains n
    let d := d.storeCycle rs
    let d := if marks && !won then d.storeMark n else d
    (d.putMarkPos node (d.markPos node + 1)).markShow

/-- A consuming read of a slot (R81): the evaluated value, TAG and CONSUMED_BEFORE latched on the path, CONSUMED set. An
undefined slot returns zeros and consumes nothing. -/
def Dev.consume (p : Path) (n : Nat) (d : Dev) : Nat × Dev :=
  let x := d.evalSlot n
  let hi := BitVec.ofNat 32 (x.tag.toNat + 256 * b2n x.consumed)
  let d := if x.isDefined then d.putSlot n { d.slot n with consumed := true } else d
  (x.value.toNat, d.latchRead p hi)

end Sys2Proof.Machine
end

