-- ==== Sys2Proof/Machine/Flags.lean ====
section
/-! DEFINITION. Tags and flags inside an engine thread: the combination of tags (R95), the folding of PT (R96), the flags of
CMP and the condition codes (R99, R101). -/

namespace Sys2Proof.Machine

/-- The neutral tag N (R95). -/
def tagNeutral : Byte := 0x94

/-- The combination a ⊗ b (R95). -/
def tagComb (a b : Byte) : Byte :=
  mkTag (tagValid a && tagValid b) (tagStale a || tagStale b) (tagSubst a || tagSubst b) (tagAuth a && tagAuth b)
    (tagTest a || tagTest b) 4

/-- A tag with another folded in, SRC kept (R96). -/
def tagFold (a pt : Byte) : Byte :=
  mkTag (tagValid a && tagValid pt) (tagStale a || tagStale pt) (tagSubst a || tagSubst pt) (tagAuth a && tagAuth pt)
    (tagTest a || tagTest pt) (tagSrc a)

/-- A tag with its SRC replaced. -/
def tagWithSrc (a : Byte) (src : Nat) : Byte := mkTag (tagValid a) (tagStale a) (tagSubst a) (tagAuth a) (tagTest a) src

/-- VALID and AUTH set, STALE, SUBST and TEST clear: the quality STW asks for (R97). -/
def tagClean (a : Byte) : Bool := a.toNat / 8 = 18

/-- The degradation of TAGDN (R99): X[4] clears VALID, X[3] sets STALE, X[2] sets SUBST, X[1] clears AUTH, X[0] sets TEST. -/
def tagDegrade (x : BitVec 5) (a : Byte) : Byte :=
  mkTag (tagValid a && !x.getLsbD 4) (tagStale a || x.getLsbD 3) (tagSubst a || x.getLsbD 2) (tagAuth a && !x.getLsbD 1)
    (tagTest a || x.getLsbD 0) (tagSrc a)

/-- The flags after a comparison A − B (R99, R101: C = 1 when A is below B unsigned). -/
def Thread.compare (a b : Word) (ct : Byte) (th : Thread) : Thread :=
  let r := a - b
  { th with
    z := r = 0
    n := r.getLsbD 31
    c := a.toNat < b.toNat
    v := xor a.msb b.msb && xor a.msb r.msb
    ct := ct }

/-- Whether a condition holds (R101). -/
def Thread.holds (th : Thread) (cond : Fin 16) : Bool :=
  match cond.val with
  | 0 => true
  | 1 => th.z
  | 2 => !th.z
  | 3 => th.c
  | 4 => !th.c
  | 5 => th.n ≠ th.v
  | 6 => th.n = th.v
  | 7 => !th.c && !th.z
  | 8 => th.c || th.z
  | 9 => !th.z && th.n = th.v
  | 10 => th.z || th.n ≠ th.v
  | 11 => th.rl
  | 12 => !th.rl
  | 13 => th.job = E_OK
  | 14 => th.job ≠ E_OK
  | _ => th.cn

/-- Whether a condition reads the Z, N, C or V flags, and so folds CT (R101). -/
def condFolds (cond : Fin 16) : Bool := 1 ≤ cond.val && cond.val ≤ 10

end Sys2Proof.Machine
end

