-- ==== Sys2Proof/Machine/Operands.lean ====
section
/-! DEFINITION. Operand forms: the words of the engine instructions (R98, R99), operand B and its immediate, slot and data
addresses, byte and bit access to the memories. -/

namespace Sys2Proof.Machine

/-! ### Instruction words (R98) -/

/-- A format R word. -/
def wordR (op : Nat) (d a b : Nat) (x : Nat) : BitVec 40 :=
  BitVec.ofNat 40 (op * 2 ^ 34 + d * 2 ^ 30 + a * 2 ^ 26 + b * 2 ^ 22 + x)

/-- A format I word. -/
def wordI (op : Nat) (d a : Nat) (imm : Nat) : BitVec 40 :=
  BitVec.ofNat 40 (op * 2 ^ 34 + d * 2 ^ 30 + a * 2 ^ 26 + imm)

/-- A format J word. -/
def wordJ (op : Nat) (c target : Nat) : BitVec 40 := BitVec.ofNat 40 (op * 2 ^ 34 + c * 2 ^ 30 + target)

/-- A format Z word. -/
def wordZ (op : Nat) : BitVec 40 := BitVec.ofNat 40 (op * 2 ^ 34)

/-- A format R word whose operand B may be an immediate (X[21] = 1, field B 0). -/
def wordOpB (op : Nat) (d a : GReg) : OpB → BitVec 40
  | .reg b => wordR op d.val a.val b.val 0
  | .imm x => wordR op d.val a.val 0 (2 ^ 21 + x.toNat)

/-- The word of SCALE (R100). -/
def wordScale (d a : GReg) (m : ScaleM) (signed trunc : Bool) (sh : Fin 64) : BitVec 40 :=
  let x := sh.val + 64 * b2n trunc + 128 * b2n signed
  match m with
  | .reg b => wordR 0x07 d.val a.val b.val x
  | .imm k => wordR 0x07 d.val a.val 0 (2 ^ 21 + k.toNat * 256 + x)

/-! ### Registers -/

/-- G0 to G15 as read: G0 is value 0 with the neutral tag (R86). -/
def Thread.reg (th : Thread) (r : GReg) : Tagged :=
  if r = 0 then ⟨0, tagNeutral⟩ else Tab.get (fun _ => (⟨0, 0⟩ : Tagged)) th.g r.val

/-- Writes a general register; writes to G0 are ignored (R86). -/
def Thread.setReg (r : GReg) (w : Tagged) (th : Thread) : Thread :=
  if r = 0 then th else { th with g := Tab.set (fun _ => (⟨0, 0⟩ : Tagged)) th.g r.val w }

/-- The value of operand B. -/
def Thread.opVal (th : Thread) : OpB → Word
  | .reg b => (th.reg b).value
  | .imm x => x.signExtend 32

/-- The tag operand B brings into a combination: an immediate takes no part, for which N stands (R95). -/
def Thread.opTag (th : Thread) : OpB → Byte
  | .reg b => (th.reg b).tag
  | .imm _ => tagNeutral

/-- The value of operand M of SCALE as an integer (R100): an immediate is unsigned. -/
def Thread.scaleVal (th : Thread) (signed : Bool) : ScaleM → Int
  | .reg b => if signed then (th.reg b).value.toInt else (th.reg b).value.toNat
  | .imm k => k.toNat

/-- The tag of operand M of SCALE. -/
def Thread.scaleTag (th : Thread) : ScaleM → Byte
  | .reg b => (th.reg b).tag
  | .imm _ => tagNeutral

/-- The data address of LDW, STW, LDT and STT: A + IMM modulo 2^32 (R99). -/
def Thread.dataAddr (th : Thread) (a : GReg) (imm : BitVec 26) : Nat := ((th.reg a).value + imm.signExtend 32).toNat

/-- The slot index of LDS, STS and AGE: A + IMM[16:0] (R99). -/
def Thread.slotIdx (th : Thread) (a : GReg) (imm : BitVec 17) : Nat := (th.reg a).value.toNat + imm.toNat

/-! ### Bytes and words -/

/-- A number from its bytes, lowest first. -/
def leNat : List Byte → Nat
  | [] => 0
  | b :: bs => b.toNat + 256 * leNat bs

/-- A number from its bytes, highest first. -/
def beNat (bs : List Byte) : Nat := leNat bs.reverse

/-- The low `n` bytes of a number, lowest first. -/
def leBytes : Nat → Nat → List Byte
  | 0, _ => []
  | n + 1, v => BitVec.ofNat 8 v :: leBytes n (v / 256)

/-- The low `n` bytes of a number, highest first. -/
def beBytes (n v : Nat) : List Byte := (leBytes n v).reverse

/-- `n` bytes of a frame from `i`, filled with 0. -/
def bytesAt (bs : List Byte) (i n : Nat) : List Byte := (bs.drop i ++ List.replicate n 0).take n

/-- `n` bytes of a byte table from a key on. -/
def Tab.bytes (t : Tab Byte) (a : Nat) : Nat → List Byte
  | 0 => []
  | n + 1 => Tab.get (fun _ => 0) t a :: Tab.bytes t (a + 1) n

/-- Writes bytes into a byte table from a key on. -/
def Tab.setBytes (t : Tab Byte) (a : Nat) : List Byte → Tab Byte
  | [] => t
  | b :: bs => Tab.setBytes (Tab.set (fun _ => 0) t a b) (a + 1) bs

/-- `n` bytes of an engine's data memory. -/
def Dev.dmem (d : Dev) (e a n : Nat) : List Byte := Tab.bytes d.eng.dmem (131072 * e + a) n

/-- Writes bytes to an engine's data memory. -/
def Dev.putDmem (e a : Nat) (bs : List Byte) (d : Dev) : Dev :=
  { d with eng := { d.eng with dmem := Tab.setBytes d.eng.dmem (131072 * e + a) bs } }

/-- `n` bytes of an assembly buffer. -/
def Dev.asm (d : Dev) (e b off n : Nat) : List Byte := Tab.bytes d.eng.asmBytes (65536 * e + 4096 * b + off) n

/-- Writes bytes to an assembly buffer. -/
def Dev.putAsm (e b off : Nat) (bs : List Byte) (d : Dev) : Dev :=
  { d with eng := { d.eng with asmBytes := Tab.setBytes d.eng.asmBytes (65536 * e + 4096 * b + off) bs } }

/-- Bit `i` of a byte list: bit (i mod 8) of byte i / 8 (R106). -/
def bitAt (bs : List Byte) (i : Nat) : Bool := ((bs.getD (i / 8) 0)).getLsbD (i % 8)

/-- A number from bits, lowest first. -/
def bitsNat : List Bool → Nat
  | [] => 0
  | b :: bs => b2n b + 2 * bitsNat bs

/-! ### CRCs the spec names by polynomial -/

/-- One byte into a left-shifting CRC of `w` bits. -/
def crcByte (w poly : Nat) (crc : Nat) (b : Byte) : Nat :=
  (List.range 8).foldl (fun c i =>
    let top := bit c (w - 1)
    let c := c * 2 % 2 ^ w
    if xor top (b.getLsbD (7 - i)) then c ^^^ poly else c) crc

/-- A left-shifting CRC of a byte list, no final inversion. -/
def crcLeft (w poly init : Nat) (bs : List Byte) : Nat := bs.foldl (crcByte w poly) init

end Sys2Proof.Machine
end

