-- ==== Sys2Proof/Machine/Engine.lean ====
section
/-! DEFINITION. The engines' machinery (chapter 03): threads and their scheduling, event queues, receive rings in data memory,
assembly buffers, traps and overruns, the issue of one instruction. -/

namespace Sys2Proof.Machine

/-! ### Threads -/

/-- The modes in which the engines run (R120). -/
def Dev.enginesRun (d : Dev) : Bool := d.inService

/-- A thread. -/
def Dev.thread (d : Dev) (e t : Nat) : Thread := Tab.get (fun _ => threadIdle) d.eng.threads (4 * e + t)

/-- Sets a thread. -/
def Dev.putThread (e t : Nat) (th : Thread) (d : Dev) : Dev :=
  { d with eng := { d.eng with threads := Tab.set (fun _ => threadIdle) d.eng.threads (4 * e + t) th } }

/-- Changes a thread. -/
def Dev.onThread (e t : Nat) (f : Thread → Thread) (d : Dev) : Dev := d.putThread e t (f (d.thread e t))

/-- PRIO of a thread. -/
def Dev.prio (d : Dev) (e t : Nat) : Nat := d.fld (Fld.ENG_THR_CFG_PRIO e t)

/-- A thread that could issue at a time: an event in progress and nothing waited for, a slot load over (R91). -/
def Thread.isReady (now : Nat) (th : Thread) : Bool :=
  th.ev.isSome && (match th.wait with | .ready => true | .load u => decide (u ≤ now) | _ => false)

/-- The rank of a thread: a demoted one stands below priority 0 (R91). -/
def Dev.rank (d : Dev) (e t : Nat) : Nat := if (d.thread e t).demoted then 0 else 1 + d.prio e t

/-- The ready threads of an engine in the order of their turns: the one after the last issuer first (R91). -/
def Dev.readyThreads (d : Dev) (e : Nat) : List Nat :=
  let rr := Tab.get (fun _ => 3) d.eng.rr e
  ([1, 2, 3, 4].map (fun i => (rr + i) % 4)).filter (fun t => (d.thread e t).isReady d.tns)

/-- The thread the scheduler issues from: highest rank, then turn (R91). -/
def Dev.selected (d : Dev) (e : Nat) : Option Nat :=
  (d.readyThreads e).foldl (fun best t =>
    match best with
    | some b => if d.rank e b < d.rank e t then some t else some b
    | none => some t) none

/-- The register VECk of a thread: the entry address for an event kind; 0xFFFF where it is not accepted (R123). -/
def Dev.vec (d : Dev) (e t kind : Nat) : Nat := Tab.get (fun _ => 0xFFFF) d.eng.vecs (8 * (4 * e + t) + kind)

/-- An unused freshness entry. -/
def freshNone : Fresh := ⟨0, 0, 0, 0, 0, 0, 0⟩

/-- A freshness entry of an engine. -/
def Dev.freshEntry (d : Dev) (e i : Nat) : Fresh := Tab.get (fun _ => freshNone) d.eng.fresh (512 * e + i)

/-- The loaded instruction count of an engine (R98). -/
def Dev.imemCount (d : Dev) (e : Nat) : Nat := Tab.get (fun _ => 0) d.eng.imemCount e

/-- An instruction word. -/
def Dev.imem (d : Dev) (e pc : Nat) : BitVec 40 := Tab.get (fun _ => 0) d.eng.imem (16384 * e + pc)

/-- The capture time that stands for a time `t` kept in ns since power-on. -/
def Dev.captureAt (d : Dev) (t : Nat) : Capture :=
  BitVec.ofNat 40 ((d.frc.toNat + 2 ^ 64 - (d.tns - t)) % 2 ^ 64 / 8)

/-! ### Event queues (R89) -/

/-- Discards an event that finds no room or no vector. -/
def Dev.eventDrop (e t kind : Nat) (d : Dev) : Dev :=
  (((d.bump (Fld.ENG_EVQ_DROP_COUNT e)).put (Fld.ENG_EVQ_DROP_THREAD e) t).put (Fld.ENG_EVQ_DROP_KIND e) kind).raise (72 + e)

/-- Whether an arriving event merges into a waiting entry: SLOT with equal slot and code, TIMER with equal code. -/
def QEvent.merges (q : QEvent) (kind code source : Nat) : Bool :=
  q.kind = kind && q.code = code && (kind = 3 || (kind = 2 && q.source = source))

/-- An event of kind 2 to 6 arrives for a thread (R89). -/
def Dev.postEvent (e t kind code source : Nat) (ts : Capture) (d : Dev) : Dev :=
  if !d.enginesRun then d
  else if d.vec e t kind = 0xFFFF then d.eventDrop e t kind
  else if (d.thread e t).evq.any (fun q => q.merges kind code source) then
    (d.onThread e t (fun th =>
      { th with evq := th.evq.map (fun q => if q.merges kind code source then { q with ts := ts } else q) })).bump
      (Fld.ENG_MERGED_COUNT e)
  else if 32 ≤ (d.thread e t).evq.length then d.eventDrop e t kind
  else d.onThread e t (fun th => { th with evq := th.evq ++ [⟨kind, code, source, ts, d.tns⟩] })

/-! ### Receive rings (R88, R97) -/

/-- A receive ring: 0 to 31 of a CAN controller, 32 to 47 of an Ethernet binding. -/
def Dev.ring (d : Dev) (r : Nat) : Option RxRing := Tab.get (fun _ => none) d.eng.rings r

/-- Sets a receive ring. -/
def Dev.putRing (r : Nat) (x : Option RxRing) (d : Dev) : Dev :=
  { d with eng := { d.eng with rings := Tab.set (fun _ => none) d.eng.rings r x } }

/-- Where a record of `n` bytes goes in a ring: its start and the bytes a wrap marker skips; none where it does not fit
(R204). A record is contiguous. -/
def RxRing.place (r : RxRing) (n : Nat) : Option (Nat × Nat) :=
  let tail := (r.wr + r.size - r.used) % r.size
  if r.size < n || r.used = r.size then none
  else if r.used ≠ 0 && r.wr < tail then
    if n ≤ tail - r.wr then some (r.wr, 0) else none
  else if n ≤ r.size - r.wr then some (r.wr, 0)
  else if n ≤ (if r.used = 0 then r.wr else tail) then some (0, r.size - r.wr)
  else none

/-- Places a record's bytes in a ring; `marker` are the bytes of the wrap marker for a number of skipped bytes. -/
def Dev.ringStore (i : Nat) (r : RxRing) (start skip : Nat) (bs marker : List Byte) (ev : Event) (d : Dev) : Dev :=
  let e := r.engine.val
  let d := if skip = 0 then d else d.putDmem e (r.base + r.wr) marker
  let d := d.putDmem e (r.base + start) bs
  d.putRing i (some { r with
    wr := (start + bs.length) % r.size
    used := r.used + skip + bs.length
    recs := r.recs ++ [⟨start, bs.length, skip, d.tns, ev⟩] })

/-- The oldest record of a ring is released and the consumer pointer advances (R88). -/
def Dev.ringRelease (i : Nat) (d : Dev) : Dev :=
  match d.ring i with
  | some r =>
    match r.recs with
    | q :: qs => d.putRing i (some { r with used := r.used - (q.skip + q.len), recs := qs })
    | [] => d
  | none => d

/-- The numbers of the rings bound to a thread that hold a record. -/
def Dev.pendingRings (d : Dev) (e t : Nat) : List Nat :=
  (List.range 48).filter (fun i =>
    match d.ring i with
    | some r => r.engine.val = e && r.thread.val = t && !r.recs.isEmpty
    | none => false)

/-- The ring of an engine whose region holds a data address. -/
def Dev.ringAt (d : Dev) (e a : Nat) : Option Nat :=
  (List.range 48).find? (fun i =>
    match d.ring i with
    | some r => r.engine.val = e && r.base ≤ a && a < r.base + r.size
    | none => false)

/-- SRC of the words of a ring: 0 for a CAN ring, 1 for an Ethernet ring. -/
def ringSrc (i : Nat) : Nat := if i < 32 then 0 else 1

/-- The tag LDW and LDT give to bytes inside a receive ring (R97); none outside every ring. -/
def Dev.ringTag (d : Dev) (e t a : Nat) : Option Byte :=
  match d.ringAt e a with
  | none => none
  | some i =>
    match d.ring i with
    | none => none
    | some r =>
      match r.recs.findIdx? (fun q => r.base + q.start ≤ a && a < r.base + q.start + q.len) with
      | none => some (BitVec.ofNat 8 (ringSrc i))
      | some k =>
        let th := d.thread e t
        let current := k = 0 && (th.ev.bind (·.ring)) = some i
        let test := ((r.recs[k]?).map (fun q => bit q.ev.flags 6)).getD false
        some (mkTag true false false (current && th.fauth) test (ringSrc i))

/-! ### Assembly buffers (R116) -/

/-- The template of an open assembly buffer; none where the buffer is free. -/
def Dev.asmTmpl (d : Dev) (e b : Nat) : Option Nat := Tab.get (fun _ => none) d.eng.asmTmpl (16 * e + b)

/-- Opens or frees an assembly buffer. -/
def Dev.putAsmTmpl (e b : Nat) (x : Option Nat) (d : Dev) : Dev :=
  { d with eng := { d.eng with asmTmpl := Tab.set (fun _ => none) d.eng.asmTmpl (16 * e + b) x } }

/-- The free buffer an engine gives out: the lowest-numbered (log entry 6). -/
def Dev.freeAsm (d : Dev) (e : Nat) : Option Nat := (List.range 16).find? (fun b => (d.asmTmpl e b).isNone)

/-- The buffer a handle names. -/
def Thread.handle (th : Thread) (h : Nat) : Option Nat := Tab.get (fun _ => none) th.handles h

/-- A template of an engine. -/
def Dev.template (d : Dev) (e i : Nat) : Option Template := Tab.get (fun _ => none) d.eng.templates (32 * e + i)

/-- Closes a handle without sending. -/
def Dev.closeHandle (e t h : Nat) (d : Dev) : Dev :=
  match (d.thread e t).handle h with
  | some b =>
    (d.putAsmTmpl e b none).onThread e t (fun th => { th with handles := Tab.set (fun _ => none) th.handles h none })
  | none => d

/-- Closes every open handle of a thread. -/
def Dev.closeHandles (e t : Nat) (d : Dev) : Dev := d.each [0, 1, 2, 3] (Dev.closeHandle e t)

/-- Gives a buffer to a handle and copies the template into it. -/
def Dev.openHandle (e t h b tmpl : Nat) (d : Dev) : Dev :=
  let bs := ((d.template e tmpl).map (·.bytes)).getD []
  ((d.putAsmTmpl e b (some tmpl)).putAsm e b 0 bs).onThread e t (fun th =>
    { th with handles := Tab.set (fun _ => none) th.handles h (some b) })

/-! ### Jobs on the AES cores (R112, R396, R420) -/

/-- Whether an earlier job on the same entry of the engine is still to complete (R112). -/
def Dev.macHeld (d : Dev) (e : Nat) (entry : Fin 512) (no : Nat) : Bool :=
  [0, 1, 2, 3].any (fun u =>
    match (d.thread e u).wait with
    | .mac _ i _ _ n _ => i = entry && n < no
    | _ => false)

/-- The MACGEN and MACVER jobs in progress. -/
def Dev.macJobs (d : Dev) : Nat :=
  ((List.range 32).filter (fun k =>
    match (d.thread (k / 4) (k % 4)).wait with
    | .mac op entry _ _ no _ => op ≠ .fresh && !d.macHeld (k / 4) entry no
    | _ => false)).length

/-- The busy times of the AES cores follow the jobs in progress: core k is busy while more than k are (log entry 191). -/
def Dev.coreMark (d : Dev) : Dev :=
  let n := d.macJobs + (d.sec.running.filter (fun r => r.aes)).length
  d.each [0, 1] (fun c d =>
    let x := Tab.get (fun _ => (none, 0)) d.sec.coreBusy c
    let y : Option Nat × Nat := match x.1 with
      | none => (if c < n then some d.tns else none, x.2)
      | some t => if c < n then x else (none, x.2 + (d.tns - t))
    { d with sec := { d.sec with coreBusy := Tab.set (fun _ => (none, 0)) d.sec.coreBusy c y } })

/-- The busy times of the cores start anew. -/
def Dev.coresAnew (d : Dev) : Dev := ({ d with sec := { d.sec with coreBusy := [] } }).coreMark

/-! ### The end of an event (R88, R93) -/

/-- A record that no longer answers to a thread. -/
def Rec.orphan (e t : Nat) (r : Rec) : Rec :=
  match r.prod with
  | .qput e' t' => if e'.val = e && t'.val = t then { r with prod := .event } else r
  | _ => r

/-- Whether a record is a thread's QPUT. -/
def Rec.isQput (e t : Nat) (r : Rec) : Bool :=
  match r.prod with
  | .qput e' t' => e'.val = e && t'.val = t
  | _ => false

/-- A thread's job in the queues: dropped where no record of it has started; a record that has started goes on (R93). -/
def Dev.dropQput (e t : Nat) (d : Dev) : Dev :=
  { d with hq := { d.hq with qs := Tab.map (fun _ => queueIdle) (fun _ x =>
      { x with
        waiting := x.waiting.filter (fun r => !r.isQput e t)
        cur := x.cur.map (fun c => { c with item := c.item.orphan e t }) }) d.hq.qs } }

/-- A thread's job on the ring: withdrawn where it still waits for a tag, a credit or queue space; a read already sent goes on for
nobody (R114). -/
def Dev.dropRing (e : Nat) (t : Nat) (d : Dev) : Dev :=
  let mine (w : Option (Fin 8 × Fin 4)) : Bool := match w with | some (a, b) => a.val = e && b.val = t | none => false
  let by_ (r : RingRead) : Bool := match r.by_ with | .thread a b => a.val = e && b.val = t | _ => false
  let gone := (d.drv.bcast.filter (fun b => mine b.waiter)).map (fun b => b.id)
  let stays (r : RingReq) : Bool := !mine r.waiter && (match r.body with | .share i => !gone.contains i | _ => true)
  { d with drv := { d.drv with
    reads := (d.drv.reads.filter (fun r => !by_ r || r.tag.isSome)).map (fun r => if by_ r then { r with by_ := .nobody } else r)
    bcast := d.drv.bcast.filter (fun b => !mine b.waiter)
    nodes := Tab.map (fun _ => ringNodeIdle) (fun _ x => { x with queue := x.queue.filter stays }) d.drv.nodes } }

/-- Ends the event in progress: its record is released, the handles are closed, a pending job is dropped. -/
def Dev.endEvent (e t : Nat) (d : Dev) : Dev :=
  let d := match ((d.thread e t).ev.bind (·.ring)) with
    | some i => d.ringRelease i
    | none => d
  (((d.closeHandles e t).dropQput e t).dropRing e t).onThread e t (fun th =>
    { th with
      ev := none, wait := .ready, demoted := false, slice := 0, insns := 0, started := none, fauth := false, unseen := [] })

/-- A trap (R93): recorded, the fault source raised, the event abandoned; cause 11 also clears the thread's timer. -/
def Dev.trap (e t cause arg pc : Nat) (d : Dev) : Dev :=
  let d := ((((d.put (Fld.ENG_TRAP_THREAD e) t).put (Fld.ENG_TRAP_CAUSE e) cause).put (Fld.ENG_TRAP_ARG e) arg).put
    (Fld.ENG_TRAP_PC e) pc).bump (Fld.ENG_TRAP_CNT_COUNT e)
  let d := d.raise ((if cause = 11 then 80 else 88) + e)
  let d := if cause = 11 then d.onThread e t (fun th => { th with timer := none }) else d
  d.endEvent e t

/-- An uncorrectable error in an engine's instruction or data memory, met by the thread that issues: trap cause 11 (R93, R94). With no
thread ready nothing traps; the error is counted and raises its source. -/
def Dev.memError (e : Nat) (d : Dev) : Dev :=
  let d := d.bump (Fld.ENG_ECC_UNCORR e)
  match d.selected e with
  | some t => d.trap e t 11 0 (d.thread e t).pc
  | none => d.raise (80 + e)

/-- An overrun (R92, R93); a job of the thread leaves its AES core. -/
def Dev.overrun (e t : Nat) (timeBudget : Bool) (d : Dev) : Dev :=
  (((((d.put (Fld.ENG_OVERRUN_THREAD e) t).putFlag (Fld.ENG_OVERRUN_BUDGET e) timeBudget).bump (Fld.ENG_OVERRUN_COUNT e)).raise
    (64 + e)).endEvent e t).coreMark

/-! ### The start of an event (R86, R87, R90) -/

/-- The pending record of a thread that came first, with its ring. -/
def Dev.oldestRing (d : Dev) (e t : Nat) : Option (Nat × RingRec) :=
  (d.pendingRings e t).foldl (fun best i =>
    match (d.ring i).bind (·.recs.head?) with
    | none => best
    | some q =>
      match best with
      | some (j, b) => if q.arrival < b.arrival then some (i, q) else some (j, b)
      | none => some (i, q)) none

/-- The thread enters an event: PT, event fields, handles and its latches are reset, registers and flags stay. -/
def Dev.beginEvent (e : Fin 8) (t : Fin 4) (ev : Event) (d : Dev) : Dev :=
  ((d.closeHandles e.val t.val).setLatch (.thread e t) ⟨0, 0⟩).onThread e.val t.val (fun th =>
    { th with
      ev := some ev, pt := tagNeutral, fauth := false, wait := .ready, demoted := false, slice := 0, insns := 0,
      started := none, lastLds := none, ldsCaps := [], unseen := [], pc := d.vec e.val t.val ev.kind })

/-- A free thread takes its oldest pending event; at equal arrival a ring record comes first (R90). -/
def Dev.eventStart (e : Fin 8) (t : Fin 4) (d : Dev) : Dev :=
  let th := d.thread e.val t.val
  if !d.enginesRun || th.ev.isSome then d
  else
    match d.oldestRing e.val t.val, th.evq with
    | none, [] => d
    | some (i, q), [] => d.beginEvent e t { q.ev with ring := some i }
    | none, x :: xs => (d.onThread e.val t.val (fun th => { th with evq := xs })).beginEvent e t (queued d x)
    | some (i, q), x :: xs =>
      if q.arrival ≤ x.arrival then d.beginEvent e t { q.ev with ring := some i }
      else (d.onThread e.val t.val (fun th => { th with evq := xs })).beginEvent e t (queued d x)
where
  /-- The event of a queue entry: the TS of a SLOT event is the slot's CAPTURE at the start (R87). -/
  queued (d : Dev) (x : QEvent) : Event :=
    ⟨x.kind, x.code, x.source, 0, 0, 0, 0, 0, if x.kind = 2 then (d.evalSlot x.source).capture else x.ts, 0, none⟩

/-! ### Issue of one instruction -/

/-- Whether the thread may issue now: the engines run, the scheduler selects it, its budgets are not used up (R91, R92). -/
def Dev.mayIssue (d : Dev) (e t : Nat) : Bool :=
  let th := d.thread e t
  d.enginesRun && d.selected e = some t && th.insns < d.fld (Fld.ENG_THR_CFG_INSN_BUDGET e t) &&
    (match th.started with
     | some s => d.tns - s ≤ 1000 * d.fld (Fld.ENG_THR_TIME_TIME_BUDGET e t)
     | none => true)

/-- The counts of issued instructions after one more in the 1 ms interval `ms`. -/
def issueCount (ms : Nat) (x : Nat × Nat × Nat) : Nat × Nat × Nat :=
  if x.1 = ms then (ms, x.2.1 + 1, x.2.2) else (ms, 1, if x.1 + 1 = ms then x.2.1 else 0)

/-- The instructions an engine issued in the 1 ms interval before `ms`. -/
def Dev.issuedBefore (d : Dev) (e ms : Nat) : Nat :=
  let x := Tab.get (fun _ => (0, 0, 0)) d.eng.issued e
  if x.1 = ms then x.2.2 else if x.1 + 1 = ms then x.2.1 else 0

/-- The thread and engine after an instruction has been issued: PC past it, the counts advanced. -/
def Dev.issued (e t : Nat) (d : Dev) : Dev :=
  let d := d.onThread e t (fun th =>
    { th with
      pc := th.pc + 1, insns := th.insns + 1, slice := th.slice + 1,
      wait := .ready, started := some (th.started.getD d.tns) })
  { d with eng := { d.eng with
      rr := Tab.set (fun _ => 3) d.eng.rr e t
      issued := Tab.set (fun _ => (0, 0, 0)) d.eng.issued e
        (issueCount (d.frc.toNat / 1000000) (Tab.get (fun _ => (0, 0, 0)) d.eng.issued e)) } }

/-- Issues the instruction `w` on a thread: where the thread may issue and `w` is the word at its PC, `f` is applied after the
counts have advanced, with the instruction's address; a fetch at or beyond the loaded instructions traps with cause 1 (R98).
Presented at any other moment the command changes nothing (log entry 5). -/
def Dev.issue (e : Fin 8) (t : Fin 4) (w : BitVec 40) (f : Nat → Dev → Dev) (d : Dev) : Dev :=
  let pc := (d.thread e.val t.val).pc
  if !d.mayIssue e.val t.val then d
  else if d.imemCount e.val ≤ pc then (d.issued e.val t.val).trap e.val t.val 1 0 pc
  else if d.imem e.val pc ≠ w then d
  else f pc (d.issued e.val t.val)

/-- Issues an instruction whose whole effect is on its thread. -/
def Dev.issueT (e : Fin 8) (t : Fin 4) (w : BitVec 40) (f : Thread → Thread) (d : Dev) : Dev :=
  d.issue e t w (fun _ d => d.onThread e.val t.val f)

/-- A wait begins: the SLICE count ends and the thread is no longer demoted (R91). -/
def Thread.waiting (x : Wait) (th : Thread) : Thread := { th with wait := x, slice := 0, demoted := false }

/-- A thread waits for a slot load: its duration lies within t_lds and is free (R118; log entry 155). -/
def Dev.loadWait (e t : Nat) (d : Dev) : Dev :=
  let (i, d) := d.draw
  d.onThread e t (Thread.waiting (.load (d.tns + 5 + Config.free i % 21)))

/-- A slot as a thread's event sees it: what a partial ADD has defined since the event started is not there (R45; log entry 157). -/
def Dev.eventSlot (d : Dev) (e t n : Nat) : Slot := if (d.thread e t).unseen.contains n then slotUndefined else d.evalSlot n

/-- The code of a thread's slot write. -/
def Dev.eventCode (d : Dev) (e : Fin 8) (t n : Nat) : Nat :=
  if (d.thread e.val t).unseen.contains n then E_PERM else d.storeCode (.engine e) n

/-- A thread's slot write with its rivals of the same store cycle. -/
def Dev.eventWrite (e : Fin 8) (t : Nat) (n : Fin 131072) (w : Tagged) (cap : Option Capture) (rivals : List StoreReq) (d : Dev) : Dev :=
  if (d.thread e.val t).unseen.contains n.val then (d.storeRefuse (.engine e) n.val).storeCycle (onSlot n rivals)
  else d.storeWrite ⟨.engine e, n, w, cap⟩ rivals

/-- A job completes: JOB is set and the thread resumes. -/
def Thread.jobDone (code : Nat) (th : Thread) : Thread := { th with job := code, wait := .ready }

end Sys2Proof.Machine
end

