-- ==== Sys2Proof/Machine/Report.lean ====
section
/-! DEFINITION. What any block reports: MSI-X vectors and queue messages, system records, recorder appends, management notices,
bridge log entries, declared losses, wakes, and the one operation that changes the mode. -/

namespace Sys2Proof.Machine

/-- The code of a mode (R447). -/
def modeCode : Mode → Nat
  | .off => 0
  | .held => 1
  | .rom => 2
  | .loader => 3
  | .configure => 4
  | .run => 5
  | .degraded => 6
  | .safe => 7
  | .limp => 8
  | .doze => 9
  | .sleep => 10
  | .factory => 11

/-- Calendar seconds and subseconds: seconds in the low 40 bits, subseconds above (R407 bytes 8 to 14). -/
def Dev.calStamp (d : Dev) : Nat :=
  d.fld Fld.TB_CAL_SEC_LO_SEC + d.fld Fld.TB_CAL_SEC_HI_SEC * 2 ^ 32 + d.fld Fld.TB_CAL_SUB * 2 ^ 40

/-! ### MSI-X and queue messages (R335 to R339) -/

/-- Whether the bridge may issue requests (R342). -/
def Dev.mayMaster (d : Dev) : Bool := d.flag Fld.BRG_STATUS_LINK && d.flag Fld.BRG_STATUS_BME

/-- Sends an MSI-X vector's message; a masked vector, or one that may not be issued, sets its pending bit (R335). -/
def Dev.sendVector (v : Nat) (d : Dev) : Dev :=
  if d.flag (Fld.MSIX_CTRL_MASK v) || !d.mayMaster then
    d.put ⟨Reg.MSIX_PBA (v / 32), v % 32, v % 32⟩ 1
  else
    d.emit (.message v ((d.rd (Reg.MSIX_ADDR_LO v)).toNat + (d.rd (Reg.MSIX_ADDR_HI v)).toNat * 2 ^ 32)
      (d.rd (Reg.MSIX_DATA v)).toNat)

/-- A queue pair's own state. -/
def Dev.queue (d : Dev) (q : Nat) : Queue := Tab.get (fun _ => queueIdle) d.hq.qs q

/-- Sets a queue pair's own state. -/
def Dev.putQueue (q : Nat) (x : Queue) (d : Dev) : Dev :=
  { d with hq := { d.hq with qs := Tab.set (fun _ => queueIdle) d.hq.qs q x } }

/-- Changes a queue pair's own state. -/
def Dev.onQueue (q : Nat) (f : Queue → Queue) (d : Dev) : Dev := d.putQueue q (f (d.queue q))

/-- A cause for a queue's message: one message at once, or gathered while HOLDOFF runs (R338). -/
def Dev.queueCause (q : Nat) (d : Dev) : Dev :=
  let hold := 1000 * d.fld (Fld.HQ_IRQ_HOLDOFF q)
  match (d.queue q).lastMsg with
  | some t =>
    if d.tns < t + hold then d.onQueue q (fun x => { x with gathered := true })
    else (d.sendVector (d.fld (Fld.HQ_STATUS_VECTOR q))).onQueue q (fun x => { x with lastMsg := some d.tns })
  | none => (d.sendVector (d.fld (Fld.HQ_STATUS_VECTOR q))).onQueue q (fun x => { x with lastMsg := some d.tns })

/-- Hands a record to a queue's producers (R324); a queue that is not enabled takes none. -/
def Dev.offerRecord (q : Nat) (r : Rec) (d : Dev) : Dev :=
  if d.flag (Fld.HQ_STATUS_ENABLED q) then d.onQueue q (fun x => { x with waiting := x.waiting ++ [r] }) else d

/-- A record of a producer that does not wait, with the present time (R323). -/
def Dev.plainRecord (d : Dev) (kind a b : Nat) (payload : List Byte) : Rec :=
  ⟨kind, a, b, false, false, d.frc.toNat, 0, payload, E_OK, .event⟩

/-- A side-band condition (R339, R340): a system record in the SYSTEM queue; vector SB_VEC where none is named. -/
def Dev.sysRecord (kind a b : Nat) (payload : List Byte) (d : Dev) : Dev :=
  if d.hq.sysQ = 0xFF then d.sendVector d.hq.sbVec else d.offerRecord d.hq.sysQ (d.plainRecord kind a b payload)

/-! ### Recorder appends (R409, R410, R414) -/

/-- When the recorder runs: in the modes of R417, and during the SLEEP entry steps (R459). -/
def Dev.recorderRuns (d : Dev) : Bool := d.inService || d.mode = .configure || d.mode = .doze || d.sys.entry = .sleep

/-- A record stamped with the present calendar time, boot count and FRC (R407). -/
def Dev.stampRecord (d : Dev) (cls : Nat) (payload : List Byte) (host : Bool) : RecAppend :=
  ⟨cls, payload.take 32,
    b2n (d.mode = .factory) + 4 * b2n host + 8 * b2n (d.fld Fld.TB_CAL_STATUS_SETCNT = 0), d.calStamp,
    d.fld Fld.SYS_BOOTCNT_COUNT, d.frc.toNat⟩

/-- An append that finds the recorder FIFO full, or the supervisor halted (R410, R458). -/
def Dev.recLost (d : Dev) : Dev :=
  let d := (d.bump Fld.REC_REFUSED_FIFO).raise 358
  { d with sec := { d.sec with recLoss := true, recLostNote := d.sec.recLostNote + 1 } }

/-- Enters a stamped record into the recorder FIFO, or refuses it (R410, R414): FULL refuses every record, RESERVE the
integrator classes. -/
def Dev.recEnqueue (r : RecAppend) (d : Dev) : Dev :=
  if d.flag Fld.REC_STATUS_FULL then (d.bump Fld.REC_REFUSED_FULL).raise 356
  else if d.flag Fld.REC_STATUS_RESERVE && 0x100 ≤ r.cls then d.bump Fld.REC_REFUSED_FULL
  else if 64 ≤ d.sec.fifo.length || d.flag Fld.SYS_STATUS_HALT then d.recLost
  else
    let d := { d with sec := { d.sec with fifo := d.sec.fifo ++ [r] } }
    d.put Fld.REC_STATUS_FIFO d.sec.fifo.length

/-- A device record: enters the FIFO where the recorder runs, and is kept until the next CONFIGURE where it does not. -/
def Dev.recAppend (cls : Nat) (payload : List Byte) (d : Dev) : Dev :=
  let r := d.stampRecord cls payload false
  if d.recorderRuns then d.recEnqueue r
  else { d with sec := { d.sec with deferred := d.sec.deferred ++ [r] } }

/-- A device record whose class the spec gives a content but no layout: the layout is a free value (log entry 12). -/
def Dev.recAppendFree (cls : Nat) (content : List Nat) (d : Dev) : Dev :=
  d.recAppend cls (Config.recPayload cls content)

/-! ### ERR_N (R433, R443) -/

/-- The modes in which the reactions work; in DOZE all but SAFE and TXHOLD (R443). -/
def Dev.reactive (d : Dev) : Bool := d.inService || d.mode = .doze

/-- The pin and ERRMIN as FLT_STATUS shows them; ERR_N is released where Reeve does not react. A change of the pin goes out. -/
def Dev.showErr (d : Dev) : Dev :=
  let run := d.flt.errEnd.isSome
  let is := d.reactive && (run || d.flag Fld.FLT_ERR_HOLD)
  let e := (d.putFlag Fld.FLT_STATUS_ERR_N is).putFlag Fld.FLT_STATUS_ERRMIN run
  e.onlyIf (is ≠ d.flag Fld.FLT_STATUS_ERR_N) (Dev.emit (.pin .errN (if is then .asserted else .hiZ)))

/-! ### Management notices (R471) -/

/-- Whether MGMT_IRQ_N is asserted (R462, R471): a notice is pending, and the always-on domain is powered. -/
def Dev.irqAsserted (d : Dev) : Bool := d.sys.vbat && !d.mgmt.notices.isEmpty

/-- Puts out the level of MGMT_IRQ_N where it is not as it `was`. -/
def Dev.showIrq (was : Bool) (d : Dev) : Dev := if d.irqAsserted = was then d else d.emit (.mgmtIrq d.irqAsserted)

/-- Puts a notice into the FIFO of 32; one that finds it full is lost and counted. -/
def Dev.notice (kind : Nat) (inj : Bool) (source cause arg : Nat) (d : Dev) : Dev :=
  if 32 ≤ d.mgmt.notices.length then
    let d := d.bump Fld.MGT_NOTICE_LOST_COUNT
    { d with mgmt := { d.mgmt with noticeLost := min (d.mgmt.noticeLost + 1) 65535 } }
  else
    let n : Notice := ⟨kind, inj, d.mgmt.noticeLost, source, cause, arg, d.fld Fld.TB_CAL_SEC_LO_SEC⟩
    let was := d.irqAsserted
    let d := { d with mgmt := { d.mgmt with notices := d.mgmt.notices ++ [n], noticeLost := 0 } }
    (d.put Fld.MGT_STATUS_NOTICES d.mgmt.notices.length).showIrq was

/-! ### The bridge log (R316) -/

/-- A refused access: log entry or loss, FS280, BRGERR record. `src`: 0 BAR0, 1 BAR2, 2 BAR4, 3 queue DMA. -/
def Dev.bridgeLog (write : Bool) (src code addr len : Nat) (d : Dev) : Dev :=
  let d := d.raise 280
  if 16 ≤ d.hq.log.length then
    { d.bump Fld.BRG_LOG_OVF_COUNT with hq := { d.hq with logLost := min (d.hq.logLost + 1) 65535 } }
  else
    let w0 := BitVec.ofNat 32
      (2 ^ 31 + b2n (d.hq.logLost ≠ 0) * 2 ^ 30 + b2n write * 2 ^ 29 + src * 2 ^ 27 + code * 2 ^ 16 + d.hq.logLost)
    let w1 := BitVec.ofNat 32 addr
    let w2 := BitVec.ofNat 32 (len % 2 ^ 16 * 2 ^ 16 + addr / 2 ^ 32 % 256)
    let d := { d with hq := { d.hq with log := d.hq.log ++ [(⟨w0, w1, w2⟩ : LogEntry)], logLost := 0 } }
    d.sysRecord 0x15 0 0 (leBytes 4 w0.toNat ++ leBytes 4 0)

/-! ### Mode changes (R447, R448, R450) -/

/-- The routes a REMOVE has deactivated act again. -/
def Dev.restoreRoutes (d : Dev) : Dev :=
  let d := d.each d.img.removed.ptrs (fun (x : Nat × Fin 16384) d => d.putSlot x.1 { d.slot x.1 with routePtr := x.2 })
  let d := { d with store := { d.store with
    routes := d.img.removed.words.foldl (fun t (x : Nat × Word) => Tab.set (fun _ => (0 : Word)) t x.1 x.2) d.store.routes } }
  { d with img := { d.img with removing := none, removed := ⟨[], []⟩ } }

/-- A partial image that is BUSY is discarded and none of it takes effect (R48): one being processed, and a REMOVE between its two
boundaries, whose routes act again (log entry 152). -/
def Dev.partialDiscard (d : Dev) : Dev :=
  if d.img.partCheck.isNone && d.img.removing.isNone then d
  else
    let d := d.onlyIf d.img.removing.isSome Dev.restoreRoutes
    ({ d with img := { d.img with partCheck := none } }).putFlag Fld.IMG_PART_STATUS_BUSY false

/-- The mode is taken: ERR_N follows it (R443, R462), and the lease is free at the exit from HELD (R476). -/
def Dev.takeMode (new : Mode) (d : Dev) : Dev :=
  let d := d.onlyIf (d.mode = .held) (fun d => d.put Fld.MGT_STATUS_HOLDER 0)
  let d := (d.put Fld.SYS_MODE_PREV (modeCode d.mode)).put Fld.SYS_MODE_MODE (modeCode new)
  ({ d with mode := new }).showErr

/-- Takes a mode, with cause and DETAIL, and reports the transition: MODE record, recorder record, management notice. The record
of a transition into HELD is held until the recorder runs again, as every record made while it does not. -/
def Dev.transit (new : Mode) (cause detail : Nat) (d : Dev) : Dev :=
  let old := modeCode d.mode
  let body := leBytes 2 cause ++ leBytes 2 detail
  let d := d.sysRecord 0x10 old (modeCode new) (body ++ leBytes 4 0)
  let r := d.stampRecord 0x0002 (leBytes 1 old ++ leBytes 1 (modeCode new) ++ body) false
  let d := if d.recorderRuns && new ≠ .held then d.recEnqueue r
    else { d with sec := { d.sec with deferred := d.sec.deferred ++ [r] } }
  let d := d.notice 3 false (old + modeCode new * 256) cause detail
  let d := (d.put Fld.SYS_MODE_CAUSE cause).takeMode new
  { d with sys := { d.sys with detail := detail } }

/-- Takes a mode in a transition that nothing reports (R450: OFF, and LIMP without VBAT_LOG). -/
def Dev.transitSilent (new : Mode) (d : Dev) : Dev := d.takeMode new

/-- Declares a loss (R452): the bit is set; RUN goes to DEGRADED. -/
def Dev.declareLoss (x : Fld) (cause detail : Nat) (d : Dev) : Dev :=
  if d.flag x then d
  else
    let d := d.putFlag x true
    if d.mode = .run then d.transit .degraded cause detail else d

/-- Clears a loss (R452): DEGRADED goes to RUN when the last bit clears. -/
def Dev.clearLoss (x : Fld) (d : Dev) : Dev :=
  let was := d.rd Reg.SYS_LOSS
  let d := d.putFlag x false
  if d.mode = .degraded && was ≠ 0 && d.rd Reg.SYS_LOSS = 0 then d.transit .run 0x0011 0 else d

/-- The first qualifying wake source latches SYS_WAKE (R460); `sleepToo`: the source also wakes from SLEEP. During an entry the
wake is latched and acted on when the entry is done (R451). -/
def Dev.wake (kind index : Nat) (sleepToo : Bool) (d : Dev) : Dev :=
  let asleep := d.mode = .sleep || d.sys.entry = .sleep
  if (d.mode = .doze || d.mode = .sleep) && (!asleep || sleepToo) && !d.sys.woken then
    let d := ((d.putFlag Fld.SYS_WAKE_WOKE true).put Fld.SYS_WAKE_KIND kind).put Fld.SYS_WAKE_INDEX index
    { d with sys := { d.sys with woken := true } }
  else d

/-! ### Access to the local registers (R345, R470, R476) -/

/-- The holder code of a lease master: 1 host, 2 management port; 0 for a path that needs no lease. -/
def leaseMaster : Path → Nat
  | .host => 1
  | .mgmt => 2
  | _ => 0

/-- Whether a path reaches a local register in the present mode (R345, R470); in DOZE only the SYS_ window. -/
def Dev.pathOpen (d : Dev) (p : Path) (a : Nat) : Bool :=
  match p with
  | .supervisor => true
  | .thread _ _ => d.inService
  | _ => d.inService || d.mode = .configure || d.mode = .loader || (d.mode = .doze && a < 0x100000)

/-- Whether a write to a local register needs the lease (R476). -/
def leasable (p : Path) (a w : Nat) : Bool :=
  !(0x1200000 ≤ a && a < 0x1210000) && a ≠ Reg.SYS_HOST_ALIVE && a ≠ Reg.TB_SNAP &&
    !(a = Reg.SYS_CTRL && w % 16 = 5) &&
    !(p = .mgmt && ((Reg.CPH_JD 0 ≤ a && a < Reg.CPH_SUBMIT) || (a = Reg.FLT_CTRL && bit w 1)))

/-- The code a write to a local register is refused with before the register sees it. -/
def Dev.writeCode (d : Dev) (p : Path) (a w : Nat) : Nat :=
  let holder := d.fld Fld.MGT_STATUS_HOLDER
  if !d.pathOpen p a then E_PERM
  else if leaseMaster p ≠ 0 && leasable p a w && holder ≠ 0 && holder ≠ leaseMaster p then E_PERM
  else E_OK

/-- A holder other than before; a change to the management port raises FS25 (R477). -/
def Dev.putHolder (h : Nat) (d : Dev) : Dev :=
  let was := d.fld Fld.MGT_STATUS_HOLDER
  let d := d.put Fld.MGT_STATUS_HOLDER h
  if h = 2 && was ≠ 2 then d.raise 25 else d

/-- A leasable write made while the holder is FREE gives the lease to its master. -/
def Dev.takeLease (p : Path) (a w : Nat) (d : Dev) : Dev :=
  if leaseMaster p ≠ 0 && leasable p a w && d.fld Fld.MGT_STATUS_HOLDER = 0 then d.putHolder (leaseMaster p) else d

/-- A refused access to a local register: the code on its path; a host access enters the bridge log (R316). -/
def Dev.refuseAccess (p : Path) (write : Bool) (code a len : Nat) (d : Dev) : Dev :=
  let d := d.emit (.code p code)
  if p = .host && d.flag Fld.BRG_STATUS_LINK then d.bridgeLog write 0 code a len else d

/-- An access a master's path has accepted: the master is not silent (R477). -/
def Dev.seen (p : Path) (d : Dev) : Dev :=
  match p with
  | .host => { d with mgmt := { d.mgmt with hostSeen := d.tns } }
  | .mgmt => { d with mgmt := { d.mgmt with lastValid := d.tns } }
  | _ => d

/-- Performs a write: only a host or management-port write reaches the settings store (R42). -/
def Dev.writeBy (p : Path) (f : Dev → Dev) (d : Dev) : Dev :=
  if leaseMaster p = 0 then { f d with settings := d.settings } else f d

/-- A 32-bit write of a local register on a path: refused, or performed by `f`. -/
def Dev.writeAs (p : Path) (a : Nat) (w : Nat) (f : Dev → Dev) (d : Dev) : Dev :=
  let code := d.writeCode p a w
  if code = E_OK then ((d.seen p).takeLease p a w).writeBy p f else d.refuseAccess p true code a 4

/-- A 32-bit read of a local register on a path: refused, or the word `f` gives, put out on the path. -/
def Dev.readAs (p : Path) (a : Nat) (f : Dev → Word × Dev) (d : Dev) : Dev :=
  if d.pathOpen p a then
    let (w, d) := f (d.seen p)
    d.emit (.data p a w.toNat)
  else d.refuseAccess p false E_PERM a 4

/-- A command that is a write `w` of the register `a` on a path. -/
def runWrite (p : Path) (a : Nat) (w : Nat) (f : Dev → Dev) (s : State) : Out := run (Dev.writeAs p a w f) s

/-- A command that is a read of the register `a` on a path; `f` puts the word out. -/
def runRead (p : Path) (a : Nat) (f : Dev → Dev) (s : State) : Out :=
  run (fun d => if d.pathOpen p a then f (d.seen p) else d.refuseAccess p false E_PERM a 4) s

end Sys2Proof.Machine
end

