-- ==== Sys2Proof/Machine/Time.lean ====
section
/-! DEFINITION. Clockmaker (chapter 04): the free-running counter, network-time domains, system time, timestamp queues, PPS,
event capture, the calendar. Times of a domain are numbers of 2^-16 ns. -/

namespace Sys2Proof.Machine

/-! ### Words latched by a read, per path (R147, R163) -/

/-- The key of a latched word. -/
def latchedKey (p : Path) (a : Nat) : Nat := pathIdx p * 2 ^ 26 + a

/-- A word latched for a path under a register's address. -/
def Dev.latchedWord (d : Dev) (p : Path) (a : Nat) : Word := Tab.get (fun _ => 0) d.latched (latchedKey p a)

/-- Latches a word for a path. -/
def Dev.putLatched (p : Path) (a : Nat) (w : Word) (d : Dev) : Dev :=
  { d with latched := Tab.set (fun _ => 0) d.latched (latchedKey p a) w }

/-! ### Domains (R131, R132) -/

/-- 2^48 seconds in 2^-16 ns, the range of a domain's time. -/
def tdRange : Int := 2 ^ 48 * 1000000000 * 65536

/-- The signed difference of two FRC values (R132). -/
def frcDiff (f a : Nat) : Int := (BitVec.ofNat 64 f - BitVec.ofNat 64 a).toInt

/-- The advance over a span of FRC ns at a RATE, product floored to 2^-16 ns (R132). -/
def tdAdvance (span rate : Int) : Int := span * 65536 + span * rate * 65536 / 2 ^ 40

/-- The committed RATE of a domain. -/
def Dev.tdRate (d : Dev) (k : Nat) : Int :=
  (BitVec.ofNat 40 (d.pair (Fld.TB_TD_RATE_LO_RATE k) (Fld.TB_TD_RATE_HI_RATE k))).toInt

/-- The committed offset of a domain. -/
def Dev.tdOffset (d : Dev) (k : Nat) : Int :=
  ((d.pair (Fld.TB_TD_OFS_SEC_LO_OFS_SEC k) (Fld.TB_TD_OFS_SEC_HI_OFS_SEC k) * 1000000000 + d.fld (Fld.TB_TD_OFS_NS_OFS_NS k)) * 65536 +
    Tab.get (fun _ => 0) d.time.tdFrac k : Nat)

/-- The committed ANCHOR of a domain. -/
def Dev.tdAnchor (d : Dev) (k : Nat) : Nat := d.pair (Fld.TB_TD_ANCHOR_LO_ANCHOR k) (Fld.TB_TD_ANCHOR_HI_ANCHOR k)

/-- Domain time at an FRC value (R132). -/
def Dev.tdTime (d : Dev) (k f : Nat) : Int :=
  (d.tdOffset k + tdAdvance (frcDiff f (d.tdAnchor k)) (d.tdRate k)) % tdRange

/-- Sets a domain's offset, in 2^-16 ns. -/
def Dev.putTdOffset (k : Nat) (v : Int) (d : Dev) : Dev :=
  let n := (v % tdRange).toNat
  let ns := n / 65536
  let d := (d.putPair (Fld.TB_TD_OFS_SEC_LO_OFS_SEC k) (Fld.TB_TD_OFS_SEC_HI_OFS_SEC k) (ns / 1000000000)).put
    (Fld.TB_TD_OFS_NS_OFS_NS k) (ns % 1000000000)
  { d with time := { d.time with tdFrac := Tab.set (fun _ => 0) d.time.tdFrac k (n % 65536) } }

/-- Sets a domain's ANCHOR. -/
def Dev.putTdAnchor (k v : Nat) (d : Dev) : Dev := d.putPair (Fld.TB_TD_ANCHOR_LO_ANCHOR k) (Fld.TB_TD_ANCHOR_HI_ANCHOR k) v

/-- Sets a domain's RATE. -/
def Dev.putTdRate (k : Nat) (v : Int) (d : Dev) : Dev :=
  d.putPair (Fld.TB_TD_RATE_LO_RATE k) (Fld.TB_TD_RATE_HI_RATE k) (BitVec.ofInt 40 v).toNat

/-- The shadow of a domain parameter register (R133). -/
def Dev.tdShadow (d : Dev) (a : Nat) : Nat := (Tab.get (fun _ => 0) d.time.shadow a).toNat

/-- Whether a RATE is accepted (R131). -/
def rateOk (r : Int) : Bool := -1099511628 ≤ r && r ≤ 1099511628

/-! ### System time (R138 to R144) -/

/-- The selection as TB_SYS_STATUS.SRC holds it. -/
def Dev.sysSrc (d : Dev) : Nat := d.fld Fld.TB_SYS_STATUS_SRC

/-- RESID at an FRC value: reduced by SLEW µs per second of FRC time in steps of 1 ns (R141). -/
def Dev.residAt (d : Dev) (f : Nat) : Int :=
  let done : Int := (((f + 2 ^ 64 - d.time.residAt) % 2 ^ 64) * d.fld Fld.TB_SYS_SLEW / 1000000 : Nat)
  if 0 ≤ d.time.resid then max (d.time.resid - done) 0 else min (d.time.resid + done) 0

/-- Sets RESID as it stands now; SLEWING reads 1 while it is not 0. -/
def Dev.putResid (r : Int) (d : Dev) : Dev :=
  { d.putFlag Fld.TB_SYS_STATUS_SLEWING (r ≠ 0) with time := { d.time with resid := r, residAt := d.frc.toNat } }

/-- System time at an FRC value (R138); 0 until it is set. -/
def Dev.sysTime (d : Dev) (f : Nat) : Int :=
  if !d.flag Fld.TB_SYS_STATUS_SET then 0
  else if d.sysSrc = 0 then
    let h := d.time.hold
    h.1 + tdAdvance (frcDiff f h.2.1) h.2.2
  else d.tdTime (d.sysSrc - 1) f - d.residAt f * 65536

/-- The largest |RESID|. -/
def residMax : Int := 2 ^ 39 - 1

/-- Whether a domain is locked. -/
def Dev.locked (d : Dev) (k : Nat) : Bool := d.flag (Fld.TB_TD_STATUS_LOCKED k)

/-- Handles the current selection while SET = 0 (R139): it takes effect at once where the domain is locked, and waits otherwise. -/
def Dev.selectUnset (d : Dev) : Dev :=
  let s := d.sysSrc
  if d.flag Fld.TB_SYS_STATUS_SET || s = 0 then d.putFlag Fld.TB_SYS_STATUS_PENDING false
  else if d.locked (s - 1) then
    ((d.putFlag Fld.TB_SYS_STATUS_PENDING false).putFlag Fld.TB_SYS_STATUS_SET true).putResid 0
  else d.putFlag Fld.TB_SYS_STATUS_PENDING true

/-- A selection (R139, R140). -/
def Dev.sysSelect (sel : Nat) (d : Dev) : Dev :=
  let f := d.frc.toNat
  let ok (d : Dev) := d.put Fld.TB_SYS_STATUS_CODE E_OK
  if sel = 3 then d.put Fld.TB_SYS_STATUS_CODE E_PERM
  else if !d.flag Fld.TB_SYS_STATUS_SET then ok (d.put Fld.TB_SYS_STATUS_SRC sel).selectUnset
  else if sel = 0 then
    let rate := if d.sysSrc = 0 then d.time.hold.2.2 else d.tdRate (d.sysSrc - 1)
    let h := (d.sysTime f, f, rate)
    let d := (d.put Fld.TB_SYS_STATUS_SRC 0).putResid 0
    ok { d with time := { d.time with hold := h } }
  else
    let delta := (d.tdTime (sel - 1) f - d.sysTime f) / 65536
    if delta < -residMax || residMax < delta then d.put Fld.TB_SYS_STATUS_CODE E_PERM
    else ok ((d.put Fld.TB_SYS_STATUS_SRC sel).putResid delta)

/-- Sets or clears LOCKED of a domain; a fall makes the automatic selection of R143, a rise lets a waiting selection take
effect (R139). -/
def Dev.putLocked (k : Nat) (b : Bool) (d : Dev) : Dev :=
  let fell := d.locked k && !b
  let d := d.putFlag (Fld.TB_TD_STATUS_LOCKED k) b
  if b then (if d.flag Fld.TB_SYS_STATUS_PENDING then d.selectUnset else d)
  else if fell && d.time.auto && d.sysSrc = k + 1 && d.locked (1 - k) then d.sysSelect (2 - k)
  else d

/-! ### PPS outputs (R148, R149) -/

/-- The source time of a PPS output at an FRC value, in ns. -/
def Dev.ppsTime (d : Dev) (k f : Nat) : Int :=
  match d.fld (Fld.TB_PPS_CTRL_SRC k) with
  | 0 => (f : Int)
  | 1 => d.tdTime 0 f / 65536
  | 2 => d.tdTime 1 f / 65536
  | _ => d.sysTime f / 65536

/-- The edges of an output strictly between two source times. -/
def Dev.ppsBetween (d : Dev) (k : Nat) (a b : Int) : Nat :=
  let per : Int := d.fld (Fld.TB_PPS_PERIOD k)
  let ph : Int := d.fld (Fld.TB_PPS_PHASE k)
  ((b - 1 - ph) / per - (a - ph) / per).toNat

/-- Counts the edges a forward step of a domain passes on the enabled outputs that follow it (R149). -/
def Dev.ppsSkip (dom : Nat) (old new : Int) (d : Dev) : Dev :=
  d.each [0, 1, 2, 3] (fun k d =>
    let n := d.ppsBetween k old new
    if d.flag (Fld.TB_PPS_CTRL_EN k) && d.fld (Fld.TB_PPS_CTRL_SRC k) = dom + 1 && d.fld (Fld.TB_PPS_PERIOD k) ≠ 0 && n ≠ 0 then
      (d.count (Fld.TB_PPS_SKIP_COUNT k) n).raiseN 103 n
    else d)

/-- A backward step of a domain has put its time at `t` ns: the controllers whose matrix follows the domain pass the cycle starts from
there on again (R214, R215). -/
def Dev.canLanded (k : Nat) (t : Int) (d : Dev) : Dev :=
  { d with can := { d.can with
    ctls := Tab.map (fun _ => none) (fun _ x => x.map (fun c => if c.ref = k + 1 then { c with landed := some t } else c)) d.can.ctls } }

/-! ### Commits of domain parameters (R133, R142) -/

/-- Shows a commit's code and takes the new parameters where it is E_OK: `f` gives the part with them. A step of the domain
system time follows is added to RESID; a forward step may skip PPS edges. -/
def Dev.tdCommit (p : Path) (k : Nat) (ok : Bool) (exact : Int) (f : Dev → Dev) (d : Dev) : Dev :=
  let host := match p with
    | .host => true
    | .mgmt => true
    | _ => false
  let sup := !d.flag (Fld.TB_TD_STATUS_SERVO k)
  let fc := d.frc.toNat
  let old := d.tdTime k fc
  let step := (exact - old) / 65536
  let follows := d.flag Fld.TB_SYS_STATUS_SET && d.sysSrc = k + 1
  let r := d.residAt fc + step
  let refuse := !ok || exact < 0 || (sup && host) || (d.flag Fld.SYS_STATUS_HALT && p = .supervisor) ||
    (follows && (r < -residMax || residMax < r))
  if !d.inService then d
  else if refuse then d.put (Fld.TB_TD_STATUS_CODE k) E_PERM
  else
    let d := (f d).put (Fld.TB_TD_STATUS_CODE k) E_OK
    let d := if follows && step ≠ 0 then d.putResid r else d
    (d.onlyIf (exact < old) (Dev.canLanded k (exact / 65536))).ppsSkip k (old / 65536) (exact / 65536)

/-- CMD 1, LOAD: all parameters from the shadows. -/
def Dev.tdLoad (p : Path) (k : Nat) (d : Dev) : Dev :=
  let sec := d.tdShadow (Reg.TB_TD_OFS_SEC_LO k) + d.tdShadow (Reg.TB_TD_OFS_SEC_HI k) * 2 ^ 32
  let ns := d.tdShadow (Reg.TB_TD_OFS_NS k)
  let anchor := d.tdShadow (Reg.TB_TD_ANCHOR_LO k) + d.tdShadow (Reg.TB_TD_ANCHOR_HI k) * 2 ^ 32
  let rate := (BitVec.ofNat 40 (d.tdShadow (Reg.TB_TD_RATE_LO k) + d.tdShadow (Reg.TB_TD_RATE_HI k) * 2 ^ 32)).toInt
  let ofs : Int := (sec * 1000000000 + ns : Nat) * 65536
  d.tdCommit p k (ns ≤ 999999999 && rateOk rate) (ofs + tdAdvance (frcDiff d.frc.toNat anchor) rate)
    (fun d => ((d.putTdOffset k ofs).putTdAnchor k anchor).putTdRate k rate)

/-- TD_LOAD. -/
def execTdLoad (p : Path) (dom : Fin 2) (s : State) : Out :=
  runWrite p (Reg.TB_TD_CTRL dom.val) 0x7C000001 (Dev.tdLoad p dom.val) s

/-- CMD 2, RATE: a new RATE, anchor and offset re-based so that the time does not step. -/
def Dev.tdRateCmd (p : Path) (k : Nat) (d : Dev) : Dev :=
  let f := d.frc.toNat
  let rate := (BitVec.ofNat 40 (d.tdShadow (Reg.TB_TD_RATE_LO k) + d.tdShadow (Reg.TB_TD_RATE_HI k) * 2 ^ 32)).toInt
  let t := d.tdTime k f
  d.tdCommit p k (rateOk rate) t (fun d => ((d.putTdOffset k t).putTdAnchor k f).putTdRate k rate)

/-- TD_RATE. -/
def execTdRate (p : Path) (dom : Fin 2) (s : State) : Out :=
  runWrite p (Reg.TB_TD_CTRL dom.val) 0x7C000002 (Dev.tdRateCmd p dom.val) s

/-- CMD 3, ADJ: the signed ADJ is added to the offset. -/
def Dev.tdAdjCmd (p : Path) (k : Nat) (d : Dev) : Dev :=
  let adj := (d.rd (Reg.TB_TD_ADJ k)).toInt * 65536
  d.tdCommit p k true (d.tdTime k d.frc.toNat + adj) (fun d => d.putTdOffset k (d.tdOffset k + adj))

/-- TD_ADJ. -/
def execTdAdj (p : Path) (dom : Fin 2) (s : State) : Out :=
  runWrite p (Reg.TB_TD_CTRL dom.val) 0x7C000003 (Dev.tdAdjCmd p dom.val) s

/-- LOCK_SET or LOCK_CLR, for a domain whose servo is the host's. -/
def Dev.lockWrite (p : Path) (k : Nat) (b : Bool) (d : Dev) : Dev :=
  d.onlyIf (d.inService && p ≠ .supervisor && d.flag (Fld.TB_TD_STATUS_SERVO k)) (Dev.putLocked k b)

/-- LOCK_SET. -/
def execLockSet (p : Path) (dom : Fin 2) (s : State) : Out :=
  runWrite p (Reg.TB_TD_CTRL dom.val) 0x7C000004 (Dev.lockWrite p dom.val true) s

/-- LOCK_CLR. -/
def execLockClr (p : Path) (dom : Fin 2) (s : State) : Out :=
  runWrite p (Reg.TB_TD_CTRL dom.val) 0x7C000008 (Dev.lockWrite p dom.val false) s

/-! ### gPTP supervision (R135, R136) -/

/-- A domain's gPTP configuration and supervision. -/
def Dev.tdCfg (d : Dev) (k : Nat) : TdCfg := Tab.get (fun _ => tdNone) d.time.cfg k

/-- Sets a domain's gPTP configuration and supervision. -/
def Dev.putTdCfg (k : Nat) (c : TdCfg) (d : Dev) : Dev :=
  { d with time := { d.time with cfg := Tab.set (fun _ => tdNone) d.time.cfg k c } }

/-- RX_LAT, TX_LAT and ASYM of a port, in 2^-16 ns (R130). -/
def Dev.portLat (d : Dev) (p : Nat) : Nat × Nat × Int := Tab.get (fun _ => (0, 0, 0)) d.time.ports p

/-- A corrected receive timestamp, in 2^-16 ns. -/
def Dev.rxStamp (d : Dev) (p : Nat) : Int := (d.frc.toNat : Int) * 65536 - (d.portLat p).1 - (d.portLat p).2.2

/-- A Sync of a domain has arrived: the present interval has its Sync, and none is missed. `half`: the port where it waits for its
Follow_Up, and its timestamp. -/
def Dev.syncArrived (k : Nat) (half : Option (Nat × Nat)) (d : Dev) : Dev :=
  (d.putTdCfg k { d.tdCfg k with gotSync := true, lost := false, half := half }).put (Fld.TB_TD_STATUS_MISSED k) 0

/-- A residual offset, in ns, has been measured in the present interval. -/
def Dev.residual (k : Nat) (r : Int) (d : Dev) : Dev :=
  d.putTdCfg k { d.tdCfg k with half := none, small := some ((d.tdCfg k).small.getD true && decide (-1000 < r) && decide (r < 1000)) }

/-- The residual offset a Sync measures, in ns: what the domain reads at its timestamp point, less the master's time at its start and
the link delay of the port (R135). -/
def Dev.offsetOf (d : Dev) (k port stamp : Nat) (master : Int) : Int :=
  d.tdTime k stamp / 65536 - master - (Tab.get (fun _ => (0 : Nat)) d.time.linkDelay port : Nat)

/-- A gPTP message of a domain at a port (R135, R136); a Follow_Up without its Sync is nothing. -/
def Dev.gptpMessage (k port : Nat) (msg : GptpMsg) (d : Dev) : Dev :=
  let stamp := (d.rxStamp port / 65536).toNat
  match msg with
  | .announce v => d.putTdCfg k { d.tdCfg k with heard := Tab.set (fun _ => (0, 0)) (d.tdCfg k).heard port (v.toNat, d.tns) }
  | .sync m => (d.syncArrived k none).residual k (d.offsetOf k port stamp m)
  | .twoStepSync => d.syncArrived k (some (port, stamp))
  | .followUp m =>
    match (d.tdCfg k).half with
    | some (p, f) => d.onlyIf (p = port) (Dev.residual k (d.offsetOf k port f m))
    | none => d
  | .peerDelay delay =>
    { d with time := { d.time with linkDelay := Tab.set (fun _ => (0 : Nat)) d.time.linkDelay port delay.toNat } }
  | .other => d

/-- The domains a gPTP message at a port is for: those of its number with the port in their PORTMASK; a peer delay serves both
domains. -/
def Dev.gptpFor (d : Dev) (k port num : Nat) (msg : GptpMsg) : Bool :=
  let every := match msg with | .peerDelay _ => true | _ => false
  (d.tdCfg k).present && bit (d.tdCfg k).portMask port && (every || d.fld (Fld.TB_TD_STATUS_DOMNUM k) = num)

/-- GPTP_FRAME_RECEIVE; at a port held by a TXHOLD the exchange stands still, so its messages count for nothing (R137; log entry 46). -/
def execGptpFrameReceive (port : Fin 12) (domainNumber : Fin 128) (msg : GptpMsg) (s : State) : Out :=
  run (fun d => d.onlyIf (d.inService && !d.flag (Fld.ETH_STATUS_HELD port.val)) (Dev.each [0, 1] (fun k d =>
    d.onlyIf (d.gptpFor k port.val domainNumber.val msg) (Dev.gptpMessage k port.val msg)))) s

/-- SYNC_LOSS: SYNC_LOSS consecutive intervals without a Sync clear LOCKED and raise FS98 or FS99; the parameters stay. -/
def execSyncLoss (dom : Fin 2) (s : State) : Out :=
  run (fun d =>
    let k := dom.val
    let c := d.tdCfg k
    d.onlyIf (d.inService && c.present && !c.lost && c.syncLoss ≤ d.fld (Fld.TB_TD_STATUS_MISSED k)) (fun d =>
      ((d.putTdCfg k { c with lost := true, good := 0 }).putLocked k false).raise (98 + k))) s

/-- The length of a domain's Sync interval, 2^logSyncInterval s, in ns (R161). -/
def TdCfg.interval (c : TdCfg) : Nat := 1000000000 / 2 ^ (-c.logSync).toNat

/-- The ports a domain's Sync goes out at: of its PORTMASK those which the image uses (R504), which have link and whose role is to send,
as roles stand under the BMCA or the external port configuration (R135). -/
def Dev.gptpPorts (d : Dev) (k : Nat) : List Nat :=
  let c := d.tdCfg k
  let roles := if c.extPorts then Config.gptpExternal k
    else Config.gptpMasters k c.gmCapable c.prio1 c.prio2 (List.map (fun (e : Nat × Nat × Nat) => (e.1, e.2.1, d.tns - e.2.2)) c.heard)
  (List.range 12).filter (fun p => bit c.portMask p && (Tab.get (fun _ => none) d.sw.cfg p).isSome &&
    d.flag (Fld.ETH_STATUS_LINK p) && bit roles p)

/-- A mask from the numbers of its bits. -/
def maskOf (ps : List Nat) : Nat := ps.foldl (fun m p => m ||| 2 ^ p) 0

/-- The supervisor's messages of a domain go out at some ports: their Follow_Up waits for the transmit timestamp (R145). -/
def Dev.gptpSend (k : Nat) (ps : List Nat) (d : Dev) : Dev :=
  if ps.isEmpty then d
  else
    let c := d.tdCfg k
    let num := d.fld (Fld.TB_TD_STATUS_DOMNUM k)
    ((d.emit (.gptpAnnounce k num (maskOf ps) c.prio1 c.prio2 c.gmCapable)).emit (.gptpSync k num (maskOf ps))).putTdCfg k
      { c with followUps := c.followUps ++ ps }

/-- A Sync interval's messages: at the ports that a TXHOLD holds they wait for its end (R137). -/
def Dev.gptpRound (k : Nat) (d : Dev) : Dev :=
  let ps := d.gptpPorts k
  let held := ps.filter (fun p => d.flag (Fld.ETH_STATUS_HELD p))
  let d := d.gptpSend k (ps.filter (fun p => !d.flag (Fld.ETH_STATUS_HELD p)))
  d.putTdCfg k { d.tdCfg k with waits := (d.tdCfg k).waits ++ held }

/-- The hold of a port has ended: its messages go out, in the order in which they were made. -/
def Dev.gptpRelease (p : Nat) (d : Dev) : Dev :=
  d.each [0, 1] (fun k d =>
    let c := d.tdCfg k
    let d := d.putTdCfg k { c with waits := c.waits.filter (· ≠ p) }
    d.each (c.waits.filter (· = p)) (fun _ => Dev.gptpSend k [p]))

/-- The transmit timestamp of the supervisor's Sync at a port is there: the Follow_Up goes out with the domain's time at that point. -/
def Dev.gptpStamped (p : Nat) (stamp : Int) (d : Dev) : Dev :=
  match [0, 1].find? (fun k => (d.tdCfg k).followUps.contains p) with
  | some k =>
    let c := d.tdCfg k
    (d.emit (.gptpFollowUp k (d.fld (Fld.TB_TD_STATUS_DOMNUM k)) p (d.tdTime k (stamp / 65536).toNat / 65536))).putTdCfg k
      { c with followUps := c.followUps.erase p }
  | none => d

/-- A Sync interval of a domain ends: without a Sync it counts in MISSED; with the supervisor servo, 8 consecutive ones with a
residual offset below 1 µs set LOCKED. -/
def Dev.intervalEnd (k : Nat) (d : Dev) : Dev :=
  let c := d.tdCfg k
  let good := if c.gotSync && c.small = some true then min (c.good + 1) 8 else 0
  let d := d.putTdCfg k { c with gotSync := false, half := none, small := none, good := good, due := c.due + c.interval }
  let d := d.onlyIf (!c.gotSync) (Dev.bump (Fld.TB_TD_STATUS_MISSED k))
  d.onlyIf (good = 8 && !d.flag (Fld.TB_TD_STATUS_SERVO k) && !d.flag Fld.SYS_STATUS_HALT) (Dev.putLocked k true)

/-- SYNC_INTERVAL_TIMER: the interval is over; the supervisor's messages go out. -/
def execSyncIntervalTimer (dom : Fin 2) (s : State) : Out :=
  run (fun d =>
    let k := dom.val
    let c := d.tdCfg k
    d.onlyIf (d.inService && c.present && decide (c.due ≤ d.tns)) (fun d =>
      (d.onlyIf (!(d.flag (Fld.TB_TD_STATUS_SERVO k) || d.flag Fld.SYS_STATUS_HALT)) (Dev.gptpRound k)).intervalEnd k)) s

/-! ### System time commands -/

/-- TB_SYS_CTRL with SEL_WR. -/
def Dev.sysSelectWrite (sel : Nat) (d : Dev) : Dev := d.onlyIf d.inService (Dev.sysSelect sel)

/-- SYS_SELECT. -/
def execSysSelect (p : Path) (sel : Fin 4) (s : State) : Out :=
  runWrite p Reg.TB_SYS_CTRL (0x7C000008 + sel.val) (Dev.sysSelectWrite sel.val) s

/-- SYS_SELECT_EFFECT: a waiting selection whose domain is locked takes effect. -/
def execSysSelectEffect (s : State) : Out :=
  run (fun d => d.onlyIf (d.inService && d.flag Fld.TB_SYS_STATUS_PENDING) Dev.selectUnset) s

/-- TB_SYS_CTRL with RESTART: the only step of system time (R144). -/
def Dev.sysRestart (d : Dev) : Dev :=
  d.onlyIf d.inService (fun d =>
    let old := d.sysTime d.frc.toNat
    let d := ((d.putFlag Fld.TB_SYS_STATUS_SET false).putResid 0).bump Fld.TB_SYS_STATUS_STEPS
    ((d.raise 100).recAppendFree 0x0007 [old.toNat]).selectUnset)

/-- SYS_RESTART. -/
def execSysRestart (p : Path) (s : State) : Out := runWrite p Reg.TB_SYS_CTRL 0x7C000004 Dev.sysRestart s

/-- SLEW_END: RESID has reached 0. -/
def execSlewEnd (s : State) : Out :=
  run (fun d => d.onlyIf (d.flag Fld.TB_SYS_STATUS_SLEWING && d.residAt d.frc.toNat = 0) (Dev.putResid 0)) s

/-! ### Timestamp and capture FIFOs (R145 to R147, R150) -/

/-- Stores an entry, or loses it where the FIFO is full: the next stored one carries GAP and LOST (R146). `w0` is word 0 without
VALID and GAP, `ts` the TS80 in 2^-16 ns. Answers the FIFO and whether the entry was stored. -/
def TsFifo.push (cap w0 : Nat) (ts : Int) (x : TsFifo) : TsFifo × Bool :=
  if cap ≤ x.entries.length then ({ x with lost := min (x.lost + 1) 65535 }, false)
  else
    let n := (ts % 2 ^ 80).toNat
    let e : TsEntry := ⟨BitVec.ofNat 32 (2 ^ 31 + b2n (x.lost ≠ 0) * 2 ^ 30 + w0), BitVec.ofNat 32 (x.lost * 65536 + n % 65536),
      BitVec.ofNat 32 (n / 65536), BitVec.ofNat 32 (n / 65536 / 2 ^ 32)⟩
    (⟨x.entries ++ [e], 0⟩, true)

/-- A port's transmit timestamp queue. -/
def Dev.tsq (d : Dev) (p : Nat) : TsFifo := Tab.get (fun _ => fifoEmpty) d.time.tsq p

/-- Sets a port's transmit timestamp queue and its FILL. -/
def Dev.putTsq (p : Nat) (x : TsFifo) (d : Dev) : Dev :=
  { d.put (Fld.TB_TSQ_STATUS_FILL p) x.entries.length with
    time := { d.time with tsq := Tab.set (fun _ => fifoEmpty) d.time.tsq p x } }

/-- An input's capture FIFO. -/
def Dev.capFifo (d : Dev) (i : Nat) : TsFifo := Tab.get (fun _ => fifoEmpty) d.time.caps i

/-- Sets an input's capture FIFO and its FILL. -/
def Dev.putCapFifo (i : Nat) (x : TsFifo) (d : Dev) : Dev :=
  { d.put (Fld.TB_CAP_STATUS_FILL i) x.entries.length with
    time := { d.time with caps := Tab.set (fun _ => fifoEmpty) d.time.caps i x } }

/-- A corrected transmit timestamp, in 2^-16 ns. -/
def Dev.txStamp (d : Dev) (p : Nat) : Int := (d.frc.toNat : Int) * 65536 + (d.portLat p).2.1

/-- Whether the frame a port is transmitting is a host frame that asked for a timestamp with a queue and TAG (R333). -/
def Dev.tsAsked (d : Dev) (port queue tag : Nat) : Bool :=
  match (Tab.get (fun _ => swPortIdle) d.sw.ports port).tx with
  | some x =>
    match x.frame.bind (fun i => Tab.get (fun _ => none) d.sw.frames i) with
    | some f => f.tsReq = some (queue, tag)
    | none => false
  | none => false

/-- TX_TIMESTAMP: the timestamp point of a frame that asked for a timestamp leaves its port; a host frame's entry is made where the
host consumes the port's queue. -/
def execTxTimestamp (port : Fin 12) (hostReq : Bool) (queue : Fin 64) (tag : BitVec 16) (s : State) : Out :=
  run (fun d =>
    let p := port.val
    let asked := !hostReq || (d.flag (Fld.TB_TSQ_STATUS_CONSUMER p) && d.tsAsked p queue.val tag.toNat)
    d.onlyIf (d.inService && asked) (fun d =>
      let was := (d.tsq p).entries.isEmpty
      let (x, stored) := (d.tsq p).push 32 (b2n hostReq * 2 ^ 29 + queue.val * 2 ^ 23 + tag.toNat) (d.txStamp p)
      let d := (d.putTsq p x).onlyIf (!hostReq && !d.flag Fld.SYS_STATUS_HALT) (Dev.gptpStamped p (d.txStamp p))
      if !stored then (d.bump (Fld.TB_TSQ_OVF_COUNT p)).raise 96
      else if was && d.flag (Fld.TB_TSQ_STATUS_CONSUMER p) then d.sysRecord 0x12 p 0 (leBytes 8 0)
      else d)) s

/-- A read of word 0 of a FIFO by its consumer: the oldest entry leaves and its words 1 to 3 are latched for the path, which find
them at `a + 4`, `a + 8`, `a + 12`. -/
def Dev.fifoRead (p : Path) (a : Nat) (x : TsFifo) (d : Dev) : Word × TsFifo × Dev :=
  match x.entries with
  | [] => (0, x, d)
  | e :: es => (e.w0, { x with entries := es },
      ((d.putLatched p (a + 4) e.w1).putLatched p (a + 8) e.w2).putLatched p (a + 12) e.w3)

/-- Whether a path is the named consumer. -/
def isConsumer (host : Bool) (p : Path) : Bool := if host then p = .host else p = .supervisor

/-- A read of TB_TSQp_W0. -/
def Dev.tsqRead (p : Path) (port : Nat) (d : Dev) : Word × Dev :=
  if isConsumer (d.flag (Fld.TB_TSQ_STATUS_CONSUMER port)) p then
    let (w, x, d) := d.fifoRead p (Reg.TB_TSQ_W0 port) (d.tsq port)
    (w, d.putTsq port x)
  else (0, d)

/-- TSQ_READ. -/
def execTsqRead (p : Path) (port : Fin 12) (s : State) : Out :=
  runRead p (Reg.TB_TSQ_W0 port.val) (fun d =>
    let (w, d) := d.tsqRead p port.val
    d.emit (.data p (Reg.TB_TSQ_W0 port.val) w.toNat)) s

/-- A read of TB_CAPi_W0. -/
def Dev.capRead (p : Path) (i : Nat) (d : Dev) : Word × Dev :=
  if isConsumer (Tab.get (fun _ => (0, 0, false)) d.time.capCfg i).2.2 p then
    let (w, x, d) := d.fifoRead p (Reg.TB_CAP_W0 i) (d.capFifo i)
    (w, d.putCapFifo i x)
  else (0, d)

/-- CAPTURE_READ. -/
def execCaptureRead (p : Path) (i : Fin 8) (s : State) : Out :=
  runRead p (Reg.TB_CAP_W0 i.val) (fun d =>
    let (w, d) := d.capRead p i.val
    d.emit (.data p (Reg.TB_CAP_W0 i.val) w.toNat)) s

/-- How long a level must be stable to pass an input filter, in ns (R150). -/
def filterNs (f : Nat) : Nat := match f with | 0 => 0 | 1 => 20 | 2 => 200 | _ => 2000

/-- CAPTURE_EDGE: an edge on an input that an FX pin serves, `delay` ns ago; its level has been stable since, for as long as the filter asks. The stamp is
that of the edge itself. The capture number advances for a capture lost to a full FIFO too (DESIGN CHOICE, log entry 204). -/
def execCaptureEdge (i : Fin 8) (rising : Bool) (delay : BitVec 16) (s : State) : Out :=
  run (fun d =>
    let c := Tab.get (fun _ => (0, 0, false)) d.time.capCfg i.val
    d.onlyIf (d.inService && d.pinBound 9 i.val && (if rising then bit c.1 0 else bit c.1 1) && decide (filterNs c.2.1 ≤ delay.toNat)) (fun d =>
      let num := Tab.get (fun _ => 0) d.time.capNum i.val
      let was := (d.capFifo i.val).entries.isEmpty
      let (x, stored) := (d.capFifo i.val).push 8 (b2n rising * 65536 + num)
        (((d.frc.toNat : Int) - (delay.toNat : Int)) * 65536)
      let d := { d.putCapFifo i.val x with time := { (d.putCapFifo i.val x).time with
        capNum := Tab.set (fun _ => 0) d.time.capNum i.val ((num + 1) % 65536) } }
      if !stored then (d.bump (Fld.TB_CAP_OVF_COUNT i.val)).raise 97
      else if was && c.2.2 then d.sysRecord 0x13 i.val 0 (leBytes 8 0)
      else d)) s

/-- TB_SNAP TAKE: FRC, TD_A, TD_B and system time of one FRC value, in the writing path's snapshot registers. -/
def Dev.snapshot (p : Path) (d : Dev) : Dev :=
  let f := d.frc.toNat
  let one (k : Nat) (t : Int) (set : Bool) (d : Dev) : Dev :=
    let n := (t % tdRange).toNat
    let sec := n / 65536 / 1000000000
    (((d.putLatched p (Reg.TB_SNAP_SEC_LO k) (BitVec.ofNat 32 sec)).putLatched p (Reg.TB_SNAP_SEC_HI k)
      (BitVec.ofNat 32 (b2n set * 2 ^ 31 + sec / 2 ^ 32))).putLatched p (Reg.TB_SNAP_NS k)
      (BitVec.ofNat 32 (n / 65536 % 1000000000))).putLatched p (Reg.TB_SNAP_FRAC k) (BitVec.ofNat 32 (n % 65536))
  let t0 := d.tdTime 0 f
  let t1 := d.tdTime 1 f
  let t2 := d.sysTime f
  one 2 t2 (d.flag Fld.TB_SYS_STATUS_SET) (one 1 t1 (d.locked 1) (one 0 t0 (d.locked 0)
    ((d.putLatched p Reg.TB_SNAP_FRC_LO (BitVec.ofNat 32 f)).putLatched p Reg.TB_SNAP_FRC_HI (BitVec.ofNat 32 (f / 2 ^ 32)))))

/-- SNAPSHOT. -/
def execSnapshot (p : Path) (s : State) : Out := runWrite p Reg.TB_SNAP 1 (fun d => d.snapshot p) s

/-- The edges output with one more at source time `e`. -/
def ppsRuns (per e : Int) : List (Int × Int) → List (Int × Int)
  | (a, b) :: rs => if b + per = e then (a, e) :: rs else (e, e) :: (a, b) :: rs
  | [] => [(e, e)]

/-- Whether the edge of an output at source time `e` has been output (R149). -/
def Dev.ppsWas (d : Dev) (k : Nat) (e : Int) : Bool :=
  (Tab.get (fun _ => []) d.time.ppsDone k).any (fun r => decide (r.1 ≤ e) && decide (e ≤ r.2))

/-- The pin of a PPS output, if it has one, takes its active or inactive level (R148). -/
def Dev.ppsDrive (k : Nat) (active : Bool) (d : Dev) : Dev :=
  d.onlyIf (d.pinBound 8 k) (Dev.emit (.pps k (active ≠ d.flag (Fld.TB_PPS_CTRL_POL k))))

/-- The pulse under way at an output ends after WIDTH; in service only, since PPS drives no pin elsewhere (R160, R462). -/
def Dev.ppsTick (d : Dev) : Dev :=
  (d.each (if d.inService then [0, 1, 2, 3] else [])) (fun k d =>
    match Tab.get (fun _ => none) d.time.ppsOn k with
    | some t => d.onlyIf (decide (t ≤ d.tns)) (fun d =>
      { d with time := { d.time with ppsOn := Tab.set (fun _ => none) d.time.ppsOn k none } }.ppsDrive k false)
    | none => d)

/-- PPS_EDGE: an enabled output whose source time has just reached an edge not yet output. -/
def execPpsEdge (k : Fin 4) (s : State) : Out :=
  run (fun d =>
    let i := k.val
    let per : Int := d.fld (Fld.TB_PPS_PERIOD i)
    let t := d.ppsTime i d.frc.toNat
    let e := t - (t - (d.fld (Fld.TB_PPS_PHASE i) : Int)) % per
    d.onlyIf (d.inService && d.flag (Fld.TB_PPS_CTRL_EN i) && per ≠ 0 && t - e ≤ 1 && !d.ppsWas i e &&
        !(d.fld (Fld.TB_PPS_CTRL_SRC i) = 3 && !d.flag Fld.TB_SYS_STATUS_SET)) (fun d =>
      { d with time := { d.time with
          ppsDone := Tab.set (fun _ => []) d.time.ppsDone i (ppsRuns per e (Tab.get (fun _ => []) d.time.ppsDone i))
          ppsOn := Tab.set (fun _ => none) d.time.ppsOn i (some (d.tns + d.fld (Fld.TB_PPS_WIDTH i))) } }.ppsDrive i true)) s

/-! ### Calendar (R151 to R157) -/

/-- Calendar seconds. -/
def Dev.calSec (d : Dev) : Nat := d.pair Fld.TB_CAL_SEC_LO_SEC Fld.TB_CAL_SEC_HI_SEC

/-- Sets calendar seconds and subseconds. -/
def Dev.putCal (sec sub : Nat) (d : Dev) : Dev :=
  (d.putPair Fld.TB_CAL_SEC_LO_SEC Fld.TB_CAL_SEC_HI_SEC (sec % 2 ^ 40)).put Fld.TB_CAL_SUB sub

/-- The calendar advances by a number of counted ticks; the seconds wrap after 2^40. -/
def Dev.calCount (n : Nat) (d : Dev) : Dev :=
  let t := d.fld Fld.TB_CAL_SUB + n
  d.putCal (d.calSec + t / 32768) (t % 32768)

/-- One 32.768 kHz edge: CALIB ticks are added at the end of, or skipped in, each window of 1,048,576 ticks (R154). A
CALIB of -512 skips 512 (DESIGN CHOICE, log entry 202). -/
def Dev.calTick (d : Dev) : Dev :=
  let c := (BitVec.ofNat 10 (d.fld Fld.TB_CAL_CALIB)).toInt
  let w := d.time.calWindow + 1
  let last := w = 1048576
  let n := if c < 0 && 1048576 + c < (w : Int) then 0 else 1 + (if last && 0 < c then c.toNat else 0)
  { d.calCount n with time := { (d.calCount n).time with calWindow := if last then 0 else w } }

/-- A requested set is loaded at a tick edge and recorded (R153). -/
def Dev.calLoad (d : Dev) : Dev :=
  let old := [d.calSec, d.fld Fld.TB_CAL_SUB]
  let sec := d.pair Fld.TB_CAL_SET_LO_SET Fld.TB_CAL_SET_HI_SET
  let sub := d.fld Fld.TB_CAL_SET_SUB_SET
  let d := ((d.putCal sec sub).bump Fld.TB_CAL_STATUS_SETCNT).putFlag Fld.TB_CAL_STATUS_WBUSY false
  d.recAppendFree 0x0006 (old ++ [sec, sub])

/-- Whether the calendar counts: its oscillator runs and the backup domain has its supply (R157). -/
def Dev.calRuns (d : Dev) : Bool := d.time.oscRuns && !d.time.bkupLost

/-- Whether the present ns brings a 32.768 kHz edge. -/
def Dev.calEdge (d : Dev) : Bool := d.calRuns && decide (1000000000 ≤ d.time.calNs + 32768)

/-- The calendar over one ns: at an edge a waiting set is loaded, or the count goes on. -/
def Dev.calNsTick (d : Dev) : Dev :=
  if !d.calRuns then d
  else
    let x := d.time.calNs + 32768
    if !d.calEdge then { d with time := { d.time with calNs := x } }
    else
      let d := if d.time.calTaken then d else if d.flag Fld.TB_CAL_STATUS_WBUSY then d.calLoad else d.calTick
      { d with time := { d.time with calNs := x - 1000000000, calTaken := false } }

/-- CAL_WRITE: a set is requested; it waits for the next tick. -/
def Dev.calWrite (d : Dev) : Dev :=
  d.onlyIf ((d.mode = .run || d.mode = .degraded || d.mode = .safe) && !d.flag Fld.TB_CAL_STATUS_WBUSY)
    (Dev.putFlag Fld.TB_CAL_STATUS_WBUSY true)

/-- CAL_WRITE. -/
def execCalWrite (p : Path) (s : State) : Out := runWrite p Reg.TB_CAL_CTRL 0x7C000001 Dev.calWrite s

/-- CAL_LOAD: the tick edge at which a requested set is loaded; the edge is not counted again. -/
def execCalLoad (s : State) : Out :=
  run (fun d => d.onlyIf (d.flag Fld.TB_CAL_STATUS_WBUSY && d.calEdge && !d.time.calTaken) (fun d =>
    let d := d.calLoad
    { d with time := { d.time with calTaken := true } })) s

/-- A read of TB_CAL_SEC_LO: SEC_HI and SUB of the same tick are latched for the path. -/
def Dev.calReadLatch (p : Path) (d : Dev) : Word × Dev :=
  (d.rd Reg.TB_CAL_SEC_LO,
    (d.latchRead p (d.rd Reg.TB_CAL_SEC_HI)).putLatched p Reg.TB_CAL_SUB (d.rd Reg.TB_CAL_SUB))

/-- CAL_READ_LATCH. -/
def execCalReadLatch (p : Path) (s : State) : Out :=
  runRead p Reg.TB_CAL_SEC_LO (fun d =>
    let (w, d) := d.calReadLatch p
    d.emit (.data p Reg.TB_CAL_SEC_LO w.toNat)) s

/-- Clears the tamper registers. -/
def Dev.tampClear (d : Dev) : Dev :=
  d.each [Reg.TB_CAL_TAMP_FIRST_LO, Reg.TB_CAL_TAMP_FIRST_HI, Reg.TB_CAL_TAMP_FIRST_SUB, Reg.TB_CAL_TAMP_LAST_LO,
    Reg.TB_CAL_TAMP_LAST_HI, Reg.TB_CAL_TAMP_LAST_SUB, Reg.TB_CAL_TAMP_INFO] (fun a => Dev.wr a 0)

/-- TB_CAL_CTRL with TAMP_CLR: ignored until the recorder has copied the registers, and while a set is pending. -/
def Dev.tampClearWrite (d : Dev) : Dev :=
  d.onlyIf (!d.time.tampPending && !d.flag Fld.TB_CAL_STATUS_WBUSY) Dev.tampClear

/-- TAMP_CLR. -/
def execTampClr (p : Path) (s : State) : Out :=
  runWrite p Reg.TB_CAL_CTRL 0x7C000002 Dev.tampClearWrite s

/-- CALENDAR_ALARM: the seconds reach ALARM; the alarm wakes the part. -/
def execCalendarAlarm (s : State) : Out :=
  run (fun d => d.onlyIf (d.flag Fld.TB_CAL_ALARM_HI_ALARM_EN &&
      d.calSec = d.pair Fld.TB_CAL_ALARM_LO_ALARM Fld.TB_CAL_ALARM_HI_ALARM) (fun d =>
    (d.putFlag Fld.TB_CAL_STATUS_ALARM true).wake 4 0 true)) s

/-- OSC_STOP: no 32.768 kHz edge for 2 ms. -/
def execOscStop (s : State) : Out :=
  run (fun d =>
    let d := (d.putFlag Fld.TB_CAL_STATUS_OSC_STOP true).raise 101
    { d with time := { d.time with oscRuns := false } }) s

/-- A tamper event latches the calendar time and cause (R156). -/
def Dev.tampLatch (cause : Nat) (d : Dev) : Dev :=
  let first := d.fld Fld.TB_CAL_TAMP_INFO_CNT = 0
  let put (lo hi sub : Fld) (d : Dev) : Dev := (d.putPair lo hi d.calSec).put sub (d.fld Fld.TB_CAL_SUB)
  let d := if first then
      (put Fld.TB_CAL_TAMP_FIRST_LO_TAMP_FIRST Fld.TB_CAL_TAMP_FIRST_HI_TAMP_FIRST Fld.TB_CAL_TAMP_FIRST_SUB_TAMP_FIRST d).put Fld.TB_CAL_TAMP_INFO_CAUSE cause
    else d
  let d := (put Fld.TB_CAL_TAMP_LAST_LO_TAMP_LAST Fld.TB_CAL_TAMP_LAST_HI_TAMP_LAST Fld.TB_CAL_TAMP_LAST_SUB_TAMP_LAST d).bump Fld.TB_CAL_TAMP_INFO_CNT
  { d with time := { d.time with tampPending := true } }

/-- BACKUP_SUPPLY_LOSS: with VBAT_LOG absent, what lives on VBKUP is lost (R157). -/
def execBackupSupplyLoss (s : State) : Out :=
  run (fun d => d.onlyIf (!d.sys.vbat) (fun d =>
    let d := d.each [Reg.TB_CAL_SEC_LO, Reg.TB_CAL_SEC_HI, Reg.TB_CAL_SUB, Reg.TB_CAL_CALIB, Reg.TB_CAL_ALARM_LO,
      Reg.TB_CAL_ALARM_HI, Reg.TB_CAL_STATUS] (fun a => Dev.wr a 0)
    let d := d.tampClear
    { d with
      time := { d.time with bkupLost := true, tampPending := false, calNs := 0, calTaken := false, calWindow := 0, oscRuns := true }
      sec := { d.sec with recLostKept := 0, deferred := [], tampEn := 0 } })) s

/-! ### Entry and exit of service (R134, R139, R160) -/

/-- The time base at entry to service from CONFIGURE or DOZE: domains 0 and unlocked, system time not set, the selection the TIME
section names. -/
def Dev.timeServiceEntry (d : Dev) : Dev :=
  let d := d.each [0, 1] (fun k d =>
    let d := ((d.putTdOffset k 0).putTdAnchor k 0).putTdRate k 0
    let c := d.tdCfg k
    ((d.putFlag (Fld.TB_TD_STATUS_LOCKED k) false).put (Fld.TB_TD_STATUS_MISSED k) 0).putTdCfg k
      { c with
        gotSync := false, half := none, small := none, good := 0, lost := false, due := d.tns + c.interval
        heard := [], waits := [], followUps := [] })
  let d := { d with time := { d.time with ppsDone := [], ppsOn := [] } }
  let d := ((d.wr Reg.TB_SYS_STATUS 0).putResid 0).put Fld.TB_SYS_STATUS_SRC d.time.sysSel
  d.selectUnset

/-- The PPS outputs stop: no pulse is under way any more. -/
def Dev.ppsStop (d : Dev) : Dev := { d with time := { d.time with ppsOn := [] } }

/-- The time base at entry to DOZE: queues emptied, PPS driven inactive (R462), LOCKED cleared. -/
def Dev.timeDoze (d : Dev) : Dev :=
  let d := d.each [0, 1, 2, 3] (fun k d =>
    d.onlyIf (Tab.get (fun _ => none) d.time.ppsOn k).isSome (Dev.ppsDrive k false))
  let d := d.ppsStop
  let d := d.each (List.range 12) (fun p => Dev.putTsq p fifoEmpty)
  let d := d.each (List.range 8) (fun i => Dev.putCapFifo i fifoEmpty)
  d.each [0, 1] (fun k => Dev.putFlag (Fld.TB_TD_STATUS_LOCKED k) false)

end Sys2Proof.Machine
end

