-- ==== Sys2Proof/Machine/Phase.lean ====
section
/-! DEFINITION. Millwright's phase domains and crossings (chapter 05), the discrete lines. Phase values are 40-bit numbers in
fraction units (2^-24 unit). -/

namespace Sys2Proof.Machine

/-! ### Phase arithmetic (R164) -/

/-- The signed 40-bit difference φ − P. -/
def phDiff (a b : Nat) : Int := (BitVec.ofNat 40 a - BitVec.ofNat 40 b).toInt

/-- A phase moved by a signed amount, modulo 2^40. -/
def phAdd (a : Nat) (x : Int) : Nat := (((a : Int) + x) % 2 ^ 40).toNat

/-- A phase domain. -/
def Dev.phDom (d : Dev) (k : Nat) : PhDom := Tab.get (fun _ => phNone) d.phase.doms k

/-- Sets a phase domain. -/
def Dev.putPhDom (k : Nat) (x : PhDom) (d : Dev) : Dev :=
  { d with phase := { d.phase with doms := Tab.set (fun _ => phNone) d.phase.doms k x } }

/-- Changes a phase domain. -/
def Dev.onPhDom (k : Nat) (f : PhDom → PhDom) (d : Dev) : Dev := d.putPhDom k (f (d.phDom k))

/-- The modes in which Millwright counts and dispatches (R191). -/
def Dev.phaseRuns (d : Dev) : Bool := d.inService

/-- The magnitude the prediction has advanced since the last edge: v × (t − edge time), clamped at INC − 1, or at the last
update's advance less 1, for the edge-driven sources (R168, R169). -/
def PhDom.advance (x : PhDom) (f : Nat) : Nat :=
  let n := (x.vNum.natAbs * (f - x.edgeAt)) / x.vDen
  match x.source with
  | 0 => min n (x.inc - 1)
  | 2 => min n (x.lastAdv - 1)
  | _ => n

/-- φ at an FRC value (R169, R171, R173). -/
def PhDom.phi (x : PhDom) (f : Nat) : Nat :=
  if x.stalled || x.frozen then x.hold
  else phAdd x.base (if x.vNum < 0 then -(x.advance f : Int) else (x.advance f : Int))

/-- φ of a domain now. -/
def Dev.phi (d : Dev) (k : Nat) : Nat := (d.phDom k).phi d.frc.toNat

/-- The velocity in 2^-24 unit per ms; 0 while stalled. -/
def PhDom.vel (x : PhDom) : Int := if x.stalled || x.frozen then 0 else (x.vNum * 1000000).tdiv x.vDen

/-- Whether an interval is shorter than INC / VMIN (R171). -/
def Dev.withinStall (d : Dev) (k span : Nat) : Bool :=
  span * d.fld (Fld.PH_DOM_VMIN k) < (d.phDom k).inc * 1000000

/-! ### Actions (R176, R177) -/

/-- P of an action. -/
def Dev.actP (d : Dev) (a : Nat) : Nat := d.pair (Fld.PH_ACT_P_LO_P a) (Fld.PH_ACT_P_HI_P a)

/-- PERIOD of an action. -/
def Dev.actPeriod (d : Dev) (a : Nat) : Nat := d.pair (Fld.PH_ACT_PER_LO_PERIOD a) (Fld.PH_ACT_PER_HI_PERIOD a)

/-- The actions a register of which is listed, in slot order: every configured action has a SHAPE that is not its reset value. -/
def Dev.actions (d : Dev) : List Nat :=
  (d.regs.filter (fun e => 0xE88000 ≤ e.1 && e.1 < 0xE90000 && e.1 % 0x20 = 0x14)).map (fun e => (e.1 - 0xE88000) / 0x20)

/-- Whether travel from one φ by a signed amount crosses P in a direction the action admits (R177). -/
def crosses (dir p from_ : Nat) (travel : Int) : Bool :=
  let d0 := phDiff from_ p
  (bit dir 0 && 0 < travel && d0 < 0 && 0 ≤ d0 + travel) || (bit dir 1 && travel < 0 && 0 ≤ d0 && d0 + travel < 0)

/-- The crossings of a domain's armed actions in a travel from one φ: each crossed action waits for its dispatch. `at_` gives the
crossing time from the distance between the start of the travel and P. -/
def Dev.travel (k from_ : Nat) (dist : Int) (at_ : Nat → Nat) (d : Dev) : Dev :=
  let hit := d.actions.filter (fun a =>
    d.fld (Fld.PH_ACT_SHAPE_DOMAIN a) = k && d.flag (Fld.PH_ACT_STATUS_ARMED a) &&
      crosses (d.fld (Fld.PH_ACT_SHAPE_DIR a)) (d.actP a) from_ dist && !(d.phDom k).waiting.any (fun w => w.1 = a))
  d.onPhDom k (fun x =>
    { x with
      seen := phAdd from_ dist
      waiting := x.waiting ++ hit.map (fun a => (a, at_ (phDiff (d.actP a) from_).natAbs)) })

/-- The predicted phase has moved since crossings were last evaluated (ACTION_CROSSING). -/
def Dev.predictedTravel (k : Nat) (d : Dev) : Dev :=
  let x := d.phDom k
  let f := d.frc.toNat
  let dist := phDiff (x.phi f) x.seen
  let ahead := (phDiff x.seen x.base).natAbs
  let when_ (n : Nat) : Nat := if x.vNum = 0 then f else min f (x.edgeAt + ((ahead + n) * x.vDen + x.vNum.natAbs - 1) / x.vNum.natAbs)
  if x.stalled || x.frozen then d
  else if (0 < dist) = (0 < x.vNum) then d.travel k x.seen dist when_
  else d.onPhDom k (fun y => { y with seen := x.phi f })

/-- ACTION_CROSSING. -/
def execActionCrossing (dom : Fin 4) (s : State) : Out :=
  run (fun d => d.onlyIf (d.phaseRuns && (d.phDom dom.val).present) (Dev.predictedTravel dom.val)) s

/-! ### Publishing (R175) -/

/-- Writes a value to a slot as Millwright does, with the present time. -/
def Dev.phWrite (slot : Option Nat) (v : Word) (d : Dev) : Dev :=
  match slot with
  | some n => if h : n < 131072 then d.storeCycle [⟨.millwright, ⟨n, h⟩, ⟨v, 0x85⟩, none⟩] else d
  | none => d

/-- Publishes position and velocity at the first edge or update after each 100 µs of the FRC (R175; DESIGN CHOICE, log entry 205). -/
def Dev.publishPhase (k : Nat) (d : Dev) : Dev :=
  let x := d.phDom k
  let f := d.frc.toNat
  if x.frozen || f < x.nextPub then d
  else
    let d := d.onPhDom k (fun y => { y with nextPub := (f / 100000 + 1) * 100000 })
    (d.phWrite x.posSlot (BitVec.ofNat 32 (x.phi f / 256))).phWrite x.velSlot (BitVec.ofInt 32 x.vel)

/-! ### Edges (R166, R169, R171, R172) -/

/-- The stable time the pin filter of a domain asks for, ns (R166). -/
def PhDom.filterNs (x : PhDom) : Nat := [0, 20, 100, 500].getD x.filter 0

/-- INVERT of an encoder pin (R185). -/
def Dev.encInvert (d : Dev) (code i : Nat) : Bool :=
  d.img.pins.any (fun e => bits e.2.toNat 31 24 = code && bits e.2.toNat 23 16 = i && bit e.2.toNat 15)

/-- Whether a domain counts an event at the pins of an encoder that is seen `delay` ns after it: the filter has passed it. -/
def PhDom.counts (x : PhDom) (enc delay : Nat) : Bool := x.present && x.source = 0 && x.encoder = enc && x.filterNs ≤ delay

/-- The velocity estimate from the last edge times (R169). -/
def PhDom.estimate (x : PhDom) (times : List Nat) : PhDom :=
  let n := min x.vavg (times.length - 1)
  let span := times.headD 0 - times.getD n 0
  { x with vNum := (if x.reverse then -1 else 1) * ((x.inc * n : Nat) : Int), vDen := max span 1 }

/-- A counted edge of a domain at FRC time `t`, forward or not: φ takes the edge phase; a reversal draws φ back to the last edge
phase first, discards the estimate and stalls; two edges in one direction within INC / VMIN end STALLED. -/
def Dev.countedEdge (k : Nat) (fwd : Bool) (t : Nat) (d : Dev) : Dev :=
  let d := d.predictedTravel k
  let x := d.phDom k
  let reversal := x.reverse = fwd
  let inc : Int := if fwd then x.inc else -(x.inc : Int)
  let new := phAdd x.base inc
  let from_ := if reversal then x.base else x.seen
  let times := if reversal then [t] else t :: x.times
  let close := match times with
    | a :: b :: _ => d.withinStall k (a - b)
    | _ => false
  let stalled := if reversal then true else x.stalled && !close
  let times := if stalled then [t] else times.take 9
  let y := { x with edge := new, base := new, edgeAt := t, hold := new, reverse := !fwd, times := times, stalled := stalled }
  let y := if stalled then { y with vNum := 0, vDen := 1 } else y.estimate times
  ((d.putPhDom k y).travel k from_ (phDiff new from_) (fun _ => t)).publishPhase k

/-- ENCODER_EDGE: a sample of an encoder's pins A and B, `delay` ns after the edge itself; INVERT of one of the two turns the
sense of the step. -/
def execEncoderEdge (enc : Fin 4) (step : EncStep) (delay : BitVec 16) (s : State) : Out :=
  run (fun d =>
    let turned := xor (d.encInvert 5 enc.val) (d.encInvert 6 enc.val)
    d.onlyIf (d.phaseRuns && (d.pinBound 5 enc.val || d.pinBound 6 enc.val)) (fun d => d.each [0, 1, 2, 3] (fun k d =>
      let x := d.phDom k
      if x.counts enc.val delay.toNat then
        match step with
        | .illegal => (d.bump (Fld.PH_DOM_ERRCNT_ILLEGAL k)).raise (104 + k)
        | .forward => d.countedEdge k (x.invert = turned) (d.frc.toNat - delay.toNat)
        | .backward => d.countedEdge k (x.invert ≠ turned) (d.frc.toNat - delay.toNat)
      else d))) s

/-- The value nearest to φ with given fraction bits; ties go to the higher (R167). -/
def zNearest (phi zpos : Nat) : Int :=
  let up : Int := ((zpos + 2 ^ 24 - phi % 2 ^ 24) % 2 ^ 24 : Nat)
  if up ≤ 2 ^ 23 then up else up - 2 ^ 24

/-- A counted rising edge of Z at FRC time `t`: the correction is that of φ at the edge, and it is travel. A correction backward
starts at φ of the edge, one forward at the φ that crossings have been evaluated up to, so that neither crosses anything twice
(log entry 162). -/
def Dev.zCorrect (k t : Nat) (d : Dev) : Dev :=
  let d := d.predictedTravel k
  let x := d.phDom k
  let c := zNearest (x.phi t) x.zpos
  let d := d.onPhDom k (fun y => { y with edge := phAdd y.edge c, base := phAdd y.base c, hold := phAdd y.hold c })
  let d := d.travel k (if c < 0 then x.phi t else x.phi d.frc.toNat) c (fun _ => t)
  let d := d.onPhDom k (fun y => { y with seen := y.phi d.frc.toNat })
  if x.ztol < c.natAbs then (d.bump (Fld.PH_DOM_ERRCNT_ZERR k)).raise (104 + k) else d

/-- Z_RESYNC: an edge at pin Z, seen `delay` ns after it; a rising edge of Z counts, a falling one of an inverted pin (R185). -/
def execZResync (enc : Fin 4) (rising : Bool) (delay : BitVec 16) (s : State) : Out :=
  run (fun d =>
    d.onlyIf (d.phaseRuns && d.pinBound 7 enc.val && rising ≠ d.encInvert 7 enc.val) (fun d => d.each [0, 1, 2, 3] (fun k d =>
      let x := d.phDom k
      d.onlyIf (x.counts enc.val delay.toNat && x.zResync) (Dev.zCorrect k (d.frc.toNat - delay.toNat))))) s

/-- STALL_TIMEOUT: no edge or update within INC / VMIN of the last one. -/
def execStallTimeout (dom : Fin 4) (s : State) : Out :=
  run (fun d =>
    let k := dom.val
    let x := d.phDom k
    d.onlyIf (d.phaseRuns && x.present && x.source ≠ 1 && !x.stalled && !x.frozen && !d.withinStall k (d.frc.toNat - x.edgeAt))
      (fun d => (d.predictedTravel k).onPhDom k (fun y =>
        { y with stalled := true, hold := y.phi d.frc.toNat, vNum := 0, vDen := 1, times := [] }))) s

/-! ### Slot sources (R168, R173) -/

/-- The FRC value a capture time stands for. -/
def Dev.captureFrc (d : Dev) (c : Capture) : Nat := d.frc.toNat / 8 * 8 - 8 * (d.now8 - c).toNat

/-- A slot's value as its type code declares it: U types unsigned, the others signed (R165). -/
def slotNumber (type : Byte) (v : Word) : Int := if type.toNat = 1 || type.toNat = 3 then (v.toNat : Int) else v.toInt

/-- An update of an integrated slot (R168, R171, R173): φ at the slot's CAPTURE under the old velocity is the new base, and a change
of sign draws φ back to it first. An update that ends FROZEN leaves the domain STALLED at the held φ. -/
def Dev.integrated (k : Nat) (v : Int) (t : Nat) (d : Dev) : Dev :=
  let d := d.predictedTravel k
  let x := d.phDom k
  let reverse := if v = 0 then x.reverse else decide (v < 0)
  if x.frozen then
    (d.putPhDom k { x with
      frozen := false, stalled := true, edge := x.hold, base := x.hold, seen := x.hold, edgeAt := t, reverse := reverse
      vNum := 0, vDen := 1 }).publishPhase k
  else
    let base := x.phi t
    let stalled := v.natAbs < d.fld (Fld.PH_DOM_VMIN k)
    let turned := v.sign ≠ x.vNum.sign
    let y := { x with
      edge := base, base := base, edgeAt := t, hold := base, stalled := stalled, reverse := reverse, vNum := v, vDen := 1000000
      seen := if turned || stalled then base else x.seen }
    ((d.putPhDom k y).predictedTravel k).publishPhase k

/-- A write of VMIN re-evaluates STALLED of a domain with an integrated slot (R171): φ holds from now, or goes on from the held
value at the velocity of the last update. -/
def Dev.vminChanged (k : Nat) (d : Dev) : Dev :=
  let x := d.phDom k
  if !d.phaseRuns || !x.present || x.source ≠ 1 || x.frozen then d
  else
    let d := d.predictedTravel k
    let x := d.phDom k
    let f := d.frc.toNat
    let stalled := x.vNum.natAbs < d.fld (Fld.PH_DOM_VMIN k)
    if stalled = x.stalled then d
    else if stalled then d.onPhDom k (fun y => { y with stalled := true, hold := x.phi f })
    else
      let moved : Int := (if x.vNum < 0 then -1 else 1) * (x.advance f : Int)
      d.onPhDom k (fun y => { y with stalled := false, base := phAdd x.hold (-moved) })

/-- The first update of a ring encoder since its count was last lost: the base of Δcount; φ stays. -/
def Dev.ringFirst (k count t : Nat) (d : Dev) : Dev :=
  let f := d.frc.toNat
  (d.onPhDom k (fun y =>
    { y with count := some count, edge := y.phi f, base := y.phi f, hold := y.phi f, edgeAt := t, times := [t], frozen := false, stalled := true })).publishPhase k

/-- An update of a ring encoder: Δcount × INC; the velocity is the advance over the CAPTURE difference (R168), a free value where
that difference is not positive (log entry 163). An update behind the prediction draws φ back and crosses nothing (R169); an
advance of 0 is an update in the present direction. -/
def Dev.ringUpdate (k count t : Nat) (d : Dev) : Dev :=
  let d := d.predictedTravel k
  let x := d.phDom k
  match x.count with
  | none => d.ringFirst k count t
  | some last =>
    let delta := (BitVec.ofNat 32 count - BitVec.ofNat 32 last).toInt
    let was := x.stalled || x.frozen
    let fwd := if delta = 0 then !x.reverse else decide (0 < delta)
    let reversal := x.reverse = fwd
    let adv := delta * x.inc
    let base := if x.frozen then x.hold else x.base
    let new := phAdd base adv
    let from_ := if reversal then base else if x.frozen then x.hold else x.seen
    let dist := phDiff new from_
    let close := !reversal && delta ≠ 0 && !x.times.isEmpty && !x.frozen && d.withinStall k (t - x.times.headD 0)
    let stalled := reversal || (was && !close)
    let (i, d) := if !stalled && adv ≠ 0 && t ≤ x.edgeAt then d.draw else (0, d)
    let y := { x with
      count := some count, frozen := false, edge := new, base := new, edgeAt := t, hold := new, reverse := !fwd, stalled := stalled
      times := if delta = 0 then x.times else [t]
      lastAdv := adv.natAbs
      vNum := if stalled then 0 else if adv ≠ 0 && t ≤ x.edgeAt then adv.sign * (Config.free i : Int) else adv
      vDen := if stalled then 1 else max (t - x.edgeAt) 1 }
    let d := d.putPhDom k y
    (if dist.sign = delta.sign then d.travel k from_ dist (fun _ => t) else d.onPhDom k (fun z => { z with seen := new })).publishPhase k

/-- PHASE_SOURCE_UPDATE: the route event of a domain's slot source is taken. -/
def Dev.sourceUpdate (k : Nat) (d : Dev) : Dev :=
  let x := d.phDom k
  let d := d.onPhDom k (fun y => { y with update := false })
  let w := d.evalSlot x.srcSlot
  let t := d.captureFrc w.capture
  if !tagValid w.tag || tagStale w.tag || tagSubst w.tag then
    if x.frozen then d
    else (d.predictedTravel k).onPhDom k (fun y =>
      { y with frozen := true, stalled := true, hold := y.phi d.frc.toNat, vNum := 0, vDen := 1, times := [] }) |>.raise (108 + k)
  else if x.source = 1 then d.integrated k (slotNumber w.type w.value * x.vgain) t
  else d.ringUpdate k w.value.toNat t

/-- PHASE_SOURCE_UPDATE. -/
def execPhaseSourceUpdate (dom : Fin 4) (s : State) : Out :=
  run (fun d => d.onlyIf (d.phaseRuns && (d.phDom dom.val).present && (d.phDom dom.val).update) (Dev.sourceUpdate dom.val)) s

/-! ### Presets and re-arming (R174, R183) -/

/-- PH_DOMd_CTRL PRESET. -/
def Dev.preset (k : Nat) (d : Dev) : Dev :=
  let v := d.pair (Fld.PH_DOM_PRESET_LO_PRESET k) (Fld.PH_DOM_PRESET_HI_PRESET k)
  d.onPhDom k (fun y =>
    { y with base := v, hold := v, seen := v, stalled := true, vNum := 0, vDen := 1, times := [] })

/-- PRESET. -/
def execPreset (p : Path) (dom : Fin 4) (s : State) : Out :=
  runWrite p (Reg.PH_DOM_CTRL dom.val) 0 (fun d => d.onlyIf (d.phaseRuns && (d.phDom dom.val).present) (Dev.preset dom.val)) s

/-- Re-arms an action against the current φ: ARMED becomes EN, a crossing not yet dispatched is dropped. -/
def Dev.rearm (a : Nat) (d : Dev) : Dev :=
  let k := d.fld (Fld.PH_ACT_SHAPE_DOMAIN a)
  (d.predictedTravel k).onPhDom k (fun y => { y with waiting := y.waiting.filter (fun w => w.1 ≠ a) }) |>.putFlag
    (Fld.PH_ACT_STATUS_ARMED a) (d.flag (Fld.PH_ACT_CTRL_EN a))

/-- A write that re-arms an action: refused with E_PERM outside what R183 admits (R50). -/
def Dev.actWrite (p : Path) (a : Nat) (w : ActWrite) (d : Dev) : Dev :=
  let hi := (d.latch p).staged.toNat % 256
  match w with
  | .p lo =>
    ((((d.put (Fld.PH_ACT_P_LO_P a) lo.toNat).put (Fld.PH_ACT_P_HI_P a) hi).rearm a).storeSetting
      (Reg.PH_ACT_P_LO a)).storeSetting (Reg.PH_ACT_P_HI a)
  | .period lo =>
    if (lo.toNat ≠ 0 || hi ≠ 0) && d.fld (Fld.PH_ACT_SHAPE_DIR a) = 3 then d.refuseSetting (Reg.PH_ACT_PER_LO a) E_PERM
    else
      ((((d.put (Fld.PH_ACT_PER_LO_PERIOD a) lo.toNat).put (Fld.PH_ACT_PER_HI_PERIOD a) hi).rearm a).storeSetting
        (Reg.PH_ACT_PER_LO a)).storeSetting (Reg.PH_ACT_PER_HI a)
  | .ctrl w =>
    if w.toNat % 2 ^ 20 = 0 || (w.getLsbD 31 && d.fld (Fld.PH_ACT_SHAPE_KIND a) = 0) then d.refuseSetting (Reg.PH_ACT_CTRL a) E_PERM
    else
      (((d.put (Fld.PH_ACT_CTRL_EN a) (w.toNat / 2 ^ 31)).put (Fld.PH_ACT_CTRL_WIDTH a) w.toNat).rearm a).storeSetting
        (Reg.PH_ACT_CTRL a)

/-- The register of an action write. -/
def actRegAddr (a : Nat) : ActWrite → Nat
  | .p _ => Reg.PH_ACT_P_LO a
  | .period _ => Reg.PH_ACT_PER_LO a
  | .ctrl _ => Reg.PH_ACT_CTRL a

/-- ACTION_REARM. -/
def execActionRearm (p : Path) (a : Fin 1024) (w : ActWrite) (s : State) : Out :=
  runWrite p (actRegAddr a.val w) 0 (Dev.actWrite p a.val w) s

/-! ### Discrete lines (R185 to R189) -/

/-- A discrete line. -/
def Dev.dioLine (d : Dev) (n : Nat) : DioLine := Tab.get (fun _ => dioNone) d.phase.dio n

/-- Sets a discrete line. -/
def Dev.putDioLine (n : Nat) (x : DioLine) (d : Dev) : Dev :=
  { d with phase := { d.phase with dio := Tab.set (fun _ => dioNone) d.phase.dio n x } }

/-- Whether a line is in the forced test state (R188). -/
def Dev.dioForced (d : Dev) (n : Nat) : Bool := d.mode = .factory && (d.dioLine n).input && bit (d.rd Reg.DIO_FORCE_EN).toNat n

/-- A line's tagged word as DIO_IN and space 4 show it (R186). -/
def Dev.dioWord (d : Dev) (n : Nat) : Tagged :=
  if !(d.dioLine n).input then ⟨BitVec.ofNat 32 (b2n (bit (d.rd Reg.DIO_OUT).toNat n)), 0x86⟩
  else if d.dioForced n then ⟨BitVec.ofNat 32 (b2n (bit (d.rd Reg.DIO_FORCE_VAL).toNat n)), 0x8E⟩
  else
    match (d.dioLine n).level with
    | some b => ⟨BitVec.ofNat 32 (b2n b), 0x86⟩
    | none => ⟨0, 0⟩

/-- DIO_IN. -/
def Dev.dioIn (d : Dev) : Word := BitVec.ofNat 32 (bitsNat ((List.range 32).map (fun n => (d.dioWord n).value ≠ 0)))

/-- The DIO sampler writes a line's slot, where the image names one. -/
def Dev.dioPublish (n : Nat) (rivals : List StoreReq) (d : Dev) : Dev :=
  match (d.dioLine n).slot with
  | some m => if h : m < 131072 then d.storeWrite ⟨.dio, ⟨m, h⟩, d.dioWord n, none⟩ rivals else d
  | none => d

/-- DIO_INPUT_ACCEPT: an input's pin has held a level for `stable` ns; it is accepted where that is the debounce time, counted from
entry to service at the earliest (R186). -/
def execDioInputAccept (line : Fin 32) (level : Bool) (stable : BitVec 32) (rivals : List StoreReq) (s : State) : Out :=
  run (fun d =>
    let n := line.val
    let x := d.dioLine n
    let v := xor level x.invert
    d.onlyIf (d.inService && x.input && 1000 * x.debounce ≤ min stable.toNat (d.tns - d.phase.entryAt) && x.level ≠ some v) (fun d =>
      let d := d.putDioLine n { x with level := some v }
      if d.dioForced n then d else d.dioPublish n rivals)) s

/-- Ends the pulse in progress on a target: DIO line `t`, load channel `t - 32`. -/
def Dev.endPulse (t : Nat) (d : Dev) : Dev := { d with phase := { d.phase with pulses := Tab.set (fun _ => 0) d.phase.pulses t 0 } }

/-- Starts or restarts a pulse on a target. -/
def Dev.startPulse (t ends : Nat) (d : Dev) : Dev :=
  { d with phase := { d.phase with pulses := Tab.set (fun _ => 0) d.phase.pulses t ends } }

/-- Whether drivers and pulls of DIO pins are enabled: from entry to service (R38), in DOZE (R462), and in the entry to SLEEP until the
logic die loses its supply (log entry 196). -/
def Dev.dioDrives (d : Dev) : Bool := d.inService || d.mode = .doze || d.sys.entry = .sleep

/-- The level a line's pin drives: the line's, or its inverse; an open-drain pin drives low only (R185). -/
def Dev.dioPinLevel (d : Dev) (n : Nat) : Option Bool :=
  let x := d.dioLine n
  let b := xor (bit (d.rd Reg.DIO_OUT).toNat n) x.invert
  if !d.dioDrives || !x.pin || x.input || (x.openDrain && b) then none else some b

/-- The pull of a line's pin. In SLEEP the lines that may wake keep theirs (R189). -/
def Dev.dioPinPull (d : Dev) (n : Nat) : Nat :=
  let x := d.dioLine n
  if x.pin && (d.dioDrives || (d.mode = .sleep && x.wakeOn)) then x.pull else 0

/-- Puts out what the pin of a line does. -/
def Dev.dioShowPin (n : Nat) (d : Dev) : Dev :=
  d.onlyIf (d.dioLine n).pin (Dev.emit (.dio n (d.dioPinLevel n) (d.dioPinPull n) (d.dioLine n).slow))

/-- Sets the level of an output line; its pin follows. -/
def Dev.putDioOut (n : Nat) (b : Bool) (d : Dev) : Dev :=
  let e := d.put ⟨Reg.DIO_OUT, n, n⟩ (b2n b)
  e.onlyIf (e.dioPinLevel n ≠ d.dioPinLevel n) (Dev.dioShowPin n)

/-- The present effect on a target comes from an action of this very clock cycle, of a domain above `dom` (R180). -/
def Dev.actedAbove (d : Dev) (t dom : Nat) : Bool :=
  let a := Tab.get (fun _ => (0, 0)) d.phase.acted t
  decide (a.1 = d.tns ∧ dom < a.2)

/-- Notes an action's effect on a target. -/
def Dev.noteActed (t dom : Nat) (d : Dev) : Dev :=
  { d with phase := { d.phase with acted := Tab.set (fun _ => (0, 0)) d.phase.acted t (d.tns, dom + 1) } }

/-- A write of DIO_OUT, DIO_OUT_SET or DIO_OUT_CLR (R187): lines that are inputs or that the active pattern controls stay (R428),
and so do those that an action of the same cycle has set, since it takes effect after the write (R180). -/
def Dev.dioOutWrite (r : DioReg) (v : Word) (d : Dev) : Dev :=
  if !d.inService then d
  else
    d.each (List.range 32) (fun n d =>
      let masked := d.flag Fld.FLT_STATUS_SAFE_ACT && bit d.flt.dioCtl n
      let named := match r with
        | .out => true
        | _ => v.getLsbD n
      let b := match r with
        | .out => v.getLsbD n
        | .set => true
        | .clr => false
      if (d.dioLine n).input || masked || !named || d.actedAbove n 0 then d else (d.putDioOut n b).endPulse n)

/-- The address of an output register. -/
def dioRegAddr : DioReg → Nat
  | .out => Reg.DIO_OUT
  | .set => Reg.DIO_OUT_SET
  | .clr => Reg.DIO_OUT_CLR

/-- DIO_OUT_WRITE. -/
def execDioOutWrite (p : Path) (r : DioReg) (v : Word) (s : State) : Out := runWrite p (dioRegAddr r) v.toNat (fun d => d.dioOutWrite r v) s

/-- DIO_WAKE_QUALIFY: a level stable for `ticks` calendar ticks after an edge, which is the line's filter or more. -/
def execDioWakeQualify (line : Fin 8) (rising : Bool) (ticks : BitVec 16) (s : State) : Out :=
  run (fun d =>
    let n := line.val
    let x := d.dioLine n
    d.onlyIf ((d.mode = .doze || d.mode = .sleep) && x.input && x.wakeOn && x.wakeFilter ≤ ticks.toNat && (if rising then bit x.wakeEdge 0 else bit x.wakeEdge 1))
      (fun d => (d.put ⟨Reg.DIO_WAKE_SRC, n, n⟩ 1).wake 1 n true)) s

/-- A write of DIO_FORCE_EN or DIO_FORCE_VAL in FACTORY: a line whose shown word changes is written to its slot (R188). -/
def Dev.dioForceWrite (a : Nat) (v : Word) (d : Dev) : Dev :=
  if d.mode = .factory then
    let old := d
    (d.wr a v).each (List.range 32) (fun n d =>
      if (d.dioLine n).input && d.dioWord n ≠ old.dioWord n then d.dioPublish n [] else d)
  else d

/-! ### Entry to and exit from service (R191) -/

/-- Every domain at φ = 0, STALLED; every action re-armed; inputs without an accepted level; outputs at the
DIO_OUT reset value; drivers and pulls enabled (R38, R185). -/
def Dev.phaseEntry (d : Dev) : Dev :=
  let d := d.each [0, 1, 2, 3] (fun k => Dev.onPhDom k (fun x =>
    { x with
      edge := 0, base := 0, edgeAt := 0, hold := 0, stalled := true, frozen := false, reverse := false, vNum := 0, vDen := 1, lastAdv := 0
      times := [], count := none, seen := 0, nextPub := 0, lastDispatch := none, waiting := [], update := false }))
  let d := d.each d.actions (fun a d => d.putFlag (Fld.PH_ACT_STATUS_ARMED a) (d.flag (Fld.PH_ACT_CTRL_EN a)))
  let d := { d with phase := { d.phase with pulses := [], acted := [], entryAt := d.tns } }
  let d := (d.wr Reg.DIO_OUT 0).each (List.range 32) (fun n d => d.putDioLine n { d.dioLine n with level := none })
  d.each (List.range 32) Dev.dioShowPin

/-- The domains stop, with φ kept; each is STALLED from now on. -/
def Dev.phaseHold (d : Dev) : Dev :=
  let f := d.frc.toNat
  d.each [0, 1, 2, 3] (fun k => Dev.onPhDom k (fun x =>
    { x with
      base := x.phi f, hold := x.phi f, seen := x.phi f, stalled := true, frozen := false, vNum := 0, vDen := 1, times := [], count := none
      waiting := [] }))

/-- Millwright at RECONFIG: no counting, no action, no pulse in CONFIGURE (R191). -/
def Dev.phaseStop (d : Dev) : Dev := { d.phaseHold with phase := { d.phaseHold.phase with pulses := [], acted := [] } }

/-- Millwright at entry to DOZE: φ kept, pulses end, on return each domain is STALLED. -/
def Dev.phaseDoze (d : Dev) : Dev :=
  let d := d.phaseHold
  let d := d.each ((Tab.keys d.phase.pulses).filter (fun t => t < 32)) (fun n => Dev.putDioOut n false)
  { d with phase := { d.phase with pulses := [] } }

end Sys2Proof.Machine
end

