-- ==== Sys2Proof/Machine/CAN.lean ====
section
/-! DEFINITION. The CAN controllers (chapter 06): reception, transmit buffers, the schedule matrix, error confinement, wake and
injection. What ISO 11898-1 assigns a detected error comes with the command (log entry 21). -/

namespace Sys2Proof.Machine

/-! ### Controllers -/

/-- A controller that has a CAN_BIND record. -/
def Dev.canCtl (d : Dev) (n : Nat) : Option CanCtl := Tab.get (fun _ => none) d.can.ctls n

/-- Changes a controller. -/
def Dev.onCan (n : Nat) (f : CanCtl → CanCtl) (d : Dev) : Dev :=
  { d with can := { d.can with ctls := Tab.set (fun _ => none) d.can.ctls n ((d.canCtl n).map f) } }

/-- Applies `f` to a bound controller; an unbound one is disabled (R196). -/
def Dev.withCan (n : Nat) (f : CanCtl → Dev → Dev) (d : Dev) : Dev :=
  match d.canCtl n with
  | some c => f c d
  | none => d

/-- A transmit buffer. -/
def Dev.canBuf (d : Dev) (n b : Nat) : CanBuf := Tab.get (fun _ => canBufNone) d.can.bufs (64 * n + b)

/-- Sets a transmit buffer. -/
def Dev.putCanBuf (n b : Nat) (x : CanBuf) (d : Dev) : Dev :=
  { d with can := { d.can with bufs := Tab.set (fun _ => canBufNone) d.can.bufs (64 * n + b) x } }

/-- STATE of a buffer: 0 EMPTY, 1 PENDING, 2 TRANSMITTING. -/
def Dev.bufState (d : Dev) (n b : Nat) : Nat := d.fld (Fld.CAN_TXB_STAT_STATE n b)

/-- Sets STATE of a buffer; HOLD and LENGTH show the current content. -/
def Dev.putBufState (n b st : Nat) (d : Dev) : Dev :=
  let c := (d.canBuf n b).content
  let d := d.put (Fld.CAN_TXB_STAT_STATE n b) st
  let d := d.putFlag (Fld.CAN_TXB_STAT_HOLD n b) (st ≠ 0 && bit c.w0 25)
  d.put (Fld.CAN_TXB_STAT_LENGTH n b) (if st = 0 then 0 else c.len)

/-- STATE of a controller: 0 disabled, 1 integrating, 2 active, 3 listen-only. -/
def Dev.canState (d : Dev) (n : Nat) : Nat := d.fld (Fld.CAN_STATUS_STATE n)

/-- Whether a controller is in listen-only mode: shown as such, or integrating with LISTEN set (R218). -/
def Dev.canListens (d : Dev) (n : Nat) : Bool := d.canState n = 3 || (d.canState n = 1 && d.flag (Fld.CAN_CTRL_LISTEN n))

/-- Whether a controller is in bus-off. -/
def Dev.busOff (d : Dev) (n : Nat) : Bool := d.fld (Fld.CAN_STATUS_ERRSTATE n) = 2

/-- Whether a controller takes part in bus traffic: in service, integrated, not in bus-off. -/
def Dev.onBus (d : Dev) (n : Nat) : Bool := d.inService && 2 ≤ d.canState n && !d.busOff n

/-! ### Bit timing (R197) -/

/-- The nominal bit in kernel clocks. -/
def nominalBit (nbt : Nat) : Nat := (1 + (bits nbt 22 15 + 1) + (bits nbt 14 8 + 1)) * (bits nbt 31 23 + 1)

/-- A data-phase bit in kernel clocks. -/
def dataBit (w : Nat) : Nat := (1 + (bits w 26 21 + 1) + (bits w 20 16 + 1)) * (bits w 31 27 + 1)

/-- The timing entry in use is shown in CAN_NBT to CAN_PWM and in CAN_STATUS.TIMING. -/
def Dev.putTiming (n sel : Nat) (c : CanCtl) (d : Dev) : Dev :=
  let t := c.timings.getD sel (0, 0, 0, 0)
  let d := ((d.wr (Reg.CAN_NBT n) t.1).wr (Reg.CAN_DBT n) t.2.1).wr (Reg.CAN_XBT n) t.2.2.1
  (d.wr (Reg.CAN_PWM n) t.2.2.2).put (Fld.CAN_STATUS_TIMING n) sel

/-! ### Frame durations (R213) -/

/-- FORMAT of a content. -/
def CanContent.format (x : CanContent) : Nat := bits x.w0 31 29

/-- Nominal and data-phase bits of D_wc. -/
def CanContent.worstBits (x : CanContent) : Nat × Nat :=
  let n := if x.format = 0 && bit x.w0 26 then 0 else x.payload.length
  let ide := bit x.w0 28
  match x.format with
  | 0 => if ide then (8 * n + 70 + (8 * n + 53) / 4, 0) else (8 * n + 50 + (8 * n + 33) / 4, 0)
  | 1 =>
    let k := 8 * n + (if n ≤ 16 then 31 else 35)
    (if ide then 60 else 40, (5 * k + 3) / 4)
  | _ => (44, (11 * (8 * n + 88) + 9) / 10)

/-- The level of a mode line, asserted or not; nothing goes out without one (R201). -/
def Dev.canModeOut (n : Nat) (c : CanCtl) (asserted data : Bool) (d : Dev) : Dev :=
  d.onlyIf c.modeLine (Dev.emit (.canMode n (asserted ≠ c.modeInvert) data))

/-- D_wc in kernel clocks; an FD frame without BRS runs at the nominal rate throughout. -/
def Dev.worstClocks (d : Dev) (n : Nat) (x : CanContent) : Nat :=
  let (a, m) := x.worstBits
  let nom := nominalBit (d.rd (Reg.CAN_NBT n)).toNat
  let dat := match x.format with
    | 1 => if bit x.w0 27 then dataBit (d.rd (Reg.CAN_DBT n)).toNat else nom
    | _ => dataBit (d.rd (Reg.CAN_XBT n)).toNat
  a * nom + m * dat

/-- Whether a frame of worst-case duration D_wc that starts at `now` ends by `limit` (ns; 6.25 ns a clock). -/
def Dev.fits (d : Dev) (n : Nat) (x : CanContent) (now limit : Int) : Bool := now * 4 + (25 * d.worstClocks n x : Nat) ≤ limit * 4

/-- Whether such a frame ends before `limit`. -/
def Dev.endsBefore (d : Dev) (n : Nat) (x : CanContent) (now limit : Int) : Bool := now * 4 + (25 * d.worstClocks n x : Nat) < limit * 4

/-! ### Errors (R217) -/

/-- ERRSTATE from the counters; entry to error passive raises FS224, entry to bus-off its own source. -/
def Dev.confine (n : Nat) (tec rec : Nat) (d : Dev) : Dev :=
  let was := d.fld (Fld.CAN_STATUS_ERRSTATE n)
  let now := if 255 < tec then 2 else if 128 ≤ tec || 128 ≤ rec then 1 else 0
  let d := ((d.put (Fld.CAN_ERRCNT_TEC n) (min tec 256)).put (Fld.CAN_ERRCNT_REC n) (min rec 255)).put (Fld.CAN_STATUS_ERRSTATE n) now
  let d := if now ≠ 0 && was = 0 then d.raise 224 else d
  if now = 2 && was ≠ 2 then ((d.bump (Fld.CAN_BUSOFF_COUNT n)).put (Fld.CAN_BUSOFF_RECOV n) 0).raise (128 + n) else d

/-- The counters of a controller. -/
def Dev.tecRec (d : Dev) (n : Nat) : Nat × Nat := (d.fld (Fld.CAN_ERRCNT_TEC n), d.fld (Fld.CAN_ERRCNT_REC n))

/-- A frame received validly lowers REC; from above 127 it comes to a value from 119 to 127 that ISO 11898-1 leaves open. -/
def Dev.recGood (n : Nat) (d : Dev) : Dev :=
  let (t, r) := d.tecRec n
  if r = 0 then d
  else if r ≤ 127 then d.confine n t (r - 1)
  else
    let (i, d) := d.draw
    d.confine n t (119 + Config.free i % 9)

/-- The number of an error class in LEC. -/
def canLec : CanErr → Nat
  | .stuff => 1
  | .form => 2
  | .ack => 3
  | .bit1 => 4
  | .bit0 => 5
  | .crc => 6

/-- The CAN_ERRDET field of an error class. -/
def canErrField (n : Nat) : CanErr → Fld
  | .stuff => Fld.CAN_ERRDET_STUFF n
  | .form => Fld.CAN_ERRDET_FORM_ACK n
  | .ack => Fld.CAN_ERRDET_FORM_ACK n
  | .bit1 => Fld.CAN_ERRDET_BIT n
  | .bit0 => Fld.CAN_ERRDET_BIT n
  | .crc => Fld.CAN_ERRDET_CRC n

/-- The frame in transmission ends without success: its copy is discarded, the buffer is PENDING with its present content. -/
def Dev.canTxFailed (n : Nat) (d : Dev) : Dev :=
  d.withCan n (fun c d =>
    match c.tx with
    | some x => (d.onCan n (fun c => { c with tx := none })).putBufState n x.buf 1
    | none => d)

/-- Counters after an error step. -/
def errStep (step : CanErrStep) (t r : Nat) : Nat × Nat :=
  match step with
  | .tx8 => (t + 8, r)
  | .tx0 => (t, r)
  | .rx1 => (t, r + 1)
  | .rx8 => (t, r + 8)
  | .rx0 => (t, r)

/-- CAN_BUS_ERROR: an error detected; in the XL data phase with a mode line the controller waits for bus integration (R201). -/
def execCanBusError (n : Fin 32) (err : CanErr) (step : CanErrStep) (xlData : Bool) (s : State) : Out :=
  run (fun d => d.onlyIf (d.onBus n.val) (Dev.withCan n.val (fun c d =>
    let d := (d.put (Fld.CAN_STATUS_LEC n.val) (canLec err)).bump (canErrField n.val err)
    let d :=
      if d.canState n.val = 3 then d.bump (Fld.CAN_LOMERR_COUNT n.val)
      else
        let (t, r) := d.tecRec n.val
        let (t, r) := errStep step t r
        (d.canTxFailed n.val).confine n.val t r
    d.onlyIf (xlData && c.modeLine) (fun d => (d.canModeOut n.val c false false).put (Fld.CAN_STATUS_STATE n.val) 1)))) s

/-- Listen-only or active, as the setting has it. -/
def Dev.enterBus (n : Nat) (d : Dev) : Dev := d.put (Fld.CAN_STATUS_STATE n) (if d.flag (Fld.CAN_CTRL_LISTEN n) then 3 else 2)

/-- BUS_OFF_RECOVERY: `seqs` sequences of 11 recessive bits have been counted. -/
def execBusOffRecovery (n : Fin 32) (seqs : Fin 129) (s : State) : Out :=
  run (fun d => d.onlyIf (d.inService && d.busOff n.val) (fun d =>
    let d := d.put (Fld.CAN_BUSOFF_RECOV n.val) seqs.val
    if seqs.val = 128 then (d.confine n.val 0 0).enterBus n.val else d)) s

/-- PROTOCOL_EXCEPTION (R195): `step` is what ISO 11898-1 prescribes; it acts on REC, not on TEC, and in listen-only on neither
(R218). -/
def execProtocolException (n : Fin 32) (xl : Bool) (step : CanErrStep) (s : State) : Out :=
  run (fun d => d.onlyIf (d.onBus n.val && d.pinBound 2 n.val) (Dev.withCan n.val (fun c d =>
    if if xl then c.xl else c.fd then d
    else
      let (t, r) := d.tecRec n.val
      let d := d.onlyIf (d.canState n.val ≠ 3) (Dev.confine n.val t (errStep step t r).2)
      ((d.bump (Fld.CAN_ERRDET_FORM_ACK n.val)).put (Fld.CAN_STATUS_LEC n.val) 7).put (Fld.CAN_STATUS_STATE n.val) 1))) s

/-- BUS_INTEGRATION. -/
def execBusIntegration (n : Fin 32) (s : State) : Out :=
  run (fun d => d.onlyIf (d.inService && d.canState n.val = 1) (Dev.enterBus n.val)) s

/-! ### Timing selection and listen-only (R199, R218) -/

/-- A write of CAN_CTRL with its KEY: TIMING_SEL and LISTEN. -/
def Dev.canCtrlWrite (n sel : Nat) (listen : Bool) (d : Dev) : Dev :=
  match d.canCtl n with
  | none => d.put (Fld.CAN_STATUS_CODE n) E_PERM
  | some c =>
    if c.timings.length ≤ sel then d.put (Fld.CAN_STATUS_CODE n) E_PERM
    else
      (((d.put (Fld.CAN_CTRL_TIMING_SEL n) sel).putFlag (Fld.CAN_CTRL_LISTEN n) listen).storeSetting (Reg.CAN_CTRL n)).put
        (Fld.CAN_STATUS_CODE n) E_OK

/-- TIMING_SEL_WRITE. -/
def execTimingSelWrite (p : Path) (n : Fin 32) (sel : Fin 4) (s : State) : Out :=
  runWrite p (Reg.CAN_CTRL n.val) 0 (fun d => d.canCtrlWrite n.val sel.val (d.flag (Fld.CAN_CTRL_LISTEN n.val))) s

/-- LISTEN_WRITE. -/
def execListenWrite (p : Path) (n : Fin 32) (listen : Bool) (s : State) : Out :=
  runWrite p (Reg.CAN_CTRL n.val) 0 (fun d => d.canCtrlWrite n.val (d.fld (Fld.CAN_CTRL_TIMING_SEL n.val)) listen) s

/-- TIMING_SWITCH: bus idle after any frame in progress; TEC, REC and the buffers are kept. -/
def execTimingSwitch (n : Fin 32) (s : State) : Out :=
  run (fun d => d.withCan n.val (fun c d =>
    let sel := d.fld (Fld.CAN_CTRL_TIMING_SEL n.val)
    d.onlyIf (d.onBus n.val && c.tx.isNone && d.fld (Fld.CAN_STATUS_TIMING n.val) ≠ sel)
      (fun d => (d.putTiming n.val sel c).put (Fld.CAN_STATUS_STATE n.val) 1))) s

/-- LISTEN_EFFECT: at bus idle into listen-only, after integration out of it. -/
def execListenEffect (n : Fin 32) (s : State) : Out :=
  run (fun d => d.withCan n.val (fun c d => d.onlyIf (d.onBus n.val && c.tx.isNone) (Dev.enterBus n.val))) s

/-! ### Receive records (R202 to R205) -/

/-- The FLAGS of a record (R102 field 5). -/
def canFlags (f : CanFrame) (test : Bool) : Nat :=
  let fd := f.format = 1
  b2n fd + 2 * b2n (f.format = 2) + 4 * b2n (fd && f.brs) + 8 * b2n (fd && f.esi) + 16 * b2n (f.format ≠ 2 && f.ide) +
    32 * b2n (f.format = 0 && f.rtr) + 64 * b2n test

/-- The payload bytes of an FD length code. -/
def fdLength (dlc : Nat) : Nat :=
  if dlc ≤ 8 then dlc else [12, 16, 20, 24, 32, 48, 64].getD (dlc - 9) 64

/-- LENGTH as received (R205). -/
def canLength (f : CanFrame) : Nat :=
  match f.format.val with
  | 0 => if f.rtr then 0 else min f.dlc.toNat 8
  | 1 => fdLength f.dlc.toNat
  | _ => max 1 (min f.payload.length 2048)

/-- A record in the bound ring: header words W0 to W3 as given, RECLEN, timestamp, SEQ and CTRL set by the controller. Answers
whether it fitted. -/
def Dev.canRecord (n w0 w1 w2 w3 : Nat) (ts : Capture) (payload : List Byte) (d : Dev) : Bool × Dev :=
  match d.canCtl n, d.ring n with
  | some c, some r =>
    let len := bits w0 11 0
    let recLen := 24 + 8 * ((len + 7) / 8)
    let seq := c.seq
    let d := d.onCan n (fun c => { c with seq := (c.seq + 1) % 65536 })
    let body := payload ++ List.replicate (recLen - 24 - payload.length) 0
    let head := leBytes 4 (setBits w0 31 16 recLen) ++ leBytes 4 (setBits w1 31 31 0) ++ leBytes 4 w2 ++ leBytes 4 w3 ++
      leBytes 4 (ts.toNat % 2 ^ 32) ++ leBytes 4 (seq * 65536 + n * 256 + ts.toNat / 2 ^ 32)
    match r.place recLen with
    | none => (false, ((d.bump (Fld.CAN_RXDROP_COUNT n)).put (Fld.CAN_RXDROP_SEQ n) seq).raise (160 + n))
    | some (start, skip) =>
      let marker := leBytes 4 (skip * 65536) ++ leBytes 4 (2 ^ 31)
      let xl := bit w2 1
      let ev : Event :=
        ⟨0, n, 0, bits w1 28 0, len, bits w2 6 0, if xl then w3 else 0, if xl then bits w2 31 24 + 256 * bits w2 23 16 else 0, ts,
          r.base + start + 24, none⟩
      let d := (d.ringStore n r start skip (head ++ body) marker ev).bump (Fld.CAN_RXCNT_COUNT n)
      (true, d.peak (Fld.CAN_RXRING_PEAK n) (((d.ring n).map (·.used)).getD 0 / 8))
  | _, _ => (false, d)

/-- The record of a frame received, or of an own one. -/
def Dev.canDeliver (n : Nat) (f : CanFrame) (own : Bool) (d : Dev) : Dev :=
  let len := canLength f
  let body := (f.payload ++ List.replicate len 0).take len
  let xl := f.format = 2
  let w0 := (if xl then 0 else f.dlc.toNat) * 2 ^ 12 + len
  let w2 := (if xl then f.sdt.toNat * 2 ^ 24 + f.vcid.toNat * 2 ^ 16 + b2n f.sec * 128 else 0) + b2n own * 256 + canFlags f false
  let ts := d.captureAt (d.tns - f.age.toNat)
  (d.canRecord n w0 f.id.toNat w2 (if xl then f.af.toNat else 0) ts body).2

/-- Whether the controller takes a format. -/
def CanCtl.takes (c : CanCtl) (format : Nat) : Bool := format = 0 || (format = 1 && c.fd) || (format = 2 && c.xl)

/-- Whether a frame is the reference message of a controller (R214). -/
def CanCtl.isRef (c : CanCtl) (f : CanFrame) : Bool :=
  c.ref = 4 && f.id.toNat = bits c.refParam 28 0 && (f.format ≠ 2 && f.ide) = bit c.refParam 29

/-- CAN_FRAME_RECEIVE: nothing comes from outside without an RXD pin (R196). -/
def execCanFrameReceive (n : Fin 32) (f : CanFrame) (s : State) : Out :=
  run (fun d => d.onlyIf (d.onBus n.val && d.pinBound 2 n.val) (Dev.withCan n.val (fun c d =>
    if !c.takes f.format.val || c.tx.isSome then d
    else
      let d := d.onlyIf (f.format.val = 2 && c.modeRx) (Dev.canModeOut n.val c true true)
      let d := if d.canState n.val = 3 then d else d.recGood n.val
      let d := d.canDeliver n.val f false
      if c.isRef f then
        let idx := if canLength f = 0 then none else some ((f.payload.headD 0).toNat % 64)
        d.onCan n.val (fun c => { c with steps := c.steps ++ [(idx, ((d.tns - f.age.toNat : Nat) : Int))], lastRef := d.tns })
      else d))) s

/-! ### Transmit buffers (R206 to R210) -/

/-- The FD length a payload length is raised to. -/
def fdRaise (a : Nat) : Nat := ([0, 1, 2, 3, 4, 5, 6, 7, 8, 12, 16, 20, 24, 32, 48, 64].find? (fun l => a ≤ l)).getD 64

/-- The payload as it is stored: none for a remote frame, FD lengths raised with the PAD byte. -/
def canPadded (w0 a : Nat) (payload : List Byte) : List Byte :=
  match bits w0 31 29 with
  | 0 => if bit w0 26 then [] else payload
  | 1 => payload ++ List.replicate (fdRaise a - a) (BitVec.ofNat 8 w0)
  | _ => payload

/-- The code TXSEND gets from a CAN buffer (R208). A controller without a CAN_BIND record has no buffer size to exceed. -/
def Dev.canTxCode (d : Dev) (n b e w0 a : Nat) : Nat :=
  let f := bits w0 31 29
  let len := match f with
    | 0 => 8 < a
    | 1 => 64 < a
    | _ => a = 0 || 2048 < a
  match d.canCtl n with
  | none => lowestCode [if len then E_LEN else E_OK, E_PERM]
  | some c =>
    let size := 16 * c.sizes.getD b 0 < 16 + (canPadded w0 a (List.replicate a 0)).length
    let perm := d.fld (Fld.CAN_TXB_STAT_OWNER n b) ≠ e || d.canListens n || d.canState n = 0 || !d.inService || !c.takes f
    lowestCode [if len || size then E_LEN else E_OK, if perm then E_PERM else E_OK]

/-- TXSEND to a CAN buffer: the content is stored in one step and the buffer is PENDING (R208, R209). Answers the code. -/
def Dev.canBufferStore (n b e w0 w1 w2 a : Nat) (payload : List Byte) (d : Dev) : Nat × Dev :=
  let code := d.canTxCode n b e w0 a
  if code ≠ E_OK then (code, d)
  else
    let was := d.bufState n b
    let d := d.putCanBuf n b ⟨⟨w0, w1, w2, a, canPadded w0 a payload⟩, false⟩
    let d := if was = 0 then d else d.bump (Fld.CAN_TXREPL_COUNT n)
    let d := d.onCan n (fun c => { c with kept := c.kept.filter (· ≠ b) })
    if was = 2 then (E_OK, (d.putBufState n b 2).onCan n (fun c => { c with tx := c.tx.map (fun x => { x with replaced := true }) }))
    else (E_OK, d.putBufState n b 1)

/-- The rank of a buffer in R210 order: base identifier, 11-bit before 29-bit, extended bits, buffer number. -/
def canRank (x : CanContent) (b : Nat) : Nat :=
  let id := bits x.w1 28 0
  let ext := x.format ≠ 2 && bit x.w0 28
  let base := if ext then id / 2 ^ 18 else id % 2 ^ 11
  ((base * 2 + b2n ext) * 2 ^ 18 + (if ext then id % 2 ^ 18 else 0)) * 64 + b

/-- The buffer that comes first in R210 order. -/
def Dev.canFirst (d : Dev) (n : Nat) (bs : List Nat) : Option Nat :=
  bs.foldl (fun best b =>
    match best with
    | some x => if canRank (d.canBuf n b).content b < canRank (d.canBuf n x).content x then some b else some x
    | none => some b) none

/-- The PENDING event buffers of a controller. -/
def Dev.eventBufs (d : Dev) (n : Nat) : List Nat :=
  (List.range 64).filter (fun b => d.bufState n b = 1 && !d.flag (Fld.CAN_TXB_STAT_SCHED n b))

/-! ### The schedule matrix (R211 to R216) -/

/-- Time on the scale of the controller's reference, in ns: domain time, or the part's own time. -/
def Dev.canNow (d : Dev) (c : CanCtl) : Int :=
  if c.ref = 1 || c.ref = 2 then d.tdTime (c.ref - 1) d.frc.toNat / 65536 else d.tns

/-- The windows of the present cycle. -/
def Dev.canWins (d : Dev) (n : Nat) (c : CanCtl) : List CanWin := c.use.getD (d.fld (Fld.CAN_SCHED_CYCLE n)) []

/-- Whether the matrix runs (R212). -/
def Dev.matrixRuns (d : Dev) (n : Nat) : Bool := d.flag (Fld.CAN_SCHED_RUNNING n)

/-- The start of the next exclusive or arbitrating window in the cycles to come under a time reference, with the settings that
will be in force (R212). -/
def nextBound (c : CanCtl) (cyc : Nat) : Nat → Int → Option Int
  | 0, _ => none
  | fuel + 1, t =>
    let k := t / ((cyc * 1000 : Nat) : Int)
    let base := k * ((cyc * 1000 : Nat) : Int)
    let wins := c.sets.getD (k % (c.sets.length : Int)).toNat []
    match (wins.filter (fun w => w.kind ≠ 2)).find? (fun w => t ≤ base + (1000 * w.start : Nat)) with
    | some w => some (base + (1000 * w.start : Nat))
    | none => nextBound c cyc fuel (base + (cyc * 1000 : Nat))

/-- The buffers that may start now under the window rules (R212), those whose frame fits. -/
def Dev.mayStart (d : Dev) (n : Nat) (c : CanCtl) : List Nat :=
  let now := d.canNow c
  let fit (limit : Int) (b : Nat) : Bool := d.fits n (d.canBuf n b).content now limit
  if !d.matrixRuns n then d.eventBufs n
  else
    let wins := d.canWins n c
    match c.win with
    | some i =>
      let w := wins.getD i ⟨2, 0, 0, 0, 0⟩
      let limit := c.cycleAt + (1000 * (w.start + w.len) : Nat)
      let named := ((List.range 64).filter (fun b => w.first ≤ b && b < w.first + w.count && d.bufState n b = 1))
      if w.kind = 2 then (d.eventBufs n).filter (fit limit)
      else if w.kind = 0 then (named.filter (fun b => !c.tried.contains b)).filter (fit limit)
      else (named.filter (fun b => !c.kept.contains b)).filter (fit limit)
    | none =>
      match wins with
      | [] => after now
      | w :: _ =>
        if c.next = 0 then
          (d.eventBufs n).filter (fun b => d.endsBefore n (d.canBuf n b).content now (c.cycleAt + (1000 * w.start : Nat)))
        else if c.next < wins.length then []
        else after now
where
  /-- After the last window of a cycle. -/
  after (now : Int) : List Nat :=
    let cyc := d.fld (Fld.CAN_CYCLE_CYCLE_US n)
    let bound := if c.ref = 1 || c.ref = 2 then
        nextBound c cyc (c.sets.length + 1) (c.cycleAt + (1000 * c.cycleUse : Nat)) else none
    match bound with
    | some limit => (d.eventBufs n).filter (fun b => d.endsBefore n (d.canBuf n b).content now limit)
    | none => d.eventBufs n

/-- Event frames that a transmit hold prevents from starting are counted once (R219). -/
def Dev.countHeld (n : Nat) (bs : List Nat) (d : Dev) : Dev :=
  d.each (bs.filter (fun b => !d.flag (Fld.CAN_TXB_STAT_SCHED n b))) (fun b d =>
    let x := d.canBuf n b
    if x.heldCounted then d else (d.bump (Fld.CAN_TXHELD_COUNT n)).putCanBuf n b { x with heldCounted := true })

/-- CAN_TX_START: the bus is idle and the controller starts the frame that wins R210 order, its ESI from its own error state (R207).
Without a TXD pin nothing goes outside (R32). -/
def execCanTxStart (n : Fin 32) (s : State) : Out :=
  run (fun d => d.onlyIf (d.onBus n.val && d.canState n.val = 2) (Dev.withCan n.val (fun c d =>
    let bs := d.mayStart n.val c
    if c.tx.isSome then d
    else if d.flag (Fld.CAN_STATUS_HELD n.val) then d.countHeld n.val bs
    else
      match d.canFirst n.val bs with
      | none => d
      | some b =>
        let x := (d.canBuf n.val b).content
        let esi := x.format = 1 && d.fld (Fld.CAN_STATUS_ERRSTATE n.val) ≠ 0
        let d := d.onCan n.val (fun c => { c with tx := some ⟨b, x, false, d.now8, esi⟩, tried := b :: c.tried })
        let d := d.putBufState n.val b 2
        let d := d.onlyIf (d.pinBound 1 n.val) (Dev.emit (.canFrame n.val x.w0 x.w1 x.w2 x.len esi x.payload))
        d.onlyIf (x.format = 2) (Dev.canModeOut n.val c true true)))) s

/-- The frame a content is, as the controller's own receiver sees it. -/
def CanContent.frame (x : CanContent) (esi : Bool) (age : Nat) : CanFrame :=
  let code := if x.format = 1 then ([0, 1, 2, 3, 4, 5, 6, 7, 8, 12, 16, 20, 24, 32, 48, 64].findIdx? (· = x.payload.length)).getD 15 else x.len
  ⟨⟨x.format % 3, Nat.mod_lt _ (by decide)⟩, bit x.w0 28, BitVec.ofNat 29 x.w1, bit x.w0 26, bit x.w0 27, esi, BitVec.ofNat 4 code,
    bit x.w0 24, BitVec.ofNat 8 (bits x.w0 23 16), BitVec.ofNat 8 (bits x.w0 15 8), BitVec.ofNat 32 x.w2, x.payload, BitVec.ofNat 32 age⟩

/-- CAN_TX_SUCCESS: no frame is acknowledged without TXD and RXD pins (R196). -/
def execCanTxSuccess (n : Fin 32) (s : State) : Out :=
  run (fun d => d.onlyIf (d.onBus n.val && d.pinBound 1 n.val && d.pinBound 2 n.val) (Dev.withCan n.val (fun c d =>
    match c.tx with
    | none => d
    | some x =>
      let (t, r) := d.tecRec n.val
      let d := (d.bump (Fld.CAN_TXB_STAT_SENT n.val x.buf)).bump (Fld.CAN_TXCNT_COUNT n.val)
      let d := d.put (Fld.CAN_TXB_TS n.val x.buf) x.sof.toNat
      let d := d.confine n.val (t - 1) r
      let hold := !x.replaced && d.flag (Fld.CAN_TXB_STAT_SCHED n.val x.buf) && bit x.copy.w0 25
      let keep := x.replaced || hold
      let d := d.onCan n.val (fun c =>
        { c with tx := none, sent := x.buf :: c.sent, kept := if hold then x.buf :: c.kept else c.kept })
      let d := d.putBufState n.val x.buf (if keep then 1 else 0)
      if c.rxOwn then
        d.canDeliver n.val (x.copy.frame x.esi (8 * (d.now8 - x.sof).toNat)) true
      else d))) s

/-- ARBITRATION_LOST: another node's bit comes in at RXD. -/
def execArbitrationLost (n : Fin 32) (s : State) : Out :=
  run (fun d => d.onlyIf (d.onBus n.val && d.pinBound 2 n.val) (Dev.canTxFailed n.val)) s

/-- The window in progress ends: its PENDING buffers not sent in it are counted (R212, R218, R219). -/
def Dev.windowEnd (n : Nat) (d : Dev) : Dev :=
  d.withCan n (fun c d =>
    match c.win with
    | none => d
    | some i =>
      let w := (d.canWins n c).getD i ⟨2, 0, 0, 0, 0⟩
      let left := (List.range 64).filter (fun b =>
        w.kind ≠ 2 && w.first ≤ b && b < w.first + w.count && d.bufState n b = 1 && !c.sent.contains b)
      let d := (d.onCan n (fun c => { c with win := none, tried := [], sent := [], kept := [] })).put (Fld.CAN_SCHED_WINDOW n) 63
      if left.isEmpty || d.canListens n then d
      else if d.flag (Fld.CAN_STATUS_HELD n) then d.bump (Fld.CAN_TXHELD_COUNT n)
      else (d.count (Fld.CAN_SCHED_CNT_MISS n) left.length).raiseN (192 + n) left.length)

/-- The windows of a cycle that would start at or before the latest window start reached: after a backward step they are not repeated
(R215). -/
def CanCtl.repeats (c : CanCtl) (idx : Nat) (at_ : Int) : Nat :=
  match c.reached with
  | some r => if c.ref = 1 || c.ref = 2 then ((c.sets.getD idx []).filter (fun w => at_ + (1000 * w.start : Nat) ≤ r)).length else 0
  | none => 0

/-- A cycle starts: the present one ends, its unstarted windows are skipped, the settings take effect (R215, R216). -/
def Dev.cycleStart (n idx : Nat) (at_ : Int) (passed : Nat) (d : Dev) : Dev :=
  let d := d.windowEnd n
  d.withCan n (fun c d =>
    let skip := if c.inCycle then (d.canWins n c).length - c.next else 0
    let skip := if d.canListens n then 0 else skip + passed
    let d := (d.count (Fld.CAN_SCHED_CNT_SKIP n) skip).raiseN (192 + n) skip
    let d := d.onCan n (fun c =>
      { c with
        use := c.sets, cycleUse := d.fld (Fld.CAN_CYCLE_CYCLE_US n), cycleAt := at_, inCycle := true
        next := max passed (c.repeats idx at_), win := none, tried := [], sent := [], kept := [], landed := none })
    (((d.put (Fld.CAN_SCHED_CYCLE n) idx).put (Fld.CAN_SCHED_WINDOW n) 63).putFlag (Fld.CAN_SCHED_RUNNING n) true).putFlag
      (Fld.CAN_SCHED_REFLOST n) false)

/-- The next boundary of the cycle in force under a time reference; before the first cycle, of CYCLE_US. Where a backward step has put
the domain before the start of the present cycle, the first boundary from there on (R214). -/
def Dev.cycleBoundary (d : Dev) (n : Nat) (c : CanCtl) : Int :=
  let new : Int := (1000 * d.fld (Fld.CAN_CYCLE_CYCLE_US n) : Nat)
  let cyc : Int := if c.inCycle then (1000 * c.cycleUse : Nat) else new
  let on := if c.inCycle then c.cycleAt + cyc else (c.cycleAt / new + 1) * new
  match c.landed with
  | some t => if t < c.cycleAt then -(-t / cyc) * cyc else on
  | none => on

/-- Whether a cycle start falls no later than a time and has not been taken yet (R215). -/
def Dev.cycleBefore (d : Dev) (n : Nat) (c : CanCtl) (t : Int) : Bool :=
  if c.ref = 1 || c.ref = 2 then !c.sets.isEmpty && d.cycleBoundary n c ≤ t
  else
    match c.steps with
    | x :: _ => x.2 ≤ t
    | [] => false

/-- A cycle start from domain time: the boundary of the cycle in force, or of the new CYCLE_US from there on. -/
def Dev.timeCycle (n : Nat) (c : CanCtl) (d : Dev) : Dev :=
  let now := d.canNow c
  let new : Int := (1000 * d.fld (Fld.CAN_CYCLE_CYCLE_US n) : Nat)
  let old : Int := (1000 * c.cycleUse : Nat)
  let due := d.cycleBoundary n c
  if now < due || c.sets.isEmpty then d
  else
    let k := now / new
    let base := k * new
    let idx := (k % (c.sets.length : Int)).toNat
    let passed := if old = new then 0
      else ((c.sets.getD idx []).filter (fun w => base + (1000 * w.start : Nat) < due)).length
    d.cycleStart n idx base passed

/-- CYCLE_START. -/
def execCycleStart (n : Fin 32) (s : State) : Out :=
  run (fun d => d.onlyIf d.inService (Dev.withCan n.val (fun c d =>
    if c.ref = 1 || c.ref = 2 then d.timeCycle n.val c
    else
      match c.steps with
      | [] => d
      | (i, t) :: rest =>
        let count := c.sets.length
        let idx := match i with
          | some k => k % count
          | none => (d.fld (Fld.CAN_SCHED_CYCLE n.val) + 1) % count
        (d.onCan n.val (fun c => { c with steps := rest })).cycleStart n.val idx t 0))) s

/-- WINDOW_START. A cycle start at the same instant comes first, and the window is skipped (R215). -/
def execWindowStart (n : Fin 32) (s : State) : Out :=
  run (fun d => d.onlyIf (d.inService && d.matrixRuns n.val) (Dev.withCan n.val (fun c d =>
    match (d.canWins n.val c)[c.next]? with
    | none => d
    | some w =>
      let t := c.cycleAt + (1000 * w.start : Nat)
      if d.canNow c < t || d.cycleBefore n.val c t then d
      else
        ((d.windowEnd n.val).onCan n.val (fun c => { c with
          win := some c.next, next := c.next + 1, tried := [], sent := [], kept := [], reached := some t })).put
          (Fld.CAN_SCHED_WINDOW n.val) c.next))) s

/-- WINDOW_END. -/
def execWindowEnd (n : Fin 32) (s : State) : Out :=
  run (fun d => d.onlyIf d.inService (Dev.withCan n.val (fun c d =>
    match c.win with
    | none => d
    | some i =>
      let w := (d.canWins n.val c).getD i ⟨2, 0, 0, 0, 0⟩
      if d.canNow c < c.cycleAt + (1000 * (w.start + w.len) : Nat) then d else d.windowEnd n.val))) s

/-- REF_TIMEOUT: no reference message for REF_TIMEOUT × 100 µs stops the matrix (R215). -/
def execRefTimeout (n : Fin 32) (s : State) : Out :=
  run (fun d => d.onlyIf d.inService (Dev.withCan n.val (fun c d =>
    if c.ref = 4 && !d.flag (Fld.CAN_SCHED_REFLOST n.val) &&
        c.lastRef + 100000 * d.fld (Fld.CAN_CYCLE_REF_TIMEOUT n.val) ≤ d.tns then
      let d := (d.windowEnd n.val).onCan n.val (fun c => { c with inCycle := false, win := none })
      ((d.putFlag (Fld.CAN_SCHED_RUNNING n.val) false).putFlag (Fld.CAN_SCHED_REFLOST n.val) true).raise (192 + n.val)
    else d))) s

/-- Whether a cycle's windows ascend without overlap, none of length 0, and end inside a time-referenced cycle (R211, R216). -/
def winsOk (cyc : Option Nat) : List CanWin → Bool
  | [] => true
  | w :: ws =>
    w.len ≠ 0 && (match cyc with | some c => decide (w.start + w.len ≤ c) | none => true) &&
      (match ws with | v :: _ => decide (w.start + w.len ≤ v.start) | [] => true) && winsOk cyc ws

/-- The bound on START + LEN: CYCLE_US under a time reference. -/
def CanCtl.bound (c : CanCtl) (cyc : Nat) : Option Nat := if c.ref = 1 || c.ref = 2 then some cyc else none

/-- The key of a window in the settings store. -/
def winKey (n c w : Nat) : Nat := 0x10000000 + (n * 64 + c) * 32 + w

/-- A write of CAN_WIN_DATA for the selected window (R216). -/
def Dev.winDataWrite (n : Nat) (v : Word) (d : Dev) : Dev :=
  let ci := d.fld (Fld.CAN_WIN_SEL_CYCLE n)
  let wi := d.fld (Fld.CAN_WIN_SEL_WINDOW n)
  let refused := d.put (Fld.CAN_WIN_SEL_CODE n) E_PERM
  match d.canCtl n with
  | none => refused
  | some c =>
    match (c.sets.getD ci [])[wi]? with
    | none => refused
    | some w =>
      let ws := (c.sets.getD ci []).set wi { w with start := v.toNat / 65536, len := v.toNat % 65536 }
      if winsOk (c.bound (d.fld (Fld.CAN_CYCLE_CYCLE_US n))) ws then
        let d := d.onCan n (fun c => { c with sets := c.sets.set ci ws })
        { d.put (Fld.CAN_WIN_SEL_CODE n) E_OK with settings := Tab.set regReset d.settings (winKey n ci wi) v }
      else refused

/-- WIN_DATA_WRITE. -/
def execWinDataWrite (p : Path) (n : Fin 32) (v : Word) (s : State) : Out := runWrite p (Reg.CAN_WIN_DATA n.val) v.toNat (Dev.winDataWrite n.val v) s

/-- A write of CAN_CYCLE (R216, R227). -/
def Dev.canCycleWrite (n : Nat) (v : Word) (d : Dev) : Dev :=
  let ok := match d.canCtl n with
    | none => false
    | some c => v.toNat % 65536 ≠ 0 && v.toNat / 65536 ≠ 0 && c.sets.all (winsOk (c.bound (v.toNat % 65536)))
  if ok then ((d.wr (Reg.CAN_CYCLE n) v).storeSetting (Reg.CAN_CYCLE n)).put (Fld.CAN_STATUS_CODE n) E_OK
  else d.put (Fld.CAN_STATUS_CODE n) E_PERM

/-- CYCLE_WRITE. -/
def execCycleWrite (p : Path) (n : Fin 32) (v : Word) (s : State) : Out := runWrite p (Reg.CAN_CYCLE n.val) v.toNat (Dev.canCycleWrite n.val v) s

/-- The selected window, as CAN_WIN_DATA and CAN_WIN_SHAPE show it. -/
def Dev.selectedWin (d : Dev) (n : Nat) : Option CanWin :=
  (d.canCtl n).bind (fun c => (c.sets.getD (d.fld (Fld.CAN_WIN_SEL_CYCLE n)) [])[d.fld (Fld.CAN_WIN_SEL_WINDOW n)]?)

/-- CAN_WIN_DATA as it reads: 0 beyond WINCOUNT. -/
def Dev.winData (d : Dev) (n : Nat) : Word :=
  match d.selectedWin n with
  | some w => BitVec.ofNat 32 (w.start * 65536 + w.len)
  | none => 0

/-- CAN_WIN_SHAPE as it reads. -/
def Dev.winShape (d : Dev) (n : Nat) : Word :=
  match d.selectedWin n with
  | some w => BitVec.ofNat 32 (w.kind * 2 ^ 30 + w.first * 2 ^ 24 + (w.count - 1) * 2 ^ 18)
  | none => 0

/-- A Millwright KIND 7 step for a controller (R214). -/
def Dev.canStep (n : Nat) (d : Dev) : Dev :=
  d.withCan n (fun c d => if c.ref = 3 then d.onCan n (fun c => { c with steps := c.steps ++ [(none, (d.tns : Int))] }) else d)

/-! ### Wake and injection (R220, R221) -/

/-- CAN_WAKE_MATCH: the wake decoder has read a Classical CAN data frame with a valid CRC; nothing comes from outside without an RXD pin
(R196). -/
def execCanWakeMatch (n : Fin 32) (ide : Bool) (id : BitVec 29) (byte0 : Option Byte) (s : State) : Out :=
  run (fun d =>
    let m := d.fld (Fld.CAN_WAKE_MASK n.val)
    let dm := d.fld (Fld.CAN_WAKE_DATA_MASK n.val)
    let data := match byte0 with
      | some b => b.toNat &&& dm = d.fld (Fld.CAN_WAKE_DATA_VALUE n.val) &&& dm
      | none => dm = 0
    d.onlyIf (d.mode = .doze && (d.canCtl n.val).isSome && d.pinBound 2 n.val && d.flag (Fld.CAN_WAKE_ID_EN n.val) &&
        ide = d.flag (Fld.CAN_WAKE_ID_IDE n.val) && (id.toNat &&& m) = (d.fld (Fld.CAN_WAKE_ID_ID n.val) &&& m) && data) (fun d =>
      let d := ((d.putFlag (Fld.CAN_WAKE_STAT_WOKE n.val) true).putFlag (Fld.CAN_WAKE_STAT_IDE n.val) ide).put
        (Fld.CAN_WAKE_STAT_ID n.val) id.toNat
      d.wake 3 n.val false)) s

/-- Whether a record header's format can carry its LENGTH (R205, R221). -/
def injectLenOk (w0 w2 : Nat) : Bool :=
  let len := bits w0 11 0
  let dlc := bits w0 15 12
  if bit w2 1 then decide (1 ≤ len) && decide (len ≤ 2048)
  else if bit w2 0 then [0, 1, 2, 3, 4, 5, 6, 7, 8, 12, 16, 20, 24, 32, 48, 64].contains len
  else if bit w2 5 then len = 0 && dlc ≤ 15
  else len ≤ 8

/-- CAN_INJ_CTRL GO in FACTORY (R221). -/
def Dev.injectGo (n : Nat) (d : Dev) : Dev :=
  if d.mode ≠ .factory || (d.canCtl n).isNone then d
  else
    let w (k : Nat) : Nat := (d.rd (Reg.CAN_INJ_HDR n k)).toNat
    let len := bits (w 0) 11 0
    if !injectLenOk (w 0) (w 2) then d.put (Fld.CAN_INJ_CTRL_CODE n) E_LEN
    else
      let bytes := ((List.range ((len + 3) / 4)).map (fun k => leBytes 4 (d.rd (Reg.CAN_INJ_DATA n k)).toNat)).flatten.take len
      let (ok, d) := d.canRecord n (w 0) (w 1) (setBits (w 2) 6 6 1) (w 3) d.now8 bytes
      d.put (Fld.CAN_INJ_CTRL_CODE n) (if ok then E_OK else E_LEN)

/-- INJECT_GO. -/
def execInjectGo (p : Path) (n : Fin 32) (s : State) : Out := runWrite p (Reg.CAN_INJ_CTRL n.val) 1 (Dev.injectGo n.val) s

/-! ### Entry to service and DOZE (R224) -/

/-- The bound controllers. -/
def Dev.canBound (d : Dev) : List Nat := Tab.keys d.can.ctls

/-- The receive ring of a controller is emptied. -/
def Dev.ringEmpty (i : Nat) (d : Dev) : Dev :=
  match d.ring i with
  | some r => d.putRing i (some { r with wr := 0, used := 0, recs := [] })
  | none => d

/-- Entry to RUN, and return from DOZE: each controller integrates. -/
def Dev.canEntry (d : Dev) : Dev :=
  d.each d.canBound (fun n d => d.withCan n (fun c d =>
    let d := d.onCan n (fun c =>
      { c with
        use := c.sets, cycleUse := d.fld (Fld.CAN_CYCLE_CYCLE_US n), tx := none, steps := [], cycleAt := d.canNow c, inCycle := false
        next := 0, win := none, tried := [], sent := [], kept := [], lastRef := d.tns, landed := none, reached := none })
    let d := d.canModeOut n c false false
    let d := (d.putTiming n (d.fld (Fld.CAN_CTRL_TIMING_SEL n)) c).put (Fld.CAN_STATUS_STATE n) 1
    let d := (((d.put (Fld.CAN_STATUS_ERRSTATE n) 0).put (Fld.CAN_ERRCNT_TEC n) 0).put (Fld.CAN_ERRCNT_REC n) 0).put
      (Fld.CAN_BUSOFF_RECOV n) 0
    let d := (((d.put (Fld.CAN_SCHED_CYCLE n) (c.sets.length - 1)).put (Fld.CAN_SCHED_WINDOW n) 63).putFlag
      (Fld.CAN_SCHED_RUNNING n) false).putFlag (Fld.CAN_SCHED_REFLOST n) false
    d.each (List.range 64) (fun b => Dev.putBufState n b 0)))

/-- Leaving the bus, for DOZE or for CONFIGURE: buffers and ring contents are lost, frames end (R224). -/
def Dev.canDoze (d : Dev) : Dev :=
  d.each d.canBound (fun n d =>
    ((((d.withCan n (fun c => Dev.canModeOut n c false false)).onCan n (fun c => { c with tx := none, win := none })).put
      (Fld.CAN_STATUS_STATE n) 0).each (List.range 64)
      (fun b => Dev.putBufState n b 0)).ringEmpty n)

end Sys2Proof.Machine
end

