-- ==== Sys2Proof/Machine/Keys.lean ====
section
/-! DEFINITION. Key slots as every user of a key sees them (R385, R386), and the algorithms named by standard, with the lengths of
their results. -/

namespace Sys2Proof.Machine

/-- `n` bytes drawn from the true random generator or the DRBG: a free value. -/
def Dev.randomBytes (n : Nat) (d : Dev) : List Byte × Dev :=
  let (i, d) := d.draw
  (beBytes n (Config.free i), { d with sec := { d.sec with drbgReqs := d.sec.drbgReqs + 1 } })

/-- AES-CMAC, 16 bytes. -/
def cmac (key msg : List Byte) : List Byte := beBytes 16 (Config.cmac key msg)

/-- SHAKE256 with an output of `n` bytes. -/
def shake256 (msg : List Byte) (n : Nat) : List Byte := beBytes n (Config.shake256 msg n)

/-- A key slot. -/
def Dev.keySlot (d : Dev) (n : Nat) : KeySlot := Tab.get (fun _ => keyEmpty) d.sec.slots n

/-- VALID. -/
def KeySlot.valid (k : KeySlot) : Bool := k.attr.getLsbD 31

/-- Sets a key slot; KS_ATTRn shows its attribute word, VALIDCNT the count of valid slots. -/
def Dev.putKeySlot (n : Nat) (k : KeySlot) (d : Dev) : Dev :=
  let d := { d with sec := { d.sec with slots := Tab.set (fun _ => keyEmpty) d.sec.slots n k } }
  (d.wr (Reg.KS_ATTR (n % 256)) k.attr).put Fld.KS_STATUS_VALIDCNT (d.sec.slots.filter (fun x => x.2.valid)).length

/-- LOCKED. -/
def KeySlot.locked (k : KeySlot) : Bool := k.attr.getLsbD 30
/-- A USE bit: 0 ENC, 1 DEC, 2 MACGEN, 3 MACVER, 4 WRAP, 5 UNWRAP, 6 SIGN, 7 DERIVE. -/
def KeySlot.use (k : KeySlot) (i : Nat) : Bool := k.attr.getLsbD (16 + i)
/-- An ACCESS bit: 0 to 7 ENG0 to ENG7, 8 Drover, 9 host jobs, 10 management-port jobs, 11 supervisor. -/
def KeySlot.access (k : KeySlot) (i : Nat) : Bool := k.attr.getLsbD i
/-- QSET. -/
def KeySlot.qset (k : KeySlot) : Nat := bits k.attr.toNat 15 12

/-- The key length LENC names, in bytes. -/
def lencBytes : Nat → Nat
  | 1 => 16
  | 2 => 24
  | 3 => 32
  | 4 => 64
  | _ => 0

/-- The key length of a slot in bytes. -/
def KeySlot.keyLen (k : KeySlot) : Nat := lencBytes (bits k.attr.toNat 27 25)

/-- Two byte lists combined by exclusive or. -/
def xorBytes (a b : List Byte) : List Byte := List.zipWith (fun x y => x ^^^ y) a b

/-- The key of a slot, unmasked. -/
def KeySlot.key (k : KeySlot) : List Byte := xorBytes k.masked k.mask

/-- A key written into a slot with a fresh mask. -/
def Dev.writeKey (n : Nat) (attr : Word) (key : List Byte) (d : Dev) : Dev :=
  let (m, d) := d.randomBytes key.length
  d.putKeySlot n ⟨attr, m, xorBytes key m⟩

/-- The key lengths of GCM, CMAC, KWP and the KDF. -/
def aesLens : List Nat := [16, 24, 32]

/-- The key an engine or Drover may use for AES-CMAC: valid, with the USE bit and the ACCESS bit, of a length that fits (R385). -/
def Dev.usableKey (d : Dev) (n use access : Nat) : Option (List Byte) :=
  let k := d.keySlot n
  if k.valid && k.use use && k.access access && aesLens.contains k.keyLen then some k.key else none

/-- What a job that needs random data completes with while the DRBG is stopped (R395). -/
def Dev.drbgCode (d : Dev) : Nat := if d.flag Fld.KS_STATUS_DRBG_OK then E_OK else E_PERM

/-! ### The ML-DSA engine (R403) -/

/-- The result of the last ML-DSA job, as PQ_STATUS shows it (R420). -/
def Dev.pqCode (c : Nat) (d : Dev) : Dev := d.put Fld.PQ_STATUS_CODE c

/-- Verifies a signature with an empty context. -/
def verifySig (pk msg sig : List Byte) : Bool := Config.mldsaVerify pk msg [] sig

/-- A verification of the device's own, and its result in PQ_STATUS. -/
def Dev.verifyJob (pk msg sig : List Byte) (d : Dev) : Bool × Dev :=
  let ok := verifySig pk msg sig
  (ok, d.pqCode (if ok then E_OK else E_AUTH))

end Sys2Proof.Machine
end

