-- ==== Sys2Proof/Machine/Queue.lean ====
section
/-! DEFINITION. The queue pairs (chapter 09): records in host memory, writebacks, watermarks, versions, enabling and stopping, the
bridge log, message vectors. -/

namespace Sys2Proof.Machine

/-! ### Registers of a queue pair -/

/-- The version chosen for a queue. -/
def Dev.version (d : Dev) (q : Nat) : Nat := d.fld (Fld.HQ_VER_CHOSEN q)

/-- The role of a queue (R319): 1 ETH, 2 ENGINE, 3 NOTIFY, 4 SYSTEM, 5 CIPHER. -/
def Dev.role (d : Dev) (q : Nat) : Nat := d.fld (Fld.HQ_STATUS_ROLE q)

/-- Whether a queue is enabled. -/
def Dev.enabled (d : Dev) (q : Nat) : Bool := d.flag (Fld.HQ_STATUS_ENABLED q)

/-- The size of a queue's D2H ring in bytes. -/
def Dev.ringSize (d : Dev) (q : Nat) : Nat := 2 ^ d.fld (Fld.HQ_D2H_SIZE_LOG2 q)

/-- The size of a queue's H2D ring in bytes; 0 where it has none. -/
def Dev.h2dSize (d : Dev) (q : Nat) : Nat := if d.fld (Fld.HQ_H2D_SIZE_LOG2 q) = 0 then 0 else 2 ^ d.fld (Fld.HQ_H2D_SIZE_LOG2 q)

/-- A pointer of a queue: FILL, PROD, CONS as 32-bit counters. -/
def Dev.fillPtr (d : Dev) (q : Nat) : Nat := (d.rd (Reg.HQ_D2H_FILL q)).toNat
/-- PROD. -/
def Dev.prodPtr (d : Dev) (q : Nat) : Nat := (d.rd (Reg.HQ_D2H_PROD q)).toNat
/-- CONS. -/
def Dev.consPtr (d : Dev) (q : Nat) : Nat := (d.rd (Reg.HQ_D2H_CONS q)).toNat

/-- The distance from counter `b` up to counter `a`, modulo 2^32 (R318). -/
def ctrDist (a b : Nat) : Nat := (a + 2 ^ 32 - b % 2 ^ 32) % 2 ^ 32

/-- Shows a result code of a queue. -/
def Dev.queueCode (q code : Nat) (d : Dev) : Dev := d.put (Fld.HQ_STATUS_CODE q) code

/-! ### Writes to host memory -/

/-- A posted write to host memory. While the device may issue no request (R342) it waits in the outbound posted buffer, and where the
32 KiB of that are taken (R310), at its source. -/
def Dev.post (addr : Nat) (bs : List Byte) (d : Dev) : Dev :=
  if d.mayMaster then d.emit (.hostWrite addr bs)
  else if d.hq.outSource.isEmpty && (d.hq.outPosted.foldl (fun n w => n + w.2.length) 0) + bs.length ≤ 32768 then
    { d with hq := { d.hq with outPosted := d.hq.outPosted ++ [(addr, bs)] } }
  else { d with hq := { d.hq with outSource := d.hq.outSource ++ [(addr, bs)] } }

/-- Bytes in pieces of at most `n`; the first argument bounds their number. -/
def pieces (n : Nat) : Nat → List Byte → List (List Byte)
  | 0, _ => []
  | k + 1, bs => if bs.isEmpty then [] else bs.take n :: pieces n k (bs.drop n)

/-- Posted writes of consecutive pieces. -/
def Dev.postAll (addr : Nat) : List (List Byte) → Dev → Dev
  | [], d => d
  | p :: ps, d => Dev.postAll (addr + p.length) ps (d.post addr p)

/-- Writes bytes to host memory, in writes of at most Max_Payload_Size, which is 128 bytes or more (R309). -/
def Dev.postBytes (addr : Nat) (bs : List Byte) (d : Dev) : Dev := Dev.postAll addr (pieces (max 128 d.hq.mps) bs.length bs) d

/-- Writes bytes into a queue's D2H ring from a counter on; they run on across the ring end. -/
def Dev.ringWrite (q ctr : Nat) (bs : List Byte) (d : Dev) : Dev :=
  let base := d.pair (Fld.HQ_D2H_BASE_LO_BASE q) (Fld.HQ_D2H_BASE_HI_BASE q)
  let off := ctr % d.ringSize q
  let room := d.ringSize q - off
  (d.postBytes (base + off) (bs.take room)).postBytes base (bs.drop room)

/-- The writeback block of a queue, one posted write (R318). -/
def Dev.writeBlock (q : Nat) (d : Dev) : Dev :=
  let seq := ((d.queue q).wbseq + 1) % 2 ^ 32
  let d := d.onQueue q (fun x => { x with wbseq := seq })
  d.post (d.pair (Fld.HQ_WB_LO_WB q) (Fld.HQ_WB_HI_WB q))
    (leBytes 4 (d.fillPtr q) ++ leBytes 4 (d.prodPtr q) ++ leBytes 4 (d.rd (Reg.HQ_H2D_CONS q)).toNat ++ leBytes 4 seq)

/-- Announces a watermark crossing: the queue's message, a WATERMARK record (R337). -/
def Dev.wmAnnounce (q : Nat) (x : Nat × Nat) (d : Dev) : Dev :=
  (d.onlyIf (d.flag (Fld.HQ_IRQ_EN_WM q)) (Dev.queueCause q)).sysRecord 0x14 q 0 (leBytes 4 x.1 ++ leBytes 4 x.2)

/-- A writeback; the crossings it publishes are announced after it (R324 step 8, R336). -/
def Dev.writeback (q : Nat) (d : Dev) : Dev :=
  let due := (d.queue q).wmDue
  ((d.writeBlock q).onQueue q (fun x => { x with wmDue := [] })).each due (Dev.wmAnnounce q)

/-- A producer advance moves FILL; a watermark crossing is seen (R337), and announced after the writeback that publishes it. -/
def Dev.fillTo (q ctr : Nat) (d : Dev) : Dev :=
  let wm := d.fld (Fld.HQ_WM_LEVEL q)
  let before := ctrDist (d.fillPtr q) (d.consPtr q)
  let after := ctrDist ctr (d.consPtr q)
  let d := (d.wr (Reg.HQ_D2H_FILL q) (BitVec.ofNat 32 ctr)).peak (Fld.HQ_PEAK q) after
  if before ≤ wm && wm < after then
    (d.put ⟨if q < 32 then Reg.HQ_WM_HIT_LO else Reg.HQ_WM_HIT_HI, q % 32, q % 32⟩ 1).onQueue q
      (fun x => { x with wmDue := x.wmDue ++ [(wm, after)] })
  else d

/-! ### Records (R322 to R330) -/

/-- 8 × ⌈n / 8⌉. -/
def roundUp8 (n : Nat) : Nat := (n + 7) / 8 * 8

/-- SPAN of a whole record in a queue of a version. -/
def Rec.span (ver : Nat) (r : Rec) : Nat := (if ver = 1 then 16 else 32) + roundUp8 r.payload.length

/-- A status slot (R322). -/
def slotBytes (zeroed dropped : Bool) (code span : Nat) : List Byte :=
  leBytes 8 (2 ^ 63 + b2n zeroed * 2 ^ 41 + b2n dropped * 2 ^ 40 + code * 2 ^ 32 + span)

/-- The 24-byte header of a native or version 2 record. -/
def Rec.header (r : Rec) (lost : Nat) : List Byte :=
  leBytes 1 r.kind ++ leBytes 1 (b2n (lost ≠ 0) + 2 * b2n r.test + 4 * b2n r.astream) ++ leBytes 2 lost ++
    leBytes 4 r.payload.length ++ leBytes 8 r.ns ++ leBytes 2 r.frac ++ leBytes 2 r.infoA ++ leBytes 4 r.infoB

/-- A whole version 1 record (R326). -/
def Rec.v1Bytes (r : Rec) (lost : Nat) : List Byte :=
  leBytes 2 r.payload.length ++ leBytes 1 r.kind ++ leBytes 1 (b2n (lost ≠ 0) + 2 * b2n r.test) ++ leBytes 4 r.ns ++
    leBytes 2 lost ++ leBytes 2 r.infoA ++ leBytes 4 r.infoB ++ r.payload ++
    List.replicate (roundUp8 r.payload.length - r.payload.length) 0

/-- Whether a record is refused outright by a queue's ring (R327). -/
def Dev.lenRefused (d : Dev) (q : Nat) (r : Rec) : Bool :=
  d.ringSize q < r.span (d.version q) || (d.version q = 1 && 65535 < r.payload.length)

/-- Counts a record refused with E_LEN. -/
def Dev.countLenRef (q : Nat) (d : Dev) : Dev := (d.bump (Fld.HQ_LENREF_COUNT q)).raise 281

/-- The bytes of the shared staging memory in use (R326). -/
def Dev.staged1 (d : Dev) : Nat :=
  (List.range 64).foldl (fun n q =>
    match (d.queue q).cur with
    | some c => if d.version q = 1 then n + c.item.span 1 else n
    | none => n) 0

/-- Whether a queue's ring has free space for a record now. -/
def Dev.ringRoom (d : Dev) (q : Nat) (r : Rec) : Bool :=
  ctrDist (d.fillPtr q) (d.consPtr q) + r.span (d.version q) ≤ d.ringSize q

/-- Whether a queue has room for a record now: its ring, and for version 1 the staging memory. -/
def Dev.hasRoom (d : Dev) (q : Nat) (r : Rec) : Bool := d.ringRoom q r && (d.version q ≠ 1 || d.staged1 + r.span 1 ≤ 262144)

/-- A QPUT whose wait for space has run out (R327). -/
def Dev.qputLate (d : Dev) (p : Producer) : Bool :=
  match p with
  | .qput e t =>
    match (d.thread e t).wait with
    | .space _ _ _ deadline => decide (deadline ≤ d.tns)
    | _ => false
  | _ => false

/-- A host cipher job's record is dealt with: its code, where it is not E_OK, becomes the job's. -/
def Dev.jobRecordDone (job code : Nat) (d : Dev) : Dev :=
  { d with sec := { d.sec with running := d.sec.running.map (fun j =>
      if j.job.id = job then { j with record := none, code := if j.code = E_OK then code else j.code } else j) } }

/-- Tells a record's producer its end (R327, R331). -/
def Dev.recordEnd (p : Producer) (code : Nat) (d : Dev) : Dev :=
  match p with
  | .qput e t => d.onThread e.val t.val (fun th => if th.wait = .ready then th else th.jobDone code)
  | .cipher job => d.jobRecordDone job code
  | _ => d

/-- The record of a queue that starts next, after those at the head that are refused or lost have gone: what is counted, and the
records left. -/
def Dev.nextRecord (q : Nat) : List Rec → Dev → Option (Rec × List Rec) × Dev
  | [], d => (none, d.onQueue q (fun x => { x with waiting := [] }))
  | r :: rs, d =>
    if d.lenRefused q r then Dev.nextRecord q rs ((d.countLenRef q).recordEnd r.prod E_LEN)
    else if d.qputLate r.prod then Dev.nextRecord q rs (((d.bump (Fld.HQ_LOST_COUNT q)).raise 282).recordEnd r.prod E_TIMEOUT)
    else if d.hasRoom q r then (some (r, rs), d)
    else if r.prod = .event && !d.ringRoom q r then
      Dev.nextRecord q rs (((d.bump (Fld.HQ_LOST_COUNT q)).raise 282).onQueue q (fun x => { x with lost := min (x.lost + 1) 65535 }))
    else (none, d.onQueue q (fun x => { x with waiting := r :: rs }))

/-- A record starts: steps 1 and 2 of R324; version 2 announces nothing, version 1 is staged. -/
def Dev.startRecord (q : Nat) (r : Rec) (rest : List Rec) (d : Dev) : Dev :=
  let start := d.prodPtr q
  let lost := (d.queue q).lost
  let d := d.onQueue q (fun x => { x with waiting := rest, cur := some ⟨r, start, 0, lost⟩, lost := 0 })
  let d := d.putFlag (Fld.HQ_STATUS_INPROG q) true
  let d := match r.prod with
    | .qput e t => d.onThread e.val t.val (fun th => { th with wait := .job none none })
    | _ => d
  if d.version q = 1 then d
  else
    let d := d.ringWrite q start (leBytes 8 0 ++ r.header lost)
    if d.version q = 3 then
      let d := (d.fillTo q (start + 32)).writeback q
      if d.flag (Fld.HQ_IRQ_EN_FILL q) then d.queueCause q else d
    else d

/-- RECORD_START. -/
def execRecordStart (q : Fin 64) (s : State) : Out :=
  run (fun d => d.onlyIf (d.enabled q.val && (d.queue q.val).cur.isNone && d.mayMaster) (fun d =>
    match d.nextRecord q.val (d.queue q.val).waiting with
    | (some (r, rs), d) => d.startRecord q.val r rs
    | (none, d) => d)) s

/-- One payload write of the record in progress, of up to Max_Payload_Size bytes (R324 steps 3 and 4). -/
def Dev.payloadWrite (q : Nat) (d : Dev) : Dev :=
  match (d.queue q).cur with
  | none => d
  | some c =>
    let n := min d.hq.mps (c.item.payload.length - c.committed)
    if n = 0 then d
    else
      let done := c.committed + n
      let d := d.onQueue q (fun x => { x with cur := some { c with committed := done } })
      if d.version q = 1 then d
      else
        let d := d.ringWrite q (c.start + 32 + c.committed) ((c.item.payload.drop c.committed).take n)
        if d.version q ≠ 3 then d
        else
          let d := d.fillTo q (c.start + 32 + done)
          if c.committed / 4096 < done / 4096 then
            let d := d.writeback q
            if d.flag (Fld.HQ_IRQ_EN_FILL q) then d.queueCause q else d
          else d

/-- Several payload writes. -/
def Dev.payloadWrites (q : Nat) : Nat → Dev → Dev
  | 0, d => d
  | n + 1, d => Dev.payloadWrites q n (d.payloadWrite q)

/-- The end of a record is published: PROD = FILL = end in one writeback, and the queue is free for the next (R324 step 7). -/
def Dev.publish (q ctr : Nat) (d : Dev) : Dev :=
  let d := (d.fillTo q ctr).wr (Reg.HQ_D2H_PROD q) (BitVec.ofNat 32 ctr)
  ((d.writeback q).onQueue q (fun x => { x with cur := none })).putFlag (Fld.HQ_STATUS_INPROG q) false

/-- A staged version 1 record is discarded (R326). -/
def Dev.rewind (q : Nat) (d : Dev) : Dev :=
  (((d.bump (Fld.HQ_REWIND_COUNT q)).raise 284).onQueue q (fun x => { x with cur := none })).putFlag (Fld.HQ_STATUS_INPROG q) false

/-- The message a finished record may cause (R335, R339). -/
def Dev.recordCause (q kind : Nat) (d : Dev) : Dev :=
  if d.flag (Fld.HQ_IRQ_EN_REC q) || 0x10 ≤ kind then d.queueCause q else d

/-- The record in progress is finished: payload, padding, slot, writeback, message (R324 steps 5 to 8); a stream found bad is
overwritten with zeros first (R330, R400), or rewound in a version 1 queue. -/
def Dev.finishRecord (q : Nat) (d : Dev) : Dev :=
  match (d.queue q).cur with
  | none => d
  | some c =>
    let r := c.item
    let len := r.payload.length
    let bad := r.code ≠ E_OK
    if d.version q = 1 then
      if bad then (d.rewind q).recordEnd r.prod r.code
      else
        let d := (d.ringWrite q c.start (r.v1Bytes c.lost)).publish q (c.start + r.span 1)
        ((d.bump (Fld.HQ_RECORDS_COUNT q)).recordCause q r.kind).recordEnd r.prod E_OK
    else
      let d := d.payloadWrites q (len - c.committed)
      let d := if roundUp8 len = len then d else d.ringWrite q (c.start + 32 + len) (List.replicate (roundUp8 len - len) 0)
      let d := if bad then
          let d := d.ringWrite q (c.start + 32) (List.replicate len 0)
          if r.astream then (d.bump (Fld.HQ_AUTHZERO_COUNT q)).raise 283 else d
        else d
      let d := d.ringWrite q c.start (slotBytes bad false r.code (r.span 2))
      let d := (d.publish q (c.start + r.span 2)).bump (Fld.HQ_RECORDS_COUNT q)
      (d.recordCause q r.kind).recordEnd r.prod r.code

/-- RECORD_FINISH. -/
def execRecordFinish (q : Fin 64) (s : State) : Out :=
  run (fun d => d.onlyIf (d.enabled q.val && d.mayMaster) (Dev.finishRecord q.val)) s

/-- The record in progress ends early, DROPPED, at the committed bytes, and is a finished record; an authenticated stream is zero-filled
first, as R330 has it (R329, R331). -/
def Dev.dropRecord (q code : Nat) (c : Cur) (d : Dev) : Dev :=
  let n := roundUp8 c.committed
  let d := if n = c.committed then d else d.ringWrite q (c.start + 32 + c.committed) (List.replicate (n - c.committed) 0)
  let d := if c.item.astream then
      ((d.ringWrite q (c.start + 32) (List.replicate c.committed 0)).bump (Fld.HQ_AUTHZERO_COUNT q)).raise 283
    else d
  let d := d.ringWrite q c.start (slotBytes c.item.astream true code (32 + n))
  ((d.publish q (c.start + 32 + n)).bump (Fld.HQ_RECORDS_COUNT q)).recordCause q c.item.kind

/-- HQ_Qq_CMD with OP 1 (R329). -/
def Dev.dropRest (q : Nat) (d : Dev) : Dev :=
  match (d.queue q).cur with
  | some c =>
    if d.version q = 3 && (d.rd (Reg.HQ_CMD_ARG q)).toNat = c.start % 2 ^ 32 && c.committed < c.item.payload.length then
      let d := (d.dropRecord q E_OK c).bump (Fld.HQ_DROPPED_COUNT q)
      (d.recordEnd c.item.prod E_OK).queueCode q E_OK
    else d.queueCode q E_PERM
  | none => d.queueCode q E_PERM

/-- DROP_REST. -/
def execDropRest (p : Path) (q : Fin 64) (s : State) : Out := runWrite p (Reg.HQ_CMD q.val) 1 (fun d => d.dropRest q.val) s

/-- A host write of HQ_Qq_D2H_CONS (R328). -/
def Dev.consWrite (q : Nat) (v : Word) (d : Dev) : Dev :=
  if ctrDist v.toNat (d.consPtr q) ≤ ctrDist (d.prodPtr q) (d.consPtr q) then (d.wr (Reg.HQ_D2H_CONS q) v).queueCode q E_OK
  else d.queueCode q E_PERM

/-- D2H_CONS_WRITE. -/
def execD2hConsWrite (p : Path) (q : Fin 64) (v : Word) (s : State) : Out := runWrite p (Reg.HQ_D2H_CONS q.val) v.toNat (fun d => d.consWrite q.val v) s

/-- A write of HQ_Qq_VER.OFFER (R320): the highest version in both sets. -/
def Dev.versionOffer (q offer : Nat) (d : Dev) : Dev :=
  if d.enabled q then d.put (Fld.HQ_VER_CODE q) E_PERM
  else
    let both (v : Nat) := bit offer v && bit (d.fld (Fld.HQ_VER_PERMIT q)) v
    let v := if both 3 then 3 else if both 2 then 2 else if both 1 then 1 else 0
    ((d.put (Fld.HQ_VER_OFFER q) offer).put (Fld.HQ_VER_CHOSEN q) v).put (Fld.HQ_VER_CODE q) (if v = 0 then E_VERSION else E_OK)

/-- VERSION_OFFER. -/
def execVersionOffer (p : Path) (q : Fin 64) (offer : BitVec 4) (s : State) : Out := runWrite p (Reg.HQ_VER q.val) 0 (fun d => d.versionOffer q.val offer.toNat) s

/-- The code an enable completes with (R321). -/
def Dev.enableCode (d : Dev) (q : Nat) : Nat :=
  let size := d.fld (Fld.HQ_D2H_SIZE_LOG2 q)
  let h := d.fld (Fld.HQ_H2D_SIZE_LOG2 q)
  let okSize (k : Nat) := 12 ≤ k && k ≤ 24
  lowestCode [
    if d.version q = 0 || d.role q = 0 || 5 < d.role q || !d.inService then E_PERM else E_OK,
    if d.fld (Fld.HQ_D2H_BASE_LO_BASE q) % 4096 ≠ 0 || d.fld (Fld.HQ_H2D_BASE_LO_BASE q) % 4096 ≠ 0 ||
        d.fld (Fld.HQ_WB_LO_WB q) % 16 ≠ 0 then E_ALIGN else E_OK,
    if !okSize size || (if d.role q = 1 then !okSize h else h ≠ 0) then E_LEN else E_OK]

/-- A write of ENABLE = 1. -/
def Dev.queueEnable (q : Nat) (d : Dev) : Dev :=
  let code := d.enableCode q
  if d.enabled q then d.queueCode q E_OK
  else if code ≠ E_OK then d.queueCode q code
  else
    let d := d.each [Reg.HQ_D2H_CONS q, Reg.HQ_D2H_FILL q, Reg.HQ_D2H_PROD q, Reg.HQ_H2D_PROD q, Reg.HQ_H2D_CONS q] (fun a => Dev.wr a 0)
    let d := d.onQueue q (fun x => { x with waiting := [], cur := none, lost := 0, descs := [], fetched := 0, wmDue := [] })
    let d := ((d.putFlag (Fld.HQ_CTRL_ENABLE q) true).putFlag (Fld.HQ_STATUS_ENABLED q) true).queueCode q E_OK
    d.writeback q

/-- QUEUE_ENABLE. -/
def execQueueEnable (p : Path) (q : Fin 64) (s : State) : Out := runWrite p (Reg.HQ_CTRL q.val) 1 (fun d => d.queueEnable q.val) s

/-- Completes the producers that wait for a queue that stops (R331). -/
def Dev.dropWaiting (q : Nat) (d : Dev) : Dev :=
  d.each (d.queue q).waiting (fun r d =>
    match r.prod with
    | .eth => d.bump (Fld.HQ_LOST_COUNT q)
    | p => d.recordEnd p E_PERM)

/-- A queue stops (R331). -/
def Dev.queueStop (q : Nat) (d : Dev) : Dev :=
  if !d.enabled q then d
  else
    let d := match (d.queue q).cur with
      | some c =>
        if d.version q = 1 then (d.rewind q).recordEnd c.item.prod E_PERM
        else (d.dropRecord q E_PERM c).recordEnd c.item.prod E_PERM
      | none => d
    let d := d.dropWaiting q
    let d := d.onQueue q (fun x => { x with waiting := [], descs := [] })
    (d.putFlag (Fld.HQ_CTRL_ENABLE q) false).putFlag (Fld.HQ_STATUS_ENABLED q) false

/-- QUEUE_DISABLE. -/
def execQueueDisable (p : Path) (q : Fin 64) (s : State) : Out := runWrite p (Reg.HQ_CTRL q.val) 0 (fun d => (d.queueStop q.val).queueCode q.val E_OK) s

/-- Every queue stops. -/
def Dev.queuesStop (d : Dev) : Dev := d.each (List.range 64) Dev.queueStop

/-- A queue in a bridge reset (R341): disabled without patching, CHOSEN cleared; a staged record is rewound. -/
def Dev.queueReset (q : Nat) (d : Dev) : Dev :=
  let d := match (d.queue q).cur with
    | some c =>
      let d := if d.version q = 1 then d.rewind q else d
      d.recordEnd c.item.prod E_PERM
    | none => d
  let d := d.dropWaiting q
  let d := d.onQueue q (fun x => { x with waiting := [], cur := none, descs := [], gathered := false, wmDue := [] })
  (((d.putFlag (Fld.HQ_CTRL_ENABLE q) false).putFlag (Fld.HQ_STATUS_ENABLED q) false).putFlag (Fld.HQ_STATUS_INPROG q) false).put
    (Fld.HQ_VER_CHOSEN q) 0

/-- What the PCI Express side gives the rest of the part as one value (R309, R440): link, Bus Master Enable, speed, width, payload and
request sizes. -/
def linkValue (link bme : Bool) (speed width mps mrrs : Nat) : Nat :=
  b2n link + 2 * b2n bme + 4 * speed + 32 * width + 256 * mps + 2 ^ 24 * mrrs

/-- Both sides of the link's state crossing hold the state as it stands. -/
def Dev.linkSync (d : Dev) : Dev :=
  let v := linkValue (d.flag Fld.BRG_STATUS_LINK) (d.flag Fld.BRG_STATUS_BME) (d.fld Fld.BRG_STATUS_SPEED) (d.fld Fld.BRG_STATUS_WIDTH)
    d.hq.mps d.hq.mrrs
  d.onCrossing 0 (fun _ => { crossIdle with value := v, taken := v })

/-- The link goes down, or a Function Level Reset keeps it (R341): counted, FS285, every queue reset, Bus Master Enable 0. -/
def Dev.linkDrop (flr keep : Bool) (d : Dev) : Dev :=
  let d := (d.bump (if flr then Fld.BRG_RESETS_FLR else Fld.BRG_RESETS_LINKDN)).raise 285
  let d := (d.each (List.range 64) Dev.queueReset).putFlag Fld.BRG_STATUS_BME false
  (if keep then d else ((d.putFlag Fld.BRG_STATUS_LINK false).put Fld.BRG_STATUS_SPEED 0).put Fld.BRG_STATUS_WIDTH 0).linkSync

/-- QPUT_TIMEOUT: a QPUT has waited for space for t_qput (R327, R343). -/
def execQputTimeout (e : Fin 8) (t : Fin 4) (s : State) : Out :=
  run (fun d =>
    match (d.thread e.val t.val).wait with
    | .space q _ _ deadline =>
      if d.tns < deadline then d
      else
        let d := d.dropQput e.val t.val
        ((d.bump (Fld.HQ_LOST_COUNT q.val)).raise 282).onThread e.val t.val (Thread.jobDone E_TIMEOUT)
    | _ => d) s

/-- The doorbell of a queue (R333). -/
def Dev.doorbell (q : Nat) (v : Word) (d : Dev) : Dev :=
  if d.enabled q && v.toNat % 32 = 0 && ctrDist v.toNat (d.rd (Reg.HQ_H2D_CONS q)).toNat ≤ d.h2dSize q then
    (d.wr (Reg.HQ_H2D_PROD q) v).queueCode q E_OK
  else d.queueCode q E_PERM

/-- H2D_DOORBELL. -/
def execH2dDoorbell (p : Path) (q : Fin 64) (v : Word) (s : State) : Out := runWrite p (Reg.HQ_H2D_PROD q.val) v.toNat (fun d => d.doorbell q.val v) s

/-- HOLDOFF_EXPIRY: HOLDOFF after the last message one message goes out for the causes gathered (R338). -/
def execHoldoffExpiry (q : Fin 64) (s : State) : Out :=
  run (fun d =>
    match (d.queue q.val).lastMsg with
    | some t =>
      d.onlyIf ((d.queue q.val).gathered && t + 1000 * d.fld (Fld.HQ_IRQ_HOLDOFF q.val) ≤ d.tns) (fun d =>
        (d.sendVector (d.fld (Fld.HQ_STATUS_VECTOR q.val))).onQueue q.val (fun x => { x with lastMsg := some d.tns, gathered := false }))
    | none => d) s

/-- Sends a vector whose pending bit is set, once it may be sent (R335). -/
def Dev.sendPending (v : Nat) (d : Dev) : Dev :=
  let x : Fld := ⟨Reg.MSIX_PBA (v / 32), v % 32, v % 32⟩
  if d.flag x && !d.flag (Fld.MSIX_CTRL_MASK v) && d.mayMaster then (d.putFlag x false).sendVector v else d

/-- A write of a vector's mask bit; unmasking sends a pending message. -/
def Dev.msixMask (v : Nat) (m : Bool) (d : Dev) : Dev := (d.putFlag (Fld.MSIX_CTRL_MASK v) m).sendPending v

/-- MSIX_UNMASK. -/
def execMsixUnmask (p : Path) (v : Fin 128) (s : State) : Out := runWrite p (Reg.MSIX_CTRL v.val) 0 (Dev.msixMask v.val false) s

/-- A read of BRG_LOG_W0 (R316): the oldest entry leaves, its words 1 and 2 are latched for the path. -/
def Dev.logRead (p : Path) (d : Dev) : Word × Dev :=
  match d.hq.log with
  | [] => (0, d)
  | e :: es => (e.w0,
      (({ d with hq := { d.hq with log := es } }).putLatched p Reg.BRG_LOG_W1 e.w1).putLatched p Reg.BRG_LOG_W2 e.w2)

/-- BRIDGE_LOG_READ. -/
def execBridgeLogRead (p : Path) (s : State) : Out :=
  runRead p (Reg.BRG_LOG_W0) (fun d =>
    let (w, d) := d.logRead p
    d.emit (.data p Reg.BRG_LOG_W0 w.toNat)) s

/-- The payload writes of one tick: one write for each record in progress, while the device may issue requests. -/
def Dev.queueTick (d : Dev) : Dev :=
  if d.mayMaster then d.each (Tab.keys d.hq.qs) (fun q => Dev.payloadWrite q) else d

end Sys2Proof.Machine
end

