-- ==== Sys2Proof/Machine/Locksmith.lean ====
section
/-! DEFINITION. Locksmith (chapter 11): the reserved slots, tamper zeroization, the random generator, cipher jobs and their
completions, the ML-DSA engine, attestation. -/

namespace Sys2Proof.Machine

/-- The bytes of an ASCII text. -/
def ascii (s : String) : List Byte := s.toList.map (fun c => BitVec.ofNat 8 c.toNat)

/-- An attribute word (R385). -/
def attrWord (locked : Bool) (origin lenc use access : Nat) : Word :=
  BitVec.ofNat 32 (2 ^ 31 + b2n locked * 2 ^ 30 + origin * 2 ^ 28 + lenc * 2 ^ 25 + use * 2 ^ 16 + access)

/-- The counter-mode KDF with AES-CMAC (R384), `n` bytes. -/
def kdf (key label ctx : List Byte) (n : Nat) : List Byte := beBytes n (Config.kdf key label ctx n)

/-- The modes in which the key store runs (R417). -/
def Dev.keysRun (d : Dev) : Bool := d.inService || d.mode = .configure || d.mode = .doze

/-- KS1, derived from the root key where an owner-key digest stands (R384, R473). -/
def Dev.deriveOwner (d : Dev) : Dev :=
  match d.sec.ownerDigest with
  | some g => d.writeKey 1 (attrWord true 2 3 0x20 0x600) (kdf Config.rootKey (ascii "RLN-OTK") g 32)
  | none => d

/-- KS1, KS254 and KS255, derived from the root key (R384). -/
def Dev.deriveReserved (d : Dev) : Dev :=
  let root := Config.rootKey
  let d := d.deriveOwner
  let d := d.writeKey 254 (attrWord true 2 3 0x60 0x800) (kdf root (ascii "RLN-IDK") d.sec.deviceId 32)
  let d := d.writeKey 255 (attrWord true 2 4 0x03 0x800) (kdf root (ascii "RLN-REC") d.sec.deviceId 64)
  { d with sec := { d.sec with rederive := false } }

/-- REMASK in ms: the setting, 10 where no image has set it (R386, R419). -/
def Dev.remaskMs (d : Dev) : Nat := if d.fld Fld.KS_REMASK_PERIOD = 0 then 10 else d.fld Fld.KS_REMASK_PERIOD

/-- The next visit of the re-masker is due a REMASK / 256 from now. -/
def Dev.remaskStart (d : Dev) : Dev := { d with sec := { d.sec with remaskDue := 256 * d.tns + 1000000 * d.remaskMs } }

/-- The slots as CONFIGURE finds them: KS0 from the fuses, the reserved slots derived, the others empty (R417). -/
def Dev.loadKeys (d : Dev) : Dev :=
  ((d.writeKey 0 (attrWord false 0 3 0x80 0x800) Config.rootKey).deriveReserved).remaskStart

/-- The USE bit a job on a freshness entry asks for. -/
def macUse : MacOp → Nat
  | .ver => 3
  | _ => 2

/-- The key of a MACGEN or MACVER job of engine `e` once its slot changes: it keeps what it loaded, where it has started (R387). -/
def Dev.keptKey (d : Dev) (e n : Nat) (w : Wait) : Wait :=
  match w with
  | .mac op entry h a no .live =>
    let slot := (d.freshEntry e entry.val).keySlot
    if op ≠ .fresh && slot = n && !d.macHeld e entry no then .mac op entry h a no (.kept (d.usableKey n (macUse op) e)) else w
  | _ => w

/-- Before slot `n` is replaced or erased: the jobs running on it keep the key they loaded. -/
def Dev.keepMac (n : Nat) (d : Dev) : Dev :=
  { d with eng := { d.eng with
      threads := Tab.map (fun _ => threadIdle) (fun k th => { th with wait := d.keptKey (k / 4) n th.wait }) d.eng.threads } }

/-- The wait of a thread whose job has lost its key (R115). -/
def lostKey : Wait → Wait
  | .mac op entry h a no _ => .mac op entry h a no .lost
  | w => w

/-- The MACGEN and MACVER jobs in flight lose their keys: zeroization clears every slot they could use, and the key registers. -/
def Dev.killMac (d : Dev) : Dev :=
  { d with eng := { d.eng with
      threads := Tab.map (fun _ => threadIdle) (fun _ th => { th with wait := lostKey th.wait }) d.eng.threads } }

/-- Clears a slot with its mask; a job running on it keeps its key (R387). -/
def Dev.clearSlot (n : Nat) (d : Dev) : Dev := (d.keepMac n).putKeySlot n keyEmpty

/-- Clears the slots a predicate names. -/
def Dev.clearSlots (p : Nat → Bool) (d : Dev) : Dev :=
  d.each ((Tab.keys d.sec.slots).filter p) Dev.clearSlot

/-! ### Key commands (R391) -/

/-- A reserved slot (R384). -/
def reservedSlot (n : Nat) : Bool := n = 0 || n = 1 || n = 254 || n = 255

/-- The result of a KS_CMD. -/
def Dev.ksCode (c : Nat) (d : Dev) : Dev := d.put Fld.KS_STATUS_CODE c

/-- KS_CMD with ERASE. -/
def Dev.ksErase (n : Nat) (d : Dev) : Dev :=
  if !d.keysRun || reservedSlot n || (d.keySlot n).locked then d.ksCode E_PERM
  else ((d.clearSlot n).recAppendFree 0x000B [n, 2]).ksCode E_OK

/-- KS_CMD with LOCK. -/
def Dev.ksLock (n : Nat) (d : Dev) : Dev :=
  let k := d.keySlot n
  let c := lowestCode [if !d.keysRun || reservedSlot n then E_PERM else E_OK, if k.valid then E_OK else E_KEYUSE]
  if c ≠ E_OK then d.ksCode c
  else ((d.putKeySlot n { k with attr := k.attr ||| BitVec.ofNat 32 (2 ^ 30) }).recAppendFree 0x000B [n, 3]).ksCode E_OK

/-- KS_ERASE. -/
def execKsErase (p : Path) (slot : Fin 256) (s : State) : Out := runWrite p Reg.KS_CMD 0 (fun d => d.ksErase slot.val) s

/-- KS_LOCK. -/
def execKsLock (p : Path) (slot : Fin 256) (s : State) : Out := runWrite p Reg.KS_CMD 0 (fun d => d.ksLock slot.val) s

/-- REMASK_VISIT: once a visit is due, one every REMASK / 256, the re-masker visits the next slot; a pass over all 256 is counted
(R386). -/
def execRemaskVisit (s : State) : Out :=
  run (fun d => d.onlyIf (d.keysRun && d.flag Fld.KS_STATUS_DRBG_OK && decide (d.sec.remaskDue ≤ 256 * d.tns)) (fun d =>
    let n := d.sec.remaskPos
    let k := d.keySlot n
    let d := if k.valid then d.writeKey n k.attr k.key else d
    let d := { d with sec := { d.sec with remaskPos := (n + 1) % 256, remaskDue := d.sec.remaskDue + 1000000 * d.remaskMs } }
    if n = 255 then d.bump Fld.KS_REMASK_SWEEPS else d)) s

/-! ### The random generator (R395) -/

/-- A reseed. -/
def Dev.reseed (d : Dev) : Dev := ({ d with sec := { d.sec with drbgReqs := 0 } }).bump Fld.KS_DRBG_RESEEDS

/-- DRBG_HEALTH_FAIL. -/
def execDrbgHealthFail (s : State) : Out :=
  run (fun d => d.onlyIf (d.flag Fld.KS_STATUS_DRBG_OK) (fun d =>
    let d := ((d.putFlag Fld.KS_STATUS_DRBG_OK false).bump Fld.KS_DRBG_HEALTHFAIL).raise 353
    { d with sec := { d.sec with drbgFailAt := d.tns } })) s

/-- DRBG_RESUME: the start-up tests, repeated every 10 ms, have passed. -/
def execDrbgResume (s : State) : Out :=
  run (fun d => d.onlyIf (d.keysRun && !d.flag Fld.KS_STATUS_DRBG_OK && d.sec.drbgFailAt + 10000000 ≤ d.tns) (fun d =>
    ((d.putFlag Fld.KS_STATUS_DRBG_OK true).reseed).remaskStart)) s

/-- DRBG_RESEED: after 2^20 requests. -/
def execDrbgReseed (s : State) : Out :=
  run (fun d => d.onlyIf (d.flag Fld.KS_STATUS_DRBG_OK && 2 ^ 20 ≤ d.sec.drbgReqs) Dev.reseed) s

/-! ### Tamper (R392 to R394) -/

/-- The code of a tamper cause. -/
def tamperCode : TamperCause → Nat
  | .pin k => 1 + k.val
  | .supply => 0x10
  | .backup => 0x11
  | .clock => 0x20
  | .temperature => 0x30
  | .shield => 0x40

/-- Whether the logic die is powered; in SLEEP it is until the entry is done (R459). -/
def Dev.diePowered (d : Dev) : Bool := d.mode ≠ .off && (d.mode ≠ .sleep || d.sys.entry = .sleep)

/-- The enables of the SECURITY section come into force with RUN (R392). -/
def Dev.tamperArm (d : Dev) : Dev := { d with sec := { d.sec with tampEn := d.fld Fld.KS_TAMPCFG_EN } }

/-- Whether a cause is watched: its enable, as the last RUN had it (R392), and with the logic die unpowered only the pins and the
shield. -/
def Dev.tamperWatched (d : Dev) (c : TamperCause) : Bool :=
  let en := d.sec.tampEn
  let powered := d.diePowered
  match c with
  | .pin k => bit en k.val
  | .shield => bit en 7
  | .supply => bit en 4 && powered
  | .clock => bit en 5 && powered
  | .temperature => bit en 6 && powered
  | .backup => powered

/-- A running job ends with a code, or a lower one it has already (R16): its record, if any, is found bad. -/
def Dev.failJob (i code : Nat) (d : Dev) : Dev :=
  let hit (r : Rec) : Rec := if r.prod = .cipher i then { r with code := lowestCode [r.code, code] } else r
  { d with
    sec := { d.sec with running := d.sec.running.map (fun (j : RunJob) =>
      if j.job.id = i then { j with code := lowestCode [j.code, code], result := [] } else j) }
    hq := { d.hq with qs := Tab.map (fun _ => queueIdle) (fun _ (x : Queue) =>
      { x with waiting := x.waiting.map hit, cur := x.cur.map (fun c => { c with item := hit c.item }) }) d.hq.qs } }

/-- A checkpoint that failed is retried after 10 ms (R411). -/
def Dev.ckptFailed (reason : Nat) (d : Dev) : Dev :=
  ({ d with sec := { d.sec with ckptBody := none, ckptWant := none, ckptRetry := some (d.tns + 10000000, reason) } }).putFlag
    Fld.REC_STATUS_CKPT_BUSY false

/-- The checkpoint being signed fails; its records are uncovered still. -/
def Dev.ckptLost (code : Nat) (d : Dev) : Dev :=
  match d.sec.ckptBody with
  | some (body, _) =>
    let d := (d.ckptFailed (body.getD 47 0).toNat).pqCode code
    { d with sec := { d.sec with sinceCkpt := d.sec.sinceCkpt + 1 } }
  | none => d

/-- Whether a running job used, or holds back, a key that zeroization clears: of ATTEST the device key, in the ML-DSA engine. -/
def RunJob.keyed (j : RunJob) : Bool :=
  (match j.slot with | some n => n ≠ 0 | none => false) || j.keyOut.isSome || leNat (j.job.desc.take 1) = 0x0F

/-- Zeroization: every slot but KS0 and every key register; the jobs that used a cleared key fail (R393). -/
def Dev.zeroize (d : Dev) : Dev :=
  let d := d.each (d.sec.running.filter RunJob.keyed) (fun j => Dev.failJob j.job.id E_KEYUSE)
  let d := ((d.ckptLost E_KEYUSE).killMac.clearSlots (fun n => n ≠ 0)).onlyIf (d.flag Fld.KS_STATUS_DRBG_OK) Dev.reseed
  { d with sec := { d.sec with rederive := true } }

/-- A tamper event: with the logic die unpowered only its time and cause are latched (R393, R394). -/
def Dev.tamper (c : TamperCause) (d : Dev) : Dev :=
  if !d.tamperWatched c then d
  else
    let d := d.tampLatch (tamperCode c)
    if !d.diePowered then d
    else
      (((d.zeroize.putFlag Fld.KS_STATUS_TAMPER true).bump Fld.KS_TAMPER_EVENTS).put Fld.KS_TAMPER_CAUSE (tamperCode c)).raise 352

/-- TAMPER_EVENT. -/
def execTamperEvent (cause : TamperCause) (s : State) : Out := run (Dev.tamper cause) s

/-- The tamper record (R156): a copy of the three registers; once the recorder has taken it TAMP_CLR is possible again. -/
def Dev.tamperRecord (d : Dev) : Dev :=
  let before := d.sec.fifo.length + d.sec.deferred.length
  let d := d.recAppendFree 0x0005 ([Reg.TB_CAL_TAMP_FIRST_LO, Reg.TB_CAL_TAMP_FIRST_HI, Reg.TB_CAL_TAMP_FIRST_SUB,
    Reg.TB_CAL_TAMP_LAST_LO, Reg.TB_CAL_TAMP_LAST_HI, Reg.TB_CAL_TAMP_LAST_SUB, Reg.TB_CAL_TAMP_INFO].map (fun a => (d.rd a).toNat))
  d.onlyIf (decide (before < d.sec.fifo.length + d.sec.deferred.length)) (fun d => { d with time := { d.time with tampPending := false } })

/-- REDERIVE. -/
def execRederive (s : State) : Out :=
  run (fun d => d.onlyIf (d.keysRun && d.sec.rederive && !d.flag Fld.SYS_STATUS_HALT) (fun d => d.deriveReserved.tamperRecord)) s

/-! ### The ML-DSA engine (R403, R404) -/

/-- Signs with a private key; none where the iteration limit stopped the job. The count of iterations is a free value. -/
def Dev.sign (sk msg : List Byte) (d : Dev) : Option (List Byte) × Dev :=
  let (i, d) := d.draw
  let n := Config.free i % 1000 + 1
  let (r, d) := d.draw
  let d := ({ d with sec := { d.sec with drbgReqs := d.sec.drbgReqs + 1 } }).put Fld.PQ_ITER n
  if n = 1000 then (none, d.raise 359)
  else (some (beBytes 3309 (Config.mldsaSign sk msg [] (Config.free r))), d.bump Fld.PQ_SIGNS_COUNT)

/-- The chain head H (R408). -/
def Dev.chainHead (d : Dev) : List Byte :=
  if d.sec.chain.isEmpty then shake256 (ascii "RLNR" ++ d.sec.deviceId) 32 else d.sec.chain

/-- The attestation body (R405). -/
def Dev.attestBody (d : Dev) (nonce : List Byte) : List Byte :=
  let w (n a : Nat) := leBytes n (d.rd a).toNat
  leBytes 2 1 ++ leBytes 1 (modeCode d.mode) ++
    leBytes 1 (d.fld Fld.KS_STATUS_TAMPER + 2 * d.fld Fld.TB_CAL_STATUS_BKUP_LOST + 4 * b2n (d.fld Fld.TB_CAL_STATUS_SETCNT = 0)) ++
    d.sec.deviceId ++ w 4 Reg.SYS_BOOTCNT ++ w 4 Reg.IMG_SEQ ++ w 4 Reg.IMG_SEQ_FLOOR ++ w 4 Reg.LDR_ROLLBACK ++
    leBytes 4 (d.fld Fld.TB_CAL_TAMP_INFO_CNT) ++ leBytes 7 d.calStamp ++ [0] ++
    leBytes 8 (d.pair Fld.REC_NEXT_LO_SEQ Fld.REC_NEXT_HI_SEQ) ++ leBytes 8 (d.pair Fld.REC_ACKED_LO_SEQ Fld.REC_ACKED_HI_SEQ) ++
    ((List.range 16).map (fun k => w 4 (Reg.IMG_DIGEST k))).flatten ++ d.sec.fwDigest ++ d.chainHead ++ nonce

/-- A private-key blob unwrapped under a slot's key: the code, and the key behind its 16-byte header (R403). -/
def unwrapSigner (kek blob : List Byte) : Nat × List Byte :=
  match Config.kwpUnwrap kek blob with
  | none => (E_AUTH, [])
  | some plain => if plain.take 16 = (1 : Byte) :: List.replicate 15 0 then (E_OK, plain.drop 16) else (E_VERSION, [])

/-- The device's private key, unwrapped under KS254 (R405); while that slot is not VALID there is none. -/
def Dev.deviceKey (d : Dev) : Nat × List Byte :=
  if (d.keySlot 254).valid then unwrapSigner (d.keySlot 254).key (Tab.bytes d.sec.deviceBlob 0 4056) else (E_KEYUSE, [])

/-- A signature with the device key: its code, and the signature. -/
def Dev.deviceSign (msg : List Byte) (d : Dev) : Nat × List Byte × Dev :=
  let (code, sk) := d.deviceKey
  if code ≠ E_OK then (code, [], d)
  else
    match d.sign sk msg with
    | (some g, d) => (E_OK, g, d)
    | (none, d) => (E_TIMEOUT, [], d)

/-- The attestation report: body and signature with the device key, under the code of the signature. -/
def Dev.attest (nonce : List Byte) (d : Dev) : Nat × List Byte × Dev :=
  let body := d.attestBody nonce
  let (code, sig, d) := d.deviceSign (ascii "RLNT" ++ body)
  (code, body ++ sig, d)

/-! ### Cipher jobs: the descriptor (R397) -/

/-- A field of a descriptor. -/
def Job.num (j : Job) (off n : Nat) : Nat := leNat ((j.desc.drop off).take n)
/-- OP. -/
def Job.op (j : Job) : Nat := j.num 0 1
/-- KEYSLOT. -/
def Job.keySlot (j : Job) : Nat := j.num 1 1
/-- QUEUE. -/
def Job.queue (j : Job) : Nat := j.num 2 1
/-- TAG. -/
def Job.tag (j : Job) : Nat := j.num 4 2
/-- LEN. -/
def Job.len (j : Job) : Nat := j.num 8 4
/-- AUXLEN. -/
def Job.auxLen (j : Job) : Nat := j.num 12 4
/-- PARAM and CHECK bytes, by their place in the descriptor. -/
def Job.bytes (j : Job) (off n : Nat) : List Byte := (j.desc.drop off).take n

/-- The descriptor bytes an operation uses beside OP, QUEUE and TAG, as first and last byte. -/
def opFields : Nat → List (Nat × Nat)
  | 0x01 => [(1, 1), (8, 11), (16, 23), (32, 47)]
  | 0x02 => [(1, 1), (8, 11), (16, 23), (32, 47)]
  | 0x03 => [(1, 1), (8, 31), (32, 43)]
  | 0x04 => [(1, 1), (8, 31), (32, 43), (48, 63)]
  | 0x05 => [(1, 1), (8, 11), (16, 23)]
  | 0x06 => [(1, 1), (6, 6), (8, 11), (16, 23), (48, 63)]
  | 0x07 => [(1, 1), (8, 11), (16, 23)]
  | 0x08 => [(1, 1), (8, 11), (16, 23)]
  | 0x09 => [(1, 1), (12, 15), (24, 31), (32, 32), (36, 39)]
  | 0x0A => [(32, 32), (36, 39)]
  | 0x0B => [(8, 11)]
  | 0x0C => [(8, 11), (16, 23), (32, 35)]
  | 0x0D => [(8, 31)]
  | 0x0E => [(1, 1), (8, 31)]
  | 0x0F => [(8, 11), (16, 23)]
  | _ => [(1, 63)]

/-- A must-be-0 byte that is not 0; of CHECK, CMAC_VER uses the first MACLEN bytes. -/
def Job.dirty (j : Job) : Bool :=
  (List.range 64).any (fun i =>
    j.desc.getD i 0 ≠ 0 && !(([0, 2, 4, 5] : List Nat).contains i) &&
      (!(opFields j.op).any (fun r => r.1 ≤ i && i ≤ r.2) || (j.op = 6 && 48 + j.num 6 1 ≤ i)))

/-- E_VERSION where a must-be-0 field is not 0. -/
def Job.formCodes (j : Job) : List Nat := [if j.dirty then E_VERSION else E_OK]

/-- What R385 and R402 ask of the key: valid, the USE bit, the requester's ACCESS bit, a length that fits the mode. -/
def Dev.keyCodes (d : Dev) (j : Job) (use : Nat) (lens : List Nat) : List Nat :=
  let k := d.keySlot j.keySlot
  [if k.valid && k.use use && k.access (if j.mgmt then 10 else 9) && lens.contains k.keyLen then E_OK else E_KEYUSE]

/-- What R398 and R402 ask of the output queue; `keyed`: the output is made with the key of the slot. -/
def Dev.outCodes (d : Dev) (j : Job) (keyed : Bool) (len : Nat) : List Nat :=
  let q := j.queue
  let ok := q < 64 && d.enabled q && d.role q = 5
  let set := (d.keySlot j.keySlot).qset
  [if ok then E_OK else E_PERM,
   if keyed && (set = 0 || !bit (Tab.get (fun _ => 0) d.sec.qsets set) q) then E_KEYUSE else E_OK,
   if ok && (d.ringSize q < (if d.version q = 1 then 16 else 32) + roundUp8 len || (d.version q = 1 && 65535 < len)) then E_LEN
   else E_OK]

/-- A length within its bounds. -/
def lenCode (n lo hi : Nat) : Nat := if lo ≤ n && n ≤ hi then E_OK else E_LEN

/-- The key store region that holds a slot. -/
def Dev.region (d : Dev) (t : Nat) : Option KeyRegion :=
  (d.sec.regions.filterMap (fun x => x.2)).find? (fun r => r.first ≤ t && t < r.first + r.count)

/-- The checks of R389 on a target slot, a requested attribute word and a key length. -/
def Dev.targetCodes (d : Dev) (t : Nat) (attr : Word) (keyLen : Nat) : List Nat :=
  let a := attr.toNat
  let fit := lencBytes (bits a 27 25) = keyLen && keyLen ≠ 0
  let dirty := bits a 31 31 + bits a 29 28 + bits a 24 24 ≠ 0
  let perm := 2 ≤ t && t ≤ 253 && !(d.keySlot t).locked
  match d.region t with
  | some r =>
    [if dirty then E_VERSION else E_OK,
     if perm && (!bit a 30 || r.lockOk) then E_OK else E_PERM,
     if fit && bits a 23 16 &&& (255 - r.use) = 0 && bits a 11 0 &&& (4095 - r.access) = 0 &&
        bit r.qsets (bits a 15 12) then E_OK else E_KEYUSE]
  | none => [if dirty then E_VERSION else E_OK, E_PERM, if fit then E_OK else E_KEYUSE]

/-! ### Cipher jobs: start -/

/-- What a job comes to: code, completion result, bulk output, the key for a target slot. -/
structure JobWork where
  code : Nat
  result : List Byte
  bulk : Option (List Byte)
  key : Option (Nat × Word × List Byte) := none

/-- A job that ends without output. -/
def jobEnd (code : Nat) : JobWork := ⟨code, [], none, none⟩

/-- The engine a job occupies. -/
inductive Unit_
  | none | aes | pq | keccak
deriving DecidableEq, Repr

/-- The engine of an operation. -/
def opUnit (op : Nat) : Unit_ :=
  if 1 ≤ op && op ≤ 9 then .aes
  else if 0x0D ≤ op && op ≤ 0x0F then .pq
  else if op = 0x0C then .keccak
  else .none

/-- Whether the ML-DSA engine works for the device: it signs a checkpoint, or serves an image or firmware check, the verification of a
join, or an attestation of the management port (R403, R405). -/
def Dev.pqDevice (d : Dev) : Bool :=
  d.sec.ckptBody.isSome || d.img.check.isSome || d.mgmt.verifying || (d.drv.joining.any (fun j => j.response.isSome)) ||
    (d.mgmt.executing.any (fun r => r.cmd = 0x21 || r.cmd = 0x42))

/-- Whether a host job is on the ML-DSA engine. -/
def Dev.pqHost (d : Dev) : Bool := d.sec.running.any (fun j => opUnit j.job.op = .pq)

/-- Whether a job of the device that is ready for the ML-DSA engine must wait for one that runs there. -/
def Dev.pqTaken (d : Dev) : Bool := d.pqHost || d.sec.ckptBody.isSome

/-- Whether the ML-DSA engine is busy, as PQ_STATUS shows it (R420). -/
def Dev.pqBusy (d : Dev) : Bool := d.pqDevice || d.pqHost

/-- Whether a checkpoint that is due could be signed now: it goes before host jobs (R403). -/
def Dev.ckptDue (d : Dev) : Bool :=
  match d.sec.ckptWant with
  | some reason => d.recorderRuns && (reason = 3 || d.sec.sinceCkpt ≠ 0)
  | none => false

/-- Whether an operation's engine is free; an AES core is shared with the MAC jobs, which go ahead of the host's (R396). -/
def Dev.unitFree (d : Dev) (op : Nat) : Bool :=
  match opUnit op with
  | .none => true
  | .aes => (d.sec.running.filter (fun j => j.aes)).length < 2
  | .pq => !d.pqBusy && !d.ckptDue
  | .keccak => !d.sec.running.any (fun j => opUnit j.job.op = .keccak)

/-- FREE of CPH_STATUS. -/
def Dev.showFree (d : Dev) : Dev := d.put Fld.CPH_STATUS_FREE (16 - d.sec.jobs.length)

/-- Puts a job among those that have started. -/
def Dev.enterRunning (r : RunJob) (d : Dev) : Dev :=
  ({ d with sec := { d.sec with running := d.sec.running ++ [r] } }).coreMark

/-- The job at the head leaves the FIFO. -/
def Dev.popJob (d : Dev) : Dev := ({ d with sec := { d.sec with jobs := d.sec.jobs.drop 1 } }).showFree

/-- Jobs at the head with an OP that R398 does not list end at once with E_VERSION. -/
def Dev.skipUnlisted : Nat → Dev → Dev
  | 0, d => d
  | n + 1, d =>
    match d.sec.jobs with
    | j :: _ =>
      if (1 ≤ j.op && j.op ≤ 0x0F) || 20 ≤ d.sec.running.length then d
      else Dev.skipUnlisted n (d.popJob.enterRunning ⟨j, E_VERSION, [], none, false, none, none⟩)
    | [] => d

/-- Whether a job reads host memory (R342). -/
def Job.fetches (j : Job) : Bool := ((1 ≤ j.op && j.op ≤ 9) || 0x0C ≤ j.op) && (j.len ≠ 0 || j.auxLen ≠ 0)

/-- Starts the job at the head of the FIFO where it is of the operation, its engine is free and the part may fetch its input. -/
def Dev.startJob (op : Nat) (work : Job → Dev → JobWork × Dev) (d : Dev) : Dev :=
  match d.sec.jobs with
  | [] => d
  | j :: _ =>
    if j.op ≠ op || !d.inService || 20 ≤ d.sec.running.length || !d.unitFree op || (j.fetches && !d.mayMaster) then d
    else
      let d := d.popJob
      let slot := if (opFields op).any (fun r => r.1 ≤ 1 && 1 ≤ r.2) then some j.keySlot else none
      let (w, d) := work j d
      let d := d.enterRunning ⟨j, w.code, w.result, slot, opUnit op = .aes, if w.bulk.isSome then some j.queue else none, w.key⟩
      let d := match w.bulk with
        | some bs => d.offerRecord j.queue ⟨6, j.tag, 0, false, op = 4, d.frc.toNat, 0, bs, w.code, .cipher j.id⟩
        | none => d
      d.skipUnlisted 16

/-- Input read from host memory; none where a read failed or gave another number of bytes. -/
def readInput (x : Option (List Byte)) (n : Nat) : Option (List Byte) :=
  match x with
  | some bs => if bs.length = n then some bs else none
  | none => if n = 0 then some [] else none

/-- A job whose input could not be read: E_PERM, its declared output zero-filled (R400). -/
def readFailed (out : Option Nat) : JobWork := ⟨E_PERM, [], out.map (fun n => List.replicate n 0), none⟩

/-- A record that would exceed its ring is counted as any record refused with E_LEN (R327). -/
def Dev.refusedLen (j : Job) (codes : List Nat) (d : Dev) : Dev :=
  if codes.getLastD 0 = E_LEN then d.countLenRef j.queue else d

/-- An authentication failure of a host GCM or CMAC job (R400). -/
def Dev.authFailed (d : Dev) : Dev := (d.bump Fld.CPH_AUTHFAIL_COUNT).raise 355

/-- The key of a job's slot. -/
def Dev.jobKey (d : Dev) (j : Job) : List Byte := (d.keySlot j.keySlot).key

/-- Runs `f` where no code stands against the job. -/
def whenOk (codes : List Nat) (d : Dev) (f : Unit → JobWork × Dev) : JobWork × Dev :=
  let c := lowestCode codes
  if c = E_OK then f () else (jobEnd c, d)

/-- XTS (R385, R398). -/
def Dev.xtsJob (enc : Bool) (input : Option (List Byte)) (j : Job) (d : Dev) : JobWork × Dev :=
  let out := d.outCodes j true j.len
  let d := d.refusedLen j out
  whenOk (j.formCodes ++ out ++ [if j.len % 16 = 0 then lenCode j.len 16 65536 else E_LEN] ++
    d.keyCodes j (if enc then 0 else 1) [32, 64]) d (fun _ =>
    match readInput input j.len with
    | none => (readFailed (some j.len), d)
    | some bs => (⟨E_OK, [], some (beBytes j.len (Config.xts enc (d.jobKey j) (j.bytes 32 16) bs)), none⟩, d))

/-- XTS_ENC. -/
def execXtsEnc (input : Option (List Byte)) (s : State) : Out := run (Dev.startJob 0x01 (Dev.xtsJob true input)) s

/-- XTS_DEC. -/
def execXtsDec (input : Option (List Byte)) (s : State) : Out := run (Dev.startJob 0x02 (Dev.xtsJob false input)) s

/-- The checks of a GCM job. -/
def Dev.gcmCodes (d : Dev) (j : Job) (use : Nat) : List Nat × List Nat :=
  let out := if j.len = 0 then [] else d.outCodes j true j.len
  (j.formCodes ++ out ++ [lenCode j.len 0 1048576, lenCode j.auxLen 0 65536] ++ d.keyCodes j use aesLens, out)

/-- The bulk output of a GCM job: no record where LEN is 0. -/
def gcmBulk (n : Nat) (bs : List Byte) : Option (List Byte) := if n = 0 then none else some bs

/-- GCM_ENC. -/
def execGcmEnc (input aad : Option (List Byte)) (s : State) : Out :=
  run (Dev.startJob 0x03 (fun j d =>
    let (codes, out) := d.gcmCodes j 0
    let d := d.refusedLen j out
    whenOk codes d (fun _ =>
      match readInput input j.len, readInput aad j.auxLen with
      | some bs, some ad =>
        let key := d.jobKey j
        let ct := beBytes j.len (Config.gcm key (j.bytes 32 12) bs)
        (⟨E_OK, beBytes 16 (Config.gcmTag key (j.bytes 32 12) ad ct), gcmBulk j.len ct, none⟩, d)
      | _, _ => (readFailed (if j.len = 0 then none else some j.len), d)))) s

/-- GCM_DEC. -/
def execGcmDec (input aad : Option (List Byte)) (s : State) : Out :=
  run (Dev.startJob 0x04 (fun j d =>
    let (codes, out) := d.gcmCodes j 1
    let d := d.refusedLen j out
    whenOk codes d (fun _ =>
      match readInput input j.len, readInput aad j.auxLen with
      | some bs, some ad =>
        let key := d.jobKey j
        let plain := gcmBulk j.len (beBytes j.len (Config.gcm key (j.bytes 32 12) bs))
        if beBytes 16 (Config.gcmTag key (j.bytes 32 12) ad bs) = j.bytes 48 16 then (⟨E_OK, [], plain, none⟩, d)
        else (⟨E_AUTH, [], plain, none⟩, d.authFailed)
      | _, _ => (readFailed (if j.len = 0 then none else some j.len), d)))) s

/-- CMAC_GEN. -/
def execCmacGen (input : Option (List Byte)) (s : State) : Out :=
  run (Dev.startJob 0x05 (fun j d =>
    whenOk (j.formCodes ++ [lenCode j.len 0 65536] ++ d.keyCodes j 2 aesLens) d (fun _ =>
      match readInput input j.len with
      | none => (readFailed none, d)
      | some bs => (⟨E_OK, cmac (d.jobKey j) bs, none, none⟩, d)))) s

/-- CMAC_VER. -/
def execCmacVer (input : Option (List Byte)) (s : State) : Out :=
  run (Dev.startJob 0x06 (fun j d =>
    let n := j.num 6 1
    whenOk (j.formCodes ++ [lenCode j.len 0 65536, lenCode n 4 16] ++ d.keyCodes j 3 aesLens) d (fun _ =>
      match readInput input j.len with
      | none => (readFailed none, d)
      | some bs =>
        if (cmac (d.jobKey j) bs).take n = j.bytes 48 n then (jobEnd E_OK, d) else (jobEnd E_AUTH, d.authFailed)))) s

/-- A refused unwrap (R389). -/
def Dev.unwrapRefused (c : Nat) (d : Dev) : JobWork × Dev := (jobEnd c, (d.bump Fld.KS_STATUS_REFUSED).raise 354)

/-- A job that ends with a key for its target slot, which it holds back until it completes (R389, R390, R399). -/
def keyEnd (t : Nat) (attr : Word) (origin : Nat) (key : List Byte) : JobWork :=
  ⟨E_OK, [], none, some (t, BitVec.ofNat 32 (attr.toNat + 2 ^ 31 + origin * 2 ^ 28), key)⟩

/-- UNWRAP. -/
def execUnwrap (blob : Option (List Byte)) (s : State) : Out :=
  run (Dev.startJob 0x07 (fun j d =>
    let codes := j.formCodes ++ d.keyCodes j 5 aesLens ++
      [lenCode j.len 40 88, if j.len % 8 = 0 then E_OK else E_ALIGN]
    if lowestCode codes ≠ E_OK then d.unwrapRefused (lowestCode codes)
    else
      match readInput blob j.len with
      | none => d.unwrapRefused E_PERM
      | some bs =>
        match Config.kwpUnwrap (d.jobKey j) bs with
        | none => d.unwrapRefused E_AUTH
        | some plain =>
          let t := leNat ((plain.drop 1).take 1)
          let keyLen := leNat ((plain.drop 2).take 2)
          let attr : Word := BitVec.ofNat 32 (leNat ((plain.drop 4).take 4))
          let key := plain.drop 16
          let codes := [if plain.getD 0 0 = 1 && ((plain.drop 8).take 8).all (fun b => b = 0) then E_OK else E_VERSION,
            if 16 ≤ plain.length && key.length = keyLen then E_OK else E_LEN] ++ d.targetCodes t attr keyLen
          if lowestCode codes ≠ E_OK then d.unwrapRefused (lowestCode codes)
          else (keyEnd t attr 1 key, d))) s

/-- WRAP. -/
def execWrap (input : Option (List Byte)) (s : State) : Out :=
  run (Dev.startJob 0x08 (fun j d =>
    let n := roundUp8 j.len + 8
    let out := d.outCodes j true n
    let d := d.refusedLen j out
    whenOk (j.formCodes ++ out ++ [lenCode j.len 1 4096] ++ d.keyCodes j 4 aesLens) d (fun _ =>
      match readInput input j.len with
      | none => (readFailed (some n), d)
      | some bs => (⟨E_OK, [], some (beBytes n (Config.kwpWrap (d.jobKey j) bs)), none⟩, d)))) s

/-- The target and attribute word of DERIVE and GENERATE. -/
def Job.target (j : Job) : Nat × Word := (j.num 32 1, BitVec.ofNat 32 (j.num 36 4))

/-- DERIVE. -/
def execDerive (label : Option (List Byte)) (s : State) : Out :=
  run (Dev.startJob 0x09 (fun j d =>
    let (t, attr) := j.target
    let n := lencBytes (bits attr.toNat 27 25)
    whenOk (j.formCodes ++ [lenCode j.auxLen 1 64] ++ d.keyCodes j 7 aesLens ++ d.targetCodes t attr n) d (fun _ =>
      match readInput label j.auxLen with
      | none => (readFailed none, d)
      | some l => (keyEnd t attr 2 (kdf (d.jobKey j) l [] n), d)))) s

/-- GENERATE. -/
def execGenerate (s : State) : Out :=
  run (Dev.startJob 0x0A (fun j d =>
    let (t, attr) := j.target
    let n := lencBytes (bits attr.toNat 27 25)
    whenOk (j.formCodes ++ [d.drbgCode] ++ d.targetCodes t attr n) d (fun _ =>
      let (key, d) := d.randomBytes n
      (keyEnd t attr 3 key, d)))) s

/-- RANDOM. -/
def execRandom (s : State) : Out :=
  run (Dev.startJob 0x0B (fun j d =>
    let out := d.outCodes j false j.len
    let d := d.refusedLen j out
    whenOk (j.formCodes ++ out ++ [lenCode j.len 1 4096, d.drbgCode]) d (fun _ =>
      let (bs, d) := d.randomBytes j.len
      (⟨E_OK, [], some bs, none⟩, d)))) s

/-- SHAKE. -/
def execShake (input : Option (List Byte)) (s : State) : Out :=
  run (Dev.startJob 0x0C (fun j d =>
    let n := j.num 32 4
    let out := d.outCodes j false n
    let d := d.refusedLen j out
    whenOk (j.formCodes ++ out ++ [lenCode j.len 0 1048576, lenCode n 1 4096]) d (fun _ =>
      match readInput input j.len with
      | none => (readFailed (some n), d)
      | some bs => (⟨E_OK, [], some (shake256 bs n), none⟩, d)))) s

/-- MLDSA_VER. -/
def execMldsaVer (message keySig : Option (List Byte)) (s : State) : Out :=
  run (Dev.startJob 0x0D (fun j d =>
    whenOk (j.formCodes ++ [lenCode j.len 0 65536, lenCode j.auxLen 5261 5261]) d (fun _ =>
      match readInput message j.len, readInput keySig j.auxLen with
      | some m, some ks => (jobEnd (if verifySig (ks.take 1952) m (ks.drop 1952) then E_OK else E_AUTH), d)
      | _, _ => (readFailed none, d)))) s

/-- MLDSA_SIGN (R403): the blob is unwrapped under the slot, its header checked. -/
def execMldsaSign (message blob : Option (List Byte)) (s : State) : Out :=
  run (Dev.startJob 0x0E (fun j d =>
    let out := d.outCodes j true 3309
    let d := d.refusedLen j out
    whenOk (j.formCodes ++ out ++ [lenCode j.len 0 65536, lenCode j.auxLen 4056 4056, d.drbgCode] ++ d.keyCodes j 6 aesLens) d
      (fun _ =>
      match readInput message j.len, readInput blob j.auxLen with
      | some m, some b =>
        let (code, sk) := unwrapSigner (d.jobKey j) b
        if code ≠ E_OK then (jobEnd code, d)
        else
          match d.sign sk m with
          | (some g, d) => (⟨E_OK, [], some g, none⟩, d)
          | (none, d) => (jobEnd E_TIMEOUT, d)
      | _, _ => (readFailed none, d)))) s

/-- ATTEST. -/
def execAttest (nonce : Option (List Byte)) (s : State) : Out :=
  run (Dev.startJob 0x0F (fun j d =>
    let out := d.outCodes j false 3565
    let d := d.refusedLen j out
    whenOk (j.formCodes ++ out ++ [lenCode j.len 32 32, d.drbgCode]) d (fun _ =>
      match readInput nonce j.len with
      | none => (readFailed none, d)
      | some n =>
        let (code, rep, d) := d.attest n
        (if code = E_OK then ⟨E_OK, [], some rep, none⟩ else jobEnd code, d)))) s

/-! ### Submission and completion (R397, R401) -/

/-- The descriptor a path submits: the registers, or the management port's own copy. -/
def Dev.jobDescriptor (d : Dev) (mgmt : Bool) : List Byte :=
  ((List.range 16).map (fun k =>
    leBytes 4 (if mgmt then (Tab.get (fun _ => 0) d.sec.mgmtDesc k).toNat else (d.rd (Reg.CPH_JD k)).toNat))).flatten

/-- CPH_SUBMIT with GO. -/
def Dev.submitJob (mgmt : Bool) (d : Dev) : Dev :=
  let j : Job := ⟨d.sec.jobCount, d.jobDescriptor mgmt, mgmt⟩
  if !d.inService || 16 ≤ d.sec.jobs.length || (mgmt && j.op ≠ 0x07 && j.op ≠ 0x0F) then d.put Fld.CPH_STATUS_CODE E_PERM
  else
    ((({ d with sec := { d.sec with jobs := d.sec.jobs ++ [j], jobCount := d.sec.jobCount + 1 } }).skipUnlisted 16).showFree).put
      Fld.CPH_STATUS_CODE E_OK

/-- Posts a completion: an entry in the FIFO of 32 and CPH_VEC, or a loss. -/
def Dev.postDone (j : Job) (code : Nat) (result : List Byte) (d : Dev) : Dev :=
  if 32 ≤ d.sec.done.length then
    ({ d with sec := { d.sec with doneLost := min (d.sec.doneLost + 1) 65535 } }).bump Fld.CPH_DONE_OVF_COUNT
  else
    let w0 := BitVec.ofNat 32 (2 ^ 31 + b2n (d.sec.doneLost ≠ 0) * 2 ^ 30 + code * 2 ^ 16 + j.tag)
    let w1 := BitVec.ofNat 32 (j.op * 2 ^ 24 + d.sec.doneLost)
    let d := { d with sec := { d.sec with done := d.sec.done ++ [(⟨w0, w1, result⟩ : CphEntry)], doneLost := 0 } }
    d.sendVector d.sec.cphVec

/-- The key a job held back enters its target slot (R389, R390), unless the slot has been locked meanwhile (R385; log entry
223). Answers the job's code. -/
def Dev.keyIn (r : RunJob) (d : Dev) : Nat × Dev :=
  match r.keyOut with
  | some (t, attr, key) =>
    if r.code ≠ E_OK then (r.code, d)
    else if (d.keySlot t).locked then
      (E_PERM, d.onlyIf (r.job.op = 0x07) (fun d => (d.bump Fld.KS_STATUS_REFUSED).raise 354))
    else (E_OK, ((d.keepMac t).writeKey t attr key).onlyIf (r.job.op = 0x07) (Dev.recAppendFree 0x000B [t, 1]))
  | none => (r.code, d)

/-- A started job whose record has been dealt with completes. -/
def Dev.completeJob (r : RunJob) (d : Dev) : Dev :=
  let d := ({ d with sec := { d.sec with running := d.sec.running.filter (fun x => x.job.id ≠ r.job.id) } }).coreMark
  let (code, d) := d.keyIn r
  let d := d.onlyIf (opUnit r.job.op = .pq) (Dev.pqCode code)
  d.postDone r.job code (if code = E_OK then r.result else [])

/-- CIPHER_JOB_DONE. -/
def execCipherJobDone (i : Fin 20) (s : State) : Out :=
  run (fun d =>
    match d.sec.running[i.val]? with
    | some r => if r.record.isSome then d else (d.completeJob r).skipUnlisted 16
    | none => d) s

/-- The jobs a mode that takes none ends with E_PERM (R417: DOZE); those that have started and wait for nothing complete. -/
def Dev.flushJobs (d : Dev) : Dev :=
  let waiting := d.sec.jobs
  let d := d.each (d.sec.running.filter (fun r => r.record.isNone)) Dev.completeJob
  let d := ({ d with sec := { d.sec with jobs := [] } }).showFree
  d.each waiting (fun j => Dev.postDone j E_PERM [])

/-- A read of CPH_DONE_W0: the oldest completion leaves, its words 1 to 5 are latched for the path (R147). -/
def Dev.cphRead (p : Path) (d : Dev) : Word × Dev :=
  match d.sec.done with
  | [] => (0, d)
  | e :: es =>
    let d := { d with sec := { d.sec with done := es } }
    let w (k : Nat) : Word := BitVec.ofNat 32 (leNat ((e.result.drop (4 * k)).take 4))
    (e.w0, (d.putLatched p (Reg.CPH_DONE_W 0) e.w1).each [0, 1, 2, 3] (fun k => Dev.putLatched p (Reg.CPH_DONE_W (k + 1)) (w k)))

/-- CPH_DONE_READ. -/
def execCphDoneRead (p : Path) (s : State) : Out :=
  runRead p (Reg.CPH_DONE_W0) (fun d =>
    let (w, d) := d.cphRead p
    d.emit (.data p Reg.CPH_DONE_W0 w.toNat)) s

/-- CPH_LOAD_UPDATE: at the end of a 1 ms FRC interval, the share of it each core was busy, per mille. -/
def execCphLoadUpdate (s : State) : Out :=
  run (fun d =>
    let ms := d.frc.toNat / 1000000
    let into := d.frc.toNat % 1000000
    let core (x : Fld) (c : Nat) (d : Dev) : Dev :=
      let b := Tab.get (fun _ => (none, 0)) d.sec.coreBusy c
      let n := match b.1 with
        | some t => b.2 + (d.tns - into - t)
        | none => b.2
      let b' : Option Nat × Nat := (b.1.map (fun t => max t (d.tns - into)), 0)
      let d := d.put x (min (n / 1000) 1000)
      { d with sec := { d.sec with coreBusy := Tab.set (fun _ => (none, 0)) d.sec.coreBusy c b' } }
    d.onlyIf (d.keysRun && d.sec.cphMs < ms) (fun d =>
      let d := core Fld.CPH_LOAD_CORE1 1 (core Fld.CPH_LOAD_CORE0 0 d)
      { d with sec := { d.sec with cphMs := ms } })) s

end Sys2Proof.Machine
end

