-- ==== Sys2Proof/Machine/Switch.lean ====
section
/-! DEFINITION. The Ethernet switch up to its outputs (chapter 07): MAC checks, classification, learning and lookup, the frames
before admission, a cut-through frame under way, links, wake patterns, MDIO. -/

namespace Sys2Proof.Machine

/-! ### Ports -/

/-- What the switch keeps of a port. -/
def Dev.swPort (d : Dev) (p : Nat) : SwPort := Tab.get (fun _ => swPortIdle) d.sw.ports p

/-- Changes what the switch keeps of a port. -/
def Dev.onSwPort (p : Nat) (f : SwPort → SwPort) (d : Dev) : Dev :=
  { d with sw := { d.sw with ports := Tab.set (fun _ => swPortIdle) d.sw.ports p (f (d.swPort p)) } }

/-- The configuration of a port in use. -/
def Dev.swCfg (d : Dev) (p : Nat) : Option SwPortCfg := Tab.get (fun _ => none) d.sw.cfg p

/-- Whether the switch forwards (R263, R265). -/
def Dev.swRuns (d : Dev) : Bool := d.sw.on && d.inService

/-- Whether a port has link. -/
def Dev.swLink (d : Dev) (p : Nat) : Bool := d.flag (Fld.ETH_STATUS_LINK p)

/-- The queue of a class at an output, oldest first. -/
def SwPort.queue (x : SwPort) (c : Nat) : List SwEntry := Tab.get (fun _ => []) x.queues c

/-- Changes the queue of a class at an output. -/
def Dev.onSwQueue (p c : Nat) (f : List SwEntry → List SwEntry) (d : Dev) : Dev :=
  d.onSwPort p (fun x => { x with queues := Tab.set (fun _ => []) x.queues c (f (x.queue c)) })

/-- A frame in the cell buffer. -/
def Dev.swFrame (d : Dev) (i : Nat) : Option SwFrame := Tab.get (fun _ => none) d.sw.frames i

/-- Sets a frame of the cell buffer. -/
def Dev.putSwFrame (i : Nat) (f : Option SwFrame) (d : Dev) : Dev :=
  { d with sw := { d.sw with frames := Tab.set (fun _ => none) d.sw.frames i f } }

/-! ### Frame fields -/

/-- The big-endian 16-bit number at a byte of a frame. -/
def be16 (bs : List Byte) (i : Nat) : Nat := beNat ((bs.drop i).take 2)

/-- The outer TPID of a port (R231). -/
def Dev.tpid (d : Dev) (p : Nat) : Nat :=
  match d.swCfg p with
  | some c => if c.tpidAd then 0x88A8 else 0x8100
  | none => 0x8100

/-- The number of VLAN tags a frame carries at a port, up to two. -/
def Dev.tagCount (d : Dev) (p : Nat) (bs : List Byte) : Nat :=
  if be16 bs 12 ≠ d.tpid p then 0 else if be16 bs 16 = 0x8100 then 2 else 1

/-- The size limit of a port for a frame with `t` tags (R231, R233). -/
def Dev.swLimit (d : Dev) (p t : Nat) : Nat := d.fld (Fld.ETH_CFG_MAXFRAME p) + 4 * t

/-- MAXFRAME of a port as it stood at a time: a write acts on frames whose first byte arrives after it (R233). -/
def Dev.maxFrameAt (d : Dev) (p time : Nat) : Nat :=
  match ((d.swPort p).limits.filter (fun e => time < e.1)).getLast? with
  | some e => e.2
  | none => d.fld (Fld.ETH_CFG_MAXFRAME p)

/-- The size limit of a port for a frame with `t` tags whose first byte arrived at a time. -/
def Dev.swLimitAt (d : Dev) (p t time : Nat) : Nat := d.maxFrameAt p time + 4 * t

/-- The EtherType after `t` tags. -/
def etherType (bs : List Byte) (t : Nat) : Nat := be16 bs (12 + 4 * t)

/-- Cells of a frame whose bytes, without FCS, are `n` (R244). -/
def cellsOf (n : Nat) : Nat := (n + 255) / 256

/-- IEEE 802.3 CRC-32 of a byte list: reflected, initial all ones, complemented (R242). -/
def crc32 (bs : List Byte) : Nat :=
  (bs.foldl (fun c b => (List.range 8).foldl (fun c _ => if c % 2 = 1 then c / 2 ^^^ 0xEDB88320 else c / 2) (c ^^^ b.toNat)) 0xFFFFFFFF)
    ^^^ 0xFFFFFFFF

/-- The 44-byte flow key (R242). -/
def flowKey (ingress cls vid t : Nat) (bs : List Byte) : List Byte :=
  let ty := etherType bs t
  let ip := 14 + 4 * t
  let head := leBytes 1 ingress ++ leBytes 1 cls ++ beBytes 2 vid ++ beBytes 2 ty
  let ports (proto at_ : Nat) : List Byte := if proto = 6 || proto = 17 then bytesAt bs at_ 4 else List.replicate 4 0
  if ty = 0x0800 then
    let ihl := 4 * ((bs.getD ip 0).toNat % 16)
    let proto := (bs.getD (ip + 9) 0).toNat
    let fragment := be16 bs (ip + 6) % 2 ^ 14 ≠ 0
    head ++ bytesAt bs (ip + 12) 4 ++ List.replicate 12 0 ++ bytesAt bs (ip + 16) 4 ++ List.replicate 12 0 ++ leBytes 1 proto ++ [0] ++
      (if fragment then List.replicate 4 0 else ports proto (ip + ihl))
  else if ty = 0x86DD then
    let proto := (bs.getD (ip + 6) 0).toNat
    head ++ bytesAt bs (ip + 8) 16 ++ bytesAt bs (ip + 24) 16 ++ leBytes 1 proto ++ [0] ++ ports proto (ip + 40)
  else
    head ++ bytesAt bs 6 6 ++ List.replicate 10 0 ++ bytesAt bs 0 6 ++ List.replicate 10 0 ++ [0, 0] ++ List.replicate 4 0

/-- The bytes a frame leaves an output with, FCS apart (R238); a frame that loses its tag is filled up to 60 bytes (log entry 24). -/
def Dev.egressBytes (d : Dev) (p : Nat) (f : SwFrame) : List Byte :=
  let body := if f.tagged then f.bytes.take 12 ++ f.bytes.drop 16 else f.bytes
  if bit (Tab.get (fun _ => (0, 0)) d.sw.vlans f.vid).2 p then body ++ List.replicate (60 - body.length) 0
  else body.take 12 ++ beBytes 2 (d.tpid p) ++ beBytes 2 (f.pcp * 8192 + f.vid) ++ body.drop 12

/-- Whether a frame is over an output's limit as it stood at a time (R233): at enqueue that of its first byte, at dequeue now. -/
def Dev.egressOver (d : Dev) (p : Nat) (f : SwFrame) (time : Nat) : Bool :=
  let bs := d.egressBytes p f
  d.swLimitAt p (d.tagCount p bs) time < bs.length + 4

/-- The FCS of a frame (R232): the CRC-32 of its bytes. -/
def fcsOf (bs : List Byte) : Word := BitVec.ofNat 32 (crc32 bs)

/-- The switch-core cycle, at 800 MHz, that a time in ns lies in (R241, R249). -/
def switchCycle (time : Nat) : Nat := time * 4 / 5

/-! ### Cells (R245) -/

/-- use_{p,c}; a class has 3 bits. -/
def Dev.useClass (d : Dev) (p c : Nat) : Nat := d.fld (Fld.ETH_QFILL_FILL p (c % 8))

/-- Sets free(S); SW_FREE shows it and its lowest value. -/
def Dev.putFree (v : Int) (d : Dev) : Dev :=
  let d := { d with sw := { d.sw with free := v } }
  (d.put Fld.SW_FREE_FREE v.toNat).put Fld.SW_FREE_MIN (min (d.fld Fld.SW_FREE_MIN) v.toNat)

/-- Changes the cells an output counts for a class. -/
def Dev.addUse (p c : Nat) (n : Int) (d : Dev) : Dev :=
  let a := ((d.useClass p c : Nat) + n).toNat
  let b := ((d.fld (Fld.ETH_USE_USE p) : Nat) + n).toNat
  (((d.put (Fld.ETH_QFILL_FILL p (c % 8)) a).peak (Fld.ETH_QFILL_PEAK p (c % 8)) a).put (Fld.ETH_USE_USE p) b).peak (Fld.ETH_USE_PEAK p) b

/-- A frame leaves an output's account; its cells return to S when no other output holds it (R247, R248). -/
def Dev.swRelease (p i : Nat) (d : Dev) : Dev :=
  match d.swFrame i with
  | none => d
  | some f =>
    let d := d.addUse p f.cls (-(f.cells : Int))
    let outs := f.outs.filter (· ≠ p)
    if outs.isEmpty then (d.putSwFrame i none).putFree (d.sw.free + f.cells) else d.putSwFrame i (some { f with outs := outs })

/-! ### Before admission (R249, R258) -/

/-- Whether the scheduler sees a queued frame: from the cycle after its admission (R249). -/
def Dev.visible (d : Dev) (e : SwEntry) : Bool := switchCycle e.at_ < switchCycle d.tns

/-- The time an output has been held in all. -/
def Dev.heldTotal (d : Dev) (p : Nat) : Nat :=
  (d.swPort p).heldNs + (match (d.swPort p).heldAt with | some t => d.tns - t | none => 0)

/-- A frame joins those that wait for admission: behind the ones that completed before it, and among those of its own cycle in
ascending ingress port order (R249). -/
def admInsert (f : SwFrame) : List SwFrame → List SwFrame
  | [] => [f]
  | g :: gs => if switchCycle g.done = switchCycle f.done && f.ingress < g.ingress then f :: g :: gs else g :: admInsert f gs

/-- Cells of a port's headroom that frames before admission hold. -/
def Dev.headroomUsed (d : Dev) (p : Nat) : Nat :=
  (d.sw.adm.filter (fun f => f.ingress = p)).foldl (fun n f => n + f.cells) 0

/-! ### Classification, learning, lookup (R235 to R239) -/

/-- The outputs and the class override a destination finds; `found`: through an entry. -/
structure SwRoute where
  outs : List Nat
  cls : Option Nat
  found : Bool
deriving DecidableEq, Repr

/-- The ports of a mask, ascending. -/
def portsOf (mask : Nat) : List Nat := (List.range 15).filter (fun p => bit mask p)

/-- Lookup of a destination (R236); a broadcast frame is flooded. -/
def Dev.swLookup (d : Dev) (ingress dst vid : Nat) : SwRoute :=
  let member := (Tab.get (fun _ => (0, 0)) d.sw.vlans vid).1
  let flood : SwRoute := ⟨(portsOf member).filter (fun p => match d.swCfg p with | some c => c.flood && p ≠ ingress | none => false), none, false⟩
  if dst = 2 ^ 48 - 1 then flood
  else
    match d.sw.fdb.find? (fun e => e.mac = dst && e.vid = vid) with
    | some e => ⟨(portsOf e.mask).filter (· ≠ ingress), e.cls, true⟩
    | none =>
      match Tab.find (fun k _ => k = 4096 * dst + vid) d.sw.learned with
      | some (_, p, _) => ⟨[p].filter (· ≠ ingress), none, true⟩
      | none => flood

/-- Learning of a source address (R236). -/
def Dev.swLearn (port : Nat) (src vid : Nat) (d : Dev) : Dev :=
  let key := 4096 * src + vid
  let unicast := (src / 2 ^ 40) % 2 = 0
  let on := match d.swCfg port with | some c => c.learn | none => false
  if !on || !unicast || d.sw.fdb.any (fun e => e.mac = src && e.vid = vid) then d
  else
    let known := (Tab.keys d.sw.learned).contains key
    if !known && 8192 ≤ d.sw.learned.length + d.sw.fdb.length then (d.bump Fld.SW_FDB_OVF).raise 260
    else
      let d := { d with sw := { d.sw with learned := Tab.set (fun _ => (15, 0)) d.sw.learned key (port, d.tns) } }
      d.put Fld.SW_FDB_DYN d.sw.learned.length

/-- VID and PCP of a frame at a port (R235). -/
def Dev.swVlan (d : Dev) (p : Nat) (c : SwPortCfg) (bs : List Byte) : Nat × Nat :=
  if d.tagCount p bs = 0 then (c.pvid, 0)
  else
    let tci := be16 bs 14
    (if tci % 4096 = 0 then c.pvid else tci % 4096, tci / 8192)

/-- Whether a VID includes a port as a member. -/
def Dev.vlanMember (d : Dev) (vid p : Nat) : Bool := bit (Tab.get (fun _ => (0, 0)) d.sw.vlans vid).1 p

/-- Whether a destination is one of 01-80-C2-00-00-00 to -0F (R237). -/
def reservedDst (bs : List Byte) : Bool := beNat (bs.take 6) / 16 = 0x0180C200000

/-- The class of a frame (R239): the entry's override, CLASSMAP by PCP, DEFCLASS. -/
def swClass (c : SwPortCfg) (tagged : Bool) (pcp : Nat) (override : Option Nat) : Nat :=
  match override with
  | some k => k
  | none => if tagged then bits c.classMap (3 * pcp + 2) (3 * pcp) else c.defCls

/-- Whether a gPTP frame is one of a host-served domain, which goes to the host queue PTP_Q (R136, R237, R346). The domain number
stands in byte 4 of the PTP header that follows the EtherType (log entry 23). -/
def Dev.gptpToHost (t : Nat) (bs : List Byte) (d : Dev) : Bool :=
  let domain := (bs.getD (18 + 4 * t) 0).toNat
  d.hq.ptpQ ≠ 0xFF && [0, 1].any (fun k =>
    (Tab.get (fun _ => tdNone) d.time.cfg k).present && d.flag (Fld.TB_TD_STATUS_SERVO k) && d.fld (Fld.TB_TD_STATUS_DOMNUM k) = domain)

/-- Classification, learning and lookup of a frame that has passed the MAC, its first byte at time `first`; it joins the frames that
wait for admission. -/
def Dev.swClassify (port : Nat) (c : SwPortCfg) (bs : List Byte) (clsGiven : Option Nat) (ns frac : Nat) (tsReq desc : Option (Nat × Nat))
    (first : Nat) (d : Dev) : Dev :=
  let t := d.tagCount port bs
  let (vid, pcp) := d.swVlan port c bs
  let frame (cls : Nat) (outs : List Nat) : SwFrame :=
    ⟨bs, port, vid, pcp, t ≠ 0, cls, cellsOf bs.length, ns, frac, tsReq, desc, outs, first, d.tns⟩
  let queue (f : SwFrame) (d : Dev) : Dev := { d with sw := { d.sw with adm := admInsert f d.sw.adm } }
  let src := beNat (bytesAt bs 6 6)
  if !d.vlanMember vid port then d.bump (Fld.ETH_VLANDROP_COUNT port)
  else if reservedDst bs then
    let d := d.swLearn port src vid
    if etherType bs t = 0x88F7 then d.onlyIf (d.gptpToHost t bs && port ≠ 12) (queue (frame (swClass c (t ≠ 0) pcp none) [12]))
    else if port = 12 then d
    else if d.swLink 12 then queue (frame 7 [12]) d
    else d.bump (Fld.ETH_LINKDOWN_DROPS 12)
  else
    let d := d.swLearn port src vid
    let r := d.swLookup port (beNat (bytesAt bs 0 6)) vid
    queue (frame (clsGiven.getD (swClass c (t ≠ 0) pcp r.cls)) r.outs) d

/-- A received frame counts at its port (R231). -/
def Dev.countRx (port len : Nat) (d : Dev) : Dev :=
  (d.bump (Fld.ETH_RX_FRAMES_COUNT port)).putPair (Fld.ETH_RX_OCT_LO_OCTETS port) (Fld.ETH_RX_OCT_HI_OCTETS port)
    ((d.pair (Fld.ETH_RX_OCT_LO_OCTETS port) (Fld.ETH_RX_OCT_HI_OCTETS port) + len) % 2 ^ 40)

/-- A receive error of an external port (FS244 to FS255). -/
def Dev.rxError (port : Nat) (x : Fld) (d : Dev) : Dev :=
  let d := d.bump x
  if port < 12 then d.raise (244 + port) else d

/-- The checks of the receive MAC (R231, R232), with the count they end in: where they pass, `f` goes on. -/
def Dev.macChecks (port : Nat) (bs : List Byte) (fcsOk : Bool) (first : Nat) (f : Dev → Dev) (d : Dev) : Dev :=
  if bs.length + 4 < 64 then d.rxError port (Fld.ETH_RUNT_COUNT port)
  else if d.swLimitAt port (d.tagCount port bs) first < bs.length + 4 then d.rxError port (Fld.ETH_OVERSIZE_INGRESS port)
  else if !fcsOk then d.rxError port (Fld.ETH_FCS_COUNT port)
  else f (d.countRx port (bs.length + 4))

/-- A whole frame, without FCS, enters a port, its first byte at time `first`: the checks of R231 to R234, MAC control (R230), then
classification. -/
def Dev.swEnter (port : Nat) (bytes : List Byte) (fcsOk : Bool) (clsGiven : Option Nat) (ns frac : Nat)
    (tsReq desc : Option (Nat × Nat)) (first : Nat) (d : Dev) : Dev :=
  match d.swCfg port with
  | none => d
  | some c =>
    let bs := if port = 12 || port = 13 then bytes ++ List.replicate (60 - bytes.length) 0 else bytes
    d.macChecks port bs fcsOk first (fun d =>
      if etherType bs (d.tagCount port bs) = 0x8808 then d.bump (Fld.ETH_MACCTRL_COUNT port)
      else d.swClassify port c bs clsGiven ns frac tsReq desc first)

/-! ### Cut-through (R250, R251) -/

/-- The output whose cut-through frame comes from a port. -/
def Dev.cutOutput (d : Dev) (port : Nat) : Option Nat :=
  (List.range 12).find? (fun p => match (d.swPort p).tx with | some x => x.cutFrom = some port | none => false)

/-- The bytes of a cut-through frame as a frame of the buffer. -/
def Dev.cutFrame (d : Dev) (port cls : Nat) (bs : List Byte) : SwFrame :=
  let (vid, pcp) := match d.swCfg port with
    | some c => d.swVlan port c bs
    | none => (0, 0)
  ⟨bs, port, vid, pcp, d.tagCount port bs ≠ 0, cls, cellsOf bs.length, 0, 0, none, none, [], 0, 0⟩

/-- The cells of what an output is transmitting, cut-through, return to S. -/
def Dev.cutRelease (p : Nat) (x : SwTx) (d : Dev) : Dev :=
  ((d.onSwPort p (fun y => { y with tx := none })).addUse p x.cls (-(x.cells : Int))).putFree (d.sw.free + x.cells)

/-- What has left of a cut-through frame when `bs` of it have come in and left. -/
def Dev.cutSent (d : Dev) (port : Nat) (bs : List Byte) : List Byte :=
  match d.cutOutput port with
  | none => []
  | some p =>
    match (d.swPort p).tx with
    | none => []
    | some x => d.egressBytes p (d.cutFrame port x.cls bs)

/-- A cut-through frame is ended with the complement of the FCS of the bytes it has sent. -/
def Dev.stomp (port : Nat) (sent : List Byte) (d : Dev) : Dev :=
  match d.cutOutput port with
  | none => d
  | some p =>
    match (d.swPort p).tx with
    | none => d
    | some x =>
      (((d.cutRelease p x).bump (Fld.ETH_STOMP_COUNT p)).raise 259).emit (.ethStomp p (sent ++ leBytes 4 (~~~(fcsOf sent)).toNat))

/-- Whether the ingress port of a cut-through frame has lost link since the frame began. -/
def Dev.cutBroken (d : Dev) (port : Nat) : Bool :=
  match d.cutOutput port with
  | some p => match (d.swPort p).tx with | some x => x.broken | none => false
  | none => false

/-- STOMP, with the bytes of the frame that have come in and left. The ingress counter of a link loss is ETH_LINKDOWN.EVENTS, which
the loss itself has counted. -/
def execStomp (port : Fin 12) (cause : StompCause) (bytes : List Byte) (s : State) : Out :=
  run (fun d => d.onlyIf (d.swRuns && (d.cutOutput port.val).isSome) (fun d =>
    let sent := d.cutSent port.val bytes
    match cause with
    | .fcs => (d.rxError port.val (Fld.ETH_FCS_COUNT port.val)).stomp port.val sent
    | .oversize => (d.rxError port.val (Fld.ETH_OVERSIZE_INGRESS port.val)).stomp port.val sent
    | .linkLoss => d.onlyIf (d.cutBroken port.val) (Dev.stomp port.val sent))) s

/-- The last byte of a cut-through frame has arrived: it is stomped where it is bad, otherwise its cells are corrected. -/
def Dev.cutComplete (port p : Nat) (bs : List Byte) (fcsOk : Bool) (first : Nat) (d : Dev) : Dev :=
  match (d.swPort p).tx, d.swCfg port with
  | some x, some c =>
    let t := d.tagCount port bs
    let lim := d.swLimitAt port t first
    if lim < bs.length + 4 then (d.rxError port (Fld.ETH_OVERSIZE_INGRESS port)).stomp port (d.cutSent port (bs.take (lim - 4)))
    else if !fcsOk then (d.rxError port (Fld.ETH_FCS_COUNT port)).stomp port (d.cutSent port bs)
    else
      let n := cellsOf bs.length
      let f := d.cutFrame port x.cls bs
      let d := (d.countRx port (bs.length + 4)).swLearn port (beNat (bytesAt bs 6 6)) (d.swVlan port c bs).1
      let d := (d.addUse p x.cls ((n : Int) - x.cells)).putFree (d.sw.free + x.cells - n)
      d.onSwPort p (fun y => { y with tx := some { x with cutFrom := none, cells := n, bytes := d.egressBytes p f } })
  | _, _ => d

/-- Whether an enabled wake pattern names a port (R259). -/
def Dev.watched (d : Dev) (port : Nat) : Bool :=
  (List.range 16).any (fun k => bit (d.fld Fld.SW_WAKE_EN) k &&
    (match Tab.get (fun _ => none) d.sw.wakes k with | some w => bit w.ports port | none => false))

/-- Whether the PCS and receive MAC of an external port run: with the switch, and in DOZE on a watched port (R259, R263). -/
def Dev.rxRuns (d : Dev) (port : Nat) : Bool := d.swRuns || (d.sw.on && d.mode = .doze && d.watched port)

/-- ETH_FRAME_RECEIVE: the last byte of a frame arrives, with its FCS and whether all its code groups were good; its timestamp point,
with its first byte, passed `age` ns ago. A frame caught partly across the port's crossing when its half-reset began is discarded and counted (R442). In DOZE only the MAC takes it, and nothing is forwarded (R259). A cut-through frame whose
link was lost is stomped first: what arrives is another frame. -/
def execEthFrameReceive (port : Fin 12) (bytes : List Byte) (fcs : Word) (codeOk : Bool) (age : BitVec 32) (s : State) : Out :=
  run (fun d =>
    if d.rxRuns port.val && (d.swCfg port.val).isSome && d.caught (3 + port.val) age.toNat then d.rxError port.val (Fld.ETH_FCS_COUNT port.val)
    else d.onlyIf (d.rxRuns port.val && d.swLink port.val && !d.halfReset (3 + port.val)) (fun d =>
    let i := port.val
    let fcsOk := codeOk && fcs = fcsOf bytes
    let first := d.tns - age.toNat
    let d := d.onlyIf (d.cutBroken i) (fun d => d.stomp i (((d.cutOutput i).bind (fun p => (d.swPort p).tx)).map (·.bytes) |>.getD []))
    match d.cutOutput i with
    | some p => d.cutComplete i p bytes fcsOk first
    | none =>
      if !d.swRuns then d.macChecks i bytes fcsOk first (fun d =>
        d.onlyIf (etherType bytes (d.tagCount i bytes) = 0x8808) (Dev.bump (Fld.ETH_MACCTRL_COUNT i)))
      else if (d.swPort i).cutLost then
        (d.onSwPort i (fun x => { x with cutLost := false })).macChecks i bytes fcsOk first (fun d =>
          match d.swCfg i with
          | some c => d.swLearn i (beNat (bytesAt bytes 6 6)) (d.swVlan i c bytes).1
          | none => d)
      else
        let ts := (d.rxStamp i - 65536 * (age.toNat : Int)).toNat
        d.swEnter i bytes fcsOk none (ts / 65536) (ts % 65536) none none first)) s

/-! ### Links (R257) -/

/-- Every queued frame of an output is flushed. -/
def Dev.swFlush (p : Nat) (lost : Bool) (d : Dev) : Dev :=
  d.each (List.range 8) (fun c d =>
    let q := (d.swPort p).queue c
    let d := d.onSwQueue p c (fun _ => [])
    d.each q (fun e d =>
      let d := (d.bump (Fld.ETH_FLUSH_COUNT p)).swRelease p e.frame
      if lost then d.raise 258 else d))

/-- The frame an output is transmitting ends, not sent. -/
def Dev.swTxEnds (p : Nat) (lost : Bool) (d : Dev) : Dev :=
  match (d.swPort p).tx with
  | none => d
  | some x =>
    let d := d.bump (Fld.ETH_FLUSH_COUNT p)
    let d := if lost then d.raise 258 else d
    match x.frame, x.cutFrom with
    | some i, _ => (d.onSwPort p (fun y => { y with tx := none })).swRelease p i
    | none, some q => (d.cutRelease p x).onSwPort q (fun y => { y with cutLost := true })
    | none, none => d.cutRelease p x

/-- A port's link is lost: status, count, fault; a frame that was cutting through from it is broken (R251). -/
def Dev.swLinkLost (p : Nat) (d : Dev) : Dev :=
  let d := ((d.putFlag (Fld.ETH_STATUS_LINK p) false).put (Fld.ETH_STATUS_SPEED p) 7).bump (Fld.ETH_LINKDOWN_EVENTS p)
  let d := if p < 12 then d.raise (232 + p) else d
  let d := match d.cutOutput p with
    | some o => d.onSwPort o (fun y => { y with tx := y.tx.map (fun (x : SwTx) => { x with broken := true }) })
    | none => d
  d.onSwPort p (fun x => { x with cutLost := false })

/-- A port loses link. -/
def Dev.swLinkDown (p : Nat) (d : Dev) : Dev :=
  if !d.swLink p then d
  else
    let d := (d.swLinkLost p).swTxEnds p true
    if d.fld (Fld.ETH_CFG_LINGER p) = 0 then (d.swFlush p true).onSwPort p (fun x => { x with lingerOut := true })
    else (d.onSwPort p (fun x => { x with lingerAt := some d.tns })).putFlag (Fld.ETH_STATUS_LINGER p) true

/-- A port gains link at a speed. -/
def Dev.swLinkUp (p speed : Nat) (d : Dev) : Dev :=
  if d.swLink p || (d.swCfg p).isNone then d
  else
    (((d.putFlag (Fld.ETH_STATUS_LINK p) true).put (Fld.ETH_STATUS_SPEED p) speed).putFlag (Fld.ETH_STATUS_LINGER p) false).onSwPort p
      (fun x => { x with lingerAt := none, lingerOut := false, backAt := d.tns })

/-- The link state of a port as it has come over its crossing (R440): 0 none, else the speed code plus 1. -/
def Dev.portTaken (p : Nat) (d : Dev) : Dev :=
  match (d.crossing (3 + p)).taken with
  | 0 => d.onlyIf (d.swLink p) (fun d => if d.swRuns then d.swLinkDown p else d.swLinkLost p)
  | v + 1 => d.swLinkUp p v

/-- A port's link state as its receive side sees it; during a mismatch of the port's crossing group it waits there (R442). -/
def Dev.portLink (p v : Nat) (d : Dev) : Dev := (d.crossWrite (3 + p) v).onlyIf (!d.halfReset (3 + p)) (Dev.portTaken p)

/-- PORT_LINK_DOWN; an in-band report of half duplex is a link loss, counted also on a port that is down. A loss of lock or
synchronisation resets the receive side until it has retrained (R441). -/
def execPortLinkDown (port : Fin 12) (halfDuplex : Bool) (s : State) : Out :=
  run (fun d => d.onlyIf (d.rxRuns port.val && (d.swCfg port.val).isSome) (fun d =>
    let was := d.swLink port.val
    ((d.portLink port.val 0).onlyIf (halfDuplex && !was) (Dev.bump (Fld.ETH_LINKDOWN_EVENTS port.val))).onlyIf (was && !halfDuplex)
      (Dev.halfResetStart (3 + port.val) true))) s

/-- The speeds an interface has (R228), by its MODE (R264): 10GBASE-R, USXGMII, SGMII, 2500BASE-X. -/
def modeSpeeds : Nat → List Nat
  | 1 => [5]
  | 2 => [0, 1, 2, 3, 4, 5]
  | 3 => [0, 1, 2]
  | 4 => [3]
  | _ => []

/-- PORT_LINK_UP at a speed of the port's interface. -/
def execPortLinkUp (port : Fin 12) (speed : Fin 6) (s : State) : Out :=
  run (fun d => d.onlyIf (d.rxRuns port.val && (modeSpeeds (d.fld (Fld.ETH_STATUS_MODE port.val))).contains speed.val)
    (fun d => (d.retrained (3 + port.val)).portLink port.val (speed.val + 1))) s

/-- LINGER_EXPIRY; in the cycle in which LINGER runs out a link return still wins. -/
def execLingerExpiry (port : Fin 15) (s : State) : Out :=
  run (fun d =>
    let p := port.val
    match (d.swPort p).lingerAt with
    | some t =>
      d.onlyIf (d.swRuns && t + 1000000 * d.fld (Fld.ETH_CFG_LINGER p) < d.tns) (fun d =>
        ((d.swFlush p true).onSwPort p (fun x => { x with lingerAt := none, lingerOut := true })).putFlag (Fld.ETH_STATUS_LINGER p) false)
    | none => d) s

/-- Port 12 follows the PCI Express link and Bus Master Enable (R229). -/
def Dev.hostPort (d : Dev) : Dev :=
  if !d.swRuns then d else if d.mayMaster then d.swLinkUp 12 6 else d.swLinkDown 12

/-- A transmit hold on a port begins or ends (R258); the gPTP messages that waited for its end go then (R137). -/
def Dev.swHold (p : Nat) (on : Bool) (d : Dev) : Dev :=
  if d.flag (Fld.ETH_STATUS_HELD p) = on then d
  else
    ((d.putFlag (Fld.ETH_STATUS_HELD p) on).onSwPort p (fun x =>
      if on then { x with heldAt := some d.tns }
      else { x with heldNs := x.heldNs + (d.tns - x.heldAt.getD d.tns), heldAt := none })).onlyIf (!on) (Dev.gptpRelease p)

/-- FDB_AGE_OUT. -/
def execFdbAgeOut (mac : BitVec 48) (vid : BitVec 12) (s : State) : Out :=
  run (fun d =>
    let key := 4096 * mac.toNat + vid.toNat
    match Tab.find (fun k _ => k = key) d.sw.learned with
    | some (_, _, seen) =>
      d.onlyIf (d.swRuns && seen + 1000000000 * d.fld Fld.SW_AGING ≤ d.tns) (fun d =>
        let d := { d with sw := { d.sw with learned := Tab.drop (fun k => k = key) d.sw.learned } }
        d.put Fld.SW_FDB_DYN d.sw.learned.length)
    | none => d) s

/-! ### Wake patterns and MDIO (R259, R260) -/

/-- Whether a frame matches a wake pattern. -/
def WakePat.matches (w : WakePat) (port : Nat) (bs : List Byte) : Bool :=
  bit w.ports port &&
    crcLeft 16 0x1021 0xFFFF ((List.range 128).map (fun i => bs.getD i 0 &&& w.mask.getD i 0)) = w.check

/-- WAKE_PATTERN_MATCH: a frame that passes R231 and R232 has arrived in DOZE; ETH_FRAME_RECEIVE counts it. -/
def execWakePatternMatch (port : Fin 12) (bytes : List Byte) (s : State) : Out :=
  run (fun d => d.onlyIf (d.mode = .doze && (d.swCfg port.val).isSome && d.swLink port.val && 60 ≤ bytes.length &&
      bytes.length + 4 ≤ d.swLimit port.val (d.tagCount port.val bytes)) (fun d =>
    match (List.range 16).find? (fun k => bit (d.fld Fld.SW_WAKE_EN) k &&
        (match Tab.get (fun _ => none) d.sw.wakes k with | some w => w.matches port.val bytes | none => false)) with
    | none => d
    | some k =>
      let d := if d.flag Fld.SW_WAKE_SRC_WOKE then d
        else ((d.putFlag Fld.SW_WAKE_SRC_WOKE true).put Fld.SW_WAKE_SRC_PATTERN k).put Fld.SW_WAKE_SRC_PORT port.val
      d.wake 2 k false)) s

/-- A write of SW_MDIOm_CMD (R260, R266): while a transaction runs it only sets COLL; MDC 3 is refused and changes no other field;
outside service the fields are written but no master runs (R263). -/
def Dev.mdioStart (m : Nat) (w : Word) (d : Dev) : Dev :=
  if d.flag (Fld.SW_MDIO_CMD_BUSY m) then d.putFlag (Fld.SW_MDIO_CMD_COLL m) true
  else if bits w.toNat 27 26 = 3 then d.put (Fld.SW_MDIO_CMD_CODE m) E_PERM
  else
    let d := if w.getLsbD 7 then d.putFlag (Fld.SW_MDIO_CMD_COLL m) false else d
    let d := d.wr (Reg.SW_MDIO_CMD m)
      (BitVec.ofNat 32 (setBits (setBits w.toNat 31 31 0) 15 0 ((d.rd (Reg.SW_MDIO_CMD m)).toNat % 65536)))
    if !(w.getLsbD 31 && d.inService) then d
    else
      let d := d.putFlag (Fld.SW_MDIO_CMD_BUSY m) true
      if Tab.get (fun _ => false) d.sw.mdioPins m then d.emit (.mdio m (d.rd (Reg.SW_MDIO_CMD m)).toNat (d.fld (Fld.SW_MDIO_DATA m))) else d

/-- MDIO_START. -/
def execMdioStart (p : Path) (m : Fin 2) (w : Word) (s : State) : Out := runWrite p (Reg.SW_MDIO_CMD m.val) w.toNat (Dev.mdioStart m.val w) s

/-- MDIO_DONE. -/
def execMdioDone (m : Fin 2) (data : BitVec 16) (s : State) : Out :=
  run (fun d => d.onlyIf (d.inService && d.flag (Fld.SW_MDIO_CMD_BUSY m.val)) (fun d =>
    let d := d.putFlag (Fld.SW_MDIO_CMD_BUSY m.val) false
    if !Tab.get (fun _ => false) d.sw.mdioPins m.val then d.put (Fld.SW_MDIO_CMD_CODE m.val) E_ABSENT
    else
      let d := d.put (Fld.SW_MDIO_CMD_CODE m.val) E_OK
      if 2 ≤ d.fld (Fld.SW_MDIO_CMD_OP m.val) then d.put (Fld.SW_MDIO_DATA m.val) data.toNat else d)) s

/-! ### Settings, entry, DOZE -/

/-- A write of ETH_CFG (R266); a refused write changes no field. -/
def Dev.ethCfgWrite (p : Nat) (w : Word) (d : Dev) : Dev :=
  let mf := bits w.toNat 31 18
  let ceiling := match d.swCfg p with | some c => c.ceiling | none => 0
  let code := lowestCode [if mf < 1518 || ceiling < mf then E_LEN else E_OK, if 1000 < bits w.toNat 9 0 then E_PERM else E_OK]
  let d := d.put (Fld.ETH_STATUS_CODE p) code
  let log (x : SwPort) : SwPort :=
    { x with limits := (d.tns, d.fld (Fld.ETH_CFG_MAXFRAME p)) :: x.limits.filter (fun e => d.tns < e.1 + 2 ^ 32) }
  if code = E_OK then (((d.onSwPort p log).put (Fld.ETH_CFG_MAXFRAME p) mf).put (Fld.ETH_CFG_LINGER p) (bits w.toNat 9 0)).storeSetting (Reg.ETH_CFG p)
  else d

/-- A write of ETH_AGE. -/
def Dev.ethAgeWrite (p : Nat) (w : Word) (d : Dev) : Dev :=
  if 1000 < bits w.toNat 9 0 then d.put (Fld.ETH_STATUS_CODE p) E_PERM
  else ((d.put (Fld.ETH_AGE_MAX_AGE p) (bits w.toNat 9 0)).storeSetting (Reg.ETH_AGE p)).put (Fld.ETH_STATUS_CODE p) E_OK

/-- The queues are empty, nothing is learned, links train, but for the ports whose link `keep` says stays. -/
def Dev.swClear (keep : Nat → Bool) (d : Dev) : Dev :=
  let d := { d with sw := { d.sw with ports := [], learned := [], frames := [], adm := [] } }
  let d := d.each (List.range 15) (fun p d =>
    let d := d.onlyIf (!keep p) (fun d =>
      ((d.putFlag (Fld.ETH_STATUS_LINK p) false).put (Fld.ETH_STATUS_SPEED p) 7).onCrossing (3 + p) (fun _ => crossIdle))
    let d := d.putFlag (Fld.ETH_STATUS_LINGER p) false
    let d := d.each (List.range 8) (fun c => Dev.put (Fld.ETH_QFILL_FILL p c) 0)
    d.put (Fld.ETH_USE_USE p) 0)
  let s := 32768 - d.fld Fld.SW_HEADROOM_TOTAL
  let d := ((d.put Fld.SW_FDB_DYN 0).put Fld.SW_FREE_FREE s).put Fld.SW_FREE_MIN s
  { d with sw := { d.sw with free := (s : Int) } }

/-- Entry to RUN, and return from DOZE, which keeps the counters (R263). -/
def Dev.swEntry (keep : Bool) (d : Dev) : Dev :=
  if !d.sw.on then d
  else
    let d := d.swClear (fun _ => false)
    let d := if keep then d else
      let d := d.each (List.range 15) (fun p d =>
        { d with regs := ((d.regs.dropRange (Reg.ETH_QFILL p 0) 0x20).dropRange (Reg.ETH_RX_FRAMES p) 0xC0) })
      (d.each [0, 1, 2, 3] (fun k => Dev.wr (Reg.SW_PLANE k) 0)).put Fld.SW_FDB_OVF 0
    ((d.swLinkUp 13 6).swLinkUp 14 6).hostPort

/-- The switch stops: every queued frame is flushed and counted, an MDIO transaction ends. In DOZE the watched ports keep their link
(R259). -/
def Dev.swDoze (d : Dev) : Dev :=
  let d := (d.putFlag (Fld.SW_MDIO_CMD_BUSY 0) false).putFlag (Fld.SW_MDIO_CMD_BUSY 1) false
  if !d.sw.on then d
  else (d.each (List.range 15) (fun p d => (d.swTxEnds p false).swFlush p false)).swClear (fun p => d.mode = .doze && p < 12 && d.watched p)

end Sys2Proof.Machine
end

