-- ==== Sys2Proof/Machine/Ring.lean ====
section
/-! DEFINITION. Drover, the ring controller (chapter 08): received frames and their checks, batches, order, requests and credits,
exports, membership, joins, quarantine. -/

namespace Sys2Proof.Machine

/-! ### Nodes -/

/-- What Drover keeps of a node. -/
def Dev.node (d : Dev) (n : Nat) : RingNode := Tab.get (fun _ => ringNodeIdle) d.drv.nodes n

/-- Changes what Drover keeps of a node. -/
def Dev.onNode (n : Nat) (f : RingNode → RingNode) (d : Dev) : Dev :=
  { d with drv := { d.drv with nodes := Tab.set (fun _ => ringNodeIdle) d.drv.nodes n (f (d.node n)) } }

/-- The roster entry of a node. -/
def Dev.roster (d : Dev) (n : Nat) : Option RingRoster := Tab.get (fun _ => none) d.drv.roster n

/-- STATE of a node is member. -/
def Dev.isMember (d : Dev) (n : Nat) : Bool := d.fld (Fld.RING_NODE_STAT_STATE n) = 2

/-- The members. -/
def Dev.members (d : Dev) : List Nat := (Tab.keys d.drv.roster).filter d.isMember

/-- AUTHB of a node. -/
def Dev.authb (d : Dev) (n : Nat) : Bool :=
  match d.roster n with
  | some r => r.authb
  | none => false

/-- Whether a lane is used. -/
def Dev.laneUsed (d : Dev) (lane : Nat) : Bool := if lane = 0 then d.drv.laneA else d.drv.laneB

/-- The link bit of a lane. -/
def laneFld (lane : Nat) : Fld := if lane = 0 then Fld.RING_STATUS_A_LINK else Fld.RING_STATUS_B_LINK

/-- The lanes that carry frames. -/
def Dev.lanesUp (d : Dev) : List Nat := [0, 1].filter (fun l => d.laneUsed l && d.flag (laneFld l))

/-- Whether Drover runs (R304). -/
def Dev.ringRuns (d : Dev) : Bool := d.inService && (d.drv.laneA || d.drv.laneB)

/-- Sets STATE of a node; MEMBERS follows. -/
def Dev.putNodeState (n st : Nat) (d : Dev) : Dev :=
  let d := d.put (Fld.RING_NODE_STAT_STATE n) st
  d.put Fld.RING_STATUS_MEMBERS d.members.length

/-! ### Sending (R269, R270, R273, R275, R297) -/

/-- The bytes of a device frame on a lane (R269): addresses, EtherType, the header with the lane's DIR, the payload, zero bytes up to a
length of 64, the FCS. -/
def ringWire (lane : Nat) (header payload : List Byte) : List Byte :=
  let bs := [0x0F, 0x52, 0x4C, 0x4E, 0, 0, 0x0E, 0x52, 0x4C, 0x4E, 0, 0, 0x88, 0xB5] ++ header.take 3 ++ leBytes 1 (128 * lane) ++
    header.drop 4 ++ payload
  let bs := bs ++ List.replicate (60 - bs.length) 0
  bs ++ leBytes 4 (fcsOf bs).toNat

/-- How many frames of a sequence may still go now: 64 in any 600 µs (R275); `ts` are the times of the last ones. -/
def Dev.paceLeft (d : Dev) (ts : List Nat) : Nat := 64 - (ts.filter (fun t => decide (d.tns < t + 600000))).length

/-- The times of a sequence after a frame of it now. -/
def Dev.paced (d : Dev) (ts : List Nat) : List Nat := ts.filter (fun t => decide (d.tns < t + 600000)) ++ [d.tns]

/-- The 16 header bytes as the MAC sees them: byte 3 is 0. -/
def ringHeader (version type src dst seq len credit txn session : Nat) : List Byte :=
  leBytes 1 (version * 16 + type) ++ leBytes 1 src ++ leBytes 1 dst ++ [0] ++ beBytes 2 seq ++ beBytes 2 len ++ leBytes 1 credit ++
    leBytes 1 txn ++ beBytes 2 session ++ [0, 0, 0, 0]

/-- The first 8 bytes of the AES-CMAC of a node's key slot; a free value where the slot has no usable key. -/
def Dev.ringMac (n use : Nat) (msg : List Byte) (d : Dev) : List Byte × Dev :=
  match (d.roster n).bind (fun r => d.usableKey r.keySlot use 8) with
  | some k => ((cmac k msg).take 8, d)
  | none => d.randomBytes 8

/-- Sends a sequenced frame to a member on every lane. -/
def Dev.ringSend (n type txn : Nat) (payload : List Byte) (d : Dev) : Dev :=
  let x := d.node n
  let express := type = 5
  let seq := if express then x.seqExpress else x.seqBulk
  let d := d.onNode n (fun x =>
    if express then { x with seqExpress := (x.seqExpress + 1) % 65536, paceExpress := d.paced x.paceExpress }
    else { x with seqBulk := (x.seqBulk + 1) % 65536, paceBulk := d.paced x.paceBulk })
  let ver := d.fld (Fld.RING_NODE_STAT_VERSION n)
  let session := d.fld (Fld.RING_NODE_STAT_SESSION n)
  let header := ringHeader ver type 0 n seq (payload.length + (if d.authb n then 8 else 0)) x.evDone txn session
  let (mac, d) := if d.authb n then d.ringMac n 2 (header ++ payload) else ([], d)
  d.each d.lanesUp (fun l => Dev.emit (.ringFrame l (ringWire l header (payload ++ mac))))

/-- The trailer of a frame to all nodes (R297, log entry 178): none where no member has AUTHB; made with their KEYSLOT where it is one
and the same, a free value otherwise. -/
def Dev.trailerAll (header payload : List Byte) (d : Dev) : List Byte × Dev :=
  match d.members.filter d.authb with
  | [] => ([], d)
  | n :: ns =>
    if ns.all (fun m => (d.roster m).map (·.keySlot) = (d.roster n).map (·.keySlot)) then d.ringMac n 2 (header ++ payload)
    else d.randomBytes 8

/-- Sends a frame to DST 63 on every lane. VERSION, CREDIT and SESSION of such a frame, and SEQ of an unsequenced one, are free values
(log entry 177). -/
def Dev.ringToAll (type : Nat) (seq : Option Nat) (payload : List Byte) (d : Dev) : Dev :=
  let (o, d) := d.randomBytes 6
  let trailer := type = 4 && !(d.members.filter d.authb).isEmpty
  let header := ringHeader ((o.getD 0 0).toNat % 3 + 1) type 0 63 (seq.getD (be16 o 2)) (payload.length + (if trailer then 8 else 0))
    (o.getD 1 0).toNat 0 (be16 o 4)
  let (mac, d) := if trailer then d.trailerAll header payload else ([], d)
  d.each d.lanesUp (fun l => Dev.emit (.ringFrame l (ringWire l header (payload ++ mac))))

/-! ### The request queue (R282, R283) -/

/-- Whether a node has a free request credit. -/
def RingNode.hasCredit (x : RingNode) : Bool := (x.sent + 256 - x.finished) % 256 < x.reqDepth

/-- Whether a request of the bulk sequence may go to a node now: a credit is free, and the pace of R275 allows it. -/
def Dev.mayBulk (d : Dev) (n : Nat) : Bool := (d.node n).hasCredit && d.paceLeft (d.node n).paceBulk ≠ 0

/-- Whether a request of the express sequence may go. -/
def Dev.mayExpress (d : Dev) (n : Nat) : Bool := (d.node n).hasCredit && d.paceLeft (d.node n).paceExpress ≠ 0

/-- QUEUED shows the fill of a node's queue. -/
def Dev.showQueue (n : Nat) (d : Dev) : Dev := d.put (Fld.RING_NODE_TXN_QUEUED n) (min 64 (d.node n).queue.length)

/-- Whether a node's queue is full. -/
def Dev.ringFull (d : Dev) (n : Nat) : Bool := 64 ≤ (d.node n).queue.length

/-- A thread's job on the ring ends. -/
def Dev.ringJobDone (w : Option (Fin 8 × Fin 4)) (code : Nat) (d : Dev) : Dev :=
  match w with
  | some (e, t) => d.onThread e.val t.val (Thread.jobDone code)
  | none => d

/-- Requests of threads that have come to stand among the 64 entries are queued: the FST completes (R281, R282). -/
def Dev.queueTaken (n : Nat) (d : Dev) : Dev :=
  let d := d.each ((d.node n).queue.take 64) (fun r => Dev.ringJobDone r.waiter E_OK)
  d.onNode n (fun x => { x with queue := (x.queue.take 64).map (fun r => { r with waiter := none }) ++ x.queue.drop 64 })

/-- Whether every share of a broadcast stands among the entries of its member's queue. -/
def Dev.bcastTaken (d : Dev) (id : Nat) : Bool :=
  d.members.all (fun n => !((d.node n).queue.drop 64).any (fun r => r.body = .share id))

/-- Threads whose broadcast write is queued at every member go on. -/
def Dev.bcastsTaken (d : Dev) : Dev :=
  let d := d.each (d.drv.bcast.filter (fun b => d.bcastTaken b.id)) (fun b => Dev.ringJobDone b.waiter E_OK)
  { d with drv := { d.drv with bcast := d.drv.bcast.map (fun b => if d.bcastTaken b.id then { b with waiter := none } else b) } }

/-- READ_REQ or WRITE payload (R279); `data` has the lowest byte first, and goes as one big-endian field (R269), as the data of a
READ_RSP comes. -/
def reqPayload (space size off : Nat) (data : List Byte) : List Byte :=
  leBytes 1 space ++ leBytes 1 size ++ [0, 0] ++ beBytes 4 off ++ data.reverse

/-- The bytes of a SIZE code. -/
def sizeBytes (size : Nat) : Nat := if size = 0 then 4 else if size = 1 then 8 else 16

/-- The first request of a node's queue leaves it and takes a credit. -/
def Dev.popReq (n : Nat) (d : Dev) : Dev :=
  let d := d.onNode n (fun x => { x with queue := x.queue.drop 1, sent := (x.sent + 1) % 256 })
  ((d.queueTaken n).bcastsTaken).showQueue n

/-- DCMDs and events at the head of a node's queue go out while credits last. -/
def Dev.pump (n : Nat) : Nat → Dev → Dev
  | 0, d => d
  | fuel + 1, d =>
    match (d.node n).queue with
    | ⟨.dcmd action cmd exec, _⟩ :: _ =>
      if d.mayExpress n then
        Dev.pump n fuel ((d.ringSend n 5 0 (leBytes 1 cmd ++ [0] ++ beBytes 2 action ++ beBytes 8 exec ++ [0, 0, 0, 0])).popReq n)
      else d
    | ⟨.event bytes, _⟩ :: _ =>
      if d.mayBulk n then Dev.pump n fuel ((d.ringSend n 6 0 (leBytes 1 1 ++ [0] ++ beBytes 2 bytes.length ++ bytes)).popReq n) else d
    | _ => d

/-- Sends what can go to a node. -/
def Dev.pumpAll (n : Nat) (d : Dev) : Dev := d.pump n (d.node n).queue.length

/-- A request joins a node's queue: a DCMD behind the DCMDs, any other at the end. -/
def Dev.enqueue (n : Nat) (r : RingReq) (d : Dev) : Dev :=
  let isD (r : RingReq) : Bool := match r.body with | .dcmd _ _ _ => true | _ => false
  let d := d.onNode n (fun x =>
    { x with queue := if isD r then x.queue.takeWhile isD ++ [r] ++ x.queue.dropWhile isD else x.queue ++ [r] })
  ((d.queueTaken n).showQueue n).pumpAll n

/-- A broadcast write joins the queue of every member (R281). -/
def Dev.enqueueAll (space size off : Nat) (data : List Byte) (w : Option (Fin 8 × Fin 4)) (d : Dev) : Dev :=
  let id := d.drv.nextId
  let d := { d with drv := { d.drv with nextId := id + 1, bcast := d.drv.bcast ++ [(⟨id, space, size, off, data, w⟩ : Bcast)] } }
  (d.each d.members (fun n => Dev.enqueue n (⟨.share id, none⟩ : RingReq))).bcastsTaken

/-! ### Reads (R280) -/

/-- Tags in use. -/
def Dev.tagsUsed (d : Dev) : List Nat := d.drv.reads.filterMap (fun r => r.tag)

/-- A read leaves Drover's books. -/
def Dev.forgetRead (r : RingRead) (d : Dev) : Dev :=
  let d := { d with drv := { d.drv with reads := d.drv.reads.filter (fun x => x.id ≠ r.id) } }
  let d := (d.onNode r.node (fun x => { x with queue := x.queue.filter (fun q => q.body ≠ .read r.id) })).put
    Fld.RING_READS_OUTSTANDING d.tagsUsed.length
  (d.queueTaken r.node).showQueue r.node

/-- The tag FLD gives a word read across the ring: of space 1 the node's own with SRC 2 (R57), else of AUTHB (R114). -/
def Dev.ringTagOf (d : Dev) (n : Nat) (v : Nat) (space : Nat) : Tagged :=
  if space = 1 then
    let w := tagged40 v
    ⟨w.value, formTag (.drover true) w.tag⟩
  else ⟨BitVec.ofNat 32 v, mkTag true false false (d.authb n) false 2⟩

/-- Data of space 1 with SRC forced to 2 (R279): the bits of the slot that the read covers. -/
def forceSrc (off size v : Nat) : Nat :=
  if off % 16 = 0 && 1 ≤ size then setBits v 34 32 2
  else if off % 16 = 4 && size = 0 then setBits v 2 0 2
  else v

/-- A read ends: its requester gets the result; the data stand as one number. -/
def Dev.readDone (r : RingRead) (code v : Nat) (d : Dev) : Dev :=
  let d := d.forgetRead r
  match r.by_ with
  | .thread e t => d.onThread e.val t.val (fun th =>
      match th.wait with
      | .job dst _ => { th with wait := .job dst (some (if code = E_OK then d.ringTagOf r.node v r.space else ⟨0, 2⟩, code)) }
      | _ => th)
  | .host =>
    match d.hq.held.find? (fun h => h.1 = r.id) with
    | none => d
    | some (_, req) =>
      let d := { d with hq := { d.hq with held := d.hq.held.filter (fun h => h.1 ≠ r.id) } }
      if code = E_OK then
        d.emit (.completion (some (leBytes (sizeBytes r.size) (if r.space = 1 then forceSrc r.off r.size v else v))))
      else ((d.raise 286).bridgeLog false 1 code req.addr req.len).emit (.completion none)
  | .mgmt =>
    let v := if r.space = 1 then forceSrc r.off r.size v else v
    { d with mgmt := { d.mgmt with ringResult := some (code, leBytes (sizeBytes r.size) v) } }
  | .nobody => d

/-- A requester issues a read to a node (R280): answers its number; a node that is no member answers E_ABSENT at once. -/
def Dev.readIssue (n space size off : Nat) (w : ReqBy) (d : Dev) : Dev :=
  let id := d.drv.nextId
  let r : RingRead := ⟨id, n, space, size, off, d.tns + 1000 * d.fld (Fld.RING_NODE_RD_TMO_RD_TMO n), w, none⟩
  let d := { d with drv := { d.drv with nextId := id + 1, reads := d.drv.reads ++ [r] } }
  if d.isMember n then d.enqueue n ⟨.read id, none⟩ else d.readDone r E_ABSENT 0

/-- A request leaves the head of a node's queue without being sent. -/
def Dev.dropHead (n : Nat) (d : Dev) : Dev :=
  let d := d.onNode n (fun x => { x with queue := x.queue.drop 1 })
  (((d.queueTaken n).bcastsTaken).showQueue n).pumpAll n

/-- The read at the head of a node's queue gets a tag and a credit; one that was withdrawn leaves the queue. -/
def Dev.readSend (n : Nat) (d : Dev) : Dev :=
  match (d.node n).queue with
  | ⟨.read id, _⟩ :: _ =>
    match d.drv.reads.find? (fun r => r.id = id), (List.range 256).find? (fun t => !d.tagsUsed.contains t) with
    | none, _ => d.dropHead n
    | some r, some tag =>
      if !d.mayBulk n then d
      else
        let d := { d with drv := { d.drv with
          reads := d.drv.reads.map (fun (x : RingRead) => if x.id = id then { x with tag := some tag } else x) } }
        let d := d.put Fld.RING_READS_OUTSTANDING d.tagsUsed.length
        ((d.ringSend n 2 tag (reqPayload r.space r.size r.off [])).popReq n).pumpAll n
    | _, none => d
  | _ => d

/-- The pending read whose timeout expired first. -/
def Dev.readTimeout (d : Dev) : Dev :=
  match (d.drv.reads.filter (fun r => r.deadline ≤ d.tns)).foldl (fun (b : Option RingRead) r =>
      match b with
      | some x => if r.deadline < x.deadline then some r else some x
      | none => some r) none with
  | none => d
  | some r => ((d.readDone r E_TIMEOUT 0).bump (Fld.RING_NODE_TXN_RDTMO r.node)).raise 271

/-! ### Writes (R281) -/

/-- The write at the head of a node's queue takes a credit and goes. -/
def Dev.writeSend (n : Nat) (d : Dev) : Dev :=
  match (d.node n).queue with
  | ⟨.write space size off data, _⟩ :: _ =>
    if !d.mayBulk n then d
    else ((d.ringSend n 4 0 (reqPayload space size off data)).popReq n).pumpAll n
  | _ => d

/-- Whether a member is ready for a broadcast: a credit, and its share, where it has one, is the next request. -/
def Dev.bcastReady (d : Dev) (id n : Nat) : Bool :=
  let x := d.node n
  x.hasCredit && (!x.queue.any (fun r => r.body = .share id) || (x.queue.head?.map (fun r => r.body)) = some (.share id))

/-- The oldest broadcast write goes once, taking a credit from every member. -/
def Dev.bcastSend (d : Dev) : Dev :=
  match d.drv.bcast with
  | [] => d
  | b :: bs =>
    if !d.members.all (d.bcastReady b.id) || d.paceLeft d.drv.pace63 = 0 then d
    else
      let seq := d.drv.seq63
      let d := { d with drv := { d.drv with bcast := bs, seq63 := (seq + 1) % 65536, pace63 := d.paced d.drv.pace63 } }
      let d := d.ringToAll 4 (some seq) (reqPayload b.space b.size b.off b.data)
      let d := d.ringJobDone b.waiter E_OK
      d.each d.members (fun n d =>
        let d := d.onNode n (fun x => { x with queue := x.queue.filter (fun r => r.body ≠ .share b.id), sent := (x.sent + 1) % 256 })
        ((d.queueTaken n).showQueue n).pumpAll n)

/-! ### Exports (R278) -/

/-- One entry of an INDEXED batch for a descriptor. -/
def Dev.exportEntry (d : Dev) (desc : Nat) : List Byte :=
  let x := d.evalSlot (bits desc 63 47)
  leBytes 1 x.tag.toNat ++ beBytes 4 x.value.toNat ++ beBytes 3 (min (d.now8 - x.capture).toNat (2 ^ 24 - 1)) ++ beBytes 4 (bits desc 16 0)

/-- The batch header. -/
def batchHeader (format count first : Nat) (capture : Capture) : List Byte :=
  leBytes 1 (16 * format) ++ [0] ++ beBytes 2 count ++ beBytes 4 first ++ beBytes 5 capture.toNat ++ [0, 0, 0]

/-- Sends up to 256 descriptors of a member: one INDEXED batch, or DENSE batches of one entry each to a version 1 node. -/
def Dev.sendBatch (n : Nat) (descs : List Nat) (d : Dev) : Dev :=
  if descs.isEmpty then d
  else if d.fld (Fld.RING_NODE_STAT_VERSION n) = 1 then
    d.each descs (fun desc d =>
      let x := d.evalSlot (bits desc 63 47)
      (d.ringSend n 1 0 (batchHeader 0 1 (bits desc 16 0) x.capture ++ leBytes 1 x.tag.toNat ++ beBytes 4 x.value.toNat)).bump
        (Fld.RING_NODE_EXP_SENT n))
  else
    (d.ringSend n 1 0 (batchHeader 1 descs.length 0 d.now8 ++ (descs.map d.exportEntry).flatten)).bump (Fld.RING_NODE_EXP_SENT n)

/-- The contents of export descriptors. -/
def Dev.descriptors (d : Dev) (is : List Nat) : List Nat := is.filterMap (fun i => Tab.get (fun _ => none) d.drv.exports i)

/-- How many pending descriptors may go to a member now: 256 in one INDEXED batch, one in each DENSE batch of version 1, as the pace
of the bulk sequence allows (R275). -/
def Dev.exportRoom (d : Dev) (n : Nat) : Nat :=
  let left := d.paceLeft (d.node n).paceBulk
  if d.fld (Fld.RING_NODE_STAT_VERSION n) = 1 then left else if left = 0 then 0 else 256

/-- Sends the pending descriptors of a member, 256 to a batch; only full batches unless `all`. Those the pace holds back stay
pending. -/
def Dev.sendExports (n : Nat) (all : Bool) : Nat → Dev → Dev
  | 0, d => d
  | fuel + 1, d =>
    let ps := (d.node n).exports
    let room := d.exportRoom n
    if ps.isEmpty || (!all && ps.length < 256) || room = 0 then d
    else
      let d := d.sendBatch n (d.descriptors (ps.take room))
      let rest := ps.drop room
      Dev.sendExports n all fuel (d.onNode n (fun x => { x with exports := rest, exportAt := if rest.isEmpty then none else x.exportAt }))

/-- IMMEDIATE of an export descriptor. -/
def Dev.immediate (d : Dev) (desc : Nat) : Bool :=
  match Tab.get (fun _ => none) d.drv.exports desc with
  | some v => bit v 31
  | none => false

/-- A KIND 3 route event marks a descriptor pending for a node. -/
def Dev.exportMark (n desc : Nat) (d : Dev) : Dev :=
  if !d.isMember n then d.bump (Fld.RING_NODE_EXP_EXPDROP n)
  else
    let d := d.onNode n (fun x =>
      if x.exports.contains desc then x else { x with exports := x.exports ++ [desc], exportAt := some (x.exportAt.getD d.tns) })
    d.sendExports n (d.immediate desc) (d.node n).exports.length

/-- EXPORT_TIMER. -/
def execExportTimer (n : Fin 63) (s : State) : Out :=
  run (fun d =>
    match (d.node n.val).exportAt with
    | some t =>
      d.onlyIf (d.ringRuns && d.isMember n.val && t + 1000 * d.fld Fld.RING_EXPORT_EXPORT_US ≤ d.tns)
        (fun d => d.sendExports n.val true (d.node n.val).exports.length)
    | none => d) s

/-! ### Leaving (R295) -/

/-- What becomes of a queued request when its node leaves. -/
def Dev.dropReq (n : Nat) (r : RingReq) (d : Dev) : Dev :=
  match r.body with
  | .write _ _ _ _ =>
    match r.waiter with
    | some _ => d.ringJobDone r.waiter E_ABSENT
    | none => (d.bump (Fld.RING_NODE_TXN_WDISC n)).raise 273
  | .share _ => (d.bump (Fld.RING_NODE_TXN_WDISC n)).raise 273
  | .dcmd a _ _ => (d.bump Fld.PH_LATE_COUNT).put Fld.PH_LATE_SLOT a
  | .event _ => d.bump Fld.RING_TUNNEL_DROP
  | .read _ => d

/-- A member leaves; `st`: its STATE afterwards; `gone`: the slots of its window are marked, per R67. -/
def Dev.nodeLeave (n st : Nat) (gone : Bool) (d : Dev) : Dev :=
  if !d.isMember n then d
  else
    let d := d.putNodeState n st
    let d := d.each (d.drv.reads.filter (fun r => r.node = n)) (fun r => Dev.readDone r E_ABSENT 0)
    let q := (d.node n).queue
    let d := d.each q (fun r => Dev.dropReq n r)
    let d := d.onNode n (fun x => { x with queue := [], exports := [], exportAt := none, held := [], paths := 0 })
    let d := (((d.showQueue n).put (Fld.RING_NODE_STAT_PATHS n) 0).put (Fld.RING_NODE_STAT_MISSED n) 0).bcastsTaken
    if gone then d.nodeGone n else d

/-! ### Offences and quarantine (R298, R300) -/

/-- A member's offence; QUAR_N of them within QUAR_WINDOW quarantine it. -/
def Dev.offence (n : Nat) (d : Dev) : Dev :=
  let d := d.onNode n (fun x => { x with offences := x.offences.filter (fun t => d.tns < t + 1000000 * d.drv.quarWindow) ++ [d.tns] })
  if d.isMember n && d.drv.quarN ≤ (d.node n).offences.length then
    ((d.nodeLeave n 3 true).onNode n (fun x => { x with quarAt := some d.tns, offences := [] })).raise 269
  else d

/-- A malformed frame. -/
def Dev.malformed (src : Nat) (d : Dev) : Dev :=
  if d.isMember src then ((d.bump (Fld.RING_NODE_ERR_MALF src)).raise 270).offence src
  else (d.bump Fld.RING_MALFORMED_COUNT).raise 270

/-- The quarantine of a node ends. -/
def Dev.quarEnd (n : Nat) (d : Dev) : Dev :=
  if d.fld (Fld.RING_NODE_STAT_STATE n) = 3 then (d.putNodeState n 0).onNode n (fun x => { x with quarAt := none }) else d

/-- QUARANTINE_EXPIRY. -/
def execQuarantineExpiry (n : Fin 63) (s : State) : Out :=
  run (fun d =>
    match (d.node n.val).quarAt with
    | some t => d.onlyIf (d.ringRuns && d.drv.quarTime ≠ 0 && t + 1000000000 * d.drv.quarTime ≤ d.tns) (Dev.quarEnd n.val)
    | none => d) s

/-- QUAR_CLR: a write of RING_QUAR_CLR with its KEY. -/
def execQuarClr (p : Path) (n : Fin 64) (s : State) : Out := runWrite p Reg.RING_QUAR_CLR n.val (fun d => d.onlyIf (n.val < 63) (Dev.quarEnd n.val)) s

/-! ### Batches (R276, R277) -/

/-- Whether a BATCH payload is well formed; version 1 knows only DENSE. -/
def batchOk (version : Nat) (p : List Byte) : Bool :=
  let format := (p.getD 0 0).toNat / 16
  let count := be16 p 2
  let first := beNat (bytesAt p 4 4)
  let size := if format = 0 then 5 else 12
  16 ≤ p.length && (p.getD 0 0).toNat % 16 = 0 && (format = 0 || (format = 1 && 2 ≤ version)) && p.getD 1 0 = 0 && count ≠ 0 &&
    beNat (bytesAt p 13 3) = 0 && p.length = 16 + count * size &&
    (if format = 0 then decide (first < 2 ^ 17)
     else first = 0 && (List.range count).all (fun i => decide (beNat (bytesAt p (16 + 12 * i + 8) 4) < 2 ^ 17)))

/-- A capture more than 1 µs ahead of the arrival is stored as the arrival. -/
def clampCapture (c now : Capture) : Capture × Bool :=
  let ahead := (c - now).toNat
  if 125 < ahead && ahead < 2 ^ 39 then (now, true) else (c, false)

/-- One entry of a batch: its index, word and capture. -/
structure BatchEntry where
  index : Nat
  word : Tagged
  capture : Capture
  future : Bool
deriving DecidableEq, Repr

/-- The entries of a batch. -/
def batchEntries (p : List Byte) (now : Capture) : List BatchEntry :=
  let cap := BitVec.ofNat 40 (beNat (bytesAt p 8 5))
  let word (i : Nat) : Tagged := ⟨BitVec.ofNat 32 (beNat (bytesAt p (i + 1) 4)), p.getD i 0⟩
  if (p.getD 0 0).toNat / 16 = 0 then
    let (c, f) := clampCapture cap now
    (List.range (be16 p 2)).map (fun i => ⟨beNat (bytesAt p 4 4) + i, word (16 + 5 * i), c, f && i = 0⟩)
  else
    (List.range (be16 p 2)).map (fun i =>
      let at_ := 16 + 12 * i
      let (c, f) := clampCapture (cap - BitVec.ofNat 40 (beNat (bytesAt p (at_ + 5) 3))) now
      ⟨beNat (bytesAt p (at_ + 8) 4), word at_, c, f⟩)

/-- Writes the entries of a batch in order into a node's slot window; a rival takes part in the first write of its slot. -/
def Dev.batchWrite (n : Nat) : List BatchEntry → List StoreReq → Dev → Dev
  | [], _, d => d
  | b :: bs, rivals, d =>
    let (first, count) := d.window n
    let src : StoreSrc := .drover (d.authb n)
    let d := if b.future then d.bump (Fld.RING_NODE_RX_CAPFUT n) else d
    if b.index < count then
      let slot : Fin 131072 := ⟨(first + b.index) % 131072, Nat.mod_lt _ (by decide)⟩
      Dev.batchWrite n bs (rivals.filter (fun r => r.slot ≠ slot)) (d.storeWrite ⟨src, slot, b.word, some b.capture⟩ rivals)
    else Dev.batchWrite n bs rivals (d.storeRefuse src (first + b.index))

/-! ### Delivery (R274, R280, R288, R289) -/

/-- Whether the payload of a sequenced frame of a node is well formed (R298 step 7). -/
def msgOk (version type : Nat) (p : List Byte) : Bool :=
  let b (i : Nat) : Nat := (p.getD i 0).toNat
  if type = 1 then batchOk version p
  else if type = 3 then
    b 0 ≤ 9 && b 1 ≤ 2 && 8 ≤ p.length && beNat (bytesAt p 2 6) = 0 && p.length = 8 + (if b 0 = E_OK then sizeBytes (b 1) else 0)
  else
    let n := be16 p 2
    4 ≤ p.length && b 1 = 0 && p.length = 4 + n && ((b 0 = 1 && 60 ≤ n && n ≤ 9220) || (b 0 = 2 && 8 ≤ n && n ≤ 56))

/-- The port-14 credits in use: tunnel frames queued toward nodes. -/
def Dev.tunnelUsed (d : Dev) : Nat :=
  (Tab.keys d.drv.nodes).foldl (fun k n => k + ((d.node n).queue.filter (fun r => match r.body with | .event _ => true | _ => false)).length) 0

/-- A frame is delivered. -/
def Dev.deliver (n : Nat) (m : RingMsg) (rivals : List StoreReq) (d : Dev) : Dev :=
  if m.type = 1 then
    (d.batchWrite n (batchEntries m.payload (BitVec.ofNat 40 (m.frc / 8))) rivals).bump (Fld.RING_NODE_BATCH_COUNT n)
  else if m.type = 3 then
    match d.drv.reads.find? (fun r => r.node = n && r.tag = some m.txn) with
    | some r => d.readDone r ((m.payload.getD 0 0).toNat) (beNat (m.payload.drop 8))
    | none => d.bump Fld.RING_READS_LATE
  else
    let d := d.onNode n (fun x => { x with evDone := (x.evDone + 1) % 256 })
    let body := m.payload.drop 4
    if (m.payload.getD 0 0).toNat = 1 then
      if (match d.roster n with | some r => r.tunnel | none => false) then d.swEnter 14 body true none m.frc 0 none none d.tns
      else d.bump Fld.RING_TUNNEL_DROP
    else if d.drv.eventQ = 0xFF then d
    else d.offerRecord d.drv.eventQ ⟨4, n, 0, false, false, m.frc, 0, body, E_OK, .event⟩

/-- Whether a frame of a node is a batch with an entry for a slot. -/
def Dev.batchNames (d : Dev) (n : Nat) (m : RingMsg) (slot : Nat) : Bool :=
  m.type = 1 && (batchEntries m.payload (BitVec.ofNat 40 (m.frc / 8))).any (fun b =>
    b.index < (d.window n).2 && ((d.window n).1 + b.index) % 131072 = slot)

/-- Delivers held frames from the next number on, up to the first gap; a rival takes part in the first write of its slot. -/
def Dev.deliverRun (n : Nat) (rivals : List StoreReq) : Nat → Dev → Dev
  | 0, d => d
  | fuel + 1, d =>
    match (d.node n).held with
    | [] => d
    | h :: hs =>
      if h.first ≠ (d.node n).next then d
      else
        let d := d.onNode n (fun x => { x with held := hs, next := (h.seq + 1) % 65536 })
        let rest := match h.msg with
          | some m => rivals.filter (fun r => !d.batchNames n m r.slot.val)
          | none => rivals
        let d := match h.msg with
          | some m => d.deliver n m rivals
          | none => d
        Dev.deliverRun n rest fuel d

/-- How far `b` lies after `a`, modulo 65,536. -/
def seqDist (a b : Nat) : Nat := (b + 65536 - a) % 65536

/-- Places an accepted number among the held ones, in order from `next`; one that has been given up as lost is dropped. -/
def holdInsert (next : Nat) (h : RingHeld) : List RingHeld → List RingHeld
  | [] => [h]
  | x :: xs =>
    if seqDist next h.seq < seqDist next x.first then h :: x :: xs
    else if seqDist next h.seq < seqDist next x.seq then x :: xs
    else x :: holdInsert next h xs

/-- An accepted number passes the order stage, with its message or without. One that lies before the next due number comes too late
for its order: it is discarded (R274, log entry 70). -/
def Dev.inOrder (n seq : Nat) (m : Option RingMsg) (rivals : List StoreReq) (d : Dev) : Dev :=
  if 32768 ≤ seqDist (d.node n).next seq then d
  else
    let d := d.onNode n (fun x => { x with held := holdInsert x.next ⟨seq, seq, m, d.tns⟩ x.held })
    d.deliverRun n rivals (d.node n).held.length

/-- Gives up the missing numbers of the gap that number `m` lies in, `from_` being the first number not yet passed: how many they are,
and the held numbers after it. -/
def gapGiveUp (m from_ : Nat) : List RingHeld → Nat × List RingHeld
  | [] => (0, [])
  | x :: xs =>
    if seqDist from_ m < seqDist from_ x.first then (seqDist from_ x.first, { x with first := from_ } :: xs)
    else
      let r := gapGiveUp m ((x.seq + 1) % 65536) xs
      (r.1, x :: r.2)

/-- The gap that a missing number lies in closes: its numbers are taken as lost. -/
def Dev.closeGap (n m : Nat) (d : Dev) : Dev :=
  let r := gapGiveUp m (d.node n).next (d.node n).held
  let d := (d.count (Fld.RING_NODE_RX_GAP n) r.1).onNode n (fun x => { x with held := r.2 })
  d.deliverRun n [] (d.node n).held.length

/-- ORDER_GAP_TIMEOUT. -/
def execOrderGapTimeout (n : Fin 63) (s : State) : Out :=
  run (fun d =>
    match (d.node n.val).held with
    | [] => d
    | h :: hs =>
      let first := hs.foldl (fun t x => min t x.at_) h.at_
      d.onlyIf (d.ringRuns && first + 200000 ≤ d.tns) (Dev.closeGap n.val (d.node n.val).next)) s

/-! ### The duplicate window and rate limits (R273, R299) -/

/-- What the duplicate window makes of a number. -/
inductive Judged
  | accepted | duplicate | old
deriving DecidableEq, Repr

/-- The judgement of R273, and the window after it. -/
def RingNode.judge (x : RingNode) (seq : Nat) : Judged × RingNode :=
  if !x.started then (.accepted, { x with started := true, high := seq, seen := [seq], next := seq })
  else
    let ahead := (seq + 65536 - x.high) % 65536
    if 1 ≤ ahead && ahead ≤ 32767 then
      (.accepted, { x with high := seq, seen := seq :: x.seen.filter (fun k => (seq + 65536 - k) % 65536 ≤ 63) })
    else if x.seen.contains seq then (.duplicate, x)
    else if (x.high + 65536 - seq) % 65536 ≤ 63 then (.accepted, { x with seen := seq :: x.seen })
    else (.old, x)

/-- Tokens as they stand now. -/
def Dev.refillRate (n : Nat) (d : Dev) : Dev :=
  let fr := d.fld (Fld.RING_NODE_LIMIT_FR n)
  let kb := d.fld (Fld.RING_NODE_LIMIT_KB n)
  d.onNode n (fun x =>
    let dt := d.tns - x.tokAt
    { x with tokF := min 64000000 (x.tokF + fr * dt), tokB := min 16384000000 (x.tokB + kb * 1024 * dt), tokAt := d.tns })

/-- A unique frame of `len` bytes draws its tokens, as far as the bytes reach; false where a bucket is empty, that is, holds no whole
token (R299, log entry 180). -/
def Dev.drawRate (n len : Nat) (d : Dev) : Bool × Dev :=
  let d := d.refillRate n
  let x := d.node n
  if x.tokF < 1000000 || x.tokB < 1000000 then (false, d)
  else (true, d.onNode n (fun x => { x with tokF := x.tokF - 1000000, tokB := x.tokB - len * 1000000 }))

/-- A frame discarded by a rate limit. -/
def Dev.rateDiscard (n : Nat) (d : Dev) : Dev := ((d.bump (Fld.RING_NODE_ERR_RATE n)).raise 272).offence n

/-! ### Beacons of nodes (R285, R286, R290) -/

/-- LAT_n in µs. -/
def ringLat (a b : Option Nat) : Nat :=
  let one (h : Option Nat) : Nat := match h with | some h => (12 * h + 20 + 9) / 10 | none => 80
  max (one a) (one b)

/-- Hops, position, latency bound, paths and delay sample of a node beacon copy. -/
def Dev.beaconCopy (n lane hops : Nat) (p : List Byte) (age : Nat) (d : Dev) : Dev :=
  let cycle := beNat (bytesAt p 0 4)
  let turn := beNat (bytesAt p 4 4)
  let d := d.onNode n (fun x => { x with
    paths := x.paths ||| 2 ^ lane
    hopsA := if lane = 0 then some hops else x.hopsA
    hopsB := if lane = 1 then some hops else x.hopsB })
  let d := d.put (Fld.RING_NODE_LAT n) (ringLat (d.node n).hopsA (d.node n).hopsB)
  let d := d.put (Fld.RING_NODE_STAT_POSITION n) (if lane = 0 then hops + 1 else d.fld Fld.RING_STATUS_K - hops)
  match d.drv.sentAt.find? (fun e => e.1 % 2 ^ 32 = cycle) with
  | some (_, t1) =>
    if turn = 2 ^ 32 - 1 then d
    else
      let sample := (((d.frc.toNat : Int) * 1000 - age - t1 * 1000 - turn) / 2).toNat
      let keep (xs : List Nat) : List Nat := (sample :: xs).take 8
      let least (xs : List Nat) : Nat := xs.foldl min (2 ^ 32 - 1)
      if lane = 0 then
        let d := d.onNode n (fun x => { x with samplesA := keep x.samplesA })
        d.put (Fld.RING_NODE_DELAY_A_DELAY n) (least (d.node n).samplesA)
      else
        let d := d.onNode n (fun x => { x with samplesB := keep x.samplesB })
        d.put (Fld.RING_NODE_DELAY_B_DELAY n) (least (d.node n).samplesB)
  | none => d

/-- Whether a node beacon's payload is well formed. -/
def beaconOk (p : List Byte) : Bool := p.length = 24 && p.getD 9 0 = 0 && beNat (bytesAt p 14 10) = 0

/-- A node beacon copy past the checks of identity and MAC. -/
def Dev.nodeBeacon (n lane hops len : Nat) (p : List Byte) (age : Nat) (d : Dev) : Dev :=
  let cycle := beNat (bytesAt p 0 4)
  let now := d.drv.lastCycle.getD 0 % 2 ^ 32
  let back := (now + 2 ^ 32 - cycle) % 2 ^ 32
  if 3 ≤ back || d.drv.lastCycle.isNone then d.bump (Fld.RING_NODE_DUP_OLD n)
  else if (d.node n).answered.any (fun a => a.1 = cycle) then
    let d := d.bump (Fld.RING_NODE_DUP_DUP n)
    if beaconOk p then d.beaconCopy n lane hops p age else d
  else
    let (ok, d) := d.drawRate n len
    let good := ok && beaconOk p
    let d := d.onNode n (fun x => { x with answered := ((cycle, good) :: x.answered).take 8 })
    if !ok then d.rateDiscard n
    else if !good then d.malformed n
    else
      let d := d.beaconCopy n lane hops p age
      (d.put (Fld.RING_NODE_NODEERR_DLATE n) (be16 p 10)).put (Fld.RING_NODE_NODEERR_WREFUSE n) (be16 p 12)

/-! ### Joining (R292 to R296) -/

/-- The node whose roster entry holds a SERIAL. -/
def Dev.nodeOf (d : Dev) (serial : List Byte) : Option Nat :=
  (Tab.find (fun _ r => match r with | some r => r.serial = serial | none => false) d.drv.roster).map (·.1)

/-- A join attempt that ends without ASSIGN. -/
def Dev.joinEnds (n code : Nat) (d : Dev) : Dev :=
  let d := (((d.bump Fld.RING_JOIN_REFUSED).put Fld.RING_JOIN_NODE n).put Fld.RING_JOIN_CODE code).raise 268
  if d.fld (Fld.RING_NODE_STAT_STATE n) = 1 then d.putNodeState n 0 else d

/-- Sends a JOIN: the step in byte 0, SERIAL in bytes 4 to 19, from byte 20 on the step's fields (R292). What bytes 1 to 3 hold is open:
free values (log entry 177). -/
def Dev.sendJoin (step : Nat) (serial fields : List Byte) (d : Dev) : Dev :=
  let (o, d) := d.randomBytes 3
  d.ringToAll 8 none (leBytes 1 step ++ o ++ serial ++ fields)

/-- A join is refused with a REJECT (R294). -/
def Dev.joinReject (n code : Nat) (serial : List Byte) (d : Dev) : Dev :=
  let d := d.sendJoin 0xFF serial (leBytes 1 code)
  let d := { d with drv := { d.drv with refused := d.drv.refused.filter (fun (r : List Byte × Nat) => d.tns < r.2 + 1000000000) ++ [(serial, d.tns)] } }
  d.joinEnds n code

/-- SERIAL of a JOIN payload. -/
def joinSerial (p : List Byte) : List Byte := bytesAt p 4 16

/-- A HELLO. -/
def Dev.joinHello (p : List Byte) (d : Dev) : Dev :=
  let serial := joinSerial p
  if d.drv.refused.any (fun r => r.1 = serial && d.tns < r.2 + 1000000000) then d
  else
    match d.nodeOf serial with
    | none => d.joinReject 0 E_PERM serial
    | some n =>
      if d.fld (Fld.RING_NODE_STAT_STATE n) = 3 then d.joinReject n E_PERM serial
      else if d.drv.joinQ.any (fun h => h.node = n) || (match d.drv.joining with | some j => j.hello.node = n | none => false) then d
      else if 8 ≤ d.drv.joinQ.length then d.bump Fld.RING_JOIN_REFUSED
      else
        let h : Hello := ⟨n, (p.getD 20 0).toNat, (p.getD 21 0).toNat, p⟩
        let d := { d with drv := { d.drv with joinQ := d.drv.joinQ ++ [h] } }
        let d := d.put Fld.RING_JOIN_QUEUE d.drv.joinQ.length
        if d.isMember n then d else d.putNodeState n 1

/-- A JOIN frame of a node: HELLO (46 bytes or more, REQ_DEPTH 1 to 64) or RESPONSE (SERIAL, key, signature, in that order). -/
def Dev.joinFrame (src : Nat) (p : List Byte) (d : Dev) : Dev :=
  let step := (p.getD 0 0).toNat
  let depth := (p.getD 21 0).toNat
  if step = 1 && 46 ≤ p.length && 1 ≤ depth && depth ≤ 64 then d.joinHello p
  else if step = 3 && p.length = 20 + 1952 + 3309 then
    match d.drv.joining with
    | some j =>
      if joinSerial j.hello.payload = joinSerial p && j.response.isNone && d.tns ≤ j.since + 20000000 then
        { d with drv := { d.drv with joining := some { j with response := some (bytesAt p 20 1952, bytesAt p 1972 3309) } } }
      else d
    | none => d
  else d.malformed src

/-- JOIN_CHALLENGE: the next queued join; the version is the highest in both bitmaps. While the DRBG is stopped no nonce can be drawn,
and the attempt ends with E_PERM (R395, log entry 193). -/
def execJoinChallenge (s : State) : Out :=
  run (fun d =>
    match d.drv.joining, d.drv.joinQ with
    | none, h :: hs =>
      d.onlyIf d.ringRuns (fun d =>
        let d := { d with drv := { d.drv with joinQ := hs } }
        let d := d.put Fld.RING_JOIN_QUEUE hs.length
        let serial := joinSerial h.payload
        let ver := if bit h.versions 3 then 3 else if bit h.versions 2 then 2 else if bit h.versions 1 then 1 else 0
        if d.fld (Fld.RING_NODE_STAT_STATE h.node) = 3 then d.joinReject h.node E_PERM serial
        else if ver = 0 || (d.authb h.node && ver < 3) then d.joinReject h.node E_VERSION serial
        else if d.drbgCode ≠ E_OK then d.joinEnds h.node d.drbgCode
        else
          let (nonce, d) := d.randomBytes 32
          let d := { d with drv := { d.drv with joining := some ⟨h, ver, nonce, d.tns, none⟩ } }
          d.sendJoin 2 serial (leBytes 1 ver ++ nonce))
    | _, _ => d) s

/-- JOIN_RESPONSE_TIMEOUT. -/
def execJoinResponseTimeout (s : State) : Out :=
  run (fun d =>
    match d.drv.joining with
    | some j =>
      d.onlyIf (d.ringRuns && j.response.isNone && j.since + 20000000 ≤ d.tns) (fun d =>
        ({ d with drv := { d.drv with joining := none } }).joinEnds j.hello.node E_TIMEOUT)
    | none => d) s

/-- ASSIGN (R296): windows, credits, export state and delays restart, the slot window is invalidated, the initial export is
queued; what counts toward quarantine is kept (R300). -/
def Dev.assign (j : Joining) (rivals : List StoreReq) (d : Dev) : Dev :=
  let n := j.hello.node
  let serial := joinSerial j.hello.payload
  let d := d.nodeLeave n 1 false
  let session := ((d.node n).session + 1) % 65536
  let d := d.onNode n (fun x => { ringNodeIdle with
    offences := x.offences, session := session, reqDepth := j.hello.reqDepth, tokF := 64000000, tokB := 16384000000, tokAt := d.tns
    firstCycle := (d.drv.lastCycle.getD 0) + 1 })
  let d := ((((d.putNodeState n 2).put (Fld.RING_NODE_STAT_VERSION n) j.version).put (Fld.RING_NODE_STAT_SESSION n) session).put
    (Fld.RING_NODE_STAT_MISSED n) 0).put (Fld.RING_NODE_LAT n) 80
  let d := (d.put (Fld.RING_NODE_DELAY_A_DELAY n) (2 ^ 32 - 1)).put (Fld.RING_NODE_DELAY_B_DELAY n) (2 ^ 32 - 1)
  let d := (d.put Fld.RING_JOIN_NODE n).put Fld.RING_JOIN_CODE E_OK
  let (o, d) := d.randomBytes 1
  let d := (d.sendJoin 5 serial (leBytes 1 n ++ o ++ beBytes 2 session)).nodeRejoin n rivals
  match d.roster n with
  | none => d
  | some r =>
    let window := (List.range r.exportCount).map (fun i => r.exportFirst + i)
    let defined := window.filter (fun i => (Tab.get (fun _ => none) d.drv.exports i).isSome)
    let d := d.onNode n (fun x => { x with exports := defined, exportAt := if defined.isEmpty then none else some d.tns })
    d.sendExports n (defined.any d.immediate) defined.length

/-- JOIN_VERIFY_DONE: key digest and signature (R292 step 4); it waits for a job on the ML-DSA engine (R403). -/
def execJoinVerifyDone (rivals : List StoreReq) (s : State) : Out :=
  run (fun d =>
    match d.drv.joining with
    | some j =>
      match j.response with
      | some (key, sig) =>
        let n := j.hello.node
        let serial := joinSerial j.hello.payload
        let msg := [0x52, 0x4C, 0x4E, 0x4A] ++ serial ++ j.nonce ++ d.sec.deviceId ++ leBytes 1 j.version ++ shake256 j.hello.payload 32
        let digOk := match d.roster n with | some r => shake256 key 32 = r.keyDig | none => false
        d.onlyIf (d.ringRuns && !d.pqTaken) (fun d =>
          let d := { d with drv := { d.drv with joining := none } }
          if d.fld (Fld.RING_NODE_STAT_STATE n) = 3 then d.joinReject n E_PERM serial
          else if !digOk then d.joinReject n E_AUTH serial
          else
            let (ok, d) := d.verifyJob key msg sig
            if ok then d.assign j rivals else d.joinReject n E_AUTH serial)
      | none => d
    | none => d) s

/-! ### Received frames (R298) -/

/-- The FCS field of a lane's counters. -/
def laneErr (lane : Nat) : Fld := if lane = 0 then Fld.RING_LANEA_FCS else Fld.RING_LANEB_FCS

/-- A device frame that has come back: a beacon counts for continuity and, while the ring is closed, measures K (R291). -/
def Dev.ringReturn (lane dir hops type : Nat) (p : List Byte) (d : Dev) : Dev :=
  if type = 7 && dir ≠ lane then
    let cycle := beNat (bytesAt p 0 4)
    let d := { d with drv := { d.drv with returns := ((cycle, lane) :: d.drv.returns).take 16 } }
    if d.flag Fld.RING_STATUS_OPEN then d else d.put Fld.RING_STATUS_K hops
  else d

/-- The CREDIT of a frame of a member is taken, and what it lets go goes (R283). -/
def Dev.takeCredit (n credit : Nat) (d : Dev) : Dev :=
  (d.onNode n (fun x =>
    if (credit + 256 - x.finished) % 256 ≤ (x.sent + 256 - x.finished) % 256 then { x with finished := credit } else x)).pumpAll n

/-- Whether a JOIN copy repeats a step that has been handled (R292): a HELLO of a node whose join waits or runs, a second RESPONSE. -/
def Dev.joinRepeat (d : Dev) (p : List Byte) : Bool :=
  let mine (h : Hello) : Bool := joinSerial h.payload = joinSerial p
  match (p.getD 0 0).toNat with
  | 1 => d.drv.joinQ.any mine || d.drv.joining.any (fun j => mine j.hello)
  | 3 => d.drv.joining.any (fun j => mine j.hello && j.response.isSome)
  | _ => false

/-- A JOIN of a member past step 3: its credit counts, a repeated copy is discarded, the rate limits hold (R283, R292, R298, R299). -/
def Dev.memberJoin (n credit len : Nat) (p : List Byte) (d : Dev) : Dev :=
  let d := d.takeCredit n credit
  if d.joinRepeat p then d
  else
    let (ok, d) := d.drawRate n len
    if ok then d.joinFrame n p else d.rateDiscard n

/-- A frame copy of a member past step 3: the MAC, the credit it carries, the window, the rate limits, the payload, order. -/
def Dev.memberFrame (n lane type hops seq credit txn len age : Nat) (header payload : List Byte) (rivals : List StoreReq) (d : Dev) : Dev :=
  let mac := d.authb n && type ≠ 7
  let body := if mac then payload.take (payload.length - 8) else payload
  let (want, d) := if mac then d.ringMac n 3 (header ++ body) else ([], d)
  if mac && (payload.length < 8 || payload.drop (payload.length - 8) ≠ want) then
    ((d.bump (Fld.RING_NODE_ERR_MACFAIL n)).raise 270).offence n
  else
    let d := d.takeCredit n credit
    if type = 7 then d.nodeBeacon n lane hops len body age
    else
      let (j, x) := (d.node n).judge seq
      let was := d.node n
      let d := d.onNode n (fun _ => x)
      match j with
      | .duplicate => d.bump (Fld.RING_NODE_DUP_DUP n)
      | .old =>
        let d := d.bump (Fld.RING_NODE_DUP_OLD n)
        if 0 < (gapGiveUp seq was.next was.held).1 then d.closeGap n seq else d
      | .accepted =>
        let (ok, d) := d.drawRate n len
        if !ok then (d.inOrder n seq none rivals).rateDiscard n
        else if !msgOk (d.fld (Fld.RING_NODE_STAT_VERSION n)) type body then (d.inOrder n seq none rivals).malformed n
        else d.inOrder n seq (some ⟨type, txn, body, d.frc.toNat⟩) rivals

/-- The checks of R298 in their order; `bytes` without FCS, `age` since the timestamp point in ps. A member frame with another VERSION
counts under step 3 and is malformed, as R293 has it (log entry 179). -/
def Dev.ringReceive (lane : Nat) (bytes : List Byte) (fcs : Word) (codeOk : Bool) (age : Nat) (rivals : List StoreReq) (d : Dev) : Dev :=
  let b (i : Nat) : Nat := (bytes.getD (14 + i) 0).toNat
  let len := bytes.length + 4
  if len < 64 || 9280 < len || !codeOk || fcs ≠ fcsOf bytes || be16 bytes 12 ≠ 0x88B5 then d.bump (laneErr lane)
  else
    let version := b 0 / 16
    let type := b 0 % 16
    let src := b 1 % 64
    let dst := b 2 % 64
    let dir := b 3 / 128
    let hops := b 3 % 64
    let n := be16 bytes 20
    let payload := bytesAt bytes 30 n
    let reserved := b 1 / 64 ≠ 0 || b 2 / 64 ≠ 0 || b 3 / 64 % 2 ≠ 0 || beNat (bytesAt bytes 26 4) ≠ 0 ||
      (b 9 ≠ 0 && type ≠ 2 && type ≠ 3)
    let typeBad := type = 0 || 9 ≤ type || (src ≠ 0 && (type = 2 || type = 4 || type = 5))
    if reserved || version = 0 || 3 < version || typeBad || 62 ≤ hops || len - 34 < n || (dst ≠ 0 && src ≠ 0) then d.malformed src
    else if src = 0 then d.ringReturn lane dir hops type payload
    else if type = 8 && src = 63 then d.joinFrame src payload
    else if src = 63 || !d.isMember src || d.fld (Fld.RING_NODE_STAT_SESSION src) ≠ be16 bytes 24 then d.bump Fld.RING_NOTMEMBER_COUNT
    else if d.fld (Fld.RING_NODE_STAT_VERSION src) ≠ version then (d.bump Fld.RING_NOTMEMBER_COUNT).malformed src
    else if type = 8 then d.memberJoin src (b 8) len payload
    else
      let header := (bytesAt bytes 14 16).take 3 ++ [0] ++ bytesAt bytes 18 12
      d.memberFrame src lane type hops (be16 bytes 18) (b 8) (b 9) len age header payload rivals

/-! ### The ring cycle (R284, R290, R291) -/

/-- A device beacon's payload. -/
def Dev.beaconPayload (d : Dev) (cycle : Nat) (doze : Bool) : List Byte :=
  beBytes 4 cycle ++ beBytes 8 d.frc.toNat ++ [0, 0] ++ beBytes 2 (b2n doze) ++ beBytes 8 (d.members.foldl (fun m n => m + 2 ^ n) 0) ++
    ((List.range 62).map (fun i =>
      beBytes 4 (d.rd (Reg.RING_NODE_DELAY_A (i + 1))).toNat ++ beBytes 4 (d.rd (Reg.RING_NODE_DELAY_B (i + 1))).toNat)).flatten

/-- The device sends a BEACON on every lane (R284). -/
def Dev.sendBeacon (cycle : Nat) (doze : Bool) (d : Dev) : Dev :=
  d.ringToAll 7 none (d.beaconPayload cycle doze)

/-- The beacon check of one member at the start of cycle `c` (R290). -/
def Dev.checkMember (c n : Nat) (d : Dev) : Dev :=
  let x := d.node n
  let d := (d.put (Fld.RING_NODE_STAT_PATHS n) x.paths).onNode n (fun x => { x with paths := 0 })
  if c < x.firstCycle + 3 then d
  else if x.answered.any (fun a => a.1 = (c - 3) % 2 ^ 32 && a.2) then d.put (Fld.RING_NODE_STAT_MISSED n) 0
  else
    let m := d.fld (Fld.RING_NODE_STAT_MISSED n) + 1
    let d := d.put (Fld.RING_NODE_STAT_MISSED n) m
    if 3 ≤ m then (d.nodeLeave n 0 true).raise 267 else d

/-- Where the ring is broken (R291): the highest position heard only by way of RING_A, the lowest heard only by way of RING_B. -/
def Dev.putBreak (d : Dev) : Dev :=
  let pos (p : Nat) : List Nat :=
    (d.members.filter (fun n => d.fld (Fld.RING_NODE_STAT_PATHS n) = p)).map (fun n => d.fld (Fld.RING_NODE_STAT_POSITION n))
  let hi := match pos 2 with
    | [] => 0
    | x :: xs => xs.foldl min x
  (d.put Fld.RING_STATUS_BREAK_LO ((pos 1).foldl max 0)).put Fld.RING_STATUS_BREAK_HI hi

/-- The continuity check at the start of cycle `c` (R291). -/
def Dev.checkRing (c : Nat) (d : Dev) : Dev :=
  if !(d.drv.laneA && d.drv.laneB) || !(d.drv.sentAt.any (fun e => e.1 + 2 = c)) then d
  else
    let back (lane : Nat) : Bool := d.drv.returns.contains ((c - 2) % 2 ^ 32, lane)
    let a := back 0
    let b := back 1
    let openRun := if a || b then 0 else d.drv.openRun + 1
    let closedRun := if a && b then d.drv.closedRun + 1 else 0
    let d := { d with drv := { d.drv with openRun := openRun, closedRun := closedRun } }
    if !d.flag Fld.RING_STATUS_OPEN && 3 ≤ openRun then
      (((d.putFlag Fld.RING_STATUS_OPEN true).putBreak).raise 266).declareLoss Fld.SYS_LOSS_RING_OPEN 0x000E 0
    else if d.flag Fld.RING_STATUS_OPEN && 16 ≤ closedRun then (d.putFlag Fld.RING_STATUS_OPEN false).clearLoss Fld.SYS_LOSS_RING_OPEN
    else d

/-- The start of a ring cycle: the next cycle in turn, once its time has come. -/
def Dev.ringCycle (d : Dev) : Dev :=
  let now := d.frc.toNat / 62500
  let c := match d.drv.lastCycle with
    | some k => k + 1
    | none => now
  if !d.ringRuns || now < c then d
  else
    let d := (d.each d.members (Dev.checkMember c)).checkRing c
    let d := d.each d.members Dev.pumpAll
    let d := { d with drv := { d.drv with lastCycle := some c, sentAt := ((c, d.frc.toNat) :: d.drv.sentAt).take 4 } }
    (d.put Fld.RING_CYCLE (c % 2 ^ 32)).sendBeacon (c % 2 ^ 32) false

/-- The block lock of a lane as it has come over its crossing (R440). -/
def Dev.laneTaken (lane : Nat) (d : Dev) : Dev :=
  let up := (d.crossing (1 + lane)).taken = 1
  if d.flag (laneFld lane) = up then d
  else
    let d := d.putFlag (laneFld lane) up
    if up then d else (d.bump (if lane = 0 then Fld.RING_LANEA_LINKDN else Fld.RING_LANEB_LINKDN)).raise (264 + lane)

/-- A lane's block lock as its receive side sees it. Its loss resets that side until it has retrained (R441); during a mismatch of
another cause the change waits at the receive side (R442). -/
def Dev.laneLink (lane : Nat) (up : Bool) (d : Dev) : Dev :=
  let d := d.onlyIf up (Dev.retrained (1 + lane))
  let was := d.flag (laneFld lane)
  let d := (d.crossWrite (1 + lane) (b2n up)).onlyIf (!d.halfReset (1 + lane)) (Dev.laneTaken lane)
  d.onlyIf (was && !up) (Dev.halfResetStart (1 + lane) true)

/-- LANE_LINK_CHANGE. -/
def execLaneLinkChange (lane : Fin 2) (up : Bool) (s : State) : Out :=
  run (fun d => d.onlyIf (d.ringRuns && d.laneUsed lane.val) (Dev.laneLink lane.val up)) s

/-! ### Entry and DOZE (R304) -/

/-- When the quarantine of a node began, where it still stands (R300). -/
def Dev.quarSince (d : Dev) (n : Nat) : Option Nat := if d.fld (Fld.RING_NODE_STAT_STATE n) = 3 then (d.node n).quarAt else none

/-- No member, nothing queued; sessions start from the true random generator. A quarantine goes on (R300, log entry 78). -/
def Dev.ringEntry (d : Dev) : Dev :=
  let quar := (Tab.keys d.drv.roster).map (fun n => (n, d.quarSince n))
  let d := { d with drv := { d.drv with
    nodes := [], reads := [], bcast := [], seq63 := 0, pace63 := [], joinQ := [], joining := none, refused := [], lastCycle := none, sentAt := []
    returns := [], openRun := 0, closedRun := 0 } }
  let d := ((d.wr Reg.RING_STATUS 0).wr Reg.RING_CYCLE 0).each [1, 2] (fun g => Dev.onCrossing g (fun _ => crossIdle))
  let d := (d.put Fld.RING_JOIN_QUEUE 0).put Fld.RING_READS_OUTSTANDING 0
  d.each quar (fun (n, q) d =>
    let (i, d) := d.draw
    let d := d.onNode n (fun x => { x with session := Config.free i % 65536, quarAt := q })
    let d := ((d.wr (Reg.RING_NODE_STAT n) 0).put (Fld.RING_NODE_STAT_STATE n) (if q.isSome then 3 else 0)).put (Fld.RING_NODE_LAT n) 80
    let d := (d.put (Fld.RING_NODE_DELAY_A_DELAY n) (2 ^ 32 - 1)).put (Fld.RING_NODE_DELAY_B_DELAY n) (2 ^ 32 - 1)
    (d.put (Fld.RING_NODE_TXN_QUEUED n) 0).wr (Reg.RING_NODE_NODEERR n) 0)

/-- Drover stops (R304): every member leaves, joins in progress end, the lanes go to electrical idle and hold no block lock. -/
def Dev.ringStop (d : Dev) : Dev :=
  let d := d.each d.members (fun n => Dev.nodeLeave n 0 true)
  let d := d.each ((Tab.keys d.drv.roster).filter (fun n => d.fld (Fld.RING_NODE_STAT_STATE n) = 1)) (fun n => Dev.putNodeState n 0)
  let d := ({ d with drv := { d.drv with joinQ := [], joining := none, openRun := 0, closedRun := 0 } }).put Fld.RING_JOIN_QUEUE 0
  let d := ((d.putFlag Fld.RING_STATUS_OPEN false).put Fld.RING_STATUS_A_LINK 0).put Fld.RING_STATUS_B_LINK 0
  d.each [1, 2] (fun g => Dev.onCrossing g (fun _ => crossIdle))

/-- Entry to DOZE: a last beacon, then every member leaves and the lanes go idle. -/
def Dev.ringDoze (d : Dev) : Dev :=
  if !(d.drv.laneA || d.drv.laneB) then d
  else (d.sendBeacon (d.frc.toNat / 62500 % 2 ^ 32) true).ringStop

/-- A frame of port 14 is taken by Drover: to the member whose TUNNEL_VID is the frame's VID, or discarded (R289). Answers false
where no credit or no queue entry is free. -/
def Dev.tunnelOut (vid : Nat) (bytes : List Byte) (d : Dev) : Bool × Dev :=
  if 8 ≤ d.tunnelUsed then (false, d)
  else
    match d.members.find? (fun n => match d.roster n with | some r => r.tunnel && r.tunnelVid = vid && vid ≠ 0 | none => false) with
    | none => (true, d.bump Fld.RING_TUNNEL_NOMAP)
    | some n => if d.ringFull n then (false, d) else (true, d.enqueue n ⟨.event bytes, none⟩)

end Sys2Proof.Machine
end

