-- ==== Sys2Proof/Machine/Pins.lean ====
section
/-! DEFINITION. What each pin group does in each mode (R462), and what the pins start at when service begins (R463). The level of a DIO
pin within a mode goes out at each change (Phase.lean), as do the edges of PPS, frames, ERR_N and MGMT_IRQ_N. -/

namespace Sys2Proof.Machine

/-- Whether the pins stand as the DOZE column has them: in DOZE, and in the entry to SLEEP until the logic die loses its supply
(DESIGN CHOICE, log entry 196). -/
def Dev.pinsDoze (d : Dev) : Bool := d.mode = .doze || d.sys.entry = .sleep

/-- A DIO pin: an output's level, released where an open-drain output is high; an input's pull (R185, R189). -/
def Dev.dioState (d : Dev) (n : Nat) : PinDrive :=
  let keeps := d.mode = .sleep && (d.dioLine n).wakeOn
  match d.dioPinLevel n with
  | some b => .level b
  | none => if d.dioDrives || (keeps && (d.dioLine n).input) then .input (d.dioPinPull n) else .hiZ

/-- The inactive level of a PPS output (R148). -/
def Dev.ppsIdle (d : Dev) (k : Nat) : PinDrive := .level (d.flag (Fld.TB_PPS_CTRL_POL k))

/-- An FX pin with the PINS entry `w` (R31, R462). -/
def Dev.fxState (d : Dev) (w : Nat) : PinDrive :=
  let i := bits w 23 16
  let run := d.inService
  let doze := d.pinsDoze
  match bits w 31 24 with
  | 1 => if run then (if (d.canCtl i).isSome then .active else .level true) else if doze then .level true else .hiZ
  | 2 => if run || doze then .input 0 else .hiZ
  | 3 => if run then .active else if doze then .level (bit w 14) else .hiZ
  | 4 => d.dioState i
  | 8 => if run then .active else if doze then d.ppsIdle i else .hiZ
  | 10 => if run then .busOnly else .hiZ
  | 11 => if run then .busOnly else .hiZ
  | 0 => .hiZ
  | _ => if run then .input 0 else .hiZ

/-- The transmitter of a port or lane that the image uses (`used`), or that a wake pattern watches (R462, R504). -/
def Dev.txState (d : Dev) (used watched : Bool) : PinDrive :=
  if d.mode = .off then .off
  else if d.inService && used then .active
  else if d.pinsDoze && watched then .pcsIdle
  else .electricalIdle

/-- The PCI Express transmitter. -/
def Dev.pciePin (d : Dev) : PinDrive :=
  match d.mode with
  | .off => .off
  | .held => .electricalIdle
  | .sleep => .electricalIdle
  | .limp => .electricalIdle
  | _ => .active

/-- What a pin group does (R462). -/
def Dev.pinState (d : Dev) : PinGroup → PinDrive
  | .fx n => d.fxState (Tab.get (fun _ => 0) d.img.pins n).toNat
  | .errN => if d.flag Fld.FLT_STATUS_ERR_N then .asserted else .hiZ
  | .mgmtMiso => if d.mode = .off || (d.mode = .limp && !d.sys.vbat) then .hiZ else .onSelect
  | .mgmtIrqN => if d.irqAsserted then .asserted else .hiZ
  | .eth p => d.txState (d.sw.on && (d.swCfg p).isSome) (d.watched p)
  | .ring l => d.txState (d.laneUsed l) false
  | .pcie => d.pciePin

/-- What a pin group starts at when service begins: CAN TXD recessive, PPS at its inactive level (R463). -/
def Dev.pinStart (d : Dev) (g : PinGroup) : PinDrive :=
  match g with
  | .fx n =>
    let w := (Tab.get (fun _ => 0) d.img.pins n).toNat
    if bits w 31 24 = 1 then .level true else if bits w 31 24 = 8 then d.ppsIdle (bits w 23 16) else d.pinState g
  | _ => d.pinState g

/-- The pin groups whose state a change of mode may change; `was` is the part before it. -/
def Dev.pinGroups (d was : Dev) : List PinGroup :=
  ((List.range 128).filter (fun n => (Tab.keys was.img.pins).contains n || (Tab.keys d.img.pins).contains n)).map PinGroup.fx ++
    .mgmtMiso :: (List.range 12).map PinGroup.eth ++ [.ring 0, .ring 1, .pcie]

/-- Puts out the pin groups that have changed since `was`, each with what `x` says of it. -/
def Dev.showPinsAs (x : Dev → PinGroup → PinDrive) (d was : Dev) : Dev :=
  d.each ((d.pinGroups was).filter (fun g => d.pinState g ≠ was.pinState g)) (fun g => Dev.emit (.pin g (x d g)))

/-- Puts out the pin groups that have changed since `was`. -/
def Dev.showPins (d was : Dev) : Dev := d.showPinsAs Dev.pinState was

end Sys2Proof.Machine
end

