-- ==== Sys2Proof/Machine/Loads.lean ====
section
/-! DEFINITION. The protected load channels, the two power dies and their switch control links (chapter 10). -/

namespace Sys2Proof.Machine

/-! ### Dies and channels -/

/-- Whether the part is an RLN-9640-AK, which has power dies (R1, R2). -/
def Dev.hasLoads (d : Dev) : Bool := d.fld Fld.SYS_ID_VARIANT = 1

/-- A power die. -/
def Dev.die (d : Dev) (k : Nat) : Die := Tab.get (fun _ => dieNone) d.loads.dies k

/-- Changes a power die. -/
def Dev.onDie (k : Nat) (f : Die → Die) (d : Dev) : Dev :=
  { d with loads := { d.loads with dies := Tab.set (fun _ => dieNone) d.loads.dies k (f (d.die k)) } }

/-- What a die holds for a channel. -/
def Dev.dieCh (d : Dev) (n : Nat) : DieCh := Tab.get (fun _ => chBlank) d.loads.chs n

/-- Changes what a die holds for a channel. -/
def Dev.onCh (n : Nat) (f : DieCh → DieCh) (d : Dev) : Dev :=
  { d with loads := { d.loads with chs := Tab.set (fun _ => chBlank) d.loads.chs n (f (d.dieCh n)) } }

/-- The channels of a die. -/
def dieChannels (k : Nat) : List Nat := (List.range 12).map (fun i => 12 * k + i)

/-- A die's OTP word as it reads: 0 where it fails its parity (R375). -/
def Dev.otpWord (d : Dev) (k w : Nat) : Nat :=
  if d.loads.otpBad.contains (13 * k + w) then 0 else (Tab.get (fun _ => 0) d.loads.otp (13 * k + w)).toNat

/-- A die's OTP word as it is in use: as it read at the die's last takeover (R472). -/
def Dev.otpUsed (d : Dev) (k w : Nat) : Nat :=
  if d.loads.otpBadUse.contains (13 * k + w) then 0 else (Tab.get (fun _ => 0) d.loads.otpUse (13 * k + w)).toNat

/-- The words of a die as they read now come into use. -/
def Dev.otpTake (k : Nat) (d : Dev) : Dev :=
  d.each (List.range 13) (fun w d =>
    let i := 13 * k + w
    let bad := d.loads.otpBadUse.filter (· ≠ i)
    { d with loads := { d.loads with
      otpUse := Tab.set (fun _ => 0) d.loads.otpUse i (Tab.get (fun _ => 0) d.loads.otp i)
      otpBadUse := if d.loads.otpBad.contains i then i :: bad else bad } })

/-- The OTP word of a channel. -/
def Dev.otpCh (d : Dev) (n : Nat) : Nat := d.otpUsed (n / 12) (1 + n % 12)

/-- T_HOLD in ms (R375). -/
def Dev.tHold (d : Dev) (k : Nat) : Nat := min (bits (d.otpUsed k 0) 31 22) 1000

/-- LIMP_OC (R375). -/
def Dev.limpOc (d : Dev) (n : Nat) : Nat := max 50 (min 1200 (bits (d.otpCh n) 26 16))

/-- LIMP_INR in ms (R375). -/
def Dev.limpInr (d : Dev) (n : Nat) : Nat := min 200 (bits (d.otpCh n) 15 8)

/-- The LHI pin a channel is mapped to (R375). -/
def Dev.limpPinOf (d : Dev) (n : Nat) : Option Nat :=
  let s := bits (d.otpCh n) 31 28
  if 1 ≤ s && s ≤ 8 then some (s - 1) else none

/-- Whether LIMP drives a channel on: its mapped pin is at its on level (R374). -/
def Dev.limpOn (d : Dev) (n : Nat) : Bool :=
  match d.limpPinOf n with
  | some p => xor (bit d.loads.lhi p) (bit (d.otpCh n) 27)
  | none => false

/-- Whether a die is in LIMP (R373). -/
def Die.inLimp (x : Die) : Bool := x.mode = .limp || x.limpPin

/-- Whether a die has its supply. -/
def Die.powered (x : Die) : Bool := x.mode ≠ .unpowered

/-- Whether a channel is commanded on at its die. -/
def Dev.chCommanded (d : Dev) (n : Nat) : Bool :=
  let x := d.die (n / 12)
  if !x.powered then false
  else if x.inLimp then d.limpOn n
  else
    match x.mode with
    | .owned => (d.dieCh n).pulse.isSome || (d.dieCh n).on
    | .hold _ => (d.dieCh n).pulse.isSome || (d.dieCh n).on
    | _ => false

/-- Whether a channel's output is on: commanded, not latched, the supply in range (R359, R363). -/
def Dev.chOn (d : Dev) (n : Nat) : Bool :=
  d.loads.reverse ||
    ((d.die (n / 12)).supply = 0 && !(d.die (n / 12)).groundLost && (d.dieCh n).cause = 0 && d.chCommanded n)

/-- EFF_DUTY of a channel (R352, R353). -/
def Dev.effDuty (d : Dev) (n : Nat) : Nat :=
  let c := d.dieCh n
  if !c.pwmEn || c.pulse.isSome || (d.die (n / 12)).inLimp then 1023 else c.dutyUse

/-- `a / b`, rounded to the nearest whole number, halves up. -/
def roundDiv (a b : Nat) : Nat := (2 * a + b) / (2 * b)

/-- A PWM period in µs (R352). -/
def pwmPeriod (freq : Nat) : Nat := roundDiv 1000000 freq

/-- The latest time at which a period of a channel starts on the die's grid: the period reference and the channel's stagger (R352). -/
def Dev.pwmGrid (d : Dev) (n freq : Nat) : Nat :=
  let t := pwmPeriod freq
  let first := (d.die (n / 12)).pwmRef + 1000 * (n % 12 * roundDiv t 12)
  first + (d.tns - first) / (1000 * t) * (1000 * t)

/-- The on-time of the PWM period in progress, µs (R352). -/
def Dev.onTime (d : Dev) (n : Nat) : Nat := roundDiv (d.effDuty n * pwmPeriod (d.dieCh n).freqUse) 1023

/-- Whether a channel conducts at some time of its period. -/
def Dev.chConducts (d : Dev) (n : Nat) : Bool := d.chOn n && d.effDuty n ≠ 0

/-- Whether a channel's FET is on now: all the time at a duty of 1,023, in the on-time of its period otherwise (R352). -/
def Dev.chDriven (d : Dev) (n : Nat) : Bool :=
  d.chOn n && (d.effDuty n = 1023 || decide (d.tns - (d.dieCh n).startAt < 1000 * d.onTime n))

/-- Whether a channel's inrush window runs (R357). -/
def Dev.inInrush (d : Dev) (n : Nat) : Bool :=
  match (d.dieCh n).inrush with
  | some e => decide (d.tns < e)
  | none => false

/-- The over-current thresholds in force: I_OC and I_INR (R355, R374). -/
def Dev.chLimits (d : Dev) (n : Nat) : Nat × Nat :=
  if (d.die (n / 12)).inLimp then (d.limpOc n, 3000) else ((d.dieCh n).ioc, (d.dieCh n).iinr)

/-! ### What follows from a change at the dies -/

/-- What a channel shows of its output, for STATE_ID (R372). -/
def Dev.chShown (d : Dev) (n : Nat) : Bool × Nat × Nat × Nat := (d.chOn n, (d.dieCh n).cause, (d.dieCh n).freqUse, d.effDuty n)

/-- Inrush windows start where an output turns on and end where it turns off (R357); STATE_ID advances where an output changed. -/
def Dev.outputsSettled (d : Dev) (before : Dev) : Dev :=
  d.each (List.range 24) (fun n d =>
    let was := before.chOn n
    let is := d.chOn n
    let ms := if (d.die (n / 12)).inLimp then d.limpInr n else (d.dieCh n).inrMs
    let d := if was = is then d
      else d.onCh n (fun c => { c with inrush := if is && ms ≠ 0 then some (d.tns + 1000000 * ms) else none })
    if before.chShown n = d.chShown n then d else d.onDie (n / 12) (fun x => { x with stateId := x.stateId + 1 }))

/-- Whether some power die is in LIMP. -/
def Dev.anyLimp (d : Dev) : Bool := (d.die 0).inLimp || (d.die 1).inLimp

/-- The modes that follow from LIMP of the dies (R449, R450): HELD or OFF to LIMP, LIMP to HELD or OFF. DETAIL names the dies that
are in LIMP at the entry, and those that were in it last at the end. -/
def Dev.limpModes (d : Dev) : Dev :=
  let was := d.fld Fld.SYS_STATUS_PS_LIMP
  let now := b2n (d.die 0).inLimp + 2 * b2n (d.die 1).inLimp
  let d := d.put Fld.SYS_STATUS_PS_LIMP now
  match d.mode with
  | .held => if now ≠ 0 then (d.transit .limp 0x0018 now).showPins d else d
  | .off => if now ≠ 0 then (d.transitSilent .limp).showPins d else d
  | .limp =>
    if now ≠ 0 then d
    else if d.sys.vbat then (d.transit .held 0x0019 was).showPins d
    else (d.transitSilent .off).showPins d
  | _ => d

/-- FS339 where a die has entered LIMP while the logic die is in service (R379). -/
def Dev.limpRaised (d : Dev) (before : Dev) : Dev :=
  d.each [0, 1] (fun k d =>
    if (d.die k).inLimp && !(before.die k).inLimp then
      let d := d.onDie k (fun x => { x with limpAt := d.tns })
      if d.inService then d.raise 339 else d
    else d)

/-- A change at the power dies with what follows from it. -/
def Dev.atDies (f : Dev → Dev) (d : Dev) : Dev :=
  if d.hasLoads then (((f d).outputsSettled d).limpRaised d).limpModes else d

/-! ### Reports of the dies (R359, R362, R364) -/

/-- The logic die takes a report: it counts and raises the fault source. -/
def Dev.takeReport (r : DieReport) (d : Dev) : Dev :=
  match r with
  | .latch n cause =>
    let d := match cause with
      | 1 => d.bump (Fld.LS_CH_TRIPS_OC n)
      | 2 => d.bump (Fld.LS_CH_TRIPS_FAST n)
      | _ => d.bump (Fld.LS_CH_TRIPS_OT n)
    d.raise (288 + n)
  | .diag n code =>
    let d := d.bump (Fld.LS_CH_TRIPS_DIAGCHG n)
    if code = 2 || code = 3 then d.raise (312 + n) else d
  | .supply isOver => (if isOver then d.bump Fld.LS_SUPPLY_OV else d.bump Fld.LS_SUPPLY_UV).raise 338

/-- Whether a die's link is up. -/
def Dev.linkUp (d : Dev) (k : Nat) : Bool := d.flag (if k = 0 then Fld.LS_STATUS_PS0_LINK else Fld.LS_STATUS_PS1_LINK)

/-- Sets PSd_LINK. -/
def Dev.putLinkUp (k : Nat) (b : Bool) (d : Dev) : Dev :=
  d.putFlag (if k = 0 then Fld.LS_STATUS_PS0_LINK else Fld.LS_STATUS_PS1_LINK) b

/-- A die reports: at once while its link is up, with the next STATUS frame otherwise. -/
def Dev.dieReport (k : Nat) (r : DieReport) (d : Dev) : Dev :=
  if d.inService && d.linkUp k then d.takeReport r else d.onDie k (fun x => { x with reports := x.reports ++ [r] })

/-! ### Settings and commands (R351, R359) -/

/-- A frame as it enters a die's send queue, with the next SEQ (R367). -/
def Die.toSend (x : Die) (now : Nat) (f : LinkFrame) : LinkSend := ⟨f, x.seqOut, now, 0, false, false⟩

/-- Puts a frame at the end of a die's send queue. -/
def Dev.linkSend (k : Nat) (f : LinkFrame) (d : Dev) : Dev :=
  d.onDie k (fun x => { x with queue := x.queue ++ [x.toSend d.tns f], seqOut := (x.seqOut + 1) % 16 })

/-- Whether the image uses a channel. -/
def Dev.chUsed (d : Dev) (n : Nat) : Bool := (Tab.get (fun _ => none) d.loads.cfg n).isSome

/-- Whether a value lies within the image's range (R50, R383). -/
def LoadCfg.admits (c : LoadCfg) (r : LsReg) (v : Nat) : Bool :=
  match r with
  | .cmd => true
  | .pwm => decide (c.freqMin ≤ bits v 26 16) && decide (bits v 26 16 ≤ c.freqMax)
  | .thr =>
    decide (c.ocMin ≤ bits v 11 0) && decide (bits v 11 0 ≤ c.ocMax) && decide (bits v 11 0 ≤ bits v 27 16) &&
      decide (bits v 27 16 ≤ c.inrMax)
  | .inr => decide (bits v 7 0 ≤ c.inrMsMax)
  | .vref => decide (600 ≤ bits v 11 0) && decide (bits v 11 0 ≤ 4000)

/-- The address of a channel's settings register. -/
def lsRegAddr (n : Nat) : LsReg → Nat
  | .cmd => Reg.LS_CH_CMD n
  | .pwm => Reg.LS_CH_PWM n
  | .thr => Reg.LS_CH_THR n
  | .inr => Reg.LS_CH_INR n
  | .vref => Reg.LS_CH_VREF n

/-- The code a settings write to a channel gets (R351). -/
def Dev.loadCode (n : Nat) (r : LsReg) (v : Nat) (d : Dev) : Nat :=
  let perm := match Tab.get (fun _ => none) d.loads.cfg n with
    | none => true
    | some c => !c.admits r v || (d.die (n / 12)).inLimp || bit d.loads.ctl n
  lowestCode [if d.linkUp (n / 12) then E_OK else E_TIMEOUT, if perm then E_PERM else E_OK]

/-- Ends a pulse that a load channel runs (R180, R182). -/
def Dev.endLoadPulse (n : Nat) (d : Dev) : Dev := (d.endPulse (32 + n)).onCh n (fun c => { c with pulse := none })

/-- The settings of a channel as its registers hold them. -/
def Dev.chSet (d : Dev) (n : Nat) : ChSet :=
  { on := d.flag (Fld.LS_CH_CMD_ON n), pwmEn := d.flag (Fld.LS_CH_CMD_PWM_EN n), compEn := d.flag (Fld.LS_CH_CMD_COMP_EN n)
    diagEn := d.flag (Fld.LS_CH_CMD_DIAG_EN n), freq := d.fld (Fld.LS_CH_PWM_FREQ n), duty := d.fld (Fld.LS_CH_PWM_DUTY n)
    ioc := d.fld (Fld.LS_CH_THR_I_OC n), iinr := d.fld (Fld.LS_CH_THR_I_INR n), inrMs := d.fld (Fld.LS_CH_INR_INR_MS n)
    vref := d.fld (Fld.LS_CH_VREF n) }

/-- A settings frame of a channel of a pattern, sent before and still on its way: it carries the pattern's state, and ends a pulse
(R182). -/
def LinkSend.overruled (d : Dev) (codes : List (Nat × Nat)) (x : LinkSend) : LinkSend :=
  match x.frame with
  | .set n _ _ => if codes.any (fun e => e.1 = n) then { x with frame := .set n (d.chSet n) .ends } else x
  | _ => x

/-- A SAFE frame takes the next slot, ahead of all queued frames (R368). -/
def Dev.linkSendSafe (k : Nat) (codes : List (Nat × Nat)) (d : Dev) : Dev :=
  d.onDie k (fun x => { x with
    queue := x.queue.filter (fun f => f.taken) ++ x.toSend d.tns (.safe codes) ::
      (x.queue.filter (fun f => !f.taken)).map (LinkSend.overruled d codes)
    seqOut := (x.seqOut + 1) % 16 })

/-- A write of a channel's settings register. An action of the same cycle takes effect after it: ON and the pulse stay (R180). -/
def Dev.loadWrite (n : Nat) (r : LsReg) (v : Word) (d : Dev) : Dev :=
  if !d.hasLoads then d
  else
    let code := d.loadCode n r v.toNat
    let d := d.put (Fld.LS_CH_STATUS_CODE n) code
    if code ≠ E_OK then d
    else
      let a := lsRegAddr n r
      let late := d.actedAbove (32 + n) 0
      let on := d.flag (Fld.LS_CH_CMD_ON n)
      let d := d.wr a (v &&& regMask (fun x => x = .rw || x = .held) a)
      let d := d.onlyIf late (Dev.putFlag (Fld.LS_CH_CMD_ON n) on)
      let d := if r = .pwm then d else d.storeSetting a
      let live := r = .cmd || r = .pwm
      let ends := live && !late
      let d := d.onlyIf ends (Dev.endPulse (32 + n))
      d.linkSend (n / 12) (.set n (d.chSet n) (if ends then .ends else .keep))

/-- LOAD_COMMAND_WRITE. -/
def execLoadCommandWrite (p : Path) (n : Fin 24) (r : LsReg) (v : Word) (s : State) : Out :=
  runWrite p (lsRegAddr n.val r) v.toNat (fun d => d.onlyIf d.inService (Dev.loadWrite n.val r v)) s

/-- A write of LS_CHn_CTRL (R359). -/
def Dev.latchClearWrite (n : Nat) (w : Word) (d : Dev) : Dev :=
  if d.hasLoads && bits w.toNat 31 24 = 0x7C && w.getLsbD 0 then
    let perm := !d.chUsed n || (d.die (n / 12)).inLimp
    let code := lowestCode [if d.linkUp (n / 12) then E_OK else E_TIMEOUT, if perm then E_PERM else E_OK]
    let d := d.put (Fld.LS_CH_STATUS_CODE n) code
    if code = E_OK then d.linkSend (n / 12) (.clear n) else d
  else d

/-- LATCH_CLEAR. -/
def execLatchClear (p : Path) (n : Fin 24) (w : Word) (s : State) : Out :=
  runWrite p (Reg.LS_CH_CTRL n.val) w.toNat (fun d => d.onlyIf d.inService (Dev.latchClearWrite n.val w)) s

/-! ### Protection (R355 to R359) -/

/-- A channel latches (R359). -/
def Dev.latchCh (n cause : Nat) (d : Dev) : Dev :=
  (d.onCh n (fun c => { c with cause := cause, latchAt := d.tns })).dieReport (n / 12) (.latch n cause)

/-- Whether a channel's protection acts: it conducts, and the reverse circuit does not drive it. -/
def Dev.protects (d : Dev) (n : Nat) : Bool := d.chConducts n && !d.loads.reverse

/-- OVERCURRENT_TRIP: a current of `code` for 2 µs. -/
def execOvercurrentTrip (n : Fin 24) (code : BitVec 12) (s : State) : Out :=
  run (Dev.atDies (fun d =>
    let lim := d.chLimits n.val
    d.onlyIf (d.protects n.val && (if d.inInrush n.val then lim.2 else lim.1) < code.toNat) (Dev.latchCh n.val 1))) s

/-- The fast-trip level in half codes (R356). -/
def Dev.fastLevel2 (d : Dev) (n : Nat) : Nat := if d.inInrush n then max 4000 (3 * (d.chLimits n).2) else 4000

/-- FAST_TRIP: a current of `code`. -/
def execFastTrip (n : Fin 24) (code : BitVec 16) (s : State) : Out :=
  run (Dev.atDies (fun d => d.onlyIf (d.protects n.val && d.fastLevel2 n.val < 2 * code.toNat) (Dev.latchCh n.val 2))) s

/-- A channel temperature rises above TWARN: FS341 once until it falls back (R358). -/
def Dev.setWarm (n : Nat) (warm : Bool) (d : Dev) : Dev :=
  let was := d.loads.warm.contains n
  let d := if warm && !was then d.raise 341 else d
  { d with loads := { d.loads with warm := if warm then (if was then d.loads.warm else n :: d.loads.warm) else d.loads.warm.filter (· ≠ n) } }

/-- OVERTEMP_SHUTDOWN: a junction reaches T_SD, which is at least TWARN. -/
def execOvertempShutdown (n : Fin 24) (s : State) : Out :=
  run (Dev.atDies (fun d => d.onlyIf ((d.die (n.val / 12)).powered && (d.dieCh n.val).cause = 0) (fun d =>
    (d.onlyIf (d.inService && d.linkUp (n.val / 12)) (Dev.setWarm n.val true)).latchCh n.val 3))) s

/-- INRUSH_END. -/
def execInrushEnd (n : Fin 24) (s : State) : Out :=
  run (fun d => match (d.dieCh n.val).inrush with
    | some e => if e ≤ d.tns then d.onCh n.val (fun c => { c with inrush := none }) else d
    | none => d) s

/-! ### PWM and compensation (R352, R353) -/

/-- DUTY_EFF = min(1,023, round(DUTY × VREF² / VBAT_AVG²)). -/
def compensated (duty vref vbat : Nat) : Nat :=
  if vbat = 0 then 1023 else min 1023 ((2 * duty * vref * vref + vbat * vbat) / (2 * vbat * vbat))

/-- A PWM period starts at `at_`: the settings come into use; `vbat` is VBAT_AVG of the period that ends, in 10 mV. -/
def DieCh.startPeriod (at_ vbat : Nat) (c : DieCh) : DieCh :=
  { c with
    freqUse := c.freq, dutyIn := c.duty, startAt := at_
    dutyUse := if c.compEn then compensated c.duty c.vref vbat else c.duty }

/-- Whether a channel has PWM periods: PWM_EN at a powered die that is not in LIMP. -/
def Dev.pwmRuns (d : Dev) (n : Nat) : Bool :=
  (d.die (n / 12)).powered && !(d.die (n / 12)).inLimp && (d.dieCh n).pwmEn && (d.dieCh n).freq ≠ 0

/-- Whether the period after the one in progress is due: the grid of the FREQ in use has passed its start. -/
def Dev.pwmDue (d : Dev) (n : Nat) : Bool :=
  (d.dieCh n).freqUse = 0 || decide ((d.dieCh n).startAt < d.pwmGrid n (d.dieCh n).freqUse)

/-- PWM_PERIOD_START. -/
def execPwmPeriodStart (n : Fin 24) (vbat : BitVec 13) (s : State) : Out :=
  run (Dev.atDies (fun d =>
    let c := d.dieCh n.val
    let at_ := d.pwmGrid n.val (if c.freqUse = 0 then c.freq else c.freqUse)
    d.onlyIf (d.pwmRuns n.val && d.pwmDue n.val) (Dev.onCh n.val (DieCh.startPeriod at_ vbat.toNat)))) s

/-! ### Off-state diagnosis (R361, R362) -/

/-- The result of a check. -/
def diagResult : Bool → Bool → Nat
  | false, false => 1
  | true, false => 2
  | true, true => 3
  | false, true => 4

/-- DIAG_CHECK: the comparator with the pull-up on and off; VBAT_PWR in 10 mV. -/
def execDiagCheck (n : Fin 24) (on off : Bool) (vbat : BitVec 13) (s : State) : Out :=
  run (fun d =>
    let k := n.val / 12
    let x := d.die k
    let c := d.dieCh n.val
    let due := match c.diagAt with
      | some t => decide (t + 1000000 * d.fld Fld.LS_DIAG_PERIOD ≤ d.tns)
      | none => true
    d.onlyIf (d.hasLoads && x.mode = .owned && !x.inLimp && c.diagEn && (!d.chCommanded n.val || c.cause ≠ 0) && due &&
        600 ≤ vbat.toNat && vbat.toNat ≤ 4000) (fun d =>
      let r := diagResult on off
      let d := d.onCh n.val (fun c => { c with diagPrev := r, diagAt := some d.tns })
      if r = c.diagPrev && r ≠ c.diag then (d.onCh n.val (fun c => { c with diag := r })).dieReport k (.diag n.val r) else d)) s

/-! ### Supply events (R363, R364) -/

/-- Both dies watch one supply: whether a die's shutdown is a new one, not the one that the other die has reported already. -/
def Dev.newDip (d : Dev) (k code : Nat) : Bool :=
  d.loads.dip.isEmpty || d.loads.dip.contains k || d.loads.dipCode ≠ code

/-- SUPPLY_SHUTDOWN: each shutdown is counted once (R364). -/
def execSupplyShutdown (die : Fin 2) (isOver : Bool) (s : State) : Out :=
  run (Dev.atDies (fun d =>
    let k := die.val
    let code := if isOver then 2 else 1
    let new := d.newDip k code
    d.onlyIf ((d.die k).powered && (d.die k).supply = 0) (fun d =>
      let d := d.onDie k (fun x => { x with supply := code })
      let d := { d with loads := { d.loads with dip := if new then [k] else k :: d.loads.dip, dipCode := code } }
      d.onlyIf new (Dev.dieReport k (.supply isOver))))) s

/-- SUPPLY_RESTART: the channels come back with their commanded, held or LHI-driven states; PWM periods restart from a new period
reference; `vbat` is VBAT_AVG of the period before, in 10 mV. -/
def execSupplyRestart (die : Fin 2) (vbat : BitVec 13) (s : State) : Out :=
  run (Dev.atDies (fun d => d.onlyIf ((d.die die.val).supply ≠ 0) (fun d =>
    let d := d.onDie die.val (fun x => { x with supply := 0, pwmRef := d.tns })
    let d := { d with loads := { d.loads with dip := if (d.die (1 - die.val)).supply = 0 then [] else d.loads.dip } }
    d.each ((dieChannels die.val).filter d.pwmRuns) (fun n d =>
      d.onCh n (DieCh.startPeriod (d.pwmGrid n (d.dieCh n).freq) vbat.toNat))))) s

/-- GROUND_LOSS: module ground is both dies'. -/
def execGroundLoss (s : State) : Out :=
  run (Dev.atDies (Dev.each [0, 1] (fun k => Dev.onDie k (fun x => { x with groundLost := true })))) s

/-! ### Frames to the power dies (R367 to R369) -/

/-- A valid logic frame arrives at a die. -/
def Dev.heard (k : Nat) (d : Dev) : Dev := d.onDie k (fun x => { x with heard := d.tns })

/-- Marks the first frame that has not arrived as taken. -/
def markTaken : List LinkSend → List LinkSend
  | [] => []
  | f :: t => if f.taken then f :: markTaken t else { f with taken := true } :: t

/-- Marks the first frame that has not arrived as lost: it waits to be resent (R369). -/
def markLost : List LinkSend → List LinkSend
  | [] => []
  | f :: t => if f.taken then f :: markLost t else { f with lost := true } :: t

/-- The frame of a send queue that goes next: the first that has not arrived; none while that one waits to be resent (log entry 91). -/
def nextFrame (q : List LinkSend) : Option LinkSend :=
  (q.find? (fun x => !x.taken)).bind (fun x => if x.lost then none else some x)

/-- TYPE of a frame (R367). -/
def linkType (w : BitVec 64) : Nat := bits w.toNat 63 60

/-- SEQ of a frame. -/
def linkSeq (w : BitVec 64) : Nat := bits w.toNat 59 56

/-- CRC-8 over bits 63 to 8 of a frame (R367). -/
def linkCrc (w : BitVec 64) : Nat := crcLeft 8 0x2F 0xFF (beBytes 7 (w.toNat / 256))

/-- The TYPEs from logic to power, and those from power to logic (R368). -/
def typesDown : List Nat := [1, 2, 3, 4, 5, 6, 7]
/-- The TYPEs from power to logic. -/
def typesUp : List Nat := [9, 0xA, 0xC]

/-- A frame that is not discarded: its CRC is right and its TYPE listed. -/
def linkOk (types : List Nat) (w : BitVec 64) : Bool := linkCrc w = w.toNat % 256 && types.contains (linkType w)

/-- TYPE of a frame the logic die sends (R368). -/
def LinkFrame.type : LinkFrame → Nat
  | .set _ _ _ => 2
  | .safe _ => 3
  | .clear _ => 4
  | .readback => 5
  | .takeover _ _ => 6
  | .park => 7

/-- The modes in which the links carry frames: the service modes, and the entry to DOZE or SLEEP, in which PARK goes out (R377, R380). -/
def Dev.linkRuns (d : Dev) : Bool := d.inService || d.sys.entry ≠ .none

/-- The next frame of a die's send queue, where it has the TYPE `type`, arrives as `w`. A frame that is to be discarded is counted, and
waits to be resent (R367 to R369). -/
def Dev.takeFrame (k : Nat) (w : BitVec 64) (type : Nat) (f : LinkFrame → Dev → Dev) (d : Dev) : Dev :=
  match nextFrame (d.die k).queue with
  | some x =>
    if !d.linkRuns || !(d.die k).powered || x.frame.type ≠ type then d
    else if !linkOk typesDown w then (d.bump (Fld.LS_LINK_CRC k)).onDie k (fun y => { y with queue := markLost y.queue })
    else if linkType w = type && linkSeq w = x.seq then f x.frame ((d.onDie k (fun y => { y with queue := markTaken y.queue })).heard k)
    else d
  | none => d

/-- HEARTBEAT: the commanded ON of a die's channels. -/
def execHeartbeat (die : Fin 2) (w : BitVec 64) (s : State) : Out :=
  run (Dev.atDies (fun d =>
    let k := die.val
    if !d.linkRuns || !(d.die k).powered then d
    else if !linkOk typesDown w then d.bump (Fld.LS_LINK_CRC k)
    else if linkType w ≠ 1 then d
    else
      let d := d.heard k
      if (d.die k).mode = .owned && !(d.die k).inLimp then
        d.each (dieChannels k) (fun n d => d.onCh n (fun c => { c with on := d.flag (Fld.LS_CH_CMD_ON n) }))
      else d)) s

/-- A die adopts settings of a channel. -/
def DieCh.adopt (x : ChSet) (c : DieCh) : DieCh :=
  { c with
    on := x.on, pwmEn := x.pwmEn, compEn := x.compEn, diagEn := x.diagEn, freq := x.freq, duty := x.duty, ioc := x.ioc
    iinr := x.iinr, inrMs := x.inrMs, vref := x.vref }

/-- The periods of a channel whose PWM_EN has just changed: without PWM none runs; at its start FREQ and DUTY come into use at once, and the
compensation with the next period (log entry 189). -/
def Dev.pwmSettled (n : Nat) (d : Dev) : Dev :=
  let c := d.dieCh n
  if !c.pwmEn then d.onCh n (fun c => { c with freqUse := 0 })
  else if c.freqUse = 0 && c.freq ≠ 0 then
    d.onCh n (fun c => { c with freqUse := c.freq, dutyIn := c.duty, dutyUse := c.duty, startAt := d.pwmGrid n c.freq })
  else d

/-- What a SET frame makes of the pulse of its channel: the die times it from the frame's arrival (R354). -/
def SetPulse.after (p : SetPulse) (now : Nat) (was : Option Nat) : Option Nat :=
  match p with
  | .keep => was
  | .ends => none
  | .starts width => some (now + 1000 * width)

/-- SET_FRAME. -/
def execSetFrame (die : Fin 2) (w : BitVec 64) (s : State) : Out :=
  run (Dev.atDies (Dev.takeFrame die.val w 2 (fun f d =>
    match f with
    | .set n x p =>
      if (d.die die.val).mode = .owned && !(d.die die.val).inLimp then
        (d.onCh n (fun c => { c.adopt x with pulse := p.after d.tns c.pulse })).pwmSettled n
      else d
    | _ => d))) s

/-- SAFE_FRAME: OFF, or FULL with PWM and compensation bypassed. -/
def execSafeFrame (die : Fin 2) (w : BitVec 64) (s : State) : Out :=
  run (Dev.atDies (Dev.takeFrame die.val w 3 (fun f d =>
    match f with
    | .safe codes =>
      if (d.die die.val).mode = .owned && !(d.die die.val).inLimp then
        d.each codes (fun e d => (d.onCh e.1 (fun c =>
          if e.2 = 1 then { c with on := false, pulse := none }
          else { c with on := true, pwmEn := false, compEn := false, pulse := none })).pwmSettled e.1)
      else d
    | _ => d))) s

/-- Clears a channel's latch; a trip in the same cycle wins (R359). -/
def Dev.unlatch (n : Nat) (d : Dev) : Dev := d.onCh n (fun c => if c.latchAt = d.tns then c else { c with cause := 0 })

/-- CLEAR_FRAME. -/
def execClearFrame (die : Fin 2) (w : BitVec 64) (s : State) : Out :=
  run (Dev.atDies (Dev.takeFrame die.val w 4 (fun f d =>
    match f with
    | .clear n => if (d.die die.val).inLimp then d else d.unlatch n
    | _ => d))) s

/-- A channel's state as STATE carries it: whether it is commanded on, PWM_EN, COMP_EN, FREQ and DUTY in use or, while no period runs, as
last commanded, the latch, the pulse; LIMP drives with PWM and compensation off (R372; log entry 190). -/
def Dev.chState (d : Dev) (n : Nat) : ChState :=
  let c := d.dieCh n
  let limp := (d.die (n / 12)).inLimp
  let runs := c.freqUse ≠ 0
  ⟨n, d.chCommanded n, c.pwmEn && !limp, c.compEn && !limp, if runs then c.freqUse else c.freq, if runs then c.dutyIn else c.duty,
    c.cause, limp, c.pulse⟩

/-- READBACK. -/
def execReadback (die : Fin 2) (w : BitVec 64) (s : State) : Out :=
  run (Dev.atDies (Dev.takeFrame die.val w 5 (fun _ d =>
    d.onDie die.val (fun x => { x with answer := some (x.stateId, (dieChannels die.val).map d.chState) })))) s

/-- A TAKEOVER that the die accepts: it adopts the states and the held settings, and its OTP words as they read now (R472); channels the
image does not use are commanded off, the link is up. A pulse goes on, since the die times it. -/
def Dev.takenOver (k : Nat) (states : List ChState) (d : Dev) : Dev :=
  let d := (d.onDie k (fun x => { x with mode := .owned, limpPin := false, linkDown := false })).otpTake k
  let d := d.each states (fun st d =>
    if d.chUsed st.n then
      (d.onCh st.n (fun c =>
        { c.adopt (d.chSet st.n) with
          on := st.on, pwmEn := st.pwm, compEn := st.comp, freq := st.freq, duty := st.duty, pulse := c.pulse })).pwmSettled st.n
    else d.onCh st.n (fun c => { c with on := false, pulse := none, diagEn := false }))
  (d.putLinkUp k true).bump (Fld.LS_LINK_TAKEOVER k)

/-- TAKEOVER: accepted only where STATE_ID is unchanged and LIMP_N is not asserted; otherwise the logic die reads back again. -/
def execTakeover (die : Fin 2) (w : BitVec 64) (s : State) : Out :=
  run (Dev.atDies (Dev.takeFrame die.val w 6 (fun f d =>
    match f with
    | .takeover id states =>
      if d.loads.limpN then d
      else if (d.die die.val).stateId = id then d.takenOver die.val states
      else d.linkSend die.val .readback
    | _ => d))) s

/-- PARK: the channels are off, silence is not hold. -/
def execPark (die : Fin 2) (w : BitVec 64) (s : State) : Out :=
  run (Dev.atDies (Dev.takeFrame die.val w 7 (fun _ d =>
    (d.onDie die.val (fun x => if x.mode = .owned then { x with mode := .parked } else x)).each (dieChannels die.val)
      (fun n => Dev.onCh n (fun c => { c with on := false, pulse := none }))))) s

/-! ### Frames from the power dies (R360, R369, R372) -/

/-- A frame of a die, of the TYPE `type`, arrives at the logic die as `w`. -/
def Dev.fromDie (k : Nat) (w : BitVec 64) (type : Nat) (f : Dev → Dev) (d : Dev) : Dev :=
  if !d.linkRuns || !(d.die k).powered then d
  else if !linkOk typesUp w then d.bump (Fld.LS_LINK_CRC k)
  else if linkType w ≠ type then d
  else f (d.onDie k (fun x => { x with linkHeard := d.tns, seqIn := linkSeq w }))

/-- The status fields of a channel as STATUS reports them. -/
def Dev.showCh (n : Nat) (d : Dev) : Dev :=
  let x := d.die (n / 12)
  let c := d.dieCh n
  let d := d.put (Fld.LS_CH_STATUS_STATE n) (if c.cause ≠ 0 then 2 else b2n (d.chOn n))
  let d := d.put (Fld.LS_CH_STATUS_CAUSE n) c.cause
  let d := d.putFlag (Fld.LS_CH_STATUS_INRUSH n) (d.inInrush n)
  let d := d.putFlag (Fld.LS_CH_STATUS_LIMP n) x.inLimp
  let d := d.putFlag (Fld.LS_CH_STATUS_HOLD n) (match x.mode with | .hold _ => true | _ => false)
  let d := d.put (Fld.LS_CH_STATUS_DIAG n) c.diag
  let d := d.putFlag (Fld.LS_CH_STATUS_PULSE n) c.pulse.isSome
  d.put (Fld.LS_CH_STATUS_EFF_DUTY n) (d.effDuty n)

/-- STATUS_FRAME: states, latches, supply flags; frames taken are acknowledged. -/
def execStatusFrame (die : Fin 2) (w : BitVec 64) (s : State) : Out :=
  run (fun d => d.fromDie die.val w 9 (fun d =>
    let k := die.val
    let x := d.die k
    let d := d.onDie k (fun y => { y with queue := y.queue.filter (fun f => !f.taken), reports := [] })
    let d := d.each x.reports Dev.takeReport
    let d := d.putFlag Fld.LS_STATUS_LIMP_N d.loads.limpN
    let d := d.putFlag (if k = 0 then Fld.LS_STATUS_PS0_LIMP else Fld.LS_STATUS_PS1_LIMP) x.inLimp
    let d := d.put Fld.LS_STATUS_SUPPLY x.supply
    let d := d.put Fld.LS_STATUS_LHI d.loads.lhi
    if d.linkUp k then d.each (dieChannels k) Dev.showCh else d)) s

/-- The current of a channel in units of 0.5 mA (R349, R350). -/
def chCurrent (n code : Nat) : Nat := code * (if n < 4 then 20 else if n < 16 then 8 else 3)

/-- Rds(on) typ in mΩ (R349). -/
def chRds (n : Nat) : Nat := if n < 4 then 8 else if n < 16 then 25 else 100

/-- A channel's dissipation in units of 2.5e-11 mW: I² × Rds(on) × (1 + 0.0045 × (T − 25 °C)) (R350). -/
def chPower (n code : Nat) (temp : Int) : Nat := chCurrent n code * chCurrent n code * chRds n * (10000 + 45 * (temp - 25)).toNat

/-- A 9-bit temperature. -/
def temp9 (v : Nat) : Int := (BitVec.ofNat 9 v).toInt

/-- LS_TOTAL from the channels' latest reports (R350). -/
def Dev.total (d : Dev) : Dev :=
  let ns := List.range 24
  let i := (ns.map (fun n => chCurrent n (d.fld (Fld.LS_CH_SENSE_AVG n)))).sum
  let p := (ns.map (fun n => chPower n (d.fld (Fld.LS_CH_SENSE_AVG n)) (temp9 (d.fld (Fld.LS_CH_TEMP_TEMP n))))).sum
  (d.put Fld.LS_TOTAL_CURRENT (min (i / 20) 65535)).put Fld.LS_TOTAL_POWER (min (p / 40000000000) 65535)

/-- A SENSE report of one channel. -/
def Dev.senseCh (n : Nat) (x : SenseCh) (d : Dev) : Dev :=
  let d := (d.put (Fld.LS_CH_SENSE_AVG n) x.avg.toNat).put (Fld.LS_CH_SENSE_PEAK n) x.peak.toNat
  let t := x.temp.toInt
  let d := if temp9 (d.fld (Fld.LS_CH_TEMP_TMAX n)) < t then d.put (Fld.LS_CH_TEMP_TMAX n) x.temp.toNat else d
  (d.put (Fld.LS_CH_TEMP_TEMP n) x.temp.toNat).setWarm n ((d.fld Fld.LS_TWARN : Int) < t)

/-- SENSE_FRAME: one report per channel of the die, and VBAT_PWR in 10 mV. -/
def execSenseFrame (die : Fin 2) (w : BitVec 64) (chs : List SenseCh) (vbat : BitVec 13) (s : State) : Out :=
  run (fun d => d.fromDie die.val w 0xA (fun d =>
    let d := d.each (((dieChannels die.val).zip chs).take 12) (fun e => Dev.senseCh e.1 e.2)
    let d := d.put Fld.LS_VBAT_VBAT vbat.toNat
    let d := d.put Fld.LS_VBAT_VMIN (min (d.fld Fld.LS_VBAT_VMIN) vbat.toNat)
    let d := d.total
    { d with loads := { d.loads with
        sumI := d.loads.sumI + d.fld Fld.LS_TOTAL_CURRENT, sumP := d.loads.sumP + d.fld Fld.LS_TOTAL_POWER
        samples := d.loads.samples + 1 } })) s

/-- SUPPLY_LIMIT_REPORT: the averages over a second that has ended against 80 A and 12 W (R350). -/
def execSupplyLimitReport (s : State) : Out :=
  run (fun d => d.onlyIf (d.inService && d.loads.sumFrom + 1000000000 ≤ d.tns) (fun d =>
    let isOver := 8000 * d.loads.samples < d.loads.sumI || 12000 * d.loads.samples < d.loads.sumP
    let d := { d with loads := { d.loads with sumI := 0, sumP := 0, samples := 0, sumFrom := d.tns } }
    if isOver then d.raise 340 else d)) s

/-- Sets a used channel's live fields to a state read back (R372). A die that was never commanded has no FREQ and DUTY to give, and no
PWM_EN and COMP_EN but those of LIMP. A pulse the die runs is noted: ON falls with its end (R354). -/
def Dev.liveFields (st : ChState) (d : Dev) : Dev :=
  if !d.chUsed st.n then d
  else
    let d := (d.putFlag (Fld.LS_CH_CMD_ON st.n) st.on).put (Fld.LS_CH_STATUS_CAUSE st.n) st.cause
    let d := match st.pulse with
      | some e => d.startPulse (32 + st.n) e
      | none => d.endPulse (32 + st.n)
    let d := d.onlyIf (st.limp || st.freq ≠ 0) (fun d =>
      (d.putFlag (Fld.LS_CH_CMD_PWM_EN st.n) st.pwm).putFlag (Fld.LS_CH_CMD_COMP_EN st.n) st.comp)
    d.onlyIf (st.freq ≠ 0) (fun d => (d.put (Fld.LS_CH_PWM_FREQ st.n) st.freq).put (Fld.LS_CH_PWM_DUTY st.n) st.duty)

/-- The states a TAKEOVER carries: those of the live fields. -/
def Dev.takeoverState (d : Dev) (n : Nat) : ChState :=
  ⟨n, d.flag (Fld.LS_CH_CMD_ON n), d.flag (Fld.LS_CH_CMD_PWM_EN n), d.flag (Fld.LS_CH_CMD_COMP_EN n), d.fld (Fld.LS_CH_PWM_FREQ n),
    d.fld (Fld.LS_CH_PWM_DUTY n), 0, false, none⟩

/-- STATE_FRAME: the live fields and the OTP mirror are set, and TAKEOVER is sent. -/
def execStateFrame (die : Fin 2) (w : BitVec 64) (s : State) : Out :=
  run (fun d =>
    let k := die.val
    match (d.die k).answer with
    | none => d
    | some (id, states) => d.fromDie k w 0xC (fun d =>
      let d := d.onDie k (fun x => { x with answer := none })
      let d := d.each states Dev.liveFields
      let bad := (List.range 13).any (fun w => d.loads.otpBad.contains (13 * k + w))
      let d := d.put (Fld.LS_OTP_GLOBAL k) (setBits (d.otpWord k 0) 19 19 (b2n bad))
      let d := d.each (List.range 12) (fun i d => d.put (Fld.LS_OTP_CH k i) (d.otpWord k (1 + i)))
      let d := d.onlyIf bad (Dev.raise 342)
      d.linkSend k (.takeover id ((dieChannels k).map d.takeoverState)))) s

/-! ### Link supervision (R369) -/

/-- Whether a frame waits for its acknowledgement longer than 20 µs. -/
def LinkSend.late (x : LinkSend) (now : Nat) : Bool := decide (x.sentAt + 20000 ≤ now)

/-- Resends the first frame that waits too long and has a retry left. -/
def resend (now : Nat) : List LinkSend → List LinkSend
  | [] => []
  | f :: t =>
    if f.late now && f.retries < 3 then { f with sentAt := now, retries := f.retries + 1, lost := false } :: t else f :: resend now t

/-- LINK_FRAME_RETRY. -/
def execLinkFrameRetry (die : Fin 2) (s : State) : Out :=
  run (fun d =>
    let q := (d.die die.val).queue
    d.onlyIf (d.linkRuns && q.any (fun f => f.late d.tns && f.retries < 3)) (fun d =>
      (d.onDie die.val (fun x => { x with queue := resend d.tns x.queue })).bump (Fld.LS_LINK_RETRY die.val))) s

/-- LINK_DOWN: retries are exhausted, or no valid frame has come from the die for t_hbl. -/
def execLinkDown (die : Fin 2) (s : State) : Out :=
  run (fun d =>
    let k := die.val
    let x := d.die k
    d.onlyIf (d.hasLoads && d.linkRuns && !x.linkDown &&
        (x.queue.any (fun f => f.late d.tns && 3 ≤ f.retries) || x.linkHeard + 350000 ≤ d.tns)) (fun d =>
      let d := (d.onDie k (fun x => { x with linkDown := true, queue := [], answer := none })).putLinkUp k false
      let d := d.each (dieChannels k) (fun n => Dev.put (Fld.LS_CH_STATUS_STATE n) 3)
      (d.bump (Fld.LS_LINK_DOWN k)).raise (336 + k))) s

/-- LINK_RECOVERY. -/
def execLinkRecovery (die : Fin 2) (s : State) : Out :=
  run (fun d => d.onlyIf (d.inService && (d.die die.val).linkDown && (d.die die.val).queue.isEmpty)
    (Dev.linkSend die.val .readback)) s

/-! ### Silence, power-up, LIMP (R370 to R374) -/

/-- POWER_DIE_HOLD: no valid logic frame for t_hbl. -/
def execPowerDieHold (die : Fin 2) (s : State) : Out :=
  run (Dev.atDies (fun d =>
    let x := d.die die.val
    d.onlyIf (x.mode = .owned && x.heard + 350000 ≤ d.tns) (Dev.onDie die.val (fun x => { x with mode := .hold d.tns })))) s

/-- The OTP policy of a die is applied. -/
def Dev.diePolicy (k : Nat) (d : Dev) : Dev :=
  if bit (d.otpUsed k 0) 21 then d.onDie k (fun x => { x with mode := .limp })
  else
    (d.onDie k (fun x => { x with mode := .off })).each (dieChannels k) (fun n => Dev.onCh n (fun c => { c with on := false, pulse := none }))

/-- HOLD_POLICY. -/
def execHoldPolicy (die : Fin 2) (s : State) : Out :=
  run (Dev.atDies (fun d =>
    match (d.die die.val).mode with
    | .hold since => if since + 1000000 * d.tHold die.val ≤ d.tns then d.diePolicy die.val else d
    | _ => d)) s

/-- POWER_DIE_POWERUP: VBAT_PWR has come up, for the first time or after it had gone; what the die held before is lost, and it reads its
OTP words. -/
def execPowerDiePowerup (die : Fin 2) (s : State) : Out :=
  run (Dev.atDies (fun d =>
    let d := (d.each (dieChannels die.val) (fun n => Dev.onCh n (fun _ => chBlank))).otpTake die.val
    let d := { d with loads := { d.loads with dip := d.loads.dip.filter (· ≠ die.val) } }
    d.onDie die.val (fun x =>
      { x with
        mode := .init d.tns, limpPin := d.loads.limpN, stateId := 0, supply := 0, heard := d.tns, answer := none, reports := []
        groundLost := false, pwmRef := d.tns }))) s

/-- POWERUP_TAKEOVER_TIMEOUT. -/
def execPowerupTakeoverTimeout (die : Fin 2) (s : State) : Out :=
  run (Dev.atDies (fun d =>
    match (d.die die.val).mode with
    | .init since => if since + 300000000 ≤ d.tns then d.diePolicy die.val else d
    | _ => d)) s

/-- LIMP_ENTRY: LIMP_N has been low for t_lhi. -/
def execLimpEntry (s : State) : Out :=
  run (Dev.atDies (fun d =>
    { d with loads := { d.loads with limpN := true } }.each [0, 1] (fun k d =>
      if (d.die k).powered then
        (d.onDie k (fun x => { x with limpPin := true })).each (dieChannels k) Dev.endLoadPulse
      else d))) s

/-- LIMP_N_RELEASE: with the link alive the die stays in LIMP until the takeover; without it the LIMP ends, and a die the logic
die had commanded is in hold. -/
def execLimpNRelease (s : State) : Out :=
  run (Dev.atDies (fun d => d.onlyIf d.loads.limpN (fun d =>
    { d with loads := { d.loads with limpN := false } }.each [0, 1] (fun k d =>
      if d.inService && !(d.die k).linkDown then d.linkSend k .readback
      else d.onDie k (fun x =>
        { x with limpPin := false, mode := if x.mode = DieMode.owned then DieMode.hold d.tns else x.mode }))))) s

/-- LHI_FOLLOW: the filtered level of an LHI pin changes. -/
def execLhiFollow (pin : Fin 8) (level : Bool) (s : State) : Out :=
  run (Dev.atDies (fun d => d.onlyIf (bit d.loads.lhi pin.val ≠ level) (fun d =>
    { d with loads := { d.loads with
        lhi := setBits d.loads.lhi pin.val pin.val (b2n level), lhiAt := Tab.set (fun _ => 0) d.loads.lhiAt pin.val d.tns } }))) s

/-- LIMP_LATCH_CLEAR: the mapped pin has been at its off level for 10 ms. -/
def execLimpLatchClear (n : Fin 24) (s : State) : Out :=
  run (Dev.atDies (fun d =>
    let x := d.die (n.val / 12)
    match d.limpPinOf n.val with
    | some p =>
      let since := max x.limpAt (Tab.get (fun _ => 0) d.loads.lhiAt p)
      d.onlyIf (x.inLimp && (d.dieCh n.val).cause ≠ 0 && !d.limpOn n.val && since + 10000000 ≤ d.tns) (Dev.unlatch n.val)
    | none => d)) s

/-! ### Actions, patterns, entry and parking (R354, R372, R376, R377) -/

/-- A Millwright action of a domain on a channel: KIND 4 on, 5 off, 6 a pulse of `width` µs. It travels over the switch control link
as a SET frame behind the frames sent before (R181); the die times the pulse (R354), and ON stays set for its duration. -/
def Dev.loadAction (kind n width dom : Nat) (d : Dev) : Dev :=
  let x := d.die (n / 12)
  if d.hasLoads && d.linkUp (n / 12) && x.mode = .owned && !x.inLimp && d.chUsed n && !d.actedAbove (32 + n) (dom + 1) then
    let d := ((d.endPulse (32 + n)).putFlag (Fld.LS_CH_CMD_ON n) (kind ≠ 5)).noteActed (32 + n) dom
    let d := if kind = 6 then d.startPulse (32 + n) (d.tns + 1000 * width) else d
    d.linkSend (n / 12) (.set n (d.chSet n) (if kind = 6 then .starts width else .ends))
  else d

/-- The die ends the pulse of a channel that has run its WIDTH: it leaves the channel with ON = 0, in LS_CHn_CMD too unless a later command
has ended the pulse there (R354). -/
def Dev.loadPulseEnd (n : Nat) : Dev → Dev :=
  Dev.atDies (fun d =>
    match (d.dieCh n).pulse with
    | some e =>
      d.onlyIf ((d.die (n / 12)).powered && decide (e ≤ d.tns)) (fun d =>
        let noted := Tab.get (fun _ => 0) d.phase.pulses (32 + n) ≠ 0
        let d := d.onCh n (fun c => { c with on := false, pulse := none })
        d.onlyIf noted (fun d => (d.endPulse (32 + n)).putFlag (Fld.LS_CH_CMD_ON n) false))
    | none => d)

/-- The code of a pattern for a channel. -/
def Dev.patternCode (d : Dev) (p n : Nat) : Nat := bits (Tab.get (fun _ => 0) d.loads.patterns p) (2 * n + 1) (2 * n)

/-- A safe-state pattern at the load channels (R376): the commands are rewritten and SAFE frames sent; at a die in LIMP it has no effect. -/
def Dev.loadPattern (p : Nat) (d : Dev) : Dev :=
  if !d.hasLoads then d
  else
    let hit := (List.range 24).filter (fun n => d.patternCode p n ≠ 0 && d.chUsed n && !(d.die (n / 12)).inLimp)
    let d := d.each hit (fun n d =>
      let full := d.patternCode p n = 2
      let d := d.putFlag (Fld.LS_CH_CMD_ON n) full
      let d := if full then (d.putFlag (Fld.LS_CH_CMD_PWM_EN n) false).putFlag (Fld.LS_CH_CMD_COMP_EN n) false else d
      let d := (d.endPulse (32 + n)).putFlag (Fld.LS_CH_STATUS_SAFE n) true
      { d with loads := { d.loads with ctl := setBits d.loads.ctl n n 1 } })
    let d := (d.put Fld.LS_STATUS_PATTERN p).putFlag Fld.LS_STATUS_SAFE_ACT true
    d.each [0, 1] (fun k d =>
      let codes := (hit.filter (fun n => n / 12 = k)).map (fun n => (n, d.patternCode p n))
      if codes.isEmpty then d else d.linkSendSafe k codes)

/-- The end of a pattern at the load channels (R376, R429): the rewritten commands stay. -/
def Dev.loadPatternEnd (d : Dev) : Dev :=
  let d := { d with loads := { d.loads with ctl := 0 } }
  let d := d.each (List.range 24) (fun n => Dev.putFlag (Fld.LS_CH_STATUS_SAFE n) false)
  (d.put Fld.LS_STATUS_PATTERN 0).putFlag Fld.LS_STATUS_SAFE_ACT false

/-- Entry to RUN or return from PARK: the logic die reads each die back (R372). -/
def Dev.loadsEntry (d : Dev) : Dev :=
  if !d.hasLoads then d
  else
    let d := { d with loads := { d.loads with sumI := 0, sumP := 0, samples := 0, sumFrom := d.tns } }
    d.each [0, 1] (fun k d =>
      (d.onDie k (fun x => { x with queue := [], answer := none, linkHeard := d.tns, linkDown := false })).linkSend k .readback)

/-- The logic die stops sending (R370): every frame still queued is gone, the links are not up. -/
def Dev.loadsStop (d : Dev) : Dev :=
  d.each [0, 1] (fun k d => (d.onDie k (fun x => { x with queue := [], answer := none, linkDown := false })).putLinkUp k false)

/-- Before DOZE and SLEEP every channel is commanded off and PARK is sent (R377). -/
def Dev.loadsPark (d : Dev) : Dev :=
  if !d.hasLoads then d
  else
    let d := d.each (List.range 24) (fun n d => (d.endPulse (32 + n)).putFlag (Fld.LS_CH_CMD_ON n) false)
    d.each [0, 1] (fun k => Dev.linkSend k .park)

end Sys2Proof.Machine
end

