-- ==== Sys2Proof/Machine/Actions.lean ====
section
/-! DEFINITION. Where events leave their block: the dispatch of Millwright actions (R176 to R182), the end of pulses, deferred ring
commands, and the delivery of route events (R68, R74). -/

namespace Sys2Proof.Machine

/-! ### Firing an action (R177, R179) -/

/-- Further PERIODs a moved P needs until φ no longer has it crossed. -/
def missedPeriods (dir phi p period : Nat) : Nat :=
  let d := phDiff phi p
  if dir = 1 then (if 0 ≤ d then d.toNat / period + 1 else 0)
  else if d < 0 then ((-d).toNat + period - 1) / period
  else 0

/-- A one-shot is disarmed; a periodic action's P moves by PERIOD, and by the PERIODs missed. -/
def Dev.fireAction (a : Nat) (d : Dev) : Dev :=
  let period := d.actPeriod a
  let k := d.fld (Fld.PH_ACT_SHAPE_DOMAIN a)
  if period = 0 then d.putFlag (Fld.PH_ACT_STATUS_ARMED a) false
  else
    let dir := d.fld (Fld.PH_ACT_SHAPE_DIR a)
    let sign : Int := if dir = 2 then -1 else 1
    let p := phAdd (d.actP a) (sign * period)
    let n := missedPeriods dir (d.phi k) p period
    let p := phAdd p (sign * (n * period))
    let d := d.putPair (Fld.PH_ACT_P_LO_P a) (Fld.PH_ACT_P_HI_P a) p
    if n = 0 then d else ((d.count Fld.PH_MISSED_COUNT n).put Fld.PH_MISSED_SLOT a).raiseN 113 n

/-- A late action. -/
def Dev.lateAction (a : Nat) (d : Dev) : Dev := ((d.bump Fld.PH_LATE_COUNT).put Fld.PH_LATE_SLOT a).raise 112

/-! ### Effects (R176, R180, R181) -/

/-- A DIO action of a domain: KIND 1 set, 2 clear, 3 a pulse of `width` µs. A higher domain's action in the same cycle takes effect
after it. -/
def Dev.dioAction (kind n width dom : Nat) (d : Dev) : Dev :=
  if d.actedAbove n (dom + 1) then d
  else
    let d := ((d.endPulse n).putDioOut n (kind ≠ 2)).noteActed n dom
    if kind = 3 then d.startPulse n (d.tns + 1000 * width) else d

/-- A deferred command to a node, to execute at FRC `exec`; a node that is no member counts in PH_LATE, and nothing else. Answers
false where the node's queue is full and the command has to wait. -/
def Dev.ringAction (a node cmd exec : Nat) (d : Dev) : Bool × Dev :=
  if !d.isMember node then (true, (d.bump Fld.PH_LATE_COUNT).put Fld.PH_LATE_SLOT a)
  else if d.ringFull node then (false, d)
  else (true, d.enqueue node ⟨.dcmd a cmd exec, none⟩)

/-- Whether the active safe-state pattern controls an action's target (R182). -/
def Dev.patternControls (d : Dev) (kind target : Nat) : Bool :=
  d.mode = .safe && ((1 ≤ kind && kind ≤ 3 && bit d.flt.dioCtl (target % 32)) || (4 ≤ kind && kind ≤ 6 && bit d.loads.ctl (target % 32)))

/-- The effect of an action that crossed at FRC `t`; false where it has to wait. -/
def Dev.actionEffect (a dom t : Nat) (d : Dev) : Bool × Dev :=
  let kind := d.fld (Fld.PH_ACT_SHAPE_KIND a)
  let target := d.fld (Fld.PH_ACT_SHAPE_TARGET a)
  let width := d.fld (Fld.PH_ACT_CTRL_WIDTH a)
  if 1 ≤ kind && kind ≤ 3 then (true, d.dioAction kind (target % 32) width dom)
  else if 4 ≤ kind && kind ≤ 6 then (true, d.loadAction kind (target % 32) width dom)
  else if kind = 7 then (true, d.canStep (target % 32))
  else if kind = 8 then
    d.ringAction a (bits target 13 8) (target % 256) (d.frc.toNat + 1000 * d.fld (Fld.RING_NODE_LAT (bits target 13 8)))
  else if kind = 9 then (true, d.postEvent (bits target 4 2) (bits target 1 0) 4 a dom (BitVec.ofNat 40 (t / 8)))
  else (true, d)

/-- The crossed action a domain dispatches next: the lowest slot. -/
def lowestSlot : List (Nat × Nat) → Option (Nat × Nat)
  | [] => none
  | x :: xs =>
    match lowestSlot xs with
    | some y => if y.1 < x.1 then some y else some x
    | none => some x

/-- One dispatch of a domain. A suppressed action is dispatched without being executed: it counts in FIRED (R182, R194). -/
def Dev.dispatch (k : Nat) (d : Dev) : Dev :=
  let x := d.phDom k
  let ready := match x.lastDispatch with
    | some t => decide (t + 1000 ≤ d.tns)
    | none => true
  match ready, lowestSlot x.waiting with
  | true, some (a, t) =>
    let kind := d.fld (Fld.PH_ACT_SHAPE_KIND a)
    let gone (d : Dev) : Dev := d.onPhDom k (fun y => { y with waiting := y.waiting.filter (fun w => w.1 ≠ a) })
    if d.patternControls kind (d.fld (Fld.PH_ACT_SHAPE_TARGET a)) then
      let d := (gone d).onPhDom k (fun y => { y with lastDispatch := some d.tns })
      (((d.bump Fld.PH_SUPPR_COUNT).put Fld.PH_SUPPR_SLOT a).bump (Fld.PH_ACT_STATUS_FIRED a)).fireAction a
    else
      match d.actionEffect a k t with
      | (false, d) => d
      | (true, d) =>
        let member := kind ≠ 8 || d.isMember (bits (d.fld (Fld.PH_ACT_SHAPE_TARGET a)) 13 8)
        let late := member && (t + 200 < d.frc.toNat || kind = 8)
        let d := (gone d).onPhDom k (fun y => { y with lastDispatch := some d.tns })
        let d := (d.bump (Fld.PH_ACT_STATUS_FIRED a)).fireAction a
        if late then d.lateAction a else d
  | _, _ => d

/-- ACTION_DISPATCH: a domain below, whose action is due at the same time, acts first (R180). -/
def execActionDispatch (dom : Fin 4) (s : State) : Out :=
  run (fun d => d.onlyIf (d.phaseRuns && (d.phDom dom.val).present) (Dev.each (List.range (dom.val + 1)) (fun k d =>
    d.onlyIf (d.phDom k).present (Dev.dispatch k)))) s

/-- The predicted time to the crossing of an action, ns; none where φ does not move toward P in an admitted direction. -/
def Dev.timeToCross (d : Dev) (a : Nat) : Option Nat :=
  let k := d.fld (Fld.PH_ACT_SHAPE_DOMAIN a)
  let x := d.phDom k
  let dir := d.fld (Fld.PH_ACT_SHAPE_DIR a)
  let dist := phDiff (d.actP a) (d.phi k)
  if x.stalled || x.frozen || x.vNum = 0 then none
  else if (bit dir 0 && 0 < dist && 0 < x.vNum) || (bit dir 1 && dist ≤ 0 && x.vNum < 0) then some (dist.natAbs * x.vDen / x.vNum.natAbs)
  else none

/-- DCMD_SEND: a ring action is sent early, with its predicted crossing time; it fires with the sending. It takes no
t_sep slot (DESIGN CHOICE, log entry 206). -/
def execDcmdSend (a : Fin 1024) (s : State) : Out :=
  run (fun d =>
    let i := a.val
    let target := d.fld (Fld.PH_ACT_SHAPE_TARGET i)
    let node := bits target 13 8
    let k := d.fld (Fld.PH_ACT_SHAPE_DOMAIN i)
    let lat := 1000 * d.fld (Fld.RING_NODE_LAT node)
    match d.timeToCross i with
    | none => d
    | some t =>
      d.onlyIf (d.phaseRuns && (d.phDom k).present && d.fld (Fld.PH_ACT_SHAPE_KIND i) = 8 && d.flag (Fld.PH_ACT_STATUS_ARMED i) &&
          !(d.phDom k).waiting.any (fun w => w.1 = i) && t ≤ lat + 1000 * d.fld (Fld.PH_ACT_CTRL_WIDTH i)) (fun d =>
        let late := t < lat && d.isMember node
        match d.ringAction i node (target % 256) (d.frc.toNat + max t lat) with
        | (false, d) => d
        | (true, d) =>
          let d := (d.bump (Fld.PH_ACT_STATUS_FIRED i)).fireAction i
          if late then d.lateAction i else d)) s

/-- PULSE_END: of a load channel, timed by its power die; of a discrete line. -/
def execPulseEnd (load : Bool) (line : Fin 32) (s : State) : Out :=
  run (fun d =>
    if load then d.loadPulseEnd line.val
    else
      let ends := Tab.get (fun _ => 0) d.phase.pulses line.val
      d.onlyIf (d.phaseRuns && ends ≠ 0 && ends ≤ d.tns) (fun d => (d.endPulse line.val).putDioOut line.val false)) s

/-! ### Route events (R68) -/

/-- A route event reaches its target. -/
def Dev.routeDeliver (r : RouteEvt) (d : Dev) : Dev :=
  let w := r.target.toNat
  let x := d.evalSlot r.slot
  match routeKind r.target with
  | 1 => d.postEvent (bits w 26 24) (bits w 23 22) 2 (bits w 15 0) r.slot x.capture
  | 2 =>
    let note := d.plainRecord 3 (bits w 15 0) r.slot (leBytes 8 (slotWord0 x) ++ leBytes 8 (slotWord1 x))
    d.offerRecord (bits w 26 21) { note with ns := r.time }
  | 3 => d.exportMark (bits w 26 21) (bits w 20 0)
  | 4 => d.onPhDom (bits w 26 25) (fun y => { y with update := true })
  | 5 =>
    if d.recorderRuns then
      d.recEnqueue (d.stampRecord (bits w 15 0)
        (leBytes 4 r.slot ++ leBytes 4 x.value.toNat ++ leBytes 1 x.tag.toNat ++ leBytes 5 x.capture.toNat) false)
    else d
  | _ => d

/-- ROUTE_EVENT_DELIVERY: the oldest route event issued. -/
def execRouteEventDelivery (s : State) : Out :=
  run (fun d =>
    match d.store.routeQ with
    | [] => d
    | r :: rs => ({ d with store := { d.store with routeQ := rs } }).routeDeliver r) s

end Sys2Proof.Machine
end

