-- ==== Sys2Proof/Machine/Faults.lean ====
section
/-! DEFINITION. Reeve (chapter 12): counting and classification of fault events, the armed reactions, SAFE, the transmit holds,
ERR_N, injection, half-resets of crossing groups. -/

namespace Sys2Proof.Machine

/-! ### Sources (R421, R437) -/

/-- The source numbers R437 assigns. -/
def sourceListed (n : Nat) : Bool :=
  [(0, 4), (16, 18), (24, 27), (32, 47), (64, 113), (128, 224), (232, 260), (264, 273), (280, 342), (352, 360)].any
    (fun r => r.1 ≤ n && n ≤ r.2)

/-- What Reeve keeps of a source. -/
def Dev.src (d : Dev) (n : Nat) : Src := Tab.get (fun _ => srcIdle) d.flt.srcs n

/-- Changes what Reeve keeps of a source. -/
def Dev.onSrc (n : Nat) (f : Src → Src) (d : Dev) : Dev :=
  { d with flt := { d.flt with srcs := Tab.set (fun _ => srcIdle) d.flt.srcs n (f (d.src n)) } }

/-- STATE of a source: 0 IDLE, 1 COUNTING, 2 SEVERE. -/
def Dev.srcState (d : Dev) (n : Nat) : Nat := d.fld (Fld.FLT_SRC_STATE_STATE n)

/-- Whether a source is SEVERE. -/
def Dev.severe (d : Dev) (n : Nat) : Bool := d.srcState n = 2

/-- An arming bit of a source: 0 REPORT HOST, 1 REPORT MGMT, 2 MINOR, 3 PIN, 4 SAFE, 5 TXHOLD. -/
def Dev.armed (d : Dev) (n i : Nat) : Bool := bit (d.fld (Fld.FLT_SRC_ARM_ARMING n)) i

/-- The 8-byte payload of a FAULT record (R425). -/
def faultPayload (severe inj : Bool) (count : Nat) : List Byte :=
  leBytes 1 (b2n severe) ++ leBytes 1 (b2n inj) ++ [0, 0] ++ leBytes 4 count

/-! ### ERR_N (R433) -/

/-- A PIN reaction starts t_errmin. -/
def Dev.pinReaction (d : Dev) : Dev :=
  ({ d with flt := { d.flt with errEnd := some (d.tns + 1000000 * d.fld Fld.FLT_ERRMIN) } }).showErr

/-- A write of FLT_ERR_HOLD. -/
def Dev.errHoldWrite (hold : Bool) (d : Dev) : Dev := (d.putFlag Fld.FLT_ERR_HOLD hold).showErr

/-- ERR_HOLD_WRITE. -/
def execErrHoldWrite (p : Path) (hold : Bool) (s : State) : Out :=
  runWrite p Reg.FLT_ERR_HOLD (b2n hold) (Dev.errHoldWrite hold) s

/-- ERRMIN_EXPIRY. -/
def execErrminExpiry (s : State) : Out :=
  run (fun d =>
    match d.flt.errEnd with
    | some t => if t ≤ d.tns then ({ d with flt := { d.flt with errEnd := none } }).showErr else d
    | none => d) s

/-! ### Transmit holds (R431) -/

/-- Sets or clears hold bits: 0 to 31 controllers, 32 to 46 switch ports. -/
def Dev.hold (mask : Nat) (on : Bool) (d : Dev) : Dev :=
  d.each ((List.range 47).filter (fun i => bit mask i)) (fun i d =>
    if i < 32 then (d.put ⟨Reg.FLT_HOLD_LO, i, i⟩ (b2n on)).putFlag (Fld.CAN_STATUS_HELD i) on
    else (d.put ⟨Reg.FLT_HOLD_HI, i - 32, i - 32⟩ (b2n on)).swHold (i - 32) on)

/-- The mask of a hold set. -/
def Dev.holdset (d : Dev) (i : Nat) : Nat := Tab.get (fun _ => 0) d.flt.holdsets i

/-- Whether a path is the host or the management port, whose writes alone clear holds, sources and SAFE. -/
def isMaster : Path → Bool
  | .host => true
  | .mgmt => true
  | _ => false

/-- A W1C write of FLT_HOLD_LO or FLT_HOLD_HI. -/
def Dev.holdClear (high : Bool) (v : Word) (d : Dev) : Dev :=
  if high then d.hold (v.toNat % 2 ^ 15 * 2 ^ 32) false else d.hold v.toNat false

/-- HOLD_CLEAR. -/
def execHoldClear (p : Path) (high : Bool) (v : Word) (s : State) : Out :=
  runWrite p (if high then Reg.FLT_HOLD_HI else Reg.FLT_HOLD_LO) v.toNat (fun d => d.onlyIf (isMaster p) (Dev.holdClear high v)) s

/-! ### SAFE (R428 to R430) -/

/-- A safe-state pattern. -/
def Dev.pattern (d : Dev) (p : Nat) : Pattern := Tab.get (fun _ => ⟨false, 0, 0, 0⟩) d.flt.patterns p

/-- A pattern is applied: load channels, DIO lines, holds; the controlled lines are the union with those of the pattern before. -/
def Dev.applyPattern (p : Nat) (d : Dev) : Dev :=
  let x := d.pattern p
  let d := d.loadPattern p
  let d := d.each ((List.range 32).filter (fun n => bit x.dioMask n)) (fun n d => (d.endPulse n).putDioOut n (bit x.dioVal n))
  let d := { d with flt := { d.flt with dioCtl := d.flt.dioCtl ||| x.dioMask } }
  let d := if x.hold then d.hold (d.holdset x.holdset) true else d
  (d.put Fld.FLT_STATUS_PATTERN p).putFlag Fld.FLT_STATUS_SAFE_ACT true

/-- KS2 to KS253 are cleared at entry to and exit from FACTORY (R417). -/
def Dev.clearFactoryKeys (d : Dev) : Dev := d.clearSlots (fun n => 2 ≤ n && n ≤ 253)

/-- FACTORY is left for SAFE: forces and FLT_INJ_COUNTS.EN are cleared (R188, R435), the factory keys too. -/
def Dev.factoryExit (d : Dev) : Dev :=
  ((d.dioForceWrite Reg.DIO_FORCE_EN 0).dioForceWrite Reg.DIO_FORCE_VAL 0).clearFactoryKeys.putFlag Fld.FLT_INJ_COUNTS_EN false

/-- A SAFE reaction or a forced SAFE that names pattern `p`, in a mode in which R428 applies. -/
def Dev.enterSafe (p cause detail : Nat) (d : Dev) : Dev :=
  let d := d.bump Fld.FLT_STATUS_SAFECNT
  let act := d.flag Fld.FLT_STATUS_SAFE_ACT
  if d.mode = .safe && act && p ≤ d.fld Fld.FLT_STATUS_PATTERN then d
  else
    let from_ := if d.mode = .safe then d.sys.fromFactory else d.mode = .factory
    let d := (d.onlyIf (d.mode = .factory) Dev.factoryExit).partialDiscard.transit .safe cause detail
    ({ d with sys := { d.sys with fromFactory := from_ } }).applyPattern p

/-- The result of an FLT_CTRL write. -/
def Dev.fltCode (c : Nat) (d : Dev) : Dev := d.put Fld.FLT_STATUS_CODE c

/-- FLT_CTRL with FORCE; the host may not while the management port holds the lease (R430). -/
def Dev.forceSafe (p : Path) (pat : Nat) (d : Dev) : Dev :=
  if !d.inService || !isMaster p || (p = .host && d.fld Fld.MGT_STATUS_HOLDER = 2) then d.fltCode E_PERM
  else ((d.enterSafe pat 0x0013 pat).raise 18).fltCode E_OK

/-- FORCE_SAFE. -/
def execForceSafe (p : Path) (pattern : Fin 8) (s : State) : Out :=
  runWrite p Reg.FLT_CTRL (0x7C000002 + 4 * pattern.val) (Dev.forceSafe p pattern.val) s

/-- FLT_CTRL with EXIT (R429). -/
def Dev.safeExit (p : Path) (d : Dev) : Dev :=
  if d.mode ≠ .safe || !isMaster p || (Tab.keys d.flt.srcs).any (fun n => (d.src n).safeFired && d.severe n) then d.fltCode E_PERM
  else
    let d := (d.put Fld.FLT_STATUS_PATTERN 0).putFlag Fld.FLT_STATUS_SAFE_ACT false
    let d := ({ d with flt := { d.flt with dioCtl := 0 } }).loadPatternEnd
    let target : Mode := if d.sys.fromFactory then .factory else if d.rd Reg.SYS_LOSS ≠ 0 then .degraded else .run
    ((d.onlyIf (target = .factory) Dev.clearFactoryKeys).transit target 0x0014 0).fltCode E_OK

/-- SAFE_EXIT. -/
def execSafeExit (p : Path) (s : State) : Out := runWrite p Reg.FLT_CTRL 0x7C000001 (Dev.safeExit p) s

/-! ### Reactions (R425, R427) -/

/-- The SAFE and TXHOLD reactions of a source. -/
def Dev.actReactions (n : Nat) (d : Dev) : Dev :=
  let d := if d.armed n 4 && d.inService then
      (d.onSrc n (fun x => { x with safeFired := true })).enterSafe (d.fld (Fld.FLT_SRC_ARM_PATTERN n)) 0x0012 n
    else d
  if d.armed n 5 then d.hold (d.holdset (d.fld (Fld.FLT_SRC_ARM_HOLDSET n))) true else d

/-- A source has become SEVERE: its armed reactions fire once; in DOZE SAFE and TXHOLD wait (R443). -/
def Dev.fire (n : Nat) (d : Dev) : Dev :=
  let count := d.fld (Fld.FLT_SRC_STATE_COUNT n)
  let inj := d.flag (Fld.FLT_SRC_STATE_INJ n)
  let d := if d.armed n 0 then d.sysRecord 0x11 n 0 (faultPayload true inj count) else d
  let d := if d.armed n 1 then d.notice 1 inj n 0 count else d
  let d := d.recAppendFree 0x000A [n, count, b2n inj]
  let d := if d.armed n 3 then d.pinReaction else d
  if d.mode = .doze then d.onSrc n (fun x => { x with withheld := true }) else d.actReactions n

/-- The reactions withheld in DOZE, in the first cycle after the return (R443). -/
def Dev.withheldReactions (d : Dev) : Dev :=
  d.each ((Tab.keys d.flt.srcs).filter (fun n => (d.src n).withheld)) (fun n d =>
    (d.onSrc n (fun x => { x with withheld := false })).actReactions n)

/-! ### Counting (R422 to R424) -/

/-- A window closes. -/
def Dev.windowClose (n : Nat) (d : Dev) : Dev :=
  (((d.put (Fld.FLT_SRC_STATE_STATE n) 0).put (Fld.FLT_SRC_STATE_COUNT n) 0).putFlag (Fld.FLT_SRC_STATE_INJ n) false)

/-- Whether the window of a source in COUNTING is over. -/
def Dev.windowOver (d : Dev) (n : Nat) : Bool :=
  d.srcState n = 1 && decide ((d.src n).openAt + 1000000 * (d.src n).w ≤ d.frc.toNat)

/-- A window opens; MINOR reports it once its first events are counted. -/
def Dev.windowOpen (n : Nat) (d : Dev) : Dev :=
  (d.onSrc n (fun x => { x with
    openAt := d.frc.toNat, w := d.fld (Fld.FLT_SRC_LIMIT_W n), n := d.fld (Fld.FLT_SRC_LIMIT_N n), safeFired := false })).put
    (Fld.FLT_SRC_STATE_STATE n) 1

/-- The report of a window open (R425). -/
def Dev.minorReport (n : Nat) (d : Dev) : Dev :=
  let count := d.fld (Fld.FLT_SRC_STATE_COUNT n)
  let inj := d.flag (Fld.FLT_SRC_STATE_INJ n)
  if d.armed n 2 then
    let d := d.sysRecord 0x11 n 0 (faultPayload false inj count)
    if d.armed n 1 then d.notice 2 inj n 0 count else d
  else d

/-- The number of sources in SEVERE and the bit of one. -/
def Dev.putSevere (n : Nat) (b : Bool) (d : Dev) : Dev :=
  let was := d.severe n
  let d := d.put ⟨Reg.FLT_SEVERE (n / 32), n % 32, n % 32⟩ (b2n b)
  if was = b then d
  else d.put Fld.FLT_STATUS_SEVCNT (if b then d.fld Fld.FLT_STATUS_SEVCNT + 1 else d.fld Fld.FLT_STATUS_SEVCNT - 1)

/-- `real` and `inj` events of a source in one Reeve cycle; answers whether it became SEVERE. -/
def Dev.countEvents (n real inj : Nat) (d : Dev) : Bool × Dev :=
  let d := (d.count (Fld.FLT_SRC_REAL_COUNT n) real).count (Fld.FLT_SRC_INJ_COUNT n) inj
  let k := real + if d.flag Fld.FLT_INJ_COUNTS_EN then inj else 0
  if k = 0 || !d.flag (Fld.FLT_SRC_ARM_EN n) || !d.reactive then (false, d)
  else
    let d := if d.windowOver n then d.windowClose n else d
    let opens := d.srcState n = 0
    let d := if opens then d.windowOpen n else d
    let d := d.count (Fld.FLT_SRC_STATE_COUNT n) k
    let d := if k = real then d else d.putFlag (Fld.FLT_SRC_STATE_INJ n) true
    let d := if opens then d.minorReport n else d
    if d.srcState n = 1 && (d.src n).n ≤ d.fld (Fld.FLT_SRC_STATE_COUNT n) then
      (true, (d.putSevere n true).put (Fld.FLT_SRC_STATE_STATE n) 2)
    else (false, d)

/-- The events of one Reeve cycle: all are counted, then the reactions are issued in ascending source order (R427). -/
def Dev.reeveCycle (evs : List (Nat × Nat × Nat)) (d : Dev) : Dev :=
  let (hit, d) := evs.foldl (fun (acc : List Nat × Dev) e =>
    match acc.2.countEvents e.1 e.2.1 e.2.2 with
    | (true, d) => (acc.1 ++ [e.1], d)
    | (false, d) => (acc.1, d)) ([], d)
  d.each hit Dev.fire

/-- The sources the chip environment itself feeds: the die temperature and the MRAM errors. -/
def directSource (n : Nat) : Bool := n = 1 || n = 3 || n = 4

/-- The events of a source that the blocks have raised and Reeve has not taken. -/
def Dev.raised (d : Dev) (n : Nat) : Nat := d.faultQ.queue.foldl (fun k e => if e.1 = n then k + e.2 else k) 0

/-- Takes `k` events of a source from the queue of the raised ones. -/
def takeRaised (n : Nat) : Nat → List (Nat × Nat) → List (Nat × Nat)
  | _, [] => []
  | k, e :: es =>
    if e.1 = n then (if e.2 ≤ k then takeRaised n (k - e.2) es else (n, e.2 - k) :: es) else e :: takeRaised n k es

/-- Whether Reeve counts a source in the present mode (R443). -/
def Dev.counts (d : Dev) (n : Nat) : Bool :=
  sourceListed n && (d.reactive || (n < 32 && (d.mode = .rom || d.mode = .loader || d.mode = .configure)))

/-- The events that reach Reeve in one cycle, with their numbers, in ascending source order; of a source fed by a block as many as have
come past its crossing. Those of FS80 to FS87 beyond that are memory errors that happen now (log entry 33). -/
def Dev.takeEvents (evs : List (Fin 512 × Fin 256)) (d : Dev) : List (Nat × Nat) × Dev :=
    let want (n : Nat) : Nat := evs.foldl (fun k e => if e.1.val = n then k + e.2.val else k) 0
    let d := d.each (List.range 8) (fun e d =>
      d.onlyIf d.enginesRun (fun d => Dev.each (List.range (want (80 + e) - d.raised (80 + e))) (fun _ => Dev.memError e) d))
    let have_ := ((List.range 512).filter (fun n => want n ≠ 0)).map (fun n =>
      (n, if directSource n then want n else min (want n) (d.raised n)))
    let d := d.each have_ (fun e d =>
      if directSource e.1 then d else { d with faultQ := { d.faultQ with queue := takeRaised e.1 e.2 d.faultQ.queue } })
    (have_.filter (fun e => e.2 ≠ 0 && d.counts e.1), d)

/-- FAULT_EVENT: one Reeve cycle. -/
def execFaultEvent (evs : List (Fin 512 × Fin 256)) (s : State) : Out :=
  run (fun d =>
    let x := d.takeEvents evs
    x.2.reeveCycle (x.1.map (fun e => (e.1, e.2, 0)))) s

/-- FAULT_WINDOW_CLOSE. -/
def execFaultWindowClose (n : Fin 512) (s : State) : Out :=
  run (fun d => d.onlyIf (d.reactive && d.windowOver n.val) (Dev.windowClose n.val)) s

/-- A W1C write of FLT_SEVEREk. -/
def Dev.severeClear (k : Nat) (v : Word) (d : Dev) : Dev :=
  d.each ((List.range 32).filter (fun j => v.getLsbD j && d.severe (32 * k + j))) (fun j d =>
    let n := 32 * k + j
    (((d.putSevere n false).windowClose n).onSrc n (fun x => { x with safeFired := false, withheld := false })))

/-- SEVERE_CLEAR. -/
def execSevereClear (p : Path) (k : Fin 16) (v : Word) (s : State) : Out :=
  runWrite p (Reg.FLT_SEVERE k.val) v.toNat (fun d => d.onlyIf (isMaster p) (Dev.severeClear k.val v)) s

/-! ### Injection (R435, R436) -/

/-- The events of a cycle, injected ones of source `n` beside the real ones: both are counted (R436). -/
def withInjected (n k : Nat) (real : List (Nat × Nat)) : List (Nat × Nat × Nat) :=
  let own := ((real.find? (fun e => e.1 = n)).map (·.2)).getD 0
  let at_ (x : Nat × Nat) : Nat × Nat × Nat := (x.1, x.2, 0)
  (real.filter (fun e => e.1 < n)).map at_ ++ [(n, own, k)] ++ (real.filter (fun e => n < e.1)).map at_

/-- FLT_INJ: injected events, in FACTORY only, in a Reeve cycle with the real events `evs`. -/
def Dev.inject (n k : Nat) (evs : List (Fin 512 × Fin 256)) (d : Dev) : Dev :=
  let on := d.mode = .factory && k ≠ 0 && sourceListed n
  let x := d.takeEvents evs
  x.2.reeveCycle (if on then withInjected n k x.1 else x.1.map (fun e => (e.1, e.2, 0)))

/-- FAULT_INJECT; `evs`: the real events that reach Reeve in the same cycle (R436). -/
def execFaultInject (p : Path) (src : Fin 512) (k : Fin 256) (evs : List (Fin 512 × Fin 256)) (s : State) : Out :=
  runWrite p Reg.FLT_INJ (0x7C000000 + 256 * src.val + k.val) (Dev.inject src.val k.val evs) s

/-! ### The modes in which half-resets occur (R441) -/

/-- The modes in which the SYS domain runs, so that one side of a crossing can be reset alone. -/
def Dev.logicRuns (d : Dev) : Bool :=
  d.inService || d.mode = .rom || d.mode = .loader || d.mode = .configure || d.mode = .doze

/-! ### Entry to service from CONFIGURE (R443) -/

/-- Counters, windows, SEVERE states, holds and ERR_N are cleared; the settings stay. -/
def Dev.faultsEntry (d : Dev) : Dev :=
  let d := d.hold (2 ^ 47 - 1) false
  let d := { d with
    regs := Tab.drop (fun a => 0x1100000 ≤ a && a < 0x1120000 && a ≠ Reg.FLT_ERRMIN && !(0x1110000 ≤ a && a % 32 < 8)) d.regs
    flt := { d.flt with srcs := [], dioCtl := 0, errEnd := none } }
  d.showErr

end Sys2Proof.Machine
end

