-- ==== Sys2Proof/Machine/Image.lean ====
section
/-! DEFINITION. The structure image (chapter 01): header, section table and check stages 1 to 6, full and partial; the items of a
section body and how a section is refused. -/

namespace Sys2Proof.Machine

/-! ### Layout (R20 to R24) -/

/-- An image as the check reads it: `n` bytes from an offset. -/
abbrev ImgSrc := Nat → Nat → List Byte

/-- A little-endian field of an image. -/
def imgNum (g : ImgSrc) (off n : Nat) : Nat := leNat (g off n)

/-- SIGNED_LEN. -/
def imgSigned (g : ImgSrc) : Nat := imgNum g 0x0C 4

/-- SECTION_COUNT. -/
def imgCount (g : ImgSrc) : Nat := imgNum g 0x14 2

/-- The length of the whole image: the signed bytes and the signature. -/
def imgTotal (g : ImgSrc) : Nat := imgSigned g + 3309

/-- The image digest (R34). -/
def imgDigest (g : ImgSrc) : List Byte := shake256 (g 0 (imgSigned g)) 64

/-- An entry of the section table that is present (R24, R26): its offset in the image, and its fields. -/
structure Section where
  entry : Nat
  id : Nat
  ver : Nat
  zero : Nat
  off : Nat
  len : Nat
  count : Nat
deriving DecidableEq, Repr

/-- The present sections in table order: an entry of LENGTH 0 is absent. -/
def imgSections (g : ImgSrc) : List Section :=
  ((List.range (min (imgCount g) 16)).map (fun i =>
    let e := 0x60 + 16 * i
    (⟨e, imgNum g e 1, imgNum g (e + 1) 1, imgNum g (e + 2) 2, imgNum g (e + 4) 4, imgNum g (e + 8) 4, imgNum g (e + 12) 4⟩ :
      Section))).filter (fun x => x.len ≠ 0)

/-- The section with an identifier. -/
def imgSection (g : ImgSrc) (id : Nat) : Option Section := (imgSections g).find? (fun x => x.id = id)

/-- The body of a section. -/
def Section.body (g : ImgSrc) (x : Section) : List Byte := g x.off x.len

/-! ### Check stages (R33) -/

/-- One check: where it does not hold, the image is refused in this stage with this code, section and DETAIL. -/
structure Check where
  ok : Bool
  stage : Nat
  code : Nat
  section_ : Nat
  detail : Nat
deriving DecidableEq, Repr

/-- The verdict of the first check that fails. -/
def firstFailed : List Check → Option ImgVerdict
  | [] => none
  | c :: cs => if c.ok then firstFailed cs else some ⟨c.stage, c.code, c.section_, c.detail⟩

/-- Of the checks of one stage that fail, the first of those with the lowest code (R16). -/
def lowestFailed (cs : List Check) : Option ImgVerdict :=
  let c := lowestCode ((cs.filter (fun x => !x.ok)).map (·.code))
  firstFailed (cs.filter (fun x => x.code = c))

/-- Stage 1 (R22, R23). A partial image offered for a full check is refused as one offered in a wrong mode (R47). -/
def Dev.headerChecks (d : Dev) (part : Bool) (g : ImgSrc) : List Check :=
  let kind := imgNum g 0x0B 1
  let v (ok : Bool) (off : Nat) : Check := ⟨ok, 1, E_VERSION, 0, off⟩
  [v (imgNum g 0 4 = 0x4351494D) 0, v (imgNum g 6 2 = 96) 6, v (imgNum g 8 2 = 0x9640) 8,
    v (imgNum g 0x0A 1 < 4) 0x0A, v (imgNum g 0x16 2 = 0) 0x16, v (kind ≤ 1) 0x0B, v (imgNum g 5 1 = 1) 5, v (imgNum g 4 1 ≤ 3) 4,
    ⟨!(kind = 1 && !part), 1, E_PERM, 0, 0x0B⟩, v (!(kind = 0 && part)) 0x0B, v (part || imgNum g 0x40 32 = 0) 0x40,
    ⟨bit (imgNum g 0x0A 1) (if d.fld Fld.SYS_ID_VARIANT = 1 then 0 else 1), 1, E_PERM, 0, 0x0A⟩]


/-- Stages 2 to 4 (R25, R35, R36). -/
def Dev.keyChecks (d : Dev) (part : Bool) (g : ImgSrc) : List Check :=
  let n := imgSigned g
  let own := d.sec.ownerDigest.getD (List.replicate 32 0xFF)
  let provisioned := d.sec.ownerDigest.isSome
  [⟨imgTotal g ≤ (if part then 131072 else 4194304), 2, E_LEN, 0, 0x0C⟩, ⟨96 + 16 * imgCount g + 1952 ≤ n, 2, E_LEN, 0, 0x0C⟩,
    ⟨provisioned && g 0x20 32 = own, 3, E_AUTH, 0, 0x20⟩, ⟨shake256 (g (n - 1952) 1952) 32 = own, 3, E_AUTH, 0, n - 1952⟩,
    if part then
      ⟨g 0x40 32 = ((List.range 8).map (fun k => leBytes 4 (d.rd (Reg.IMG_DIGEST k)).toNat)).flatten, 4, E_VERSION, 0, 0x40⟩
    else ⟨d.fld Fld.IMG_SEQ_FLOOR ≤ imgNum g 0x10 4, 4, E_PERM, 0, 0x10⟩]

/-- Stage 5 (R34); a region whose last write was cut off does not verify (R41). -/
def sigCheck (torn : Bool) (g : ImgSrc) : Check :=
  let n := imgSigned g
  ⟨!torn && verifySig (g (n - 1952) 1952) (imgDigest g) (g n 3309), 5, E_AUTH, 0, n⟩

/-- Stage 6 (R24 to R29). A partial image without a present RING section, for which the spec gives no code, is refused with E_LEN and
SECTION 6, as a full image is without a required section (DESIGN CHOICE, log entry 141); a nonzero must-be-0 field of a table entry is
refused with E_VERSION, as one of the header is (DESIGN CHOICE, log entry 197). -/
def tableChecks (part : Bool) (g : ImgSrc) : List Check :=
  let lo := 0x60 + 16 * imgCount g
  let hi := imgSigned g - 1952
  let xs := imgSections g
  let entry (seen : List Section) (x : Section) : List Check :=
    [⟨1 ≤ x.id && x.id ≤ 12 && (!part || x.id = 6) && !seen.any (fun y => y.id = x.id), 6, E_VERSION, x.id, x.entry⟩,
      ⟨x.ver = 1, 6, E_VERSION, x.id, x.entry + 1⟩, ⟨x.zero = 0, 6, E_VERSION, x.id, x.entry + 2⟩,
      ⟨x.off % 16 = 0, 6, E_ALIGN, x.id, x.entry + 4⟩, ⟨lo ≤ x.off && x.off ≤ hi, 6, E_LEN, x.id, x.entry + 4⟩,
      ⟨x.off + x.len ≤ hi, 6, E_LEN, x.id, x.entry + 8⟩,
      ⟨!seen.any (fun y => x.off < y.off + y.len && y.off < x.off + x.len), 6, E_LEN, x.id, x.entry + 8⟩]
  let missing := (if part then [6] else [1, 3, 4]).filter (fun id => !xs.any (fun x => x.id = id))
  ⟨imgCount g ≤ (if part then 1 else 16), 6, E_LEN, 0, 0x14⟩ ::
    ((List.range xs.length).map (fun i => match xs[i]? with | some x => entry (xs.take i) x | none => [])).flatten ++
    (match missing with | id :: _ => [⟨false, 6, E_LEN, id, 0x14⟩] | [] => [])

/-- What stages 1 to 6 find; an image that passes them has code E_OK and stage 7, or 6 where nothing is to be stored. -/
def Dev.checkImage (d : Dev) (part torn : Bool) (g : ImgSrc) : ImgVerdict :=
  match firstFailed (Dev.headerChecks d part g ++ d.keyChecks part g ++ [sigCheck torn g]) with
  | some v => v
  | none =>
    match lowestFailed (tableChecks part g) with
    | some v => v
    | none => ⟨if part then 6 else 7, E_OK, 0, 0⟩

/-! ### Section bodies (R39) -/

/-- A section that is applied, or its code and IMG_DETAIL. -/
abbrev Applied := Except (Nat × Nat) Dev

/-- `code` unless `ok`. -/
def need (ok : Bool) (code : Nat) : Nat := if ok then E_OK else code

/-- The items a body holds; which of them, by index, are of an unlisted KIND or of a size that is not their KIND's; and how the body
ends where it does not end with its last item: the refusal that follows once every item before it is found good. -/
structure Items where
  xs : List Nat
  odd : List Nat
  tail : Option (Nat × Nat)
deriving DecidableEq, Repr

/-- `n` items of `size` bytes each, as numbers. -/
def chunks (size : Nat) : Nat → List Byte → List Nat
  | 0, _ => []
  | n + 1, bs => leNat (bs.take size) :: chunks size n (bs.drop size)

/-- The items of a body of equal items: refused over its capacity; else those that stand within LENGTH, and the refusal of the first
that runs past it, or of a LENGTH that is larger (R39). -/
def fixedItems (size cap count : Nat) (body : List Byte) : Except (Nat × Nat) Items :=
  if cap < count then .error (E_LEN, count)
  else if body.length < size * count then .ok ⟨chunks size (body.length / size) body, [], some (E_LEN, body.length / size)⟩
  else .ok ⟨chunks size count body, [], if size * count < body.length then some (E_LEN, count) else none⟩

/-- The items of a body of items that carry their size in 16-byte units in byte 1; `sizeOf` is the size of each KIND. The first item
that runs past LENGTH, or that gives no size, ends the list. -/
def varItems (sizeOf : Nat → Option Nat) : Nat → Nat → List Byte → Items
  | 0, i, bs => ⟨[], [], if bs.isEmpty then none else some (E_LEN, i)⟩
  | n + 1, i, bs =>
    let unit := (bs.getD 1 0).toNat
    if bs.length < 16 || bs.length < 16 * unit then ⟨[], [], some (E_LEN, i)⟩
    else
      let x := leNat (bs.take (16 * max 1 unit))
      if unit = 0 then ⟨[x], [i], none⟩
      else
        let t := varItems sizeOf n (i + 1) (bs.drop (16 * unit))
        ⟨x :: t.xs, if sizeOf (bs.getD 0 0).toNat = some unit then t.odd else i :: t.odd, t.tail⟩

/-- The first item refused, with its code (R16) and index; `codes` sees the items before it, newest first. -/
def firstBad (codes : List Nat → Nat → List Nat) : List Nat → List Nat → Option (Nat × Nat)
  | _, [] => none
  | seen, x :: xs =>
    let c := lowestCode (codes seen x)
    if c = E_OK then firstBad codes (x :: seen) xs else some (c, seen.length)

/-- Refuses at the first item that is refused, then where the body does not end with its items, and goes on otherwise (R39); an item of
a wrong KIND or size has E_VERSION beside the codes of its fields (R16). -/
def checked (codes : List Nat → Nat → List Nat) (t : Items) (f : List Nat → Applied) : Applied :=
  match firstBad (fun seen x => codes seen x ++ [need (!t.odd.contains seen.length) E_VERSION]) [] t.xs with
  | some e => .error e
  | none =>
    match t.tail with
    | some e => .error e
    | none => f t.xs

/-- KIND of an item. -/
def kindOf (x : Nat) : Nat := bits x 7 0

/-- Whether an item is zero outside the fields listed. -/
def clean (x : Nat) (fields : List (Nat × Nat)) : Bool := fields.foldl (fun v f => setBits v f.1 f.2 0) x = 0

/-- Whether fewer than `cap` items of the item's KIND came before it. -/
def few (seen : List Nat) (x cap : Nat) : Bool := (seen.filter (fun y => kindOf y = kindOf x)).length < cap

/-- Whether an earlier item of the same KIND has the same key. -/
def dup (seen : List Nat) (key : Nat → Nat) (x : Nat) : Bool := seen.any (fun y => kindOf y = kindOf x && key y = key x)

/-- Whether `lo ≤ v ≤ hi`. -/
def within (lo hi v : Nat) : Bool := lo ≤ v && v ≤ hi

/-- Whether two ranges, first and count, overlap; an empty range overlaps none. -/
def overlap (a b : Nat × Nat) : Bool := a.2 ≠ 0 && b.2 ≠ 0 && a.1 < b.1 + b.2 && b.1 < a.1 + a.2

/-- The items of a KIND. -/
def ofKind (k : Nat) (xs : List Nat) : List Nat := xs.filter (fun x => kindOf x = k)

/-- Applies every item in turn. -/
def eachItem (f : Nat → Dev → Dev) (xs : List Nat) (d : Dev) : Dev := d.each xs f

/-- A two's complement number of `n` bits. -/
def signed (n v : Nat) : Int := (BitVec.ofNat n v).toInt

/-- The directions a PINS body gives: whether a line is an input (R187). -/
def inputLine (pins : List Nat) (line : Nat) : Bool := pins.any (fun x => bits x 31 24 = 4 && bits x 23 16 = line && bits x 15 14 = 0)

end Sys2Proof.Machine
end

