-- ==== Sys2Proof/Machine/ImageSections.lean ====
section
/-! DEFINITION. The sections of a full image but ENGINES: what each refuses and what it leaves in the part (R82, R161, R192, R264,
R305, R346, R381, R418, R444, R30). -/

namespace Sys2Proof.Machine

/-! ### SECURITY and RECORDER (R418, R419) -/

/-- The codes of a SECURITY item. -/
def securityCodes (seen : List Nat) (x : Nat) : List Nat :=
  match kindOf x with
  | 1 =>
    [need (few seen x 1) E_LEN, need (clean x [(7, 0), (31, 16), (39, 32), (71, 64), (75, 72), (87, 80)]) E_VERSION,
      need (within 1 1000 (bits x 31 16) && bits x 39 32 ≤ 127 && 1 ≤ bits x 87 80) E_PERM]
  | 2 =>
    let span (y : Nat) := (bits y 23 16, bits y 31 24)
    [need (few seen x 16) E_LEN, need (clean x [(7, 0), (15, 8), (23, 16), (31, 24), (43, 32), (55, 48), (56, 56), (79, 64)]) E_VERSION,
      need (bits x 15 8 ≤ 15 && !dup seen (fun y => bits y 15 8) x && 2 ≤ (span x).1 && (span x).1 + (span x).2 ≤ 254 &&
        !bit x 43 && !(ofKind 2 seen).any (fun y => overlap (span x) (span y))) E_PERM]
  | 3 =>
    [need (few seen x 15) E_LEN, need (clean x [(7, 0), (15, 8), (127, 64)]) E_VERSION,
      need (within 1 15 (bits x 15 8) && !dup seen (fun y => bits y 15 8) x) E_PERM]
  | _ => [E_VERSION]

/-- Applies a SECURITY item. -/
def securityItem (x : Nat) (d : Dev) : Dev :=
  match kindOf x with
  | 1 =>
    let d := d.put Fld.KS_REMASK_PERIOD (bits x 31 16)
    let d := ((d.put Fld.KS_TAMPCFG_EN (bits x 71 64)).put Fld.KS_TAMPCFG_LEVEL (bits x 75 72)).put Fld.KS_TAMPCFG_FILTER (bits x 87 80)
    { d with sec := { d.sec with cphVec := bits x 39 32 } }
  | 2 =>
    let r : KeyRegion := ⟨bits x 23 16, bits x 31 24, bits x 42 32, bits x 55 48, bit x 56, bits x 79 64⟩
    { d with sec := { d.sec with regions := Tab.set (fun _ => none) d.sec.regions (bits x 15 8) (some r) } }
  | _ => { d with sec := { d.sec with qsets := Tab.set (fun _ => 0) d.sec.qsets (bits x 15 8) (bits x 127 64) } }

/-- SECURITY. -/
def applySecurity (count : Nat) (body : List Byte) (d : Dev) : Applied :=
  (fixedItems 16 32 count body).bind (fun t => checked securityCodes t (fun xs => .ok (eachItem securityItem xs d)))

/-- The codes of a RECORDER item. -/
def recorderCodes (seen : List Nat) (x : Nat) : List Nat :=
  match kindOf x with
  | 1 =>
    [need (few seen x 1) E_LEN, need (clean x [(7, 0), (16, 16), (63, 32)]) E_VERSION, need (bits x 63 32 ≤ 86400) E_PERM]
  | 2 =>
    let span (y : Nat) := (bits y 31 16, bits y 47 32 + 1 - bits y 31 16)
    [need (few seen x 64) E_LEN, need (clean x [(7, 0), (31, 16), (47, 32), (49, 48)]) E_VERSION,
      need (0x100 ≤ bits x 31 16 && bits x 31 16 ≤ bits x 47 32 && !(ofKind 2 seen).any (fun y => overlap (span x) (span y))) E_PERM]
  | _ => [E_VERSION]

/-- Applies a RECORDER item. -/
def recorderItem (x : Nat) (d : Dev) : Dev :=
  if kindOf x = 1 then
    let d := d.putFlag Fld.REC_STATUS_WRAP (bit x 16)
    { d with sec := { d.sec with ckptMax := bits x 63 32 } }
  else { d with sec := { d.sec with classes := d.sec.classes ++ [(bits x 31 16, bits x 47 32, bit x 48, bit x 49)] } }

/-- RECORDER. -/
def applyRecorder (count : Nat) (body : List Byte) (d : Dev) : Applied :=
  (fixedItems 16 65 count body).bind (fun t => checked recorderCodes t (fun xs => .ok (eachItem recorderItem xs d)))

/-! ### TIME (R161, R162) -/

/-- A constant of a port in 2^-16 ns, rounded to nearest (R130). -/
def psUnits (ps : Int) : Int := (ps * 65536 * 2 + 1000) / 2000

/-- The codes of a TIME item. -/
def timeCodes (seen : List Nat) (x : Nat) : List Nat :=
  let idx (y : Nat) := bits y 15 8
  match kindOf x with
  | 1 =>
    [need (few seen x 1) E_LEN, need (clean x [(7, 0), (23, 16), (24, 24), (63, 32)]) E_VERSION,
      need (bits x 23 16 ≤ 2 && within 1 1000 (bits x 63 32)) E_PERM]
  | 2 =>
    let sync := signed 8 (bits x 55 48)
    [need (few seen x 2) E_LEN, need (clean x [(7, 0), (15, 8), (23, 16), (26, 24), (47, 32), (55, 48), (63, 56), (75, 64)]) E_VERSION,
      need (idx x ≤ 1 && !dup seen idx x && bits x 23 16 ≤ 127 && !dup seen (fun y => bits y 23 16) x && -5 ≤ sync && sync ≤ 0 &&
        1 ≤ bits x 63 56) E_PERM]
  | 3 =>
    [need (few seen x 12) E_LEN, need (clean x [(7, 0), (15, 8), (16, 16), (127, 32)]) E_VERSION,
      need (idx x ≤ 11 && !dup seen idx x && bits x 63 32 ≤ 2000000 && bits x 95 64 ≤ 2000000 &&
        (signed 32 (bits x 127 96)).natAbs ≤ 1000000) E_PERM]
  | 4 =>
    let period := bits x 63 32
    [need (few seen x 4) E_LEN, need (clean x [(7, 0), (15, 8), (19, 16), (127, 32)]) E_VERSION,
      need (idx x ≤ 3 && !dup seen idx x && within 100 1000000000 period && 1000000000 % period = 0 && bits x 95 64 < period &&
        8 ≤ bits x 127 96 && bits x 127 96 + 8 ≤ period) E_PERM]
  | 5 =>
    [need (few seen x 8) E_LEN, need (clean x [(7, 0), (15, 8), (20, 16)]) E_VERSION,
      need (idx x ≤ 7 && !dup seen idx x && bits x 17 16 ≠ 0) E_PERM]
  | _ => [E_VERSION]

/-- Applies a TIME item. -/
def timeItem (x : Nat) (d : Dev) : Dev :=
  let i := bits x 15 8
  match kindOf x with
  | 1 =>
    let d := d.put Fld.TB_SYS_SLEW (bits x 63 32)
    { d with time := { d.time with sysSel := bits x 23 16, auto := bit x 24 } }
  | 2 =>
    let d := (d.putFlag (Fld.TB_TD_STATUS_SERVO i) (bit x 24)).put (Fld.TB_TD_STATUS_DOMNUM i) (bits x 23 16)
    d.putTdCfg i { tdNone with
      present := true, gmCapable := bit x 25, extPorts := bit x 26, prio1 := bits x 39 32, prio2 := bits x 47 40
      logSync := signed 8 (bits x 55 48), syncLoss := bits x 63 56, portMask := bits x 75 64 }
  | 3 =>
    let d := d.putFlag (Fld.TB_TSQ_STATUS_CONSUMER i) (bit x 16)
    let lat := ((psUnits (bits x 63 32)).toNat, (psUnits (bits x 95 64)).toNat, psUnits (signed 32 (bits x 127 96)))
    { d with time := { d.time with ports := Tab.set (fun _ => (0, 0, 0)) d.time.ports i lat } }
  | 4 =>
    let d := ((d.putFlag (Fld.TB_PPS_CTRL_EN i) (bit x 19)).put (Fld.TB_PPS_CTRL_SRC i) (bits x 17 16)).putFlag
      (Fld.TB_PPS_CTRL_POL i) (bit x 18)
    ((d.put (Fld.TB_PPS_PERIOD i) (bits x 63 32)).put (Fld.TB_PPS_PHASE i) (bits x 95 64)).put (Fld.TB_PPS_WIDTH i) (bits x 127 96)
  | _ =>
    { d with time := { d.time with
      capCfg := Tab.set (fun _ => (0, 0, false)) d.time.capCfg i (bits x 17 16, bits x 19 18, bit x 20) } }

/-- TIME. -/
def applyTime (count : Nat) (body : List Byte) (d : Dev) : Applied :=
  (fixedItems 16 27 count body).bind (fun t => checked timeCodes t (fun xs => .ok (eachItem timeItem xs d)))

/-! ### SIGNALS (R82, R83) -/

/-- Whether a type code is one of R55. -/
def typeOk (t : Nat) : Bool := within 1 0x0B t || within 0x40 0x7F t

/-- Whether a route target word has a KIND of R68 and no PARAM bit its KIND does not use. -/
def targetOk (w : Nat) : Bool :=
  clean (bits w 26 0) (match bits w 29 27 with
    | 1 => [(26, 22), (15, 0)]
    | 2 => [(26, 21)]
    | 3 => [(26, 0)]
    | 4 => [(26, 25)]
    | 5 => [(15, 0)]
    | _ => []) && bits w 29 27 ≤ 5

/-- Whether a route list that starts at an entry ends with a LAST word before the first entry that `words` does not hold. -/
def routeEnds (words : Nat → Option (Nat × Nat)) : Nat → Nat → Bool
  | 0, _ => false
  | n + 1, i =>
    match words i with
    | none => false
    | some w => bit w.1 31 || bit w.2 31 || routeEnds words n (i + 1)

/-- The target words of a route entry item. -/
def routeWords (xs : List Nat) (i : Nat) : Option (Nat × Nat) :=
  ((ofKind 4 xs).find? (fun x => bits x 31 16 = i)).map (fun x => (bits x 95 64, bits x 127 96))

/-- The codes of a slot definition but those that look at other items. -/
def slotItemCodes (x : Nat) : List Nat :=
  [need (clean x [(7, 0), (24, 8), (79, 63), (60, 32)]) E_VERSION, need (typeOk (bits x 79 72)) E_VERSION]

/-- The codes of a route entry but for its place. -/
def routeItemCodes (x : Nat) : List Nat :=
  [need (clean x [(7, 0), (31, 16), (127, 64)]) E_VERSION,
    need (targetOk (bits x 95 64) && targetOk (bits x 127 96)) E_VERSION]

/-- The codes of a SIGNALS item among all items `xs`. -/
def signalsCodes (xs seen : List Nat) (x : Nat) : List Nat :=
  match kindOf x with
  | 1 =>
    let age := bits x 71 66
    let ptr := bits x 45 32
    slotItemCodes x ++
      [need (few seen x 131072 && (age = 0 || (ofKind 2 xs).any (fun y => bits y 15 8 = age)) &&
        (ptr = 0 || routeEnds (routeWords xs) 16384 ptr)) E_LEN, need (!dup seen (fun y => bits y 24 8) x) E_PERM]
  | 2 =>
    [need (few seen x 63) E_LEN, need (clean x [(7, 0), (15, 8), (63, 32)]) E_VERSION,
      need (within 1 63 (bits x 15 8) && !dup seen (fun y => bits y 15 8) x && bits x 63 32 ≠ 0) E_PERM]
  | 3 =>
    [need (few seen x 8192) E_LEN, need (clean x [(7, 0), (31, 16), (63, 32)]) E_VERSION,
      need (bits x 31 16 ≤ 8191 && !dup seen (fun y => bits y 31 16) x) E_PERM]
  | 4 =>
    routeItemCodes x ++ [need (few seen x 16383) E_LEN, need (within 1 16383 (bits x 31 16) && !dup seen (fun y => bits y 31 16) x) E_PERM]
  | _ => [E_VERSION]

/-- Defines a slot from its item; it stands invalidated (R66). -/
def slotItem (x : Nat) (d : Dev) : Dev :=
  let n := bits x 24 8
  let s : Slot := { slotUndefined with
    type := BitVec.ofNat 8 (bits x 79 72), ageIdx := Fin.ofNat 64 (bits x 71 66), owner := Fin.ofNat 8 (bits x 65 63), isDefined := true
    rule := Fin.ofNat 4 (bits x 60 59), substIdx := Fin.ofNat 8192 (bits x 58 46), routePtr := Fin.ofNat 16384 (bits x 45 32) }
  (d.putSlot n s).invalidate n

/-- Loads a route entry from its item. -/
def routeItem (x : Nat) (d : Dev) : Dev :=
  let i := 2 * bits x 31 16
  let rs := Tab.set (fun _ => (0 : Word)) d.store.routes i (BitVec.ofNat 32 (bits x 95 64))
  { d with store := { d.store with routes := Tab.set (fun _ => (0 : Word)) rs (i + 1) (BitVec.ofNat 32 (bits x 127 96)) } }

/-- Applies a SIGNALS item. -/
def signalsItem (x : Nat) (d : Dev) : Dev :=
  match kindOf x with
  | 1 => slotItem x d
  | 2 => d.wr (Reg.SIG_AGE (bits x 15 8)) (BitVec.ofNat 32 (bits x 63 32))
  | 3 => d.wr (Reg.SIG_SUBST (bits x 31 16)) (BitVec.ofNat 32 (bits x 63 32))
  | _ => routeItem x d

/-- Whether a class is in a ROUTE range of the RECORDER section. -/
def Dev.routeClass (d : Dev) (c : Nat) : Bool := d.sec.classes.any (fun r => r.1 ≤ c && c ≤ r.2.1 && r.2.2.1)

/-- SIGNALS; a KIND 5 target whose class no ROUTE range covers is refused with the route entry index (R419). Substitutes come
before the slots that show them. -/
def applySignals (count : Nat) (body : List Byte) (d : Dev) : Applied :=
  (fixedItems 16 155710 count body).bind (fun t => checked (signalsCodes t.xs) t (fun xs =>
    let bad (w : Nat) : Bool := bits w 29 27 = 5 && !d.routeClass (bits w 15 0)
    match (ofKind 4 xs).find? (fun x => bad (bits x 95 64) || bad (bits x 127 96)) with
    | some x => .error (E_PERM, bits x 31 16)
    | none =>
      .ok (eachItem signalsItem (ofKind 3 xs ++ ofKind 2 xs ++ ofKind 4 xs ++ ofKind 1 xs) d)))

/-! ### QUEUES (R346, R347) -/

/-- The ROLE a body gives a queue. -/
def bodyRole (xs : List Nat) (q : Nat) : Nat := (((ofKind 2 xs).find? (fun y => bits y 15 8 = q)).map (fun y => bits y 23 16)).getD 0

/-- The codes of a QUEUES item among all items `xs`. -/
def queuesCodes (xs seen : List Nat) (x : Nat) : List Nat :=
  match kindOf x with
  | 1 =>
    let names (q role : Nat) : Bool := q = 0xFF || (q ≤ 63 && bodyRole xs q = role)
    [need (few seen x 1) E_LEN, need (clean x [(7, 0), (39, 16), (127, 64)]) E_VERSION,
      need (names (bits x 23 16) 4 && names (bits x 31 24) 1 && bits x 39 32 ≤ 127 &&
        (List.range 8).all (fun c => names (bits x (71 + 8 * c) (64 + 8 * c)) 1)) E_PERM]
  | 2 =>
    let role := bits x 23 16
    [need (few seen x 64) E_LEN, need (clean x [(7, 0), (15, 8), (23, 16), (27, 25), (47, 32), (111, 64), (114, 112)] && role ≤ 5) E_VERSION,
      need (bits x 15 8 ≤ 63 && !dup seen (fun y => bits y 15 8) x && bits x 27 25 ≠ 0 && bits x 39 32 ≤ 127 &&
        (role = 2 || bits x 47 40 = 0) && bits x 95 64 ≤ 16777216 && bits x 111 96 ≤ 1000) E_PERM]
  | _ => [E_VERSION]

/-- Applies a QUEUES item. -/
def queuesItem (x : Nat) (d : Dev) : Dev :=
  if kindOf x = 1 then
    let qs := (List.range 8).foldl (fun t c => Tab.set (fun _ => 0xFF) t c (bits x (71 + 8 * c) (64 + 8 * c))) d.hq.classQ
    { d with hq := { d.hq with sysQ := bits x 23 16, ptpQ := bits x 31 24, sbVec := bits x 39 32, classQ := qs } }
  else
    let q := bits x 15 8
    let d := ((d.put (Fld.HQ_STATUS_ROLE q) (bits x 23 16)).put (Fld.HQ_STATUS_VECTOR q) (bits x 39 32)).put
      (Fld.HQ_VER_PERMIT q) (bits x 27 24)
    let d := ((d.put (Fld.HQ_WM_LEVEL q) (bits x 95 64)).put (Fld.HQ_IRQ_HOLDOFF q) (bits x 111 96)).putFlag (Fld.HQ_IRQ_EN_REC q)
      (bit x 112)
    let d := (d.putFlag (Fld.HQ_IRQ_EN_WM q) (bit x 113)).putFlag (Fld.HQ_IRQ_EN_FILL q) (bit x 114)
    d.onQueue q (fun y => { y with engmask := bits x 47 40 })

/-- What refuses the QUEUES step as a whole, given the items `xs` of the body: a KIND 2 target that names no NOTIFY queue, with the
route entry index (R347), a QSET that names no CIPHER queue (R419), with ITEM_COUNT. It holds of an absent section too, which makes
no queue (R347). -/
def Dev.queueRefs (d : Dev) (count : Nat) (xs : List Nat) : Option (Nat × Nat) :=
  match d.store.routes.find? (fun r => bits r.2.toNat 29 27 = 2 && bodyRole xs (bits r.2.toNat 26 21) ≠ 3) with
  | some r => some (E_PERM, r.1 / 2)
  | none =>
    if d.sec.qsets.any (fun s => (List.range 64).any (fun q => bit s.2 q && bodyRole xs q ≠ 5)) then some (E_PERM, count) else none

/-- QUEUES. -/
def applyQueues (count : Nat) (body : List Byte) (d : Dev) : Applied :=
  (fixedItems 16 65 count body).bind (fun t => checked (queuesCodes t.xs) t (fun xs =>
    match d.queueRefs count xs with
    | some e => .error e
    | none => .ok (eachItem queuesItem xs d)))

/-! ### SWITCH (R264, R265) -/

/-- The size of a SWITCH item in 16-byte units. -/
def switchSize : Nat → Option Nat
  | 1 => some 1
  | 2 => some 4
  | 3 => some 1
  | 4 => some 1
  | 5 => some 9
  | _ => none

/-- The PORT item of a port. -/
def portItem (xs : List Nat) (p : Nat) : Option Nat := (ofKind 2 xs).find? (fun y => bits y 23 16 = p)

/-- Whether a body uses a port: an internal one, or an external one with a MODE. -/
def portUsed (xs : List Nat) (p : Nat) : Bool :=
  (12 ≤ p && p ≤ 14) || (match portItem xs p with | some y => bits y 31 24 ≠ 0 | none => false)

/-- HR of a port (R245). -/
def portHeadroom (xs : List Nat) (p : Nat) : Nat :=
  if p = 13 then 160
  else if !portUsed xs p then 0
  else 2 * cellsOf ((match portItem xs p with | some y => bits y 47 32 | none => 9216) + 4)

/-- The sum of all headrooms. -/
def headroomTotal (xs : List Nat) : Nat := ((List.range 15).map (portHeadroom xs)).sum

/-- Whether a MODE is allowed on a port. -/
def portModeOk (p mode : Nat) : Bool :=
  if p ≤ 3 then mode ≤ 2 else if p ≤ 11 then mode = 0 || mode = 3 || mode = 4 else mode = 5

/-- Q of class c of a PORT item. -/
def portQ (x c : Nat) : Nat := bits x (207 + 16 * c) (192 + 16 * c)

/-- Whether a port mask names used ports only. -/
def maskUsed (xs : List Nat) (m : Nat) : Bool := (List.range 15).all (fun p => !bit m p || portUsed xs p)

/-- The codes of a SWITCH item among all items `xs`. -/
def switchCodes (xs seen : List Nat) (x : Nat) : List Nat :=
  let vid := bits x 31 16
  match kindOf x with
  | 1 => [need (few seen x 1) E_LEN, need (clean x [(31, 0)]) E_VERSION, need (within 10 3600 vid) E_PERM]
  | 2 =>
    let p := bits x 23 16
    let s := 32768 - headroomTotal xs
    [need (few seen x 15 && bits x 191 160 ≤ s && (List.range 8).all (fun c => portQ x c ≤ s)) E_LEN,
      need (clean x [(114, 0), (123, 120), (151, 128), (319, 160)]) E_VERSION,
      need (p ≤ 14 && !dup seen (fun y => bits y 23 16) x && portModeOk p (bits x 31 24) && within 1518 9216 (bits x 47 32) &&
        within 1518 (bits x 47 32) (bits x 63 48) && bits x 79 64 ≤ 1000 && bits x 95 80 ≤ 1000 && within 1 4094 (bits x 111 96) &&
        !(12 ≤ p && bit x 122) && within 1 32768 (bits x 191 160) && (List.range 8).all (fun c => portQ x c ≤ 32768)) E_PERM]
  | 3 =>
    [need (few seen x 4094) E_LEN, need (clean x [(46, 0), (62, 48)]) E_VERSION,
      need (within 1 4094 vid && !dup seen (fun y => bits y 31 16) x && bits x 62 48 &&& bits x 46 32 = bits x 62 48 &&
        maskUsed xs (bits x 46 32)) E_PERM]
  | 4 =>
    [need (few seen x 1024) E_LEN, need (clean x [(94, 0), (99, 96)]) E_VERSION,
      need (within 1 4094 (bits x 79 64) && !dup seen (fun y => bits y 79 16) x && maskUsed xs (bits x 94 80)) E_PERM]
  | 5 =>
    [need (few seen x 16) E_LEN, need (clean x [(23, 0), (59, 32), (64, 64), (1151, 128)]) E_VERSION,
      need (bits x 23 16 ≤ 15 && !dup seen (fun y => bits y 23 16) x && maskUsed xs (bits x 59 48)) E_PERM]
  | _ => [E_VERSION]

/-- A port's configuration from its item, or the defaults of an internal port without one. -/
def portCfg (xs : List Nat) (p : Nat) : Option SwPortCfg :=
  if !portUsed xs p then none
  else
    match portItem xs p with
    | some x =>
      some ⟨bits x 47 32, bits x 111 96, bits x 114 112, bit x 120, bit x 121, bit x 122, bit x 123, bits x 151 128,
        (List.range 8).map (portQ x)⟩
    | none => some ⟨9216, 1, 0, false, false, false, false, 0, List.replicate 8 4096⟩

/-- Applies a port. -/
def switchPort (xs : List Nat) (p : Nat) (d : Dev) : Dev :=
  let d := { d with sw := { d.sw with cfg := Tab.set (fun _ => none) d.sw.cfg p (portCfg xs p) } }
  let d := d.put (Fld.ETH_BUDGET_HR p) (portHeadroom xs p)
  match portItem xs p with
  | some x =>
    let d := ((d.put (Fld.ETH_STATUS_MODE p) (bits x 31 24)).put (Fld.ETH_CFG_MAXFRAME p) (bits x 63 48)).put (Fld.ETH_CFG_LINGER p)
      (bits x 79 64)
    (d.put (Fld.ETH_AGE_MAX_AGE p) (bits x 95 80)).put (Fld.ETH_BUDGET_B p) (bits x 191 160)
  | none =>
    if p < 12 then d
    else ((d.put (Fld.ETH_STATUS_MODE p) 5).put (Fld.ETH_CFG_MAXFRAME p) 9216).put (Fld.ETH_BUDGET_B p) 4096

/-- Applies a SWITCH item other than a port. -/
def switchItem (x : Nat) (d : Dev) : Dev :=
  match kindOf x with
  | 1 => d.put Fld.SW_AGING (bits x 31 16)
  | 3 =>
    { d with sw := { d.sw with vlans := Tab.set (fun _ => (0, 0)) d.sw.vlans (bits x 31 16) (bits x 46 32, bits x 62 48) } }
  | 4 =>
    let e : FdbStatic := ⟨leNat (beBytes 6 (bits x 63 16)), bits x 79 64, bits x 94 80, if bit x 99 then some (bits x 98 96) else none⟩
    { d with sw := { d.sw with fdb := d.sw.fdb ++ [e] } }
  | 5 =>
    let k := bits x 23 16
    let w : WakePat := ⟨leBytes 128 (bits x 1151 128), bits x 47 32, bits x 59 48⟩
    let d := { d with sw := { d.sw with wakes := Tab.set (fun _ => none) d.sw.wakes k (some w) } }
    d.put ⟨Reg.SW_WAKE_EN, k, k⟩ (bits x 64 64)
  | _ => d

/-- SWITCH. -/
def applySwitch (count : Nat) (body : List Byte) (d : Dev) : Applied :=
  if 5150 < count then .error (E_LEN, count)
  else
    let t := varItems switchSize count 0 body
    checked (switchCodes t.xs) t (fun xs =>
      let d := { d with sw := { d.sw with on := true } }
      let d := (d.put Fld.SW_AGING 300).put Fld.SW_HEADROOM_TOTAL (headroomTotal xs)
      let d := eachItem switchItem xs (d.each (List.range 15) (switchPort xs))
      let used := bitsNat ((List.range 15).map (portUsed xs))
      .ok (if (ofKind 3 xs).isEmpty then
          { d with sw := { d.sw with vlans := Tab.set (fun _ => (0, 0)) d.sw.vlans 1 (used, used) } }
        else d))

/-! ### RING (R305, R306) -/

/-- The size of a RING item in 16-byte units. -/
def ringSize : Nat → Option Nat
  | 1 => some 1
  | 2 => some 8
  | 3 => some 1
  | _ => none

/-- The slot window a NODE item declares. -/
def slotWindow (x : Nat) : Nat × Nat := (bits x 95 64, bits x 127 96)

/-- The route window a NODE item declares. -/
def routeWindow (x : Nat) : Nat × Nat := (bits x 143 128, bits x 159 144)

/-- The export window a NODE item declares. -/
def exportWindow (x : Nat) : Nat × Nat := (bits x 175 160, bits x 191 176)

/-- Whether a key slot may generate and verify MACs: by its attributes where it holds a key, else by its region's allowance. -/
def Dev.macSlot (d : Dev) (k : Nat) : Bool :=
  if (d.keySlot k).valid then (d.keySlot k).use 2 && (d.keySlot k).use 3
  else match d.region k with | some r => bit r.use 2 && bit r.use 3 | none => false

/-- The codes of a RING item. -/
def Dev.ringCodes (d : Dev) (seen : List Nat) (x : Nat) : List Nat :=
  match kindOf x with
  | 1 =>
    let q := bits x 119 112
    [need (few seen x 1) E_LEN, need (clean x [(15, 0), (17, 16), (119, 32)]) E_VERSION,
      need (within 1 1000 (bits x 47 32) && 1 ≤ bits x 63 48 && within 1 60000 (bits x 95 64) && bits x 111 96 ≤ 3600 &&
        (q = 0xFF || (q ≤ 63 && (d.fld (Fld.HQ_STATUS_ROLE q) = 3 || d.fld (Fld.HQ_STATUS_ROLE q) = 4)))) E_PERM]
  | 2 =>
    let vid := bits x 303 288
    let past (w : Nat × Nat) (n : Nat) : Bool := n < w.1 + w.2
    let old := ofKind 2 seen
    [need (few seen x 62 && !past (slotWindow x) 131072 && !past (routeWindow x) 16384 && !past (exportWindow x) 16384) E_LEN,
      need (clean x [(25, 0), (39, 32), (303, 64), (767, 384)]) E_VERSION,
      need (within 1 62 (bits x 23 16) && !dup seen (fun y => bits y 23 16) x && !dup seen (fun y => bits y 511 384) x &&
        !old.any (fun y => vid ≠ 0 && bits y 303 288 = vid) && !old.any (fun y => overlap (slotWindow x) (slotWindow y)) &&
        !old.any (fun y => overlap (routeWindow x) (routeWindow y)) && !old.any (fun y => overlap (exportWindow x) (exportWindow y)) &&
        within 100 100000 (bits x 223 192) && within 1 (bits x 255 240) (bits x 239 224) && bits x 255 240 ≤ 1000 &&
        within 1 (bits x 287 272) (bits x 271 256) && bits x 287 272 ≤ 1220 &&
        vid ≤ 4094 && (!bit x 24 || d.macSlot (bits x 39 32))) E_PERM]
  | 3 =>
    [need (few seen x 16384) E_LEN, need (clean x [(31, 0), (80, 64), (95, 95), (127, 111)]) E_VERSION,
      need (bits x 31 16 ≤ 16383 && !dup seen (fun y => bits y 31 16) x) E_PERM]
  | _ => [E_VERSION]

/-- Loads an export descriptor from its item. -/
def exportItem (x : Nat) (d : Dev) : Dev :=
  { d with drv := { d.drv with exports := Tab.set (fun _ => none) d.drv.exports (bits x 31 16) (some (bits x 127 64)) } }

/-- Applies a RING item. -/
def ringItem (x : Nat) (d : Dev) : Dev :=
  match kindOf x with
  | 1 =>
    let d := d.put Fld.RING_EXPORT_EXPORT_US (bits x 47 32)
    { d with drv := { d.drv with
      laneA := bit x 16, laneB := bit x 17, quarN := bits x 63 48, quarWindow := bits x 95 64, quarTime := bits x 111 96
      eventQ := bits x 119 112 } }
  | 2 =>
    let n := bits x 23 16
    let r : RingRoster :=
      { authb := bit x 24, tunnel := bit x 25, keySlot := bits x 39 32, routeFirst := (routeWindow x).1, routeCount := (routeWindow x).2
        exportFirst := (exportWindow x).1, exportCount := (exportWindow x).2, frMax := bits x 255 240, kbMax := bits x 287 272
        tunnelVid := bits x 303 288, serial := leBytes 16 (bits x 511 384), keyDig := leBytes 32 (bits x 767 512) }
    let d := { d with drv := { d.drv with roster := Tab.set (fun _ => none) d.drv.roster n (some r) } }
    let d := { d with store := { d.store with windows := Tab.set (fun _ => (0, 0)) d.store.windows n (slotWindow x) } }
    ((d.put (Fld.RING_NODE_RD_TMO_RD_TMO n) (bits x 223 192)).put (Fld.RING_NODE_LIMIT_FR n) (bits x 239 224)).put
      (Fld.RING_NODE_LIMIT_KB n) (bits x 271 256)
  | _ => exportItem x d

/-- Whether a target word is of KIND 3 only with a descriptor of the node's window. -/
def Dev.exportInWindow (d : Dev) (w : Word) : Bool :=
  bits w.toNat 29 27 ≠ 3 ||
    (match Tab.get (fun _ => none) d.drv.roster (bits w.toNat 26 21) with
      | some r => r.exportFirst ≤ bits w.toNat 20 0 && bits w.toNat 20 0 < r.exportFirst + r.exportCount
      | none => false)

/-- Whether a KIND 3 route target of a slot agrees with its descriptor: the descriptor exports this slot, in the node's window. -/
def Dev.exportAgrees (d : Dev) (slot : Nat) (w : Word) : Bool :=
  match Tab.get (fun _ => none) d.drv.exports (bits w.toNat 20 0) with
  | some v => bits v 63 47 = slot && d.exportInWindow w
  | none => false

/-- Whether the slots and the route entries fit the ring: OWNER RING only inside slot windows, KIND 3 targets, of a slot's list or of an
entry no list reaches, that agree with their descriptors. -/
def Dev.ringSlotsOk (d : Dev) : Bool :=
  d.store.routes.all (fun e => d.exportInWindow e.2) &&
  d.store.slots.all (fun e =>
    (e.2.owner ≠ 1 || (d.windowNode e.1).isSome) &&
      (d.routeList e.2).all (fun w => bits w.toNat 29 27 ≠ 3 || d.exportAgrees e.1 w))

/-- RING. -/
def applyRing (count : Nat) (body : List Byte) (d : Dev) : Applied :=
  if 16447 < count then .error (E_LEN, count)
  else
    checked d.ringCodes (varItems ringSize count 0 body) (fun xs =>
      let d := { d with drv := { d.drv with
        laneA := true, laneB := true, quarN := 16, quarWindow := 1000, quarTime := 60, eventQ := 0xFF } }
      let d := eachItem ringItem xs (d.put Fld.RING_EXPORT_EXPORT_US 100)
      if d.ringSlotsOk then .ok d else .error (E_PERM, count))

/-! ### LOADS (R381, R382) -/

/-- The codes of a LOADS item. -/
def Dev.loadsCodes (d : Dev) (seen : List Nat) (x : Nat) : List Nat :=
  match kindOf x with
  | 1 =>
    [need (few seen x 1) E_LEN, need (clean x [(7, 0), (31, 16), (39, 32)]) E_VERSION,
      need (within 10 1000 (bits x 31 16) && within 100 160 (bits x 39 32)) E_PERM]
  | 2 =>
    let ocMin := bits x 47 32
    let ocMax := bits x 63 48
    let ioc := bits x 79 64
    let inrMax := bits x 95 80
    [need (few seen x 24) E_LEN, need (clean x [(15, 0), (18, 16), (207, 32)]) E_VERSION,
      need (d.hasLoads && bits x 15 8 ≤ 23 && !dup seen (fun y => bits y 15 8) x && 50 ≤ ocMin && ocMin ≤ ocMax && ocMax ≤ 1200 &&
        within ocMin ocMax ioc && within ocMax 3000 inrMax && within ioc inrMax (bits x 111 96) && bits x 119 112 ≤ 200 &&
        bits x 127 120 ≤ bits x 119 112 && 100 ≤ bits x 143 128 && bits x 143 128 ≤ bits x 159 144 && bits x 159 144 ≤ 2000 &&
        within (bits x 143 128) (bits x 159 144) (bits x 175 160) && bits x 191 176 ≤ 1023 && within 600 4000 (bits x 207 192)) E_PERM]
  | 3 =>
    let codes := (List.range 24).map (fun n => bits x (65 + 2 * n) (64 + 2 * n))
    [need (few seen x 8) E_LEN, need (clean x [(15, 0), (111, 64)] && !codes.contains 3) E_VERSION,
      need (bits x 15 8 ≤ 7 && !dup seen (fun y => bits y 15 8) x && (d.hasLoads || bits x 111 64 = 0)) E_PERM]
  | _ => [E_VERSION]

/-- Applies a LOADS item. -/
def loadsItem (x : Nat) (d : Dev) : Dev :=
  let n := bits x 15 8
  match kindOf x with
  | 1 => (d.put Fld.LS_DIAG_PERIOD (bits x 31 16)).put Fld.LS_TWARN (bits x 39 32)
  | 2 =>
    let c : LoadCfg := ⟨bits x 47 32, bits x 63 48, bits x 95 80, bits x 119 112, bits x 143 128, bits x 159 144⟩
    let d := { d with loads := { d.loads with cfg := Tab.set (fun _ => none) d.loads.cfg n (some c) } }
    let d := ((d.putFlag (Fld.LS_CH_CMD_PWM_EN n) (bit x 16)).putFlag (Fld.LS_CH_CMD_COMP_EN n) (bit x 17)).putFlag
      (Fld.LS_CH_CMD_DIAG_EN n) (bit x 18)
    let d := ((d.put (Fld.LS_CH_THR_I_OC n) (bits x 79 64)).put (Fld.LS_CH_THR_I_INR n) (bits x 111 96)).put (Fld.LS_CH_INR_INR_MS n)
      (bits x 127 120)
    ((d.put (Fld.LS_CH_PWM_FREQ n) (bits x 175 160)).put (Fld.LS_CH_PWM_DUTY n) (bits x 191 176)).put (Fld.LS_CH_VREF n) (bits x 207 192)
  | _ => { d with loads := { d.loads with patterns := Tab.set (fun _ => 0) d.loads.patterns n (bits x 111 64) } }

/-- LOADS. -/
def applyLoads (count : Nat) (body : List Byte) (d : Dev) : Applied :=
  (fixedItems 32 33 count body).bind (fun t => checked d.loadsCodes t (fun xs => .ok (eachItem loadsItem xs d)))

/-! ### PHASE (R192, R193) -/

/-- Whether a slot is defined with a type and one of the owner classes. -/
def Dev.slotIs (d : Dev) (n : Nat) (type : Nat → Bool) (owners : List Nat) : Bool :=
  (d.slot n).isDefined && type (d.slot n).type.toNat && owners.contains (d.slot n).owner.val

/-- Every owner class. -/
def anyOwner : List Nat := List.range 8

/-- Whether a DOMAIN item's source slot has a type its SOURCE admits (R165); a ring encoder's lies in a slot window. -/
def Dev.sourceSlotOk (d : Dev) (x : Nat) : Bool :=
  let n := bits x 80 64
  match bits x 23 16 with
  | 1 => d.slotIs n (fun t => within 1 4 t || within 0x60 0x7F t) anyOwner
  | 2 => d.slotIs n (fun t => t = 0x0B) anyOwner && (d.windowNode n).isSome
  | _ => true

/-- Whether an action's target, in the TARGET bits its KIND uses, is one its KIND may name (R176, R187, R193, R226, R382). -/
def Dev.targetUsable (d : Dev) (pins : List Nat) (kind dom t : Nat) : Bool :=
  if within 1 3 kind then !inputLine pins t
  else if within 4 6 kind then d.hasLoads && d.chUsed t
  else if kind = 7 then
    match Tab.get (fun _ => none) d.can.ctls t with
    | some c => c.ref = 3 && bits c.refParam 1 0 = dom
    | none => false
  else if kind = 8 then within 1 62 (t / 256)
  else true

/-- The highest TARGET bit an action KIND uses; TARGET [5:0] reach to 4 (lines, channels, controllers, threads) or 13 (nodes). -/
def targetBits (kind : Nat) : Nat := if kind = 8 then 14 else 5

/-- The codes of a PHASE item among all items `xs`. -/
def Dev.phaseCodes (d : Dev) (pins xs seen : List Nat) (x : Nat) : List Nat :=
  match kindOf x with
  | 1 =>
    let src := bits x 23 16
    let pub (lo : Nat) (type : Nat) : Bool := !bit x (lo + 31) || d.slotIs (bits x (lo + 16) lo) (fun t => t = type) [4]
    [need (few seen x 4) E_LEN,
      need (clean x [(80, 0), (101, 96), (191, 104), (208, 192), (223, 223), (240, 224), (255, 255)] && src ≤ 2) E_VERSION,
      need (bits x 15 8 ≤ 3 && !dup seen (fun y => bits y 15 8) x && bits x 31 24 ≤ 3 && ((src ≠ 0 && src ≠ 2) || bits x 63 32 ≠ 0) &&
        d.sourceSlotOk x && within 1 0x7FFFFFFF (bits x 191 160) && pub 192 1 && pub 224 2) E_PERM]
  | 2 =>
    let kind := bits x 47 40
    let dir := bits x 35 34
    let dom := bits x 33 32
    let t := bits x 63 48
    let idx (y : Nat) := bits y 31 16
    [need (few seen x 1024) E_LEN,
      need (clean x [(7, 0), (31, 16), (35, 32), (47, 40), (63, 48), (103, 64), (167, 128), (187, 168), (192, 192)] && kind ≤ 9 &&
        (if kind = 0 then clean x [(31, 0)] else dir ≠ 0 && t < 2 ^ targetBits kind)) E_VERSION,
      need (idx x ≤ 1023 && !dup seen idx x && (kind = 0 ||
        ((ofKind 1 xs).any (fun y => bits y 15 8 = dom) && bits x 187 168 ≠ 0 && !(dir = 3 && bits x 167 128 ≠ 0) &&
          d.targetUsable pins kind dom (t % 2 ^ targetBits kind)))) E_PERM]
  | 3 =>
    let wake := bit x 32
    let edge := bits x 34 33
    let filter := bits x 47 40
    [need (few seen x 32) E_LEN,
      need (clean x [(34, 0), (47, 40), (80, 64), (95, 95)] && (wake || (edge = 0 && filter = 0))) E_VERSION,
      need (bits x 15 8 ≤ 31 && !dup seen (fun y => bits y 15 8) x && !(wake && (7 < bits x 15 8 || edge = 0 || filter = 0)) &&
        (!bit x 95 || d.slotIs (bits x 80 64) (fun t => t = 7) [0, 5])) E_PERM]
  | _ => [E_VERSION]

/-- Applies a PHASE item. -/
def phaseItem (x : Nat) (d : Dev) : Dev :=
  match kindOf x with
  | 1 =>
    let k := bits x 15 8
    let slot (lo : Nat) : Option Nat := if bit x (lo + 31) then some (bits x (lo + 16) lo) else none
    (d.onPhDom k (fun _ => { phNone with
      present := true, source := bits x 23 16, encoder := bits x 31 24, inc := bits x 63 32, vgain := signed 32 (bits x 63 32)
      srcSlot := bits x 80 64, filter := bits x 101 100, vavg := 2 ^ bits x 97 96, invert := bit x 98, zResync := bit x 99, zpos := bits x 127 104
      ztol := bits x 159 128, posSlot := slot 192, velSlot := slot 224 })).put (Fld.PH_DOM_VMIN k) (bits x 191 160)
  | 2 =>
    let a := bits x 31 16
    let d := ((d.put (Fld.PH_ACT_SHAPE_DOMAIN a) (bits x 33 32)).put (Fld.PH_ACT_SHAPE_DIR a) (bits x 35 34)).put
      (Fld.PH_ACT_SHAPE_KIND a) (bits x 47 40)
    let d := ((d.put (Fld.PH_ACT_SHAPE_TARGET a) (bits x 63 48)).putPair (Fld.PH_ACT_P_LO_P a) (Fld.PH_ACT_P_HI_P a) (bits x 103 64)).putPair
      (Fld.PH_ACT_PER_LO_PERIOD a) (Fld.PH_ACT_PER_HI_PERIOD a) (bits x 167 128)
    (d.put (Fld.PH_ACT_CTRL_WIDTH a) (bits x 187 168)).putFlag (Fld.PH_ACT_CTRL_EN a) (bit x 192)
  | _ =>
    let n := bits x 15 8
    d.putDioLine n { d.dioLine n with
      slot := if bit x 95 then some (bits x 80 64) else none
      debounce := bits x 31 16, wakeOn := bit x 32, wakeEdge := bits x 34 33, wakeFilter := bits x 47 40 }

/-- PHASE; the directions of the lines are read from the PINS body (R187). -/
def applyPhase (pins : List Nat) (count : Nat) (body : List Byte) (d : Dev) : Applied :=
  (fixedItems 32 1060 count body).bind (fun t => checked (d.phaseCodes pins t.xs) t (fun xs => .ok (eachItem phaseItem xs d)))

/-! ### FAULTS (R444, R445) -/

/-- The codes of a FAULTS item. -/
def faultsCodes (pins seen : List Nat) (x : Nat) : List Nat :=
  let idx (y : Nat) := bits y 15 8
  match kindOf x with
  | 1 => [need (few seen x 1) E_LEN, need (clean x [(7, 0), (23, 16)]) E_VERSION, need (1 ≤ bits x 23 16) E_PERM]
  | 2 =>
    [need (few seen x 8) E_LEN, need (clean x [(16, 0), (31, 24), (95, 32)]) E_VERSION,
      need (idx x ≤ 7 && !dup seen idx x && bits x 31 24 ≤ 15 &&
        (List.range 32).all (fun n => !bit (bits x 63 32) n || !inputLine pins n)) E_PERM]
  | 3 =>
    [need (few seen x 16) E_LEN, need (clean x [(15, 0), (111, 64)]) E_VERSION,
      need (idx x ≤ 15 && !dup seen idx x && !bit x 111) E_PERM]
  | 4 =>
    let n := bits x 31 16
    [need (few seen x 512) E_LEN, need (clean x [(7, 0), (35, 16), (45, 40), (50, 48), (59, 56), (95, 64)]) E_VERSION,
      need (n ≤ 511 && sourceListed n && !dup seen (fun y => bits y 31 16) x && (bit x 33 || !bit x 43) && (bit x 34 || !bit x 44) &&
        (bit x 35 || !bit x 45) && within 1 60000 (bits x 79 64) && 1 ≤ bits x 95 80) E_PERM]
  | _ => [E_VERSION]

/-- Applies a FAULTS item. -/
def faultsItem (x : Nat) (d : Dev) : Dev :=
  let i := bits x 15 8
  match kindOf x with
  | 1 => d.put Fld.FLT_ERRMIN (bits x 23 16)
  | 2 =>
    let p : Pattern := ⟨bit x 16, bits x 31 24, bits x 63 32, bits x 95 64⟩
    { d with flt := { d.flt with patterns := Tab.set (fun _ => ⟨false, 0, 0, 0⟩) d.flt.patterns i p } }
  | 3 => { d with flt := { d.flt with holdsets := Tab.set (fun _ => 0) d.flt.holdsets i (bits x 111 64) } }
  | _ =>
    let n := bits x 31 16
    let d := ((d.putFlag (Fld.FLT_SRC_ARM_EN n) (bit x 32)).put (Fld.FLT_SRC_ARM_PERMIT n) (bits x 35 33)).put
      (Fld.FLT_SRC_ARM_ARMING n) (bits x 45 40)
    let d := (d.put (Fld.FLT_SRC_ARM_PATTERN n) (bits x 50 48)).put (Fld.FLT_SRC_ARM_HOLDSET n) (bits x 59 56)
    (d.put (Fld.FLT_SRC_LIMIT_W n) (bits x 79 64)).put (Fld.FLT_SRC_LIMIT_N n) (bits x 95 80)

/-- FAULTS. -/
def applyFaults (pins : List Nat) (count : Nat) (body : List Byte) (d : Dev) : Applied :=
  (fixedItems 16 537 count body).bind (fun t => checked (faultsCodes pins) t (fun xs => .ok (eachItem faultsItem xs d)))

/-! ### PINS (R30 to R32, R185, R201) -/

/-- The number of instances of a personality. -/
def pinInstances : Nat → Nat
  | 0 => 1
  | 1 => 32
  | 2 => 32
  | 3 => 32
  | 4 => 32
  | 5 => 4
  | 6 => 4
  | 7 => 4
  | 8 => 4
  | 9 => 8
  | 10 => 2
  | 11 => 2
  | _ => 0

/-- Whether a personality gives its OPTIONS bits a meaning; the others must be 0. -/
def pinOptionsOk (code opt : Nat) : Bool :=
  match code with
  | 3 => opt % 64 = 0
  | 4 => opt / 64 ≠ 3 && bits opt 5 4 ≠ 3 && opt % 4 = 0
  | 5 => opt % 128 = 0
  | 6 => opt % 128 = 0
  | 7 => opt % 128 = 0
  | _ => opt = 0

/-- The codes of a pin. -/
def pinCodes (seen : List Nat) (x : Nat) : List Nat :=
  let code := bits x 31 24
  [need (bits x 23 16 < pinInstances code && bits x 7 0 = 0 && pinOptionsOk code (bits x 15 8)) E_VERSION,
    need (code = 0 || !seen.any (fun y => bits y 31 16 = bits x 31 16)) E_PERM]

/-- Binds a pin. -/
def pinItem (x : Nat) (d : Dev) : Dev :=
  let i := bits x 23 16
  match bits x 31 24 with
  | 3 =>
    { d with can := { d.can with
      ctls := Tab.set (fun _ => none) d.can.ctls i ((Tab.get (fun _ => none) d.can.ctls i).map (fun (c : CanCtl) =>
        { c with modeLine := true, modeRx := bit x 15, modeInvert := bit x 14 })) } }
  | 4 =>
    d.putDioLine i { d.dioLine i with
      pin := true, input := bits x 15 14 = 0, openDrain := bits x 15 14 = 2, pull := bits x 13 12, invert := bit x 11
      slow := bit x 10 }
  | _ => d

/-- PINS. -/
def applyPins (count : Nat) (body : List Byte) (d : Dev) : Applied :=
  if count ≠ 128 then .error (E_LEN, count)
  else
    (fixedItems 4 128 count body).bind (fun t => checked pinCodes t (fun xs =>
      let d := eachItem pinItem xs d
      let has (code i : Nat) : Bool := xs.any (fun x => bits x 31 24 = code && bits x 23 16 = i)
      let mdio := [0, 1].foldl (fun t m => Tab.set (fun _ => false) t m (has 10 m && has 11 m)) d.sw.mdioPins
      let pins := (List.range 128).foldl (fun t n => Tab.set (fun _ => (0 : Word)) t n (BitVec.ofNat 32 (xs.getD n 0))) []
      .ok { d with sw := { d.sw with mdioPins := mdio }, img := { d.img with pins := pins } }))

end Sys2Proof.Machine
end

