-- ==== Sys2Proof/Machine/EngineInstr.lean ====
section
/-! DEFINITION. The engine instructions whose effect stays in the engine, the store and its events (R98 to R110). The job
instructions are in EngineJobs.lean. -/

namespace Sys2Proof.Machine

/-! ### Moves, arithmetic and tags (R99, R100) -/

/-- NOP. -/
def execNop (e : Fin 8) (t : Fin 4) (s : State) : Out := run (Dev.issueT e t (wordZ 0x00) id) s

/-- MOV: D ← A, tag kept. -/
def execMov (e : Fin 8) (t : Fin 4) (d a : GReg) (s : State) : Out :=
  run (Dev.issueT e t (wordR 0x01 d.val a.val 0 0) (fun th => th.setReg d (th.reg a))) s

/-- MOVI: D ← IMM sign-extended, neutral tag. -/
def execMovi (e : Fin 8) (t : Fin 4) (d : GReg) (imm : BitVec 26) (s : State) : Out :=
  run (Dev.issueT e t (wordI 0x02 d.val 0 imm.toNat) (fun th => th.setReg d ⟨imm.signExtend 32, tagNeutral⟩)) s

/-- MOVU: D[31:16] ← IMM[15:0], tag kept. -/
def execMovu (e : Fin 8) (t : Fin 4) (d : GReg) (imm : BitVec 16) (s : State) : Out :=
  run (Dev.issueT e t (wordI 0x03 d.val 0 imm.toNat) (fun th =>
    th.setReg d ⟨imm ++ (th.reg d).value.setWidth 16, (th.reg d).tag⟩)) s

/-- A two-operand operation with the combined tag. -/
def Thread.alu (f : Word → Word → Word) (d a : GReg) (b : OpB) (th : Thread) : Thread :=
  th.setReg d ⟨f (th.reg a).value (th.opVal b), tagComb (th.reg a).tag (th.opTag b)⟩

/-- ADD. -/
def execAdd (e : Fin 8) (t : Fin 4) (d a : GReg) (b : OpB) (s : State) : Out :=
  run (Dev.issueT e t (wordOpB 0x04 d a b) (Thread.alu (· + ·) d a b)) s

/-- SUB. -/
def execSub (e : Fin 8) (t : Fin 4) (d a : GReg) (b : OpB) (s : State) : Out :=
  run (Dev.issueT e t (wordOpB 0x05 d a b) (Thread.alu (· - ·) d a b)) s

/-- MUL: the low 32 bits of the product. -/
def execMul (e : Fin 8) (t : Fin 4) (d a : GReg) (b : OpB) (s : State) : Out :=
  run (Dev.issueT e t (wordOpB 0x06 d a b) (Thread.alu (· * ·) d a b)) s

/-- A 64-bit product shifted right, rounded half up or truncated, saturated to 32 bits (R100). -/
def scaleResult (p : Int) (signed trunc : Bool) (sh : Nat) : Word :=
  let p := if !trunc && sh ≠ 0 then p + 2 ^ (sh - 1) else p
  let q := p / 2 ^ sh
  let lo : Int := if signed then -(2 ^ 31) else 0
  let hi : Int := if signed then 2 ^ 31 - 1 else 2 ^ 32 - 1
  BitVec.ofInt 32 (max lo (min hi q))

/-- SCALE (R100). -/
def execScale (e : Fin 8) (t : Fin 4) (d a : GReg) (m : ScaleM) (signed trunc : Bool) (sh : Fin 64) (s : State) : Out :=
  run (Dev.issueT e t (wordScale d a m signed trunc sh) (fun th =>
    let av : Int := if signed then (th.reg a).value.toInt else (th.reg a).value.toNat
    th.setReg d ⟨scaleResult (av * th.scaleVal signed m) signed trunc sh.val, tagComb (th.reg a).tag (th.scaleTag m)⟩)) s

/-- DIVU: division by 0 gives 0xFFFF_FFFF with VALID 0. -/
def execDivu (e : Fin 8) (t : Fin 4) (d a b : GReg) (s : State) : Out :=
  run (Dev.issueT e t (wordR 0x08 d.val a.val b.val 0) (fun th =>
    let tag := tagComb (th.reg a).tag (th.reg b).tag
    if (th.reg b).value = 0 then th.setReg d ⟨0xFFFFFFFF, tagDegrade 0x10 tag⟩
    else th.setReg d ⟨(th.reg a).value / (th.reg b).value, tag⟩)) s

/-- AND. -/
def execAnd (e : Fin 8) (t : Fin 4) (d a : GReg) (b : OpB) (s : State) : Out :=
  run (Dev.issueT e t (wordOpB 0x09 d a b) (Thread.alu (· &&& ·) d a b)) s

/-- OR. -/
def execOr (e : Fin 8) (t : Fin 4) (d a : GReg) (b : OpB) (s : State) : Out :=
  run (Dev.issueT e t (wordOpB 0x0A d a b) (Thread.alu (· ||| ·) d a b)) s

/-- XOR. -/
def execXor (e : Fin 8) (t : Fin 4) (d a : GReg) (b : OpB) (s : State) : Out :=
  run (Dev.issueT e t (wordOpB 0x0B d a b) (Thread.alu (· ^^^ ·) d a b)) s

/-- SHL: left by B[4:0]. -/
def execShl (e : Fin 8) (t : Fin 4) (d a : GReg) (b : OpB) (s : State) : Out :=
  run (Dev.issueT e t (wordOpB 0x0C d a b) (Thread.alu (fun x y => x <<< (y.toNat % 32)) d a b)) s

/-- SHR: logically right by B[4:0]. -/
def execShr (e : Fin 8) (t : Fin 4) (d a : GReg) (b : OpB) (s : State) : Out :=
  run (Dev.issueT e t (wordOpB 0x0D d a b) (Thread.alu (fun x y => x >>> (y.toNat % 32)) d a b)) s

/-- SAR: arithmetically right by B[4:0]. -/
def execSar (e : Fin 8) (t : Fin 4) (d a : GReg) (b : OpB) (s : State) : Out :=
  run (Dev.issueT e t (wordOpB 0x0E d a b) (Thread.alu (fun x y => x.sshiftRight (y.toNat % 32)) d a b)) s

/-- The order MIN and MAX use. -/
def below (signed : Bool) (x y : Word) : Bool := if signed then x.slt y else x.ult y

/-- MIN. -/
def execMin (e : Fin 8) (t : Fin 4) (d a b : GReg) (signed : Bool) (s : State) : Out :=
  run (Dev.issueT e t (wordR 0x0F d.val a.val b.val (b2n signed))
    (Thread.alu (fun x y => if below signed y x then y else x) d a (.reg b))) s

/-- MAX. -/
def execMax (e : Fin 8) (t : Fin 4) (d a b : GReg) (signed : Bool) (s : State) : Out :=
  run (Dev.issueT e t (wordR 0x10 d.val a.val b.val (b2n signed))
    (Thread.alu (fun x y => if below signed x y then y else x) d a (.reg b))) s

/-- CMP: the flags of A − B, CT the combined operand tags. -/
def execCmp (e : Fin 8) (t : Fin 4) (a : GReg) (b : OpB) (s : State) : Out :=
  run (Dev.issueT e t (wordOpB 0x11 0 a b) (fun th =>
    th.compare (th.reg a).value (th.opVal b) (tagComb (th.reg a).tag (th.opTag b)))) s

/-- SEL: A where the condition holds, else B; CT is folded in where the condition reads the flags. -/
def execSel (e : Fin 8) (t : Fin 4) (d a b : GReg) (cond : Fin 16) (s : State) : Out :=
  run (Dev.issueT e t (wordR 0x12 d.val a.val b.val cond.val) (fun th =>
    let w := if th.holds cond then th.reg a else th.reg b
    th.setReg d ⟨w.value, if condFolds cond then tagComb w.tag th.ct else w.tag⟩)) s

/-- TAGDN: A with its tag degraded. -/
def execTagdn (e : Fin 8) (t : Fin 4) (d a : GReg) (x : BitVec 5) (s : State) : Out :=
  run (Dev.issueT e t (wordR 0x13 d.val a.val 0 x.toNat) (fun th =>
    th.setReg d ⟨(th.reg a).value, tagDegrade x (th.reg a).tag⟩)) s

/-- TAGRD: A's tag byte as a value, A's tag with SRC 4. -/
def execTagrd (e : Fin 8) (t : Fin 4) (d a : GReg) (s : State) : Out :=
  run (Dev.issueT e t (wordR 0x14 d.val a.val 0 0) (fun th =>
    th.setReg d ⟨(th.reg a).tag.setWidth 32, tagWithSrc (th.reg a).tag 4⟩)) s

/-- The low `n` bits of a word, zero- or sign-extended to 32 bits. -/
def extend (signed : Bool) (n : Nat) (w : Word) : Word :=
  let v := w.toNat % 2 ^ n
  BitVec.ofNat 32 (if signed && bit v (n - 1) then v + (2 ^ 32 - 2 ^ n) else v)

/-- EXT: from X[4:0] + 1 bits. -/
def execExt (e : Fin 8) (t : Fin 4) (d a : GReg) (signed : Bool) (lenm1 : Fin 32) (s : State) : Out :=
  run (Dev.issueT e t (wordR 0x15 d.val a.val 0 (lenm1.val + 32 * b2n signed)) (fun th =>
    th.setReg d ⟨extend signed (lenm1.val + 1) (th.reg a).value, tagComb (th.reg a).tag tagNeutral⟩)) s

/-! ### Slots (R99, R103) -/

/-- An instruction on slot A + IMM[16:0]: an index of 131,072 or more traps with cause 4. -/
def Dev.withSlot (e : Fin 8) (t : Fin 4) (a : GReg) (imm : BitVec 17) (pc : Nat) (f : Nat → Dev → Dev) (d : Dev) : Dev :=
  let n := (d.thread e.val t.val).slotIdx a imm
  if n < 131072 then f n d else d.trap e.val t.val 4 0 pc

/-- LDS: the evaluated slot, CN from its CONSUMED bit; its capture time is kept for STS. -/
def execLds (e : Fin 8) (t : Fin 4) (d a : GReg) (imm : BitVec 17) (s : State) : Out :=
  run (Dev.issue e t (wordI 0x18 d.val a.val imm.toNat) (fun pc => Dev.withSlot e t a imm pc (fun n dv =>
    let x := dv.eventSlot e.val t.val n
    (dv.onThread e.val t.val (fun th =>
      { th.setReg d ⟨x.value, x.tag⟩ with
        cn := x.consumed, lastLds := some x.capture, ldsCaps := x.capture :: th.ldsCaps })).loadWait e.val t.val))) s

/-- The oldest of the captures read in the event: the one of greatest age (R103). -/
def oldestCapture (now : Capture) : List Capture → Option Capture
  | [] => none
  | c :: cs =>
    match oldestCapture now cs with
    | some b => if (now - c).toNat < (now - b).toNat then some b else some c
    | none => some c

/-- TS of the event in progress. -/
def Thread.ts (th : Thread) : Capture := (th.ev.map (·.ts)).getD 0

/-- The capture time of STS (R103); none: the FRC of the write. -/
def Thread.stsCapture (th : Thread) (now : Capture) (cap : Fin 4) : Option Capture :=
  match cap.val with
  | 0 => some th.ts
  | 1 => none
  | 2 => some (th.lastLds.getD th.ts)
  | _ => some ((oldestCapture now th.ldsCaps.reverse).getD th.ts)

/-- STS: slot ← D ⊗ PT, SRC kept; refusals and arbitration are the store's. -/
def execSts (e : Fin 8) (t : Fin 4) (d a : GReg) (cap : Fin 4) (imm : BitVec 17) (rivals : List StoreReq) (s : State) : Out :=
  run (Dev.issue e t (wordI 0x19 d.val a.val (imm.toNat + cap.val * 2 ^ 24)) (fun pc => Dev.withSlot e t a imm pc (fun n dv =>
    let th := dv.thread e.val t.val
    let w : Tagged := ⟨(th.reg d).value, tagFold (th.reg d).tag th.pt⟩
    dv.eventWrite e t.val (Fin.ofNat 131072 n) w (th.stsCapture dv.now8 cap) rivals))) s

/-- AGE: the slot's age in µs, saturating; 0xFFFF_FFFF where it is undefined or invalidated and not written since. -/
def execAge (e : Fin 8) (t : Fin 4) (d a : GReg) (imm : BitVec 17) (s : State) : Out :=
  run (Dev.issue e t (wordI 0x1A d.val a.val imm.toNat) (fun pc => Dev.withSlot e t a imm pc (fun n dv =>
    let x := if (dv.thread e.val t.val).unseen.contains n then slotUndefined else dv.slot n
    let us := if !x.isDefined || x.exempt then 0xFFFFFFFF else min (dv.slotAge x * 8 / 1000) 0xFFFFFFFF
    (dv.onThread e.val t.val (Thread.setReg d ⟨BitVec.ofNat 32 us, tagWithSrc (dv.eventSlot e.val t.val n).tag 4⟩)).loadWait
      e.val t.val))) s

/-! ### Data memory (R97, R99) -/

/-- The trap cause of a data access of `size` bytes at an address: 2 misaligned, 3 beyond 0x1_FFFF. -/
def dataFault (a size : Nat) : Option Nat :=
  if a % size ≠ 0 then some 2 else if 0x1FFFF < a + (size - 1) then some 3 else none

/-- An access of `size` bytes to data memory. -/
def Dev.withData (e : Fin 8) (t : Fin 4) (a size pc : Nat) (f : Dev → Dev) (d : Dev) : Dev :=
  match dataFault a size with
  | some c => d.trap e.val t.val c 0 pc
  | none => f d

/-- LDW: a 32-bit word, tag N or per R97. -/
def execLdw (e : Fin 8) (t : Fin 4) (d a : GReg) (imm : BitVec 26) (s : State) : Out :=
  run (Dev.issue e t (wordI 0x1B d.val a.val imm.toNat) (fun pc dv =>
    let ad := (dv.thread e.val t.val).dataAddr a imm
    dv.withData e t ad 4 pc (fun dv =>
      let tag := (dv.ringTag e.val t.val ad).getD tagNeutral
      dv.onThread e.val t.val (Thread.setReg d ⟨BitVec.ofNat 32 (leNat (dv.dmem e.val ad 4)), tag⟩)))) s

/-- Whether an access touches a receive ring. -/
def Dev.touchesRing (d : Dev) (e a size : Nat) : Bool := (d.ringAt e a).isSome || (d.ringAt e (a + size - 1)).isSome

/-- STW: the value without its tag; cause 9 into a receive ring, cause 8 where D ⊗ PT is of lesser quality. -/
def execStw (e : Fin 8) (t : Fin 4) (d a : GReg) (imm : BitVec 26) (s : State) : Out :=
  run (Dev.issue e t (wordI 0x1C d.val a.val imm.toNat) (fun pc dv =>
    let th := dv.thread e.val t.val
    let ad := th.dataAddr a imm
    dv.withData e t ad 4 pc (fun dv =>
      if dv.touchesRing e.val ad 4 then dv.trap e.val t.val 9 0 pc
      else if !tagClean (tagComb (th.reg d).tag th.pt) then dv.trap e.val t.val 8 0 pc
      else dv.putDmem e.val ad (leBytes 4 (th.reg d).value.toNat)))) s

/-- LDT: an 8-byte cell, its tag kept or per R97. -/
def execLdt (e : Fin 8) (t : Fin 4) (d a : GReg) (imm : BitVec 26) (s : State) : Out :=
  run (Dev.issue e t (wordI 0x1D d.val a.val imm.toNat) (fun pc dv =>
    let ad := (dv.thread e.val t.val).dataAddr a imm
    dv.withData e t ad 8 pc (fun dv =>
      let w := tagged40 (leNat (dv.dmem e.val ad 8))
      dv.onThread e.val t.val (Thread.setReg d ⟨w.value, (dv.ringTag e.val t.val ad).getD w.tag⟩)))) s

/-- STT: the 8-byte cell ← D ⊗ PT; cause 9 into a receive ring. -/
def execStt (e : Fin 8) (t : Fin 4) (d a : GReg) (imm : BitVec 26) (s : State) : Out :=
  run (Dev.issue e t (wordI 0x1E d.val a.val imm.toNat) (fun pc dv =>
    let th := dv.thread e.val t.val
    let ad := th.dataAddr a imm
    dv.withData e t ad 8 pc (fun dv =>
      if dv.touchesRing e.val ad 8 then dv.trap e.val t.val 9 0 pc
      else dv.putDmem e.val ad (leBytes 8 (Tagged.toNat40 ⟨(th.reg d).value, tagComb (th.reg d).tag th.pt⟩))))) s

/-! ### Event fields and lookup (R102, R104) -/

/-- An event field (R102). -/
def Event.field (ev : Event) (i : Nat) : Nat :=
  match i with
  | 0 => ev.kind
  | 1 => ev.code
  | 2 => ev.source
  | 3 => ev.ident
  | 4 => ev.length
  | 5 => ev.flags
  | 6 => ev.accept
  | 7 => ev.sdu
  | 8 => ev.ts.toNat % 2 ^ 32
  | 9 => ev.ts.toNat / 2 ^ 32
  | 10 => ev.recAddr
  | _ => 0

/-- LDH: an event field with the neutral tag. -/
def execLdh (e : Fin 8) (t : Fin 4) (d : GReg) (field : Fin 16) (s : State) : Out :=
  run (Dev.issueT e t (wordI 0x1F d.val 0 field.val) (fun th =>
    th.setReg d ⟨BitVec.ofNat 32 ((th.ev.map (·.field field.val)).getD 0), tagNeutral⟩)) s

/-- The frame key of the current record (R104): KIND, SOURCE, ID. -/
def Dev.frameKey (d : Dev) (ev : Event) : Nat :=
  let keyKind := (((ev.ring).bind (fun i => d.ring i)).map (·.keyKind)).getD 0
  let kind := if ev.kind = 1 then (if keyKind = 0 then 3 else 4)
    else if bit ev.flags 1 then 2 else if bit ev.flags 4 then 1 else 0
  kind * 2 ^ 37 + ev.code % 32 * 2 ^ 32 + (if kind = 2 then ev.accept else ev.ident) % 2 ^ 32

/-- The binary search of R104 in a table of 16-byte entries at `base`: the PARAM found. -/
def Dev.search (d : Dev) (e base key : Nat) : Nat → Int → Int → Option Word
  | 0, _, _ => none
  | fuel + 1, lo, hi =>
    if hi < lo then none
    else
      let mid := (lo + hi) / 2
      let at' := base + 16 * mid.toNat
      let k := leNat (d.dmem e at' 5)
      if k = key then some (BitVec.ofNat 32 (leNat (d.dmem e (at' + 8) 4)))
      else if k < key then Dev.search d e base key fuel (mid + 1) hi
      else Dev.search d e base key fuel lo (mid - 1)

/-- LKUP (R104). -/
def execLkup (e : Fin 8) (t : Fin 4) (d a : GReg) (frameKey : Bool) (table : Fin 4) (s : State) : Out :=
  run (Dev.issue e t (wordR 0x20 d.val a.val 0 (table.val + 4 * b2n frameKey)) (fun _ dv =>
    let th := dv.thread e.val t.val
    let tab := Tab.get (fun _ => (0, 0)) dv.eng.lktabs (4 * e.val + table.val)
    let record := (th.ev.map (fun ev => decide (ev.kind < 2))).getD false
    let key := if frameKey then (th.ev.map dv.frameKey).getD 0 else Tagged.toNat40 (th.reg a)
    let hit := if frameKey && !record then none else dv.search e.val tab.1 key 32 0 (Int.ofNat tab.2 - 1)
    dv.onThread e.val t.val (fun th =>
      let th := { th with n := false, c := false, v := false, ct := if frameKey then tagNeutral else (th.reg a).tag }
      match hit with
      | some p => { th.setReg d ⟨p, tagNeutral⟩ with z := true }
      | none => { th with z := false }))) s

/-! ### Unpack (R106, R107, R109) -/

/-- The bit positions of a descriptor's signal from the byte base, lowest value bit first. -/
def descPositions (desc : Nat) : List Nat :=
  let start := bits desc 37 24
  let len := bits desc 42 38 + 1
  if bit desc 43 then
    ((List.range len).foldl (fun (acc : List Nat × Nat) _ =>
      (acc.2 :: acc.1, if acc.2 % 8 = 0 then acc.2 + 15 else acc.2 - 1)) ([], start)).1
  else (List.range len).map (start + ·)

/-- The bits a descriptor needs: its signal and, with QEN, its qualifier. -/
def descNeeds (desc : Nat) : List Nat :=
  descPositions desc ++ (if bit desc 21 then [bits desc 20 7] else [])

/-- One unpacked signal: the word, and whether it was short (R107). -/
def Dev.unpack (d : Dev) (e : Nat) (th : Thread) (desc base : Nat) : Tagged × Bool :=
  let kind := (th.ev.map (·.kind)).getD 7
  let src := if kind < 2 then kind else 4
  let test := (th.ev.map (fun ev => bit ev.flags 6)).getD false
  let len := if kind < 2 then (th.ev.map (·.length)).getD 0 else 0
  if (descNeeds desc).any (fun p => len * 8 ≤ base * 8 + p) then (⟨0, mkTag false false false th.fauth test src⟩, true)
  else
    let at' := (th.ev.map (·.recAddr)).getD 0
    let bitOf := fun p => bit (leNat (d.dmem e (at' + (base * 8 + p) / 8) 1)) ((base * 8 + p) % 8)
    let raw := bitsNat ((descPositions desc).map bitOf)
    let n := (descPositions desc).length
    let na := bits desc 46 45
    let bad := (na = 1 && raw = 2 ^ n - 1) || (na = 2 && (raw = 2 ^ n - 1 || raw = 2 ^ n - 2)) ||
      (bit desc 21 && !bitOf (bits desc 20 7))
    (⟨extend (bit desc 44) n (BitVec.ofNat 32 raw), mkTag (!bad) false false th.fauth test src⟩, false)

/-- A descriptor as read from data memory: the trap cause where it cannot be read or has a nonzero must-be-0 bit. -/
def Dev.descriptor (d : Dev) (e a : Nat) : Except Nat Nat :=
  match dataFault a 8 with
  | some c => .error c
  | none =>
    let desc := leNat (d.dmem e a 8)
    if bits desc 23 22 ≠ 0 || bits desc 6 0 ≠ 0 then .error 13 else .ok desc

/-- The COUNT of a descriptor list, or the trap cause (R109). -/
def Dev.listCount (d : Dev) (e a : Nat) : Except Nat Nat :=
  match dataFault a 8 with
  | some c => .error c
  | none =>
    let h := leNat (d.dmem e a 8)
    if h % 2 ^ 16 = 0 || 64 < h % 2 ^ 16 then .error 5 else if h / 2 ^ 16 ≠ 0 then .error 13 else .ok (h % 2 ^ 16)

/-- UNPK: one signal into D. -/
def execUnpk (e : Fin 8) (t : Fin 4) (d a : GReg) (base : BitVec 12) (s : State) : Out :=
  run (Dev.issue e t (wordR 0x21 d.val a.val 0 base.toNat) (fun pc dv =>
    let th := dv.thread e.val t.val
    match dv.descriptor e.val (th.reg a).value.toNat with
    | .error c => dv.trap e.val t.val c 0 pc
    | .ok desc =>
      let r := dv.unpack e.val th desc base.toNat
      (dv.count (Fld.ENG_SHORT_COUNT e.val) (b2n r.2)).onThread e.val t.val (Thread.setReg d r.1))) s

/-- UNPKS over the descriptors at `a`, `n` of them: each writes its slot with capture time TS. A rival write meets the first write of
its slot; later ones stand in other store cycles (R70). -/
def Dev.unpackList (e : Fin 8) (t : Fin 4) (base pc : Nat) (rivals : List StoreReq) : Nat → Nat → Dev → Dev
  | 0, _, d => d
  | n + 1, a, d =>
    let th := d.thread e.val t.val
    match d.descriptor e.val a with
    | .error c => d.trap e.val t.val c 0 pc
    | .ok desc =>
      let r := d.unpack e.val th desc base
      let w : Tagged := ⟨r.1.value, tagFold r.1.tag th.pt⟩
      let d := d.count (Fld.ENG_SHORT_COUNT e.val) (b2n r.2)
      let slot := Fin.ofNat 131072 (bits desc 63 47)
      let d := d.eventWrite e t.val slot w (some th.ts) rivals
      Dev.unpackList e t base pc (rivals.filter (fun r => r.slot ≠ slot)) n (a + 8) d

/-- UNPKS: a descriptor list into slots. -/
def execUnpks (e : Fin 8) (t : Fin 4) (a : GReg) (base : BitVec 12) (rivals : List StoreReq) (s : State) : Out :=
  run (Dev.issue e t (wordR 0x22 0 a.val 0 base.toNat) (fun pc dv =>
    let ad := ((dv.thread e.val t.val).reg a).value.toNat
    match dv.listCount e.val ad with
    | .error c => dv.trap e.val t.val c 0 pc
    | .ok n => dv.unpackList e t base.toNat pc rivals n (ad + 8))) s

/-! ### Pack (R108, R109) -/

/-- The content a packed word writes: the LEN-bit value and the qualifier bit (R108); `tag` is the word's tag ⊗ PT. -/
def packContent (desc : Nat) (v : Nat) (tag : Byte) : Nat × Bool :=
  let ones := 2 ^ (bits desc 42 38 + 1) - 1
  let bad := !tagValid tag || tagStale tag
  let na := bits desc 46 45
  let x := if (na = 1 || na = 2) && bad then ones
    else if na = 2 && (tagSubst tag || tagTest tag) then ones - 1 else v % (ones + 1)
  (x, !bad)

/-- Sets one bit of an assembly buffer. -/
def Dev.putAsmBit (e b i : Nat) (x : Bool) (d : Dev) : Dev :=
  let v := leNat (d.asm e b (i / 8) 1)
  d.putAsm e b (i / 8) [BitVec.ofNat 8 (setBits v (i % 8) (i % 8) (b2n x))]

/-- Packs one word into a buffer; none where a field would reach past byte 2,559. -/
def Dev.packInto (e b desc base : Nat) (w : Tagged) (d : Dev) : Option Dev :=
  if (descNeeds desc).any (fun p => 2560 * 8 ≤ base * 8 + p) then none
  else
    let c := packContent desc w.value.toNat w.tag
    let ps := (descPositions desc).zipIdx
    let d := d.each ps (fun p => Dev.putAsmBit e b (base * 8 + p.1) (bit c.1 p.2))
    some (if bit desc 21 then d.putAsmBit e b (base * 8 + bits desc 20 7) c.2 else d)

/-- PACK: D into an assembly buffer. -/
def execPack (e : Fin 8) (t : Fin 4) (d a : GReg) (h : Fin 4) (base : BitVec 12) (s : State) : Out :=
  run (Dev.issue e t (wordR 0x23 d.val a.val 0 (base.toNat + h.val * 2 ^ 12)) (fun pc dv =>
    let th := dv.thread e.val t.val
    match th.handle h.val with
    | none => dv.trap e.val t.val 12 0 pc
    | some b =>
      match dv.descriptor e.val (th.reg a).value.toNat with
      | .error c => dv.trap e.val t.val c 0 pc
      | .ok desc =>
        (dv.packInto e.val b desc base.toNat ⟨(th.reg d).value, tagComb (th.reg d).tag th.pt⟩).getD
          (dv.trap e.val t.val 6 0 pc))) s

/-- PACKS over the descriptors at `a`, `n` of them; then the thread has waited for its slot loads. -/
def Dev.packList (e : Fin 8) (t : Fin 4) (b base pc : Nat) : Nat → Nat → Dev → Dev
  | 0, _, d => d.loadWait e.val t.val
  | n + 1, a, d =>
    match d.descriptor e.val a with
    | .error c => d.trap e.val t.val c 0 pc
    | .ok desc =>
      let x := d.eventSlot e.val t.val (bits desc 63 47)
      match d.packInto e.val b desc base ⟨x.value, tagComb x.tag (d.thread e.val t.val).pt⟩ with
      | none => d.trap e.val t.val 6 0 pc
      | some d => Dev.packList e t b base pc n (a + 8) d

/-- PACKS: a list of slots into an assembly buffer. -/
def execPacks (e : Fin 8) (t : Fin 4) (a : GReg) (h : Fin 4) (base : BitVec 12) (s : State) : Out :=
  run (Dev.issue e t (wordR 0x24 0 a.val 0 (base.toNat + h.val * 2 ^ 12)) (fun pc dv =>
    let th := dv.thread e.val t.val
    let ad := (th.reg a).value.toNat
    match th.handle h.val with
    | none => dv.trap e.val t.val 12 0 pc
    | some b =>
      match dv.listCount e.val ad with
      | .error c => dv.trap e.val t.val c 0 pc
      | .ok n => dv.packList e t b base.toNat pc n (ad + 8))) s

/-- TXOPEN: an assembly buffer with the template copied in; the thread waits while the pool is empty (R116). -/
def execTxopen (e : Fin 8) (t : Fin 4) (h : Fin 4) (tmpl : Fin 32) (s : State) : Out :=
  run (Dev.issue e t (wordR 0x25 0 0 0 (tmpl.val + h.val * 2 ^ 12)) (fun _ dv =>
    let dv := dv.closeHandle e.val t.val h.val
    match dv.freeAsm e.val with
    | some b => dv.openHandle e.val t.val h.val b tmpl.val
    | none => dv.onThread e.val t.val (Thread.waiting (.buffer h tmpl)))) s

/-! ### Rate limiters, events and control flow (R96, R99, R101, R110) -/

/-- A limiter with nothing loaded. -/
def limiterNone : Limiter := ⟨0, 0, 0, false, 0, 0, 0, none⟩

/-- A rate limiter. -/
def Dev.limiter (d : Dev) (e k : Nat) : Limiter := Tab.get (fun _ => limiterNone) d.eng.limiters (256 * e + k)

/-- Sets a rate limiter. -/
def Dev.putLimiter (e k : Nat) (l : Limiter) (d : Dev) : Dev :=
  { d with eng := { d.eng with limiters := Tab.set (fun _ => limiterNone) d.eng.limiters (256 * e + k) l } }

/-- INTERVAL of a limiter in ns. -/
def Dev.rateNs (d : Dev) (e k : Nat) : Nat := 1000 * d.fld (Fld.ENG_RATE_INTERVAL e k)

/-- RATE (R110): a token and RL = 1, or RL = 0 and the trailing event armed. -/
def execRate (e : Fin 8) (t : Fin 4) (k : Fin 256) (s : State) : Out :=
  run (Dev.issue e t (wordR 0x27 0 0 0 k.val) (fun _ dv =>
    let l := dv.limiter e.val k.val
    if 0 < l.tokens then
      (dv.putLimiter e.val k.val { l with
        tokens := l.tokens - 1
        nextToken := if l.tokens = l.burst then dv.tns + dv.rateNs e.val k.val else l.nextToken }).onThread e.val t.val
        (fun th => { th with rl := true })
    else
      (dv.putLimiter e.val k.val { l with
        armed := if l.trail && l.armed.isNone then some (t.val, l.nextToken) else l.armed }).onThread e.val t.val
        (fun th => { th with rl := false }))) s

/-- POST: an event code to a thread of any engine. -/
def execPost (e : Fin 8) (t : Fin 4) (a : GReg) (te : Fin 8) (tt : Fin 4) (s : State) : Out :=
  run (Dev.issue e t (wordR 0x2D 0 a.val 0 (tt.val + 4 * te.val)) (fun _ dv =>
    dv.postEvent te.val tt.val 6 (((dv.thread e.val t.val).reg a).value.toNat % 2 ^ 16) (4 * e.val + t.val) dv.now8)) s

/-- ARM: the thread timer, A µs from now, 0 to cancel. -/
def execArm (e : Fin 8) (t : Fin 4) (a : GReg) (code : BitVec 16) (periodic : Bool) (s : State) : Out :=
  run (Dev.issue e t (wordR 0x2E 0 a.val 0 (b2n periodic + 4 * code.toNat)) (fun _ dv =>
    let us := ((dv.thread e.val t.val).reg a).value.toNat
    dv.onThread e.val t.val (fun th =>
      { th with timer :=
          if us = 0 then none else some (dv.tns + 1000 * us, if periodic then some (1000 * us) else none, code.toNat) }))) s

/-- BR: a branch on a condition; CT is folded into PT where the condition reads the flags, taken or not. -/
def execBr (e : Fin 8) (t : Fin 4) (cond : Fin 16) (target : BitVec 14) (s : State) : Out :=
  run (Dev.issueT e t (wordJ 0x30 cond.val target.toNat) (fun th =>
    { th with
      pc := if th.holds cond then target.toNat else th.pc
      pt := if condFolds cond then tagComb th.pt th.ct else th.pt })) s

/-- CALL: pushes the return address; cause 7 where the link stack of 8 is full. -/
def execCall (e : Fin 8) (t : Fin 4) (target : BitVec 14) (s : State) : Out :=
  run (Dev.issue e t (wordJ 0x31 0 target.toNat) (fun pc dv =>
    if 8 ≤ (dv.thread e.val t.val).links.length then dv.trap e.val t.val 7 0 pc
    else dv.onThread e.val t.val (fun th => { th with links := (pc + 1) :: th.links, pc := target.toNat }))) s

/-- RET: pops the return address; cause 7 where the link stack is empty. -/
def execRet (e : Fin 8) (t : Fin 4) (s : State) : Out :=
  run (Dev.issue e t (wordZ 0x32) (fun pc dv =>
    match (dv.thread e.val t.val).links with
    | l :: ls => dv.onThread e.val t.val (fun th => { th with links := ls, pc := l })
    | [] => dv.trap e.val t.val 7 0 pc)) s

/-- JR: PC ← A[13:0]; A's tag is folded into PT. -/
def execJr (e : Fin 8) (t : Fin 4) (a : GReg) (s : State) : Out :=
  run (Dev.issueT e t (wordR 0x33 0 a.val 0 0) (fun th =>
    { th with pc := (th.reg a).value.toNat % 2 ^ 14, pt := tagComb th.pt (th.reg a).tag })) s

/-- YIELD: the SLICE count ends, the thread stays ready. -/
def execYield (e : Fin 8) (t : Fin 4) (s : State) : Out :=
  run (Dev.issueT e t (wordZ 0x34) (fun th => { th with slice := 0, demoted := false })) s

/-- DONE: the event ends, its record is released, the open handles are closed. -/
def execDone (e : Fin 8) (t : Fin 4) (s : State) : Out :=
  run (Dev.issue e t (wordZ 0x35) (fun _ dv => (dv.bump (Fld.ENG_EVENTS_COUNT e.val)).endEvent e.val t.val)) s

/-- TRAP: cause 10 with ARG. -/
def execTrap (e : Fin 8) (t : Fin 4) (arg : Byte) (s : State) : Out :=
  run (Dev.issue e t (wordR 0x36 0 0 0 arg.toNat) (fun pc dv => dv.trap e.val t.val 10 arg.toNat pc)) s

/-! ### Engine events (R87 to R92, R110, R116, R125) -/

/-- EVENT_START. -/
def execEventStart (e : Fin 8) (t : Fin 4) (s : State) : Out := run (Dev.eventStart e t) s

/-- THREAD_TIMER_EXPIRY: the timer is due; a TIMER event with its code, TS the due time; a periodic timer runs on. -/
def execThreadTimerExpiry (e : Fin 8) (t : Fin 4) (s : State) : Out :=
  run (fun dv =>
    match (dv.thread e.val t.val).timer with
    | some (due, period, code) =>
      if due ≤ dv.tns && dv.enginesRun then
        (dv.onThread e.val t.val (fun th => { th with timer := period.map (fun p => (due + p, some p, code)) })).postEvent
          e.val t.val 3 code 0 (dv.captureAt due)
      else dv
    | none => dv) s

/-- RATE_TOKEN_REFILL: a token each INTERVAL µs, up to BURST; the present INTERVAL gives the next one. -/
def execRateTokenRefill (e : Fin 8) (k : Fin 256) (s : State) : Out :=
  run (fun dv =>
    let l := dv.limiter e.val k.val
    if l.tokens < l.burst && l.nextToken ≤ dv.tns && dv.enginesRun then
      dv.putLimiter e.val k.val { l with tokens := l.tokens + 1, nextToken := l.nextToken + dv.rateNs e.val k.val }
    else dv) s

/-- TRAIL_TIMER_EXPIRY: the limiter's trailing one-shot, due when the next token arrives. -/
def execTrailTimerExpiry (e : Fin 8) (k : Fin 256) (s : State) : Out :=
  run (fun dv =>
    let l := dv.limiter e.val k.val
    match l.armed with
    | some (t, due) =>
      if due ≤ dv.tns && dv.enginesRun then
        (dv.putLimiter e.val k.val { l with armed := none }).postEvent e.val t 3 l.trailCode 0 (dv.captureAt due)
      else dv
    | none => dv) s

/-- SLICE_DEMOTION: SLICE instructions issued while another thread is ready. -/
def execSliceDemotion (e : Fin 8) (t : Fin 4) (s : State) : Out :=
  run (fun dv =>
    if dv.enginesRun && (dv.thread e.val t.val).isReady dv.tns && dv.fld (Fld.ENG_THR_TIME_SLICE e.val t.val) ≤ (dv.thread e.val t.val).slice &&
        (dv.readyThreads e.val).any (· ≠ t.val) then
      dv.onThread e.val t.val (fun th => { th with demoted := true })
    else dv) s

/-- Whether a budget of the event in progress is exceeded: some (time budget), R92. -/
def Dev.overBudget (d : Dev) (e t : Nat) : Option Bool :=
  let th := d.thread e t
  if th.ev.isNone then none
  else if th.isReady d.tns && d.fld (Fld.ENG_THR_CFG_INSN_BUDGET e t) ≤ th.insns then some false
  else
    match th.started with
    | some s => if 1000 * d.fld (Fld.ENG_THR_TIME_TIME_BUDGET e t) < d.tns - s then some true else none
    | none => none

/-- BUDGET_OVERRUN: the event overruns and is abandoned. -/
def execBudgetOverrun (e : Fin 8) (t : Fin 4) (s : State) : Out :=
  run (fun dv =>
    match dv.overBudget e.val t.val with
    | some b => dv.onlyIf dv.enginesRun (Dev.overrun e.val t.val b)
    | none => dv) s

/-- ASSEMBLY_BUFFER_GRANT: a thread waiting in TXOPEN gets a buffer the pool has free. -/
def execAssemblyBufferGrant (e : Fin 8) (t : Fin 4) (s : State) : Out :=
  run (fun dv =>
    match (dv.thread e.val t.val).wait, dv.freeAsm e.val with
    | .buffer h tmpl, some b =>
      dv.onlyIf dv.enginesRun (fun dv =>
        (dv.openHandle e.val t.val h.val b tmpl.val).onThread e.val t.val (fun th => { th with wait := .ready }))
    | _, _ => dv) s

/-- ENG_LOAD_UPDATE: at the end of a 1 ms FRC interval, the cycles that issued an instruction, per mille of 1,200,000. -/
def execEngLoadUpdate (e : Fin 8) (s : State) : Out :=
  run (fun dv =>
    let ms := dv.frc.toNat / 1000000
    if Tab.get (fun _ => 0) dv.eng.loadMs e.val < ms && dv.mode ≠ .doze then
      let dv := dv.put (Fld.ENG_LOAD_ISSUE_PM e.val) (dv.issuedBefore e.val ms * 1000 / 1200000)
      { dv with eng := { dv.eng with loadMs := Tab.set (fun _ => 0) dv.eng.loadMs e.val ms } }
    else dv) s

end Sys2Proof.Machine
end

