-- ==== Sys2Proof/Machine/ImageEngines.lean ====
section
/-! DEFINITION. The ENGINES section (R121 to R124) with the CAN_BIND records (R225, R226): records, instruction encodings, the three
passes. -/

namespace Sys2Proof.Machine

/-! ### Instruction encodings (R98, R99) -/

/-- Fields D, A and B of format R and I words. -/
def insnD : Nat := 15 * 2 ^ 30
/-- Field A. -/
def insnA : Nat := 15 * 2 ^ 26
/-- Field B. -/
def insnB : Nat := 15 * 2 ^ 22

/-- The bits below the opcode that an instruction may set; none for a reserved opcode. `imm` is X[21]. -/
def insnMask (op : Nat) (imm : Bool) : Option Nat :=
  let opB := if imm then 2 ^ 22 - 1 else insnB
  match op with
  | 0x00 => some 0
  | 0x01 => some (insnD + insnA)
  | 0x02 => some (insnD + (2 ^ 26 - 1))
  | 0x03 => some (insnD + 0xFFFF)
  | 0x07 => some (insnD + insnA + if imm then 2 ^ 22 - 1 else insnB + 0xFF)
  | 0x08 => some (insnD + insnA + insnB)
  | 0x0F => some (insnD + insnA + insnB + 1)
  | 0x10 => some (insnD + insnA + insnB + 1)
  | 0x11 => some (insnA + opB)
  | 0x12 => some (insnD + insnA + insnB + 0xF)
  | 0x13 => some (insnD + insnA + 0x1F)
  | 0x14 => some (insnD + insnA)
  | 0x15 => some (insnD + insnA + 0x3F)
  | 0x18 => some (insnD + insnA + 0x1FFFF)
  | 0x19 => some (insnD + insnA + 0x301FFFF)
  | 0x1A => some (insnD + insnA + 0x1FFFF)
  | 0x1B => some (insnD + insnA + (2 ^ 26 - 1))
  | 0x1C => some (insnD + insnA + (2 ^ 26 - 1))
  | 0x1D => some (insnD + insnA + (2 ^ 26 - 1))
  | 0x1E => some (insnD + insnA + (2 ^ 26 - 1))
  | 0x1F => some (insnD + 0xF)
  | 0x20 => some (insnD + insnA + 7)
  | 0x21 => some (insnD + insnA + 0xFFF)
  | 0x22 => some (insnA + 0xFFF)
  | 0x23 => some (insnD + insnA + 0x3FFF)
  | 0x24 => some (insnA + 0x3FFF)
  | 0x25 => some 0x301F
  | 0x26 => some (insnA + 0x3000)
  | 0x27 => some 0xFF
  | 0x28 => some (insnA + 0x31FF)
  | 0x29 => some (insnA + 0x31FF)
  | 0x2A => some (insnA + 0x1FF)
  | 0x2B => some (insnD + insnA + insnB)
  | 0x2C => some (insnD + insnA + insnB)
  | 0x2D => some (insnA + 0x1F)
  | 0x2E => some (insnA + 0x3FFFD)
  | 0x2F => some (insnA + insnB + 0x3F)
  | 0x30 => some (insnD + 0x3FFF)
  | 0x31 => some 0x3FFF
  | 0x32 => some 0
  | 0x33 => some insnA
  | 0x34 => some 0
  | 0x35 => some 0
  | 0x36 => some 0xFF
  | _ => if within 0x04 0x06 op || within 0x09 0x0E op then some (insnD + insnA + opB) else none

/-- Whether a word is an instruction with every unused field 0. -/
def insnOk (w : Nat) : Bool :=
  match insnMask (bits w 39 34) (bit w 21) with
  | some m => bits w 33 0 &&& m = bits w 33 0
  | none => false

/-- Whether a branch or call goes to an address below `n`. -/
def branchOk (n w : Nat) : Bool := !(bits w 39 34 = 0x30 || bits w 39 34 = 0x31) || bits w 13 0 < n

/-! ### Records (R121, R122) -/

/-- A record of the body: its place in it, the header, the data with its padding. -/
structure EngRec where
  at_ : Nat
  kind : Nat
  engine : Nat
  index : Nat
  dlen : Nat
  data : List Byte
deriving DecidableEq, Repr

/-- A number in a record's data. -/
def EngRec.num (r : EngRec) (off n : Nat) : Nat := leNat (bytesAt r.data off n)

/-- Whether DLEN fits its KIND and the buffer behind it; one that is no multiple of the entry, or an LKTABLE DLEN other than 8, does not
(DESIGN CHOICE, log entry 199). -/
def dlenOk (kind index dlen : Nat) : Bool :=
  let entries (cap : Nat) : Bool := dlen % 16 = 0 && index + dlen / 16 ≤ cap
  match kind with
  | 1 => dlen % 5 = 0 && dlen ≤ 65535
  | 2 => within 4 131076 dlen
  | 3 => dlen = 24
  | 4 => dlen = 8
  | 5 => entries 256
  | 6 => entries 512
  | 7 => within 4 2564 dlen
  | 8 => entries 1024
  | 9 => 280 ≤ dlen
  | 10 => dlen = 12
  | _ => true

/-- The header pass: the records, or the first header that fails. -/
def engRecords : Nat → Nat → List Byte → Except (Nat × Nat) (List EngRec)
  | 0, i, bs => if bs.isEmpty then .ok [] else .error (E_LEN, i)
  | n + 1, i, bs =>
    let num (off k : Nat) : Nat := leNat (bytesAt bs off k)
    let dlen := num 4 4
    let len := 8 + roundUp8 dlen
    if bs.length < 8 then .error (E_LEN, i)
    else
      let code := lowestCode
        [need (within 1 10 (num 0 1)) E_VERSION, need (num 1 1 ≤ 7) E_PERM,
          need (len ≤ bs.length && dlenOk (num 0 1) (num 2 2) dlen) E_LEN]
      if code ≠ E_OK then .error (code, i)
      else
        match engRecords n (i + 1) (bs.drop len) with
        | .ok rs => .ok (⟨i, num 0 1, num 1 1, num 2 2, dlen, (bs.drop 8).take (len - 8)⟩ :: rs)
        | .error e => .error e

/-- Whether the padding is 0. -/
def EngRec.pad (r : EngRec) : Bool := (r.data.drop r.dlen).all (fun b => b = 0)

/-- Whether a range of entries, words or bytes that a record covers overlaps another's. -/
def EngRec.clashes (span : EngRec → Nat × Nat) (seen : List EngRec) (r : EngRec) : Bool :=
  seen.any (fun y => y.kind = r.kind && y.engine = r.engine && overlap (span r) (span y))

/-- The records of one KIND, in body order. -/
def recsOf (k : Nat) (rs : List EngRec) : List EngRec := rs.filter (fun r => r.kind = k)

/-- Applies the records of a KIND in turn: `f` gives the codes of a record, from those of its KIND before it, and its effect. -/
def eachRec (codes : List EngRec → EngRec → Dev → List Nat) (f : EngRec → Dev → Dev) :
    List EngRec → List EngRec → Dev → Applied
  | _, [], d => .ok d
  | seen, r :: rs, d =>
    let c := lowestCode (codes seen r d)
    if c = E_OK then eachRec codes f (r :: seen) rs (f r d) else .error (c, r.at_)

/-! ### IMEM, DMEM, THREAD, LKTABLE (R122, R123, R105) -/

/-- The instruction words of an IMEM record of `n` instructions. -/
def EngRec.insns (r : EngRec) (n : Nat) : List Nat := chunks 5 n r.data

/-- The codes of an IMEM record. -/
def imemCodes (seen : List EngRec) (r : EngRec) (_ : Dev) : List Nat :=
  let n := r.dlen / 5
  let ws := r.insns n
  [need (r.index = 0 && r.pad && ws.all insnOk) E_VERSION, need (ws.all (branchOk n)) E_LEN,
    need (!seen.any (fun y => y.engine = r.engine)) E_PERM]

/-- Loads instruction memory. -/
def imemLoad (r : EngRec) (d : Dev) : Dev :=
  let ws := r.insns (r.dlen / 5)
  let step (t : Tab (BitVec 40)) (i : Nat) : Tab (BitVec 40) :=
    Tab.set (fun _ => (0 : BitVec 40)) t (16384 * r.engine + i) (BitVec.ofNat 40 (ws.getD i 0))
  let imem := (List.range ws.length).foldl step d.eng.imem
  { d with eng := { d.eng with imem := imem, imemCount := Tab.set (fun _ => 0) d.eng.imemCount r.engine ws.length } }

/-- The bytes a DMEM record loads: offset and count. -/
def dmemSpan (r : EngRec) : Nat × Nat := (r.num 0 4, r.dlen - 4)

/-- The codes of a DMEM record. -/
def dmemCodes (seen : List EngRec) (r : EngRec) (_ : Dev) : List Nat :=
  let s := dmemSpan r
  [need (r.index = 0 && r.pad) E_VERSION, need (s.1 + s.2 ≤ 131072) E_LEN,
    need (!r.clashes dmemSpan seen) E_PERM]

/-- Loads data memory. -/
def dmemLoad (r : EngRec) (d : Dev) : Dev :=
  d.putDmem r.engine (dmemSpan r).1 ((r.data.drop 4).take (dmemSpan r).2)

/-- VECk of a THREAD record. -/
def EngRec.vec (r : EngRec) (k : Nat) : Nat := r.num (8 + 2 * k) 2

/-- The codes of a THREAD record. -/
def threadCodes (seen : List EngRec) (r : EngRec) (d : Dev) : List Nat :=
  [need (r.num 1 1 = 0 && r.vec 7 = 0xFFFF) E_VERSION,
    need ((List.range 8).all (fun k => r.vec k = 0xFFFF || r.vec k < d.imemCount r.engine)) E_LEN,
    need (r.index ≤ 3 && !seen.any (fun y => y.engine = r.engine && y.index = r.index) && r.num 0 1 ≤ 3 && 16 ≤ r.num 2 2 &&
      within 1 10000 (r.num 4 2) && within 64 4096 (r.num 6 2)) E_PERM]

/-- Sets up a thread. -/
def threadLoad (r : EngRec) (d : Dev) : Dev :=
  let e := r.engine
  let t := r.index
  let d := (d.put (Fld.ENG_THR_CFG_PRIO e t) (r.num 0 1)).put (Fld.ENG_THR_CFG_INSN_BUDGET e t) (r.num 2 2)
  let d := (d.put (Fld.ENG_THR_TIME_TIME_BUDGET e t) (r.num 4 2)).put (Fld.ENG_THR_TIME_SLICE e t) (r.num 6 2)
  let vecs := (List.range 8).foldl (fun v k => Tab.set (fun _ => 0xFFFF) v (8 * (4 * e + t) + k) (r.vec k)) d.eng.vecs
  { d with eng := { d.eng with vecs := vecs } }

/-- Whether the keys of a table ascend strictly from `prev` on, and whether its must-be-0 bytes are 0. -/
def tableOk (d : Dev) (e : Nat) : Nat → Nat → Option Nat → Bool × Bool
  | 0, _, _ => (true, true)
  | n + 1, a, prev =>
    let k := leNat (d.dmem e a 5)
    let (up, zero) := tableOk d e n (a + 16) (some k)
    ((match prev with | some p => decide (p < k) | none => true) && up,
      leNat (d.dmem e (a + 5) 3) = 0 && leNat (d.dmem e (a + 12) 4) = 0 && zero)

/-- The codes of an LKTABLE record; an INDEX beyond its range gets E_PERM (DESIGN CHOICE, log entry 199). -/
def lktableCodes (seen : List EngRec) (r : EngRec) (d : Dev) : List Nat :=
  let base := r.num 0 4
  let count := r.num 4 4
  let fits := count ≤ 4096 && base + 16 * count ≤ 131072
  let (up, zero) := if fits then tableOk d r.engine count base none else (true, true)
  [need (base % 16 = 0) E_ALIGN, need fits E_LEN, need zero E_VERSION,
    need (r.index ≤ 3 && !seen.any (fun y => y.engine = r.engine && y.index = r.index) && up) E_PERM]

/-- Sets up a lookup table. -/
def lktableLoad (r : EngRec) (d : Dev) : Dev :=
  { d with eng := { d.eng with lktabs := Tab.set (fun _ => (0, 0)) d.eng.lktabs (4 * r.engine + r.index) (r.num 0 4, r.num 4 4) } }

/-! ### RATE, FRESH, ADJ (R110, R111, R122) -/

/-- The entries a record covers: first and count. -/
def entrySpan (r : EngRec) : Nat × Nat := (r.index, r.data.length / 16)

/-- The entries of a record, with their indices. -/
def EngRec.entries (r : EngRec) : List (Nat × Nat) :=
  let n := r.data.length / 16
  (List.range n).zip (chunks 16 n r.data) |>.map (fun x => (r.index + x.1, x.2))

/-- The codes of a RATE record. -/
def rateCodes (seen : List EngRec) (r : EngRec) (_ : Dev) : List Nat :=
  [need (r.entries.all (fun x => bits x.2 111 105 = 0)) E_VERSION,
    need (!r.clashes entrySpan seen && r.entries.all (fun x =>
      1 ≤ bits x.2 63 32 && bits x.2 63 32 ≤ bits x.2 31 0 && bits x.2 31 0 ≤ bits x.2 95 64 && bits x.2 103 96 ≠ 0)) E_PERM]

/-- Sets up rate limiters. -/
def rateLoad (r : EngRec) (d : Dev) : Dev :=
  d.each r.entries (fun x d =>
    let v := x.2
    let l : Limiter := ⟨bits v 63 32, bits v 95 64, bits v 103 96, bit v 104, bits v 127 112, bits v 103 96, 0, none⟩
    ({ d with eng := { d.eng with
      limiters := Tab.set (fun _ => limiterNone) d.eng.limiters (256 * r.engine + x.1) l } }).put
        (Fld.ENG_RATE_INTERVAL r.engine x.1) (bits v 31 0))

/-- The codes of a FRESH record. -/
def freshCodes (seen : List EngRec) (r : EngRec) (_ : Dev) : List Nat :=
  [need (r.entries.all (fun x => bits x.2 95 88 ≤ 2)) E_VERSION,
    need (!r.clashes entrySpan seen && r.entries.all (fun x =>
      bits x.2 95 88 = 0 || (bits x.2 87 80 ≤ 32 && bits x.2 111 96 ≠ 0 && within 4 16 (bits x.2 127 120)))) E_PERM]

/-- Sets a freshness entry. -/
def Dev.putFresh (e i : Nat) (x : Fresh) (d : Dev) : Dev :=
  { d with eng := { d.eng with fresh := Tab.set (fun _ => freshNone) d.eng.fresh (512 * e + i) x } }

/-- An epoch record of the freshness area. -/
def Dev.epoch (d : Dev) (e i : Nat) : Option Epoch := Tab.get (fun _ => none) d.eng.epochs (512 * e + i)

/-- The epoch of an entry is written to MRAM (R113). -/
def Dev.writeEpoch (e i : Nat) (d : Dev) : Dev :=
  let x := d.freshEntry e i
  if x.mode = 0 then d
  else { d with eng := { d.eng with
    epochs := Tab.set (fun _ => none) d.eng.epochs (512 * e + i) (some ⟨x.dataId, x.keySlot, x.counter / 1024⟩) } }

/-- Every epoch is written to MRAM (R120). -/
def Dev.writeEpochs (d : Dev) : Dev := d.each (Tab.keys d.eng.fresh) (fun k => Dev.writeEpoch (k / 512) (k % 512))

/-- The counter an entry starts at: after the stored epoch where the record is the entry's, else the image's (R113). -/
def resumed (ep : Option Epoch) (x : Fresh) : Nat :=
  match ep with
  | some r => if r.dataId = x.dataId && r.keySlot = x.keySlot then ((r.epoch + 1) * 1024 - 1) % 2 ^ 64 else x.counter
  | none => x.counter

/-- Sets up freshness entries. -/
def freshLoad (r : EngRec) (d : Dev) : Dev :=
  d.each r.entries (fun x d =>
    let v := x.2
    let f : Fresh := if bits v 95 88 = 0 then freshNone
      else ⟨bits v 63 0, bits v 79 64, bits v 87 80, bits v 95 88, bits v 111 96, bits v 119 112, bits v 127 120⟩
    (d.putFresh r.engine x.1 { f with counter := resumed (d.epoch r.engine x.1) f }).writeEpoch r.engine x.1)

/-- The codes of an ADJ record. -/
def adjCodes (seen : List EngRec) (r : EngRec) (_ : Dev) : List Nat :=
  [need (r.entries.all (fun x => bits x.2 127 96 = 0)) E_VERSION, need (r.entries.all (fun x => bits x.2 31 0 % 4 = 0)) E_ALIGN,
    need (r.entries.all (fun x => bits x.2 31 0 + 4 ≤ 131072)) E_LEN,
    need (!r.clashes entrySpan seen && r.entries.all (fun x => bits x.2 63 32 ≤ bits x.2 95 64)) E_PERM]

/-- Sets up adjustable words. -/
def adjLoad (r : EngRec) (d : Dev) : Dev :=
  d.each r.entries (fun x d =>
    { d with eng := { d.eng with
      adj := Tab.set (fun _ => none) d.eng.adj (1024 * r.engine + x.1) (some (bits x.2 31 0, bits x.2 63 32, bits x.2 95 64)) } })

/-! ### TEMPLATE (R122, R207) -/

/-- Whether the header of a CAN template has every field that does not apply to its FORMAT 0. -/
def canHeaderOk (w0 w1 w2 w3 : Nat) : Bool :=
  let short := bits w0 31 29 = 2 || !bit w0 28
  let w0ok := match bits w0 31 29 with
    | 0 => clean w0 [(31, 28), (26, 25)]
    | 1 => clean w0 [(31, 27), (25, 25), (7, 0)]
    | 2 => clean w0 [(31, 29), (25, 8)]
    | _ => false
  w0ok && w1 < 2 ^ (if short then 11 else 29) && (bits w0 31 29 = 2 || w2 = 0) && w3 < 2 ^ 12

/-- The codes of a TEMPLATE record; an INDEX beyond its range gets E_PERM (DESIGN CHOICE, log entry 199). -/
def templateCodes (seen : List EngRec) (r : EngRec) (_ : Dev) : List Nat :=
  let target := r.num 0 4
  let n := r.dlen - 4
  let form := match bits target 31 30 with
    | 0 => clean target [(28, 24), (21, 16)] && canHeaderOk (r.num 4 4) (r.num 8 4) (r.num 12 4) (r.num 16 4)
    | 1 => clean target [(31, 30), (23, 20)]
    | _ => false
  [need (form && r.pad) E_VERSION, need (bits target 31 30 ≥ 2 || (if bits target 31 30 = 0 then 16 else 14) ≤ n) E_LEN,
    need (r.index ≤ 31 && !seen.any (fun y => y.engine = r.engine && y.index = r.index)) E_PERM]

/-- Loads a template. -/
def templateLoad (r : EngRec) (d : Dev) : Dev :=
  let t : Template := ⟨BitVec.ofNat 32 (r.num 0 4), (r.data.drop 4).take (r.dlen - 4)⟩
  { d with eng := { d.eng with templates := Tab.set (fun _ => none) d.eng.templates (32 * r.engine + r.index) (some t) } }

/-! ### CAN_BIND and ETH_BIND (R225, R226, R122) -/

/-- The matrix of a CAN_BIND record: of each cycle its header word and window words, and the bytes they take. -/
def canMatrix : Nat → List Byte → List (Nat × List (Nat × Nat)) × Nat
  | 0, _ => ([], 0)
  | n + 1, bs =>
    let w := leNat (bytesAt bs 0 4)
    let k := w % 64
    let wins := (List.range k).map (fun i => (leNat (bytesAt bs (4 + 8 * i) 4), leNat (bytesAt bs (8 + 8 * i) 4)))
    let (rest, len) := canMatrix n (bs.drop (4 + 8 * k))
    ((w, wins) :: rest, 4 + 8 * k + len)

/-- The timing entries of a CAN_BIND record. -/
def EngRec.timings (r : EngRec) : List (Nat × Nat × Nat × Nat) :=
  (List.range (r.num 13 1)).map (fun i =>
    let o := 280 + 16 * i
    (r.num o 4, r.num (o + 4) 4, r.num (o + 8) 4, r.num (o + 12) 4))

/-- The schedule matrix of a CAN_BIND record. -/
def EngRec.matrix (r : EngRec) : List (Nat × List (Nat × Nat)) × Nat := canMatrix (r.num 15 1) (r.data.drop (280 + 16 * r.num 13 1))

/-- A window from its two words. -/
def canWinOf (w : Nat × Nat) : CanWin := ⟨bits w.1 31 30, bits w.1 29 24, bits w.1 23 18 + 1, bits w.2 31 16, bits w.2 15 0⟩

/-- Whether a timing entry is within R197 and R198. -/
def timingOk (xl : Bool) (t : Nat × Nat × Nat × Nat) : Bool :=
  let data (w least : Nat) : Bool := least ≤ dataBit w && dataBit w ≤ nominalBit t.1 && bits w 15 11 ≤ bits w 20 16
  160 ≤ nominalBit t.1 && 1 ≤ bits t.1 22 15 && 1 ≤ bits t.1 14 8 && bits t.1 7 1 ≤ bits t.1 14 8 && data t.2.1 20 && data t.2.2.1 8 &&
    (!xl || (bits t.2.2.2 31 26 ≠ 0 && bits t.2.2.2 25 20 ≠ 0 && bits t.2.2.2 31 26 + bits t.2.2.2 25 20 = dataBit t.2.2.1))

/-- Whether the must-be-0 bits of a timing entry are 0. -/
def timingClean (xl : Bool) (t : Nat × Nat × Nat × Nat) : Bool :=
  t.1 % 2 = 0 && t.2.1 % 8 = 0 && t.2.2.1 % 8 = 0 && (!xl || t.2.2.2 % 2 ^ 14 = 0)

/-- The buffer words of a CAN_BIND record. -/
def EngRec.canBufs (r : EngRec) : List Nat := (List.range 64).map (fun b => r.num (24 + 4 * b) 4)

/-- Whether a window's kind and buffers agree (R211, R226). -/
def winShapeOk (bufs : List Nat) (w : CanWin) : Bool :=
  match w.kind with
  | 2 => w.first = 0 && w.count = 1
  | 3 => true
  | k => (k = 1 || w.count = 1) && (List.range w.count).all (fun i => bits (bufs.getD (w.first + i) 0) 31 28 ≠ 0xF)

/-- The region of a receive ring, and whether it overlaps another ring of its engine or leaves data memory. -/
def Dev.ringClash (d : Dev) (e base size : Nat) : Bool :=
  131072 < base + size || (List.range 48).any (fun i =>
    match d.ring i with
    | some x => x.engine.val = e && overlap (x.base, x.size) (base, size)
    | none => false)

/-- The codes of a CAN_BIND record. -/
def canBindCodes (_ : List EngRec) (r : EngRec) (d : Dev) : List Nat :=
  let n := r.num 13 1
  let ref := r.num 14 1
  let cycles := r.num 15 1
  let xl := bit (r.num 12 1) 1
  let bufs := r.canBufs
  let wins := (r.matrix.1.map (fun c => c.2.map canWinOf))
  let base := r.num 4 4
  let size := r.num 8 4
  let bound := if ref = 1 || ref = 2 then some (r.num 20 2) else none
  let param := r.num 16 4
  [need (within 1 4 n && cycles ≤ 64 && r.matrix.1.all (fun c => c.1 % 64 ≤ 32) && within 256 65536 size &&
      (bufs.map (fun b => 16 * (b % 256))).sum ≤ 32768 && wins.all (fun c => c.all (fun w => w.first + w.count ≤ 64)) &&
      r.dlen = 280 + 16 * n + r.matrix.2 && !d.ringClash r.engine base size) E_LEN,
    need (base % 8 = 0 && size % 8 = 0) E_ALIGN,
    need (r.index ≤ 31 && (d.canCtl r.index).isNone && r.num 0 1 ≤ 3 && d.vec r.engine (r.num 0 1) 0 ≠ 0xFFFF &&
      r.timings.all (timingOk xl) && wins.all (winsOk bound) && ((ref = 0) = (cycles = 0)) &&
      wins.all (fun c => c.all (winShapeOk bufs)) &&
      bufs.all (fun b => if bits b 31 28 = 0xF then b % 256 = 0 else within 1 129 (b % 256)) &&
      !((ref = 1 || ref = 2) && r.num 20 2 = 0) && !(ref = 4 && r.num 22 2 = 0)) E_PERM,
    need (r.num 1 3 = 0 && r.num 12 1 < 16 && ref ≤ 4 && bufs.all (fun b => !within 8 14 (bits b 31 28) && bits b 27 8 = 0) &&
      r.timings.all (timingClean xl) && r.matrix.1.all (fun c => c.1 < 64 && c.2.all (fun w => bits w.1 31 30 ≠ 3 && bits w.1 17 0 = 0)) &&
      (match ref with | 3 => param < 4 | 4 => param < 2 ^ 30 | _ => param = 0) && r.pad) E_VERSION]

/-- Binds a controller: its ring, its configuration, its buffers. -/
def canBindLoad (r : EngRec) (d : Dev) : Dev :=
  let n := r.index
  let wins := r.matrix.1.map (fun c => c.2.map canWinOf)
  let words (t : Nat × Nat × Nat × Nat) : Word × Word × Word × Word :=
    (BitVec.ofNat 32 t.1, BitVec.ofNat 32 t.2.1, BitVec.ofNat 32 t.2.2.1, BitVec.ofNat 32 t.2.2.2)
  let c : CanCtl :=
    { fd := bit (r.num 12 1) 0, xl := bit (r.num 12 1) 1, rxOwn := bit (r.num 12 1) 2, modeLine := false, modeRx := false, modeInvert := false
      timings := r.timings.map words
      ref := r.num 14 1, refParam := r.num 16 4, sizes := r.canBufs.map (· % 256), sets := wins, use := wins, cycleUse := r.num 20 2
      tx := none, seq := 0, steps := [], cycleAt := 0, inCycle := false, next := 0, win := none, tried := [], sent := [], kept := []
      lastRef := 0, landed := none, reached := none }
  let ring : RxRing :=
    ⟨Fin.ofNat 8 r.engine, Fin.ofNat 4 (r.num 0 1), r.num 4 4, r.num 8 4, 0, 0, 0, 0, []⟩
  let d := ({ d with can := { d.can with ctls := Tab.set (fun _ => none) d.can.ctls n (some c) } }).putRing n (some ring)
  let d := ((d.putFlag (Fld.CAN_CTRL_LISTEN n) (bit (r.num 12 1) 3)).wr (Reg.CAN_CYCLE n) (BitVec.ofNat 32 (r.num 20 4))).putTiming n 0 c
  d.each (List.range 64) (fun b d =>
    let w := r.canBufs.getD b 0
    let sched := wins.any (fun c => c.any (fun x => x.kind ≠ 2 && x.first ≤ b && b < x.first + x.count))
    (d.put (Fld.CAN_TXB_STAT_OWNER n b) (bits w 31 28)).putFlag (Fld.CAN_TXB_STAT_SCHED n b) sched)

/-- The codes of an ETH_BIND record; an INDEX beyond its range gets E_PERM (DESIGN CHOICE, log entry 199). -/
def ethBindCodes (seen : List EngRec) (r : EngRec) (d : Dev) : List Nat :=
  [need (r.num 0 1 ≤ 1 && r.pad) E_VERSION, need (!d.ringClash r.engine (r.num 4 4) (r.num 8 4)) E_LEN,
    need (r.index ≤ 15 && r.num 1 1 ≤ 3 && d.vec r.engine (r.num 1 1) 1 ≠ 0xFFFF &&
      !seen.any (fun y => y.index = r.index || (y.num 0 1 = r.num 0 1 && y.num 2 2 = r.num 2 2))) E_PERM]

/-- Binds an intake ring. -/
def ethBindLoad (r : EngRec) (d : Dev) : Dev :=
  d.putRing (32 + r.index) (some
    ⟨Fin.ofNat 8 r.engine, Fin.ofNat 4 (r.num 1 1), r.num 4 4, r.num 8 4, r.num 0 1, r.num 2 2, 0, 0, []⟩)

/-! ### The three passes (R124) -/

/-- Whether every RATE and TXOPEN instruction of an IMEM record names a limiter or template that a record of its engine defines. -/
def insnRefsOk (rs : List EngRec) (r : EngRec) : Bool :=
  (r.insns (r.dlen / 5)).all (fun w =>
    match bits w 39 34 with
    | 0x27 => (recsOf 5 rs).any (fun y => y.engine = r.engine && y.index ≤ bits w 7 0 && bits w 7 0 < y.index + y.data.length / 16)
    | 0x25 => (recsOf 7 rs).any (fun y => y.engine = r.engine && y.index = bits w 4 0)
    | _ => true)

/-- ENGINES. -/
def applyEngines (count : Nat) (body : List Byte) (d : Dev) : Applied :=
  (engRecords count 0 body).bind (fun rs =>
    let go (k : Nat) (codes : List EngRec → EngRec → Dev → List Nat) (f : EngRec → Dev → Dev) (d : Dev) : Applied :=
      eachRec codes f [] (recsOf k rs) d
    (go 1 imemCodes imemLoad d).bind (fun d =>
    (go 2 dmemCodes dmemLoad d).bind (fun d =>
    (go 3 threadCodes threadLoad d).bind (fun d =>
    (go 4 lktableCodes lktableLoad d).bind (fun d =>
    (go 5 rateCodes rateLoad d).bind (fun d =>
    (go 6 freshCodes freshLoad d).bind (fun d =>
    (go 7 templateCodes templateLoad d).bind (fun d =>
    (go 8 adjCodes adjLoad d).bind (fun d =>
    (go 9 canBindCodes canBindLoad d).bind (fun d =>
    (go 10 ethBindCodes ethBindLoad d).bind (fun d =>
      match (recsOf 1 rs).find? (fun r => !insnRefsOk rs r) with
      | some r => .error (E_PERM, r.at_)
      | none => .ok d)))))))))))

end Sys2Proof.Machine
end

