-- ==== Sys2Proof/Machine/Recorder.lean ====
section
/-! DEFINITION. The sealed recorder (R406 to R414): the log ring, the chain, checkpoints, acknowledgements, export. -/

namespace Sys2Proof.Machine

/-! ### Registers of the recorder -/

/-- Next SEQ. -/
def Dev.recNext (d : Dev) : Nat := d.pair Fld.REC_NEXT_LO_SEQ Fld.REC_NEXT_HI_SEQ
/-- The last checkpointed SEQ. -/
def Dev.recCkpt (d : Dev) : Nat := d.pair Fld.REC_CKPT_LO_SEQ Fld.REC_CKPT_HI_SEQ
/-- ACKED. -/
def Dev.recAcked (d : Dev) : Nat := d.pair Fld.REC_ACKED_LO_SEQ Fld.REC_ACKED_HI_SEQ

/-- Whether a log sector is reclaimable (R414); the DATA sector that still takes records is not. -/
def Dev.reclaimable (d : Dev) (s : Sector) : Bool := d.flag Fld.REC_STATUS_WRAP && s.last ≤ d.recAcked

/-- The sectors that are closed. -/
def Dev.closedSectors (d : Dev) : List Sector := if d.sec.dataOpen then d.sec.sectors.dropLast else d.sec.sectors

/-- Free log sectors: unwritten and reclaimable ones (R414). -/
def Dev.freeSectors (d : Dev) : Nat := 2046 - d.sec.sectors.length + (d.closedSectors.filter d.reclaimable).length

/-- The log sector of an SSEQ, where it is still held. -/
def Dev.sectorOf (d : Dev) (sseq : Nat) : Option Sector := d.sec.sectors.find? (fun s => s.sseq = sseq)

/-- REC_EXP_STATUS: whether the window holds the selected sector (R412). -/
def Dev.exportShow (d : Dev) : Dev :=
  match d.sec.expSel with
  | none => d
  | some q =>
    let ok := (d.sectorOf q).isSome
    (d.putFlag Fld.REC_EXP_STATUS_VALID ok).put Fld.REC_EXP_STATUS_CODE (if ok then E_OK else E_PERM)

/-- The next generation of the control sectors goes to sector 0 or 1 in turn (R406, log entry 192). -/
def Dev.recControl (d : Dev) : Dev :=
  let g := d.sec.ctlGen
  let x : RecCtl := ⟨g, ((d.sec.sectors.head?).map (·.sseq)).getD d.sec.nextSseq, d.recAcked, d.recNext, d.sec.nextSseq, d.chainHead⟩
  { d with sec := { d.sec with ctlGen := g + 1, ctls := Tab.set (fun _ => none) d.sec.ctls (g % 2) (some x) } }

/-- The registers that show the ring, and what the count of free sectors calls for (R414). -/
def Dev.recShow (d : Dev) : Dev :=
  let d := (d.recControl).exportShow
  let free := d.freeSectors
  let d := d.put Fld.REC_STATUS_FREE free
  let d := d.put Fld.REC_STATUS_FIFO d.sec.fifo.length
  let d := match d.sec.sectors.find? (fun s => !s.check) with
    | some s => d.putPair Fld.REC_OLDEST_LO_SEQ Fld.REC_OLDEST_HI_SEQ s.first
    | none => d
  let d := match d.sec.dataOpen, d.sec.sectors.getLast? with
    | true, some s => d.putPair Fld.REC_EXP_CUR_LO_SSEQ Fld.REC_EXP_CUR_HI_SSEQ s.sseq
    | _, _ => d
  if 9 ≤ free then (d.putFlag Fld.REC_STATUS_RESERVE false).putFlag Fld.REC_STATUS_FULL false
  else if d.flag Fld.REC_STATUS_FULL then d
  else
    let d := if d.flag Fld.REC_STATUS_RESERVE then d else (d.putFlag Fld.REC_STATUS_RESERVE true).raise 357
    if free = 1 && d.sec.ckptBody.isNone then { d with sec := { d.sec with ckptWant := some 3, ckptRetry := none } } else d

/-- A new log sector takes the next place of the ring: an unwritten one, else that of the oldest sector. -/
def Dev.addSector (s : Sector) (d : Dev) : Dev :=
  let old := if 2046 ≤ d.sec.sectors.length then d.sec.sectors.drop 1 else d.sec.sectors
  { d with sec := { d.sec with sectors := old ++ [s], nextSseq := d.sec.nextSseq + 1 } }

/-! ### Append (R407, R408, R410) -/

/-- The 64 bytes of a record. -/
def recBytes (seq : Nat) (loss : Bool) (r : RecAppend) : List Byte :=
  leBytes 8 seq ++ leBytes 7 r.cal ++ leBytes 1 (r.flags + 2 * b2n loss) ++ leBytes 4 r.boot ++ leBytes 8 r.frc ++ leBytes 2 r.cls ++
    leBytes 1 r.payload.length ++ [0] ++ r.payload ++ List.replicate (32 - r.payload.length) 0

/-- Whether the next record needs a new DATA sector. -/
def Dev.needsSector (d : Dev) : Bool :=
  match d.sec.dataOpen, d.sec.sectors.getLast? with
  | true, some s => 63 ≤ s.records.length
  | _, _ => true

/-- A record is written: the chain head is updated, then the record enters the current DATA sector or a new one. -/
def Dev.writeRecord (r : RecAppend) (d : Dev) : Dev :=
  let seq := d.recNext
  let bs := recBytes seq d.sec.recLoss r
  let d := if d.needsSector then d.addSector ⟨false, d.sec.nextSseq, seq, seq, [bs], [], []⟩
    else { d with sec := { d.sec with sectors := d.sec.sectors.dropLast ++
      (d.sec.sectors.getLast?.map (fun (s : Sector) => { s with last := seq, records := s.records ++ [bs] })).toList } }
  let d := { d with sec := { d.sec with
    chain := shake256 (d.chainHead ++ bs) 32
    dataOpen := true
    recLoss := false
    sinceCkpt := d.sec.sinceCkpt + 1
    uncovered := some (d.sec.uncovered.getD d.tns)
    uncoveredNext := if d.sec.ckptBody.isSome then some (d.sec.uncoveredNext.getD d.tns) else none
    ckptWant := if (seq + 1) % 256 = 0 then some (d.sec.ckptWant.getD 0) else d.sec.ckptWant } }
  (d.putPair Fld.REC_NEXT_LO_SEQ Fld.REC_NEXT_HI_SEQ (seq + 1)).recShow

/-- The class 0x000C record that reports losses, as soon as there is room. -/
def Dev.noteLosses (d : Dev) : Dev :=
  if d.sec.recLostNote ≠ 0 && d.sec.fifo.length < 64 && !d.flag Fld.SYS_STATUS_HALT then
    let n := d.sec.recLostNote
    ({ d with sec := { d.sec with recLostNote := 0 } }).recAppendFree 0x000C [n]
  else d

/-- RECORDER_WRITE: the last free sector is left for the final checkpoint, and a new DATA sector waits for the checkpoint being signed
(R411). -/
def execRecorderWrite (s : State) : Out :=
  run (fun d =>
    match d.sec.fifo with
    | r :: rs =>
      if !d.recorderRuns || (d.needsSector && (d.freeSectors < 2 || d.sec.ckptBody.isSome)) then d
      else (({ d with sec := { d.sec with fifo := rs } }).writeRecord r).noteLosses
    | [] => d) s

/-- The result of a REC_CTRL write. -/
def Dev.recCode (c : Nat) (d : Dev) : Dev := d.put Fld.REC_STATUS_CODE c

/-- REC_CTRL with APPEND (R409, R410). -/
def Dev.hostAppend (d : Dev) : Dev :=
  let cls := d.fld Fld.REC_APPEND_HDR_CLASS
  let len := d.fld Fld.REC_APPEND_HDR_LEN
  if 32 < len then d.recCode E_LEN
  else if !d.recorderRuns || !d.sec.classes.any (fun c => c.1 ≤ cls && cls ≤ c.2.1 && c.2.2.2) then d.recCode E_PERM
  else
    let data := ((List.range 8).map (fun k => leBytes 4 (d.rd (Reg.REC_APPEND_D k)).toNat)).flatten
    let before := d.sec.fifo.length
    let d := d.recEnqueue (d.stampRecord cls (data.take len) true)
    d.recCode (if before < d.sec.fifo.length then E_OK else E_PERM)

/-- REC_APPEND. -/
def execRecAppend (p : Path) (s : State) : Out := runWrite p Reg.REC_CTRL 1 Dev.hostAppend s

/-! ### Checkpoints (R411) -/

/-- The checkpoint body: it covers the records written so far. -/
def Dev.ckptBody (reason : Nat) (d : Dev) : List Byte :=
  let b := leBytes 8 (d.recNext - 1) ++ d.chainHead ++ leBytes 7 d.calStamp ++ leBytes 1 reason ++
    leBytes 4 (d.fld Fld.SYS_BOOTCNT_COUNT) ++ leBytes 8 d.sec.nextSseq
  b ++ List.replicate (64 - b.length) 0

/-- CHECKPOINT: the signing of a checkpoint that is due begins; with the DRBG stopped it fails at once (R395). Into the last free sector
goes the final checkpoint, whatever asked for it and whether or not a record has come since the last one (R414). -/
def execCheckpoint (s : State) : Out :=
  run (fun d =>
    match d.sec.ckptWant with
    | some reason =>
      let reason := if d.freeSectors = 1 then 3 else reason
      if !d.recorderRuns || d.pqBusy || d.freeSectors = 0 || (reason ≠ 3 && d.sec.sinceCkpt = 0) then d
      else if d.drbgCode ≠ E_OK then (d.ckptFailed reason).pqCode E_PERM
      else
        ({ d with sec := { d.sec with
          ckptBody := some (d.ckptBody reason, d.recNext - 1), ckptWant := none, uncoveredNext := none,
          sinceCkpt := 0 } }).putFlag Fld.REC_STATUS_CKPT_BUSY true
    | none => d) s

/-- REC_CTRL with CKPT. -/
def Dev.ckptRequest (d : Dev) : Dev :=
  if !d.recorderRuns || d.sec.sinceCkpt = 0 then d.recCode E_PERM
  else ({ d with sec := { d.sec with ckptWant := some (d.sec.ckptWant.getD 1) } }).recCode E_OK

/-- CKPT_REQUEST. -/
def execCkptRequest (p : Path) (s : State) : Out := runWrite p Reg.REC_CTRL 2 Dev.ckptRequest s

/-- A checkpoint at entry to DOZE or SLEEP. -/
def Dev.ckptForSleep (d : Dev) : Dev :=
  if d.sec.sinceCkpt = 0 then d else { d with sec := { d.sec with ckptWant := some (d.sec.ckptWant.getD 2) } }

/-- CKPT_AGE_EXPIRY. -/
def execCkptAgeExpiry (s : State) : Out :=
  run (fun d =>
    match d.sec.uncovered with
    | some t =>
      if d.recorderRuns && d.sec.ckptMax ≠ 0 && t + 1000000000 * d.sec.ckptMax ≤ d.tns && d.sec.ckptWant = none &&
          d.sec.ckptBody = none && d.sec.ckptRetry = none then
        { d with sec := { d.sec with ckptWant := some 4 } }
      else d
    | none => d) s

/-- CKPT_RETRY. -/
def execCkptRetry (s : State) : Out :=
  run (fun d =>
    match d.sec.ckptRetry with
    | some (t, reason) =>
      if d.recorderRuns && t ≤ d.tns then
        { d with sec := { d.sec with ckptRetry := none, ckptWant := some (d.sec.ckptWant.getD reason) } }
      else d
    | none => d) s

/-- CHECK_SECTOR_WRITTEN: the signature is made and the CHECK sector written; the final checkpoint sets FULL. -/
def execCheckSectorWritten (s : State) : Out :=
  run (fun d =>
    match d.sec.ckptBody with
    | none => d
    | some (body, last) =>
      if !d.recorderRuns then d
      else
        let reason := (body.getD 47 0).toNat
        let body := body.take 52 ++ leBytes 8 d.sec.nextSseq ++ body.drop 60
        let (code, g, d) := d.deviceSign (ascii "RLNC" ++ d.sec.deviceId ++ body)
        if code ≠ E_OK then d.ckptLost code
        else
          let d := (d.pqCode E_OK).addSector ⟨true, d.sec.nextSseq, last, last, [], body, g⟩
          let d := { d with sec := { d.sec with
            ckptBody := none, dataOpen := false, uncovered := d.sec.uncoveredNext, uncoveredNext := none } }
          let d := (d.putFlag Fld.REC_STATUS_CKPT_BUSY false).putPair Fld.REC_CKPT_LO_SEQ Fld.REC_CKPT_HI_SEQ last
          let d := if reason = 3 then d.putFlag Fld.REC_STATUS_FULL true else d
          (d.recShow).recAppendFree 0x0008 [last, reason]) s

/-! ### Acknowledgement (R413) -/

/-- The present acknowledgement nonce. -/
def Dev.ackNonce (d : Dev) : List Byte := ((List.range 8).map (fun k => leBytes 4 (d.rd (Reg.REC_ACK_NONCE k)).toNat)).flatten

/-- Draws a new acknowledgement nonce. -/
def Dev.drawAckNonce (d : Dev) : Dev :=
  let (n, d) := d.randomBytes 32
  d.each (List.range 8) (fun k => Dev.wr (Reg.REC_ACK_NONCE k) (BitVec.ofNat 32 (leNat ((n.drop (4 * k)).take 4))))

/-- REC_CTRL with ACK. -/
def Dev.recAck (d : Dev) : Dev :=
  let seq := d.pair Fld.REC_ACK_SEQ_LO_SEQ Fld.REC_ACK_SEQ_HI_SEQ
  let pk := Tab.bytes d.sec.ackWin 0 1952
  let sig := Tab.bytes d.sec.ackWin 1952 3309
  let owner := d.sec.ownerDigest = some (shake256 pk 32)
  let (sigOk, v) := d.verifyJob pk (ascii "RLNA" ++ d.sec.deviceId ++ leBytes 8 seq ++ d.ackNonce) sig
  let auth := owner && sigOk
  let code := if !d.recorderRuns then E_PERM else if !auth then E_AUTH
    else if d.recCkpt < seq || seq ≤ d.recAcked then E_PERM else E_OK
  let d := (if d.recorderRuns && owner then v else d).drawAckNonce
  if code ≠ E_OK then (d.raise 360).recCode code
  else
    (((d.putPair Fld.REC_ACKED_LO_SEQ Fld.REC_ACKED_HI_SEQ seq).recShow).recAppendFree 0x0009 [seq]).recCode E_OK

/-- REC_ACK. -/
def execRecAck (p : Path) (s : State) : Out := runWrite p Reg.REC_CTRL 4 Dev.recAck s

/-! ### Export (R412) -/

/-- The plaintext of a log sector (R407). -/
def Sector.plain (s : Sector) : List Byte :=
  let head := leBytes 1 (if s.check then 2 else 1) ++ List.replicate 7 0 ++ leBytes 8 s.sseq ++ leBytes 8 s.first ++
    leBytes 1 s.records.length ++ List.replicate 39 0
  let body := if s.check then head ++ s.body ++ s.sig else head ++ s.records.flatten
  body ++ List.replicate (4096 - body.length) 0

/-- What the recorder region holds of a log sector: its plaintext encrypted under KS255, with its SSEQ as tweak; it stands in sector
2 + SSEQ mod 2,046 (R406). -/
def Dev.sectorStored (d : Dev) (s : Sector) : List Byte :=
  beBytes 4096 (Config.xts true (d.keySlot 255).key (leBytes 16 s.sseq) s.plain)

/-- What it holds of a control sector, whose bytes the spec does not lay out (log entry 192). -/
def Dev.controlStored (d : Dev) (x : RecCtl) : List Byte :=
  beBytes 4096 (Config.xts true (d.keySlot 255).key (leBytes 16 (2 ^ 127 + x.gen))
    (Config.recPayload 0 ([x.gen, x.oldest, x.acked, x.nextSeq, x.nextSseq] ++ x.head.map (·.toNat))))

/-- The recorder region, by sector: 2,048 of 4 KiB. -/
def Dev.recorderRegion (d : Dev) (i : Nat) : Option (List Byte) :=
  if i < 2 then (Tab.get (fun _ => none) d.sec.ctls i).map d.controlStored
  else (d.sec.sectors.find? (fun s => 2 + s.sseq % 2046 = i)).map d.sectorStored

/-- A write of REC_EXP_SSEQ selects a sector for the export window. -/
def Dev.exportSelect (sseq : Nat) (d : Dev) : Dev :=
  let d := d.putPair Fld.REC_EXP_SSEQ_LO_SSEQ Fld.REC_EXP_SSEQ_HI_SSEQ sseq
  ({ d with sec := { d.sec with expSel := some sseq } }).exportShow

/-- REC_EXPORT_SELECT: the low register is written, the staged high register completes the number (R7). -/
def execRecExportSelect (p : Path) (lo : Word) (s : State) : Out :=
  runWrite p Reg.REC_EXP_SSEQ_LO lo.toNat (fun d => d.exportSelect (lo.toNat + (d.latch p).staged.toNat * 2 ^ 32)) s

/-- A word of the export window; zeros where it shows no sector. -/
def Dev.exportWord (d : Dev) (off : Nat) : Word :=
  match d.sec.expSel.bind d.sectorOf with
  | some s => BitVec.ofNat 32 (leNat ((s.plain.drop off).take 4))
  | none => 0

/-! ### Reset and the entry to CONFIGURE (R409, R410, R417) -/

/-- At a reset the appends still in the FIFO are lost; their number is kept. -/
def Dev.recorderReset (d : Dev) : Dev :=
  { d with sec := { d.sec with
    recLostKept := d.sec.recLostKept + d.sec.fifo.length, fifo := [], recLoss := d.sec.recLoss || !d.sec.fifo.isEmpty,
    ckptBody := none, ckptWant := none, ckptRetry := none, expSel := none, ackWin := [] } }

/-- At CONFIGURE entry the recorder runs: the records kept since the last time it did, the boot record, the losses. -/
def Dev.recorderStart (d : Dev) : Dev :=
  let kept := d.sec.deferred
  let lost := d.sec.recLostKept
  let d := { d with sec := { d.sec with deferred := [], recLostKept := 0, recLostNote := d.sec.recLostNote + lost } }
  let d := (d.each kept Dev.recEnqueue).recAppendFree 0x0001 [d.fld Fld.SYS_BOOTCNT_COUNT]
  (d.noteLosses).recShow

end Sys2Proof.Machine
end

