-- ==== Sys2Proof/Machine/SwitchPorts.lean ====
section
/-! DEFINITION. The outputs of the Ethernet switch (chapter 07): selection, the checks at dequeue, what becomes of a frame at an
external port, at the host queues, at the engines' intake and at Drover; admission, push-out and the cut-through decision. -/

namespace Sys2Proof.Machine

/-! ### The head of a class queue (R233, R257) -/

/-- The oldest frame of a class that the scheduler sees takes its leave of the queue: the entries before it that are too long or too
old are dropped. -/
def Dev.dequeueCheck (p c : Nat) : Nat → Dev → Option (SwEntry × SwFrame) × Dev
  | 0, d => (none, d)
  | fuel + 1, d =>
    match (d.swPort p).queue c with
    | [] => (none, d)
    | e :: _ =>
      if !d.visible e then (none, d)
      else
      let drop (d : Dev) : Dev := (d.onSwQueue p c (fun q => q.drop 1)).swRelease p e.frame
      match d.swFrame e.frame with
      | none => Dev.dequeueCheck p c fuel (d.onSwQueue p c (fun q => q.drop 1))
      | some f =>
        let age := d.tns - e.at_ - (d.heldTotal p - e.heldNs)
        if d.egressOver p f d.tns then Dev.dequeueCheck p c fuel (drop (d.bump (Fld.ETH_OVERSIZE_EGRESS p)))
        else if e.at_ < (d.swPort p).backAt && 1000000 * d.fld (Fld.ETH_AGE_MAX_AGE p) < age then
          Dev.dequeueCheck p c fuel (drop ((d.bump (Fld.ETH_AGED_COUNT p)).raise 258))
        else (some (e, f), d)

/-! ### Port 12: the host queues (R323, R327, R346) -/

/-- A frame at port 12, for the queue of its class, a gPTP frame for PTP_Q (R237, R346); false where it has to wait for its queue. -/
def Dev.toHost (f : SwFrame) (bs : List Byte) (d : Dev) : Bool × Dev :=
  let q := if reservedDst bs && etherType bs (d.tagCount 12 bs) = 0x88F7 then d.hq.ptpQ else Tab.get (fun _ => 0xFF) d.hq.classQ f.cls
  if 63 < q then (true, d.bump Fld.BRG_NOQ_COUNT)
  else if !d.enabled q then (true, d.bump (Fld.HQ_LOST_COUNT q))
  else
    let ext := f.ingress < 12
    let r : Rec := ⟨1, f.ingress + 16 * f.cls, f.vid, false, false, if ext then f.ns else d.frc.toNat, if ext then f.frac else 0, bs, E_OK, .eth⟩
    if d.lenRefused q r then (true, d.countLenRef q)
    else if (d.queue q).cur.isNone && (d.queue q).waiting.isEmpty && d.hasRoom q r then (true, d.offerRecord q r)
    else (false, d)

/-! ### Port 13: the engines' intake (R122) -/

/-- The binding of a key. -/
def Dev.intakeBinding (d : Dev) (kind key : Nat) : Option Nat :=
  (List.range 16).find? (fun i => match d.ring (32 + i) with | some r => r.keyKind = kind && r.key = key | none => false)

/-- The UDP destination port and payload of a frame, unless it is a fragment or no UDP. -/
def udpOf (bs : List Byte) (t : Nat) : Option (Nat × List Byte) :=
  let ip := 14 + 4 * t
  let cut (at_ : Nat) : Option (Nat × List Byte) :=
    let len := be16 bs (at_ + 4)
    if at_ + 8 ≤ bs.length then some (be16 bs (at_ + 2), ((bs.drop at_).take len).drop 8) else none
  if etherType bs t = 0x0800 && (bs.getD (ip + 9) 0).toNat = 17 && be16 bs (ip + 6) % 2 ^ 14 = 0 then
    cut (ip + 4 * ((bs.getD ip 0).toNat % 16))
  else if etherType bs t = 0x86DD && (bs.getD (ip + 6) 0).toNat = 17 then cut (ip + 40)
  else none

/-- The PDUs of a datagram, and whether a bad length ended them. -/
def splitPdus : Nat → List Byte → List (Nat × List Byte) × Bool
  | 0, _ => ([], false)
  | fuel + 1, bs =>
    if bs.isEmpty then ([], false)
    else
      let len := beNat (bytesAt bs 4 4)
      if bs.length < 8 || bs.length < 8 + len || 2048 < len then ([], true)
      else
        let (rest, bad) := splitPdus fuel (bs.drop (8 + len))
        ((beNat (bs.take 4), bytesAt bs 8 len) :: rest, bad)

/-- One record into an intake ring; none where it does not fit. Its 24-byte header is the implementation's (log entry 22). -/
def Dev.intakeRecord (i ident : Nat) (payload : List Byte) (ts : Capture) (d : Dev) : Option Dev :=
  match d.ring (32 + i) with
  | none => none
  | some r =>
    let len := 24 + roundUp8 payload.length
    match r.place len with
    | none => none
    | some (start, skip) =>
      let head := leBytes 24 (Config.intakeHeader i ident payload.length d.frc.toNat)
      let marker := leBytes 8 (Config.intakeHeader i 0 skip 0)
      let body := head ++ payload ++ List.replicate (len - 24 - payload.length) 0
      let ev : Event := ⟨1, i, 0, ident, payload.length, 0, 0, 0, ts, r.base + start + 24, none⟩
      some (d.ringStore (32 + i) r start skip body marker ev)

/-- Several records, all or none. -/
def Dev.intakeRecords (i : Nat) (ts : Capture) : List (Nat × List Byte) → Dev → Option Dev
  | [], d => some d
  | (ident, payload) :: ps, d =>
    match d.intakeRecord i ident payload ts with
    | none => none
    | some d' => Dev.intakeRecords i ts ps d'

/-- A frame at port 13; false where an intake ring lacks room. The engines' common intake counts at ENG0. -/
def Dev.toEngines (f : SwFrame) (bs : List Byte) (d : Dev) : Bool × Dev :=
  let t := d.tagCount 13 bs
  let ts : Capture := if f.ingress < 12 then BitVec.ofNat 40 (f.ns / 8) else d.now8
  let count (i : Nat) (x : Nat → Fld) (d : Dev) : Dev := d.bump (x (((d.ring (32 + i)).map (fun r => r.engine.val)).getD 0))
  let byType : Bool × Dev :=
    let ty := etherType bs t
    match d.intakeBinding 1 ty with
    | none => (true, d.bump (Fld.ENG_INTAKE_NOBIND 0))
    | some i =>
      let payload := bs.drop (14 + 4 * t)
      if 2048 < payload.length then (true, count i Fld.ENG_INTAKE_LEN d)
      else
        match d.intakeRecord i ty payload ts with
        | none => (false, d)
        | some d => (true, d)
  match udpOf bs t with
  | none => byType
  | some (port, data) =>
    match d.intakeBinding 0 port with
    | none => byType
    | some i =>
      let (pdus, bad) := splitPdus data.length data
      match d.intakeRecords i ts pdus with
      | none => (false, d)
      | some d' => (true, if bad then count i Fld.ENG_INTAKE_LEN d' else d')

/-! ### Egress (R240, R245) -/

/-- Hands a frame to what stands behind an internal port; external ports take every frame. False where it has to wait. -/
def Dev.portTakes (p : Nat) (f : SwFrame) (bs : List Byte) (d : Dev) : Bool × Dev :=
  if p = 12 then d.toHost f bs
  else if p = 13 then d.toEngines f bs
  else if p = 14 then d.tunnelOut f.vid bs
  else (true, d)

/-- Starts the oldest frame of the first of the classes `cs` that has one that may go: at the host queues and the engines' intake
other classes pass a frame that waits for room (R255, R327). -/
def Dev.egressFrom (p : Nat) : List Nat → Dev → Dev
  | [], d => d
  | c :: cs, d =>
    match d.dequeueCheck p c (((d.swPort p).queue c).length + 1) with
    | (none, d) => Dev.egressFrom p cs d
    | (some (e, f), d) =>
      let bs := d.egressBytes p f
      match d.portTakes p f bs with
      | (false, d) => if p = 12 || p = 13 then Dev.egressFrom p cs d else d
      | (true, d) =>
        (d.onSwQueue p c (fun q => q.drop 1)).onSwPort p (fun x => { x with tx := some ⟨some e.frame, none, f.cls, f.cells, bs, false⟩ })

/-- Whether an output may start a frame: link, not held, nothing in transmission. -/
def Dev.egressReady (d : Dev) (p : Nat) : Bool :=
  d.swRuns && d.swLink p && !d.flag (Fld.ETH_STATUS_HELD p) && (d.swPort p).tx.isNone

/-- SWITCH_EGRESS_START: a free output with link, not held, starts a frame. -/
def execSwitchEgressStart (port : Fin 15) (s : State) : Out :=
  run (fun d =>
    let p := port.val
    d.onlyIf (d.egressReady p) (Dev.egressFrom p [7, 6, 5, 4, 3, 2, 1, 0])) s

/-- SWITCH_EGRESS_DONE: the last byte has left; the cells are released. A cut-through frame ends only once it has arrived. -/
def execSwitchEgressDone (port : Fin 15) (s : State) : Out :=
  run (fun d =>
    let p := port.val
    match (d.swPort p).tx with
    | none => d
    | some x =>
      d.onlyIf (d.swRuns && x.cutFrom.isNone) (fun d =>
        let d := match x.frame with
          | some i => (d.onSwPort p (fun y => { y with tx := none })).swRelease p i
          | none => d.cutRelease p x
        let oct := (d.pair (Fld.ETH_TX_OCT_LO_OCTETS p) (Fld.ETH_TX_OCT_HI_OCTETS p) + x.bytes.length + 4) % 2 ^ 40
        let d := (d.bump (Fld.ETH_TX_FRAMES_COUNT p)).putPair (Fld.ETH_TX_OCT_LO_OCTETS p) (Fld.ETH_TX_OCT_HI_OCTETS p) oct
        if p < 12 then d.emit (.ethFrame p (x.bytes ++ leBytes 4 (fcsOf x.bytes).toNat)) else d)) s

/-! ### Admission and push-out (R246, R247) -/

/-- The frame that the scheduler of an output selects in this cycle, ahead of any eviction (R249): the one SWITCH_EGRESS_START would
start now. -/
def Dev.selectedNow (d : Dev) (p : Nat) : Option Nat :=
  if d.egressReady p then (((d.egressFrom p [7, 6, 5, 4, 3, 2, 1, 0]).swPort p).tx).bind (·.frame) else none

/-- The frames push-out may evict at an output for an arrival of class `c`, in the order it takes them, with their classes. -/
def Dev.evictOrder (d : Dev) (p c : Nat) : List (Nat × Nat) :=
  (((List.range c).map (fun k => ((d.swPort p).queue k).reverse.map (fun e => (k, e.frame)))).flatten).filter
    (fun v => d.selectedNow p ≠ some v.2)

/-- The victims that cover both needs; none where they cannot. -/
def Dev.victims (d : Dev) (p : Nat) (needPort needPool : Int) : List (Nat × Nat) → Option (List (Nat × Nat))
  | [] => if needPort ≤ 0 && needPool ≤ 0 then some [] else none
  | (k, i) :: vs =>
    if needPort ≤ 0 && needPool ≤ 0 then some []
    else
      let (n, back) := match d.swFrame i with
        | some f => ((f.cells : Int), if f.outs = [p] then (f.cells : Int) else 0)
        | none => (0, 0)
      (d.victims p (needPort - n) (needPool - back) vs).map (fun xs => (k, i) :: xs)

/-- The decision of R246 at one output: none to drop, otherwise the frames to evict. -/
def Dev.admitPlan (d : Dev) (p c n : Nat) (first : Bool) : Option (List (Nat × Nat)) :=
  let limit := match d.swCfg p with
    | some x => x.limits.getD c 0
    | none => 0
  if limit < d.useClass p c + n then none
  else
    let needPort : Int := (d.fld (Fld.ETH_USE_USE p) + n : Nat) - (d.fld (Fld.ETH_BUDGET_B p) : Nat)
    let needPool : Int := if first then (n : Int) - d.sw.free else 0
    d.victims p needPort needPool (d.evictOrder p c)

/-- Evicts one frame (R247). -/
def Dev.evict (p : Nat) (v : Nat × Nat) (d : Dev) : Dev :=
  let d := d.onSwQueue p v.1 (fun q => q.filter (fun e => e.frame ≠ v.2))
  ((d.bump (Fld.ETH_EVICT_COUNT p v.1)).raise 257).swRelease p v.2

/-- The VLAN tags a frame came with (R231). -/
def SwFrame.tags (f : SwFrame) : Nat := if !f.tagged then 0 else if be16 f.bytes 16 = 0x8100 then 2 else 1

/-- Frame number `i` is taken to admission at one output; `first`: no output has been tried before it. -/
def Dev.admitAt (i : Nat) (p : Nat) (first : Bool) (d : Dev) : Dev :=
  match d.swFrame i with
  | none => d
  | some f =>
    if (d.swPort p).lingerOut then (d.bump (Fld.ETH_LINKDOWN_DROPS p)).raise 256
    else if d.egressOver p f f.first then d.bump (Fld.ETH_OVERSIZE_EGRESS p)
    else
      match d.admitPlan p f.cls f.cells first with
      | none => (d.bump (Fld.ETH_DROP_COUNT p f.cls)).raise 256
      | some vs =>
        let d := (d.each vs (Dev.evict p)).addUse p f.cls f.cells
        let d := if f.outs.isEmpty then d.putFree (d.sw.free - f.cells) else d
        let d := d.onSwQueue p f.cls (fun q => q ++ [⟨i, d.tns, d.heldTotal p⟩])
        match d.swFrame i with
        | some f => d.putSwFrame i (some { f with outs := f.outs ++ [p] })
        | none => d

/-- The outputs of a frame, one after the other, in ascending order (R248). -/
def Dev.admitAll (i : Nat) : List Nat → Bool → Dev → Dev
  | [], _, d =>
    match d.swFrame i with
    | some f => if f.outs.isEmpty then d.putSwFrame i none else d
    | none => d
  | p :: ps, first, d => Dev.admitAll i ps false (d.admitAt i p first)

/-- ADMISSION: the frame whose last byte arrived first is taken to its outputs. -/
def execAdmission (s : State) : Out :=
  run (fun d => d.onlyIf d.swRuns (fun d =>
    match d.sw.adm with
    | [] => d
    | f :: fs =>
      let i := d.sw.nextFrame
      let plane := crc32 (flowKey f.ingress f.cls f.vid f.tags f.bytes) % 4
      let d := { d with sw := { d.sw with adm := fs, nextFrame := i + 1 } }
      ((d.bump (Fld.SW_PLANE_FRAMES plane)).putSwFrame i (some { f with outs := [] })).admitAll i f.outs true)) s

/-! ### The cut-through decision (R250) -/

/-- Whether a class queue at an output is empty and the output idle, up, neither lingering nor held; an output that selects a queued
frame in this cycle is transmitting it (R249). -/
def Dev.cutFree (d : Dev) (p c : Nat) : Bool :=
  ((d.swPort p).queue c).isEmpty && (d.swPort p).tx.isNone && (d.selectedNow p).isNone && d.swLink p && !d.flag (Fld.ETH_STATUS_LINGER p) &&
    !d.flag (Fld.ETH_STATUS_HELD p)

/-- The time 64 bytes take at a speed, ns (R228). -/
def headNs (speed : Nat) : Nat := [51200, 5120, 512, 204, 102, 51].getD speed 0

/-- Whether a complete frame of the same flow, from the same port, still waits for admission to an output: a later one may not pass
it (R243). -/
def Dev.flowWaits (d : Dev) (port p cls vid t : Nat) (head : List Byte) : Bool :=
  d.sw.adm.any (fun f => f.ingress = port && f.outs.contains p &&
    flowKey port f.cls f.vid f.tags (f.bytes.take (head.length + 4 * f.tags - 4 * t)) = flowKey port cls vid t head)

/-- CUT_THROUGH_DECIDE: the conditions of R250 at the 64th byte of a frame. -/
def execCutThroughDecide (port : Fin 12) (head : List Byte) (s : State) : Out :=
  run (fun d =>
    match d.swCfg port.val with
    | none => d
    | some c =>
      let i := port.val
      let t := d.tagCount i head
      let (vid, pcp) := d.swVlan i c head
      let r := d.swLookup i (beNat (bytesAt head 0 6)) vid
      let cls := swClass c (t ≠ 0) pcp r.cls
      match r.outs with
      | [p] =>
        let cutOut := match d.swCfg p with | some x => x.cut | none => false
        let first := d.tns - headNs (d.fld (Fld.ETH_STATUS_SPEED i))
        let lim := d.swLimitAt i t first
        let n := cellsOf (lim - 4)
        let f := d.cutFrame i cls head
        let outLim := d.swLimitAt p (d.tagCount p (d.egressBytes p f)) first
        if d.swRuns && d.swLink i && 64 ≤ head.length && r.found && c.cut && cutOut && p < 12 && !reservedDst head &&
            etherType head t ≠ 0x8808 && d.vlanMember vid i && (d.cutOutput i).isNone && d.cutFree p cls && !d.flowWaits i p cls vid t head &&
            d.fld (Fld.ETH_STATUS_SPEED p) ≤ d.fld (Fld.ETH_STATUS_SPEED i) && lim ≤ outLim then
          match d.admitPlan p cls n true with
          | none => d
          | some vs =>
            let d := ((d.each vs (Dev.evict p)).addUse p cls n)
            let d := (d.putFree (d.sw.free - n)).onSwPort p (fun x => { x with tx := some ⟨none, some i, cls, n, d.egressBytes p f, false⟩ })
            (d.bump (Fld.ETH_CUT_COUNT p)).bump (Fld.SW_PLANE_FRAMES (crc32 (flowKey i cls vid t head) % 4))
        else d
      | _ => d) s

end Sys2Proof.Machine
end

