-- ==== Sys2Proof/Machine/Modes.lean ====
section
/-! DEFINITION. Operating modes and power sequencing (chapter 13): what a reset leaves, the boot through ROM and CONFIGURE, the
settings store, entry to service, DOZE and SLEEP, declared losses. -/

namespace Sys2Proof.Machine

/-! ### Reset of the logic die (R450, R461) -/

/-- The bits of a register that a reset of the logic die leaves: what the AON domain, VBKUP, MRAM and the fuses hold. -/
def keptBits (a : Nat) : Nat :=
  let f (x : Fld) : Nat := (2 ^ x.width - 1) * 2 ^ x.lo
  if [Reg.SYS_ID, Reg.SYS_MODE, Reg.SYS_WAKE, Reg.SYS_BOOTCNT, Reg.IMG_SEQ_FLOOR, Reg.KS_TAMPCFG, Reg.PQ_CERT_LEN,
      Reg.LDR_ROLLBACK, Reg.LDR_PROGRESS].contains a then 2 ^ 32 - 1
  else if Reg.TB_CAL_SET_LO ≤ a && a ≤ Reg.TB_CAL_SET_SUB then 0
  else if a = Reg.TB_CAL_STATUS then 2 ^ 31 - 1
  else if (Reg.TB_CAL_SEC_LO ≤ a && a ≤ Reg.TB_CAL_TAMP_INFO) || (Reg.REC_NEXT_LO ≤ a && a ≤ Reg.REC_OLDEST_HI) ||
      a = Reg.REC_EXP_CUR_LO || a = Reg.REC_EXP_CUR_HI || (Reg.PQ_DEVICE_ID 0 ≤ a && a ≤ Reg.PQ_DEVICE_ID 3) then 2 ^ 32 - 1
  else if a = Reg.SYS_STATUS then f Fld.SYS_STATUS_PS_LIMP
  else if a = Reg.MGT_STATUS then f Fld.MGT_STATUS_NOTICES + f Fld.MGT_STATUS_HOLDER
  else if a = Reg.LDR_STATE then f Fld.LDR_STATE_JOURNAL + f Fld.LDR_STATE_FAILS
  else if a = Reg.REC_STATUS then
    f Fld.REC_STATUS_FULL + f Fld.REC_STATUS_RESERVE + f Fld.REC_STATUS_WRAP + f Fld.REC_STATUS_FREE
  else 0

/-- The registers of the wake flags, which the always-on domain holds (R450): of the discrete lines, the switch and the CAN
controllers. -/
def isWakeFlag (a : Nat) : Bool :=
  a = Reg.DIO_WAKE_SRC || a = Reg.SW_WAKE_SRC || (0x800000 ≤ a && a < 0x820000 && a % 0x1000 = 0x7C)

/-- A register after a reset. -/
def Dev.resetReg (a : Nat) (d : Dev) : Dev :=
  let m := BitVec.ofNat 32 (if isWakeFlag a then 2 ^ 32 - 1 else keptBits a)
  d.wr a ((d.rd a &&& m) ||| (regReset a &&& ~~~m))

/-- Every register after a reset. -/
def Dev.resetRegs (d : Dev) : Dev := d.each (Tab.keys d.regs) Dev.resetReg

/-- The staged image. -/
def Dev.stagedImage (d : Dev) : ImgSrc := fun off n => Tab.bytes d.sys.staged off n

/-- The image in the structure region. -/
def Dev.regionImage (d : Dev) : ImgSrc := fun off n => Tab.bytes d.img.region off n

/-- Copies the staged image into the structure region (R41). -/
def Dev.storeRegion (d : Dev) : Dev :=
  let n := imgTotal d.stagedImage
  { d with img := { d.img with region := Tab.drop (fun k => decide (n ≤ k)) d.sys.staged } }

/-- A reset in the middle of stage 7: the region holds the old image, the new one, or a torn one (R41). -/
def Dev.storeCut (d : Dev) : Dev :=
  match d.img.check with
  | some src =>
    if src = 0 || (d.checkImage false false d.stagedImage).code ≠ E_OK then d
    else
      let (i, d) := d.draw
      if Config.free i % 3 = 0 then d
      else
        let d := d.storeRegion
        { d with img := { d.img with torn := Config.free i % 3 = 1 } }
  | none => d

/-- The discrete lines that outlive a reset: in SLEEP, those that may wake. -/
def Dev.wakeLines (d : Dev) : Tab DioLine :=
  if d.mode = Mode.sleep then Tab.drop (fun n => !(d.dioLine n).wakeOn) d.phase.dio else []

/-- The pins of those lines: the always-on domain keeps their pulls (R462). -/
def Dev.wakePins (d : Dev) : Tab Word :=
  if d.mode = Mode.sleep then d.img.pins.filter (fun e => bits e.2.toNat 31 24 = 4 && (d.dioLine (bits e.2.toNat 23 16)).wakeOn) else []

/-- The logic die is reset: what is not kept takes its reset state, and the configurable pins go high-impedance; in SLEEP the
lines that may wake keep their filters and pulls (R189, R191). A block read of the management port that waits for a ring node
ends as a read of a node that leaves (R295). -/
def Dev.logicReset (d : Dev) : Dev :=
  let d := (d.storeCut.recorderReset).resetRegs
  let waits := d.drv.reads.any (fun r => r.by_ = .mgmt)
  { d with
    latches := [], latched := [], frc := 0, faultQ := ⟨[], []⟩
    store := storeReset, eng := engReset d.eng.epochs, hq := hqReset, flt := fltReset, can := canReset
    phase := { phaseReset with dio := d.wakeLines }, sw := swReset, drv := drvReset, out := d.out ++ [Emit.pinsOff]
    time := { timeReset with
      calNs := d.time.calNs, calWindow := d.time.calWindow, oscRuns := d.time.oscRuns, bkupLost := d.time.bkupLost
      tampPending := d.time.tampPending }
    sec := { d.sec with
      slots := [], regions := [], qsets := [], cphVec := 0, jobs := [], running := [], done := [], doneLost := 0, mgmtDesc := []
      coreBusy := [], cphMs := 0, drbgReqs := 0, drbgFailAt := 0, remaskPos := 0, rederive := false, classes := [], ckptMax := 0 }
    sys := { d.sys with
      fromFactory := false, entry := .none, linkDownAt := some d.tns, staged := [], woken := false, startup := none }
    img := { imgReset with region := d.img.region, torn := d.img.torn, settingsDigest := d.img.settingsDigest, pins := d.wakePins }
    mgmt := { d.mgmt with
      verifying := false, activating := none, tokenNonce := none, verified := []
      ringResult := if waits then some (E_ABSENT, []) else d.mgmt.ringResult }
    loads := { loadsNone with
      dies := d.loads.dies, chs := d.loads.chs, otp := d.loads.otp, otpBad := d.loads.otpBad, otpDone := d.loads.otpDone
      otpUse := d.loads.otpUse, otpBadUse := d.loads.otpBadUse, dip := d.loads.dip, dipCode := d.loads.dipCode
      lhi := d.loads.lhi
      lhiAt := d.loads.lhiAt, limpN := d.loads.limpN, reverse := d.loads.reverse } }.loadsStop

/-- A HELD cause (R450): in OFF, and in HELD and LIMP, where the logic die is held already, it changes nothing. -/
def Dev.held (cause : Nat) (d : Dev) : Dev :=
  if d.mode = .off || d.mode = .held || d.mode = .limp then d
  else (((d.transit .held cause (if cause = 0x17 then (d.rd Reg.SYS_WAKE).toNat % 65536 else 0)).logicReset).showPins d).limpModes

/-- HELD or LIMP is left for ROM once VBAT is valid and RST_N high (R127, R450); the transition carries the cause HELD was entered
with (log entry 4). The reference is REFCLK25 where a clock is found there, the crystal otherwise (R506). -/
def Dev.bootRom (d : Dev) : Dev :=
  if !(d.mode = .held || d.mode = .limp) || !d.sys.vbatValid || !d.sys.rstn then d
  else
    let d := (d.transit .rom (d.fld Fld.SYS_MODE_CAUSE) d.sys.detail).showPins d
    let d := d.put Fld.SYS_BOOTCNT_COUNT (d.fld Fld.SYS_BOOTCNT_COUNT + 1)
    { d with frc := 0, sys := { d.sys with factoryEn := d.sys.factoryPin, refclk := d.sys.refclkPin, romStart := d.tns, confirmMissed := false } }

/-! ### Supply and reset pins (R454 to R456) -/

/-- VBAT_LOG is present. -/
def Dev.vbatUp (d : Dev) : Dev := { d with sys := { d.sys with vbat := true } }

/-- Out of OFF into HELD, cause POWERUP. -/
def Dev.leaveOff (d : Dev) : Dev := if d.mode = .off then (d.transit .held 0x0001 0).showPins d else d

/-- The backup domain's content was lost while the supply was away: BKUP_LOST, its fault and its tamper source. -/
def Dev.backupLoss (d : Dev) : Dev :=
  if d.time.bkupLost then
    let d := { d with time := { d.time with bkupLost := false } }
    ((d.putFlag Fld.TB_CAL_STATUS_BKUP_LOST true).raise 102).tamper .backup
  else d

/-- POWER_ON. A backup supply loss is found now, and is a tamper event (R157, R392). Under reverse battery the logic die stays unpowered
(R363). -/
def execPowerOn (s : State) : Out :=
  run (fun d => d.onlyIf (!d.sys.vbat && !d.loads.reverse) (fun d => d.vbatUp.leaveOff.backupLoss)) s

/-- What the always-on domain holds is lost with VBAT_LOG; MGMT_IRQ_N is released. -/
def Dev.aonLost (d : Dev) : Dev :=
  let was := d.irqAsserted
  let d := (d.wr Reg.SYS_WAKE 0).put Fld.MGT_STATUS_NOTICES 0
  { d with
    regs := Tab.drop isWakeFlag d.regs
    sys := { d.sys with vbat := false, vbatValid := false }
    mgmt := { d.mgmt with
      notices := [], noticeLost := 0, executing := none, response := none, lastReq := none, lastResp := []
      ringResult := none } }.showIrq was

/-- VBAT_LOG is gone: the AON domain is unpowered. -/
def Dev.powerOff (d : Dev) : Dev :=
  let d := d.held 0x0003
  let e := if d.mode = .held then d.transitSilent (if d.anyLimp then .limp else .off) else d
  e.aonLost.showPins d

/-- POWER_OFF. -/
def execPowerOff (s : State) : Out := run (fun d => d.onlyIf d.sys.vbat Dev.powerOff) s

/-- VBAT_VALID. -/
def execVbatValid (factoryEn refclk : Bool) (s : State) : Out :=
  run (fun d => d.onlyIf d.sys.vbat (fun d =>
    { d with sys := { d.sys with vbatValid := true, factoryPin := factoryEn, refclkPin := refclk } }.bootRom)) s

/-- VBAT_UNDERVOLTAGE. -/
def execVbatUndervoltage (s : State) : Out :=
  run (fun d => d.onlyIf d.sys.vbat (fun d => { d with sys := { d.sys with vbatValid := false } }.held 0x0003)) s

/-- VBAT_WARNING. -/
def execVbatWarning (s : State) : Out := run (fun d => d.onlyIf (d.sys.vbat && d.logicRuns) (Dev.raise 0)) s

/-- RST_N_ASSERT. -/
def execRstNAssert (s : State) : Out := run (fun d => { d with sys := { d.sys with rstn := false } }.held 0x0002) s

/-- RST_N_RELEASE. -/
def execRstNRelease (factoryEn refclk : Bool) (s : State) : Out :=
  run (fun d => { d with sys := { d.sys with rstn := true, factoryPin := factoryEn, refclkPin := refclk } }.bootRom) s

/-- REVERSE_BATTERY: every channel FET is on, the logic die isolated and unpowered. -/
def execReverseBattery (present : Bool) (s : State) : Out :=
  run (fun d =>
    let d := { d with loads := { d.loads with reverse := present } }
    d.onlyIf (present && d.sys.vbat) Dev.powerOff) s

/-! ### ROM and LOADER (R475, R482) -/

/-- A stage record, kept in the journal until it can be appended (R485). -/
def Dev.stageRecord (stage code rollback : Nat) (d : Dev) : Dev :=
  { d with mgmt := { d.mgmt with
    stageRecs := d.mgmt.stageRecs ++ [leBytes 1 stage ++ leBytes 1 code ++ leBytes 4 rollback] } }

/-- The stage records of the journal are appended. -/
def Dev.flushStages (d : Dev) : Dev :=
  if !d.recorderRuns then d
  else { d with mgmt := { d.mgmt with stageRecs := [] } }.each d.mgmt.stageRecs (fun r => Dev.recAppend 0x0004 r)

/-- LOADER is entered; with cause 0x000A the DRBG runs and a token nonce is drawn. -/
def Dev.enterLoader (cause detail : Nat) (d : Dev) : Dev :=
  let d := d.transit .loader cause detail
  let d := (d.put Fld.LDR_STATE_STAGE 1).put Fld.LDR_LEN 0
  let d := { d with mgmt := { d.mgmt with ldrCause := cause, tokenNonce := none }, sys := { d.sys with staged := [] } }
  if cause ≠ 0x000A then d
  else
    let (n, d) := d.randomBytes 32
    { d with mgmt := { d.mgmt with tokenNonce := some n } }.putFlag Fld.KS_STATUS_DRBG_OK true

/-- ROM_CHECK_DONE: the journal first, then the firmware check (`bad`: the stage it failed at) and FACTORY_EN. -/
def execRomCheckDone (bad : Option (BitVec 16)) (s : State) : Out :=
  run (fun d => d.onlyIf (d.mode = .rom && d.sys.startup.isNone) (fun d =>
    let j := d.fld Fld.LDR_STATE_JOURNAL
    if j = 1 then (d.put Fld.LDR_STATE_JOURNAL 0).enterLoader 0x0008 0
    else if j = 2 then d.enterLoader 0x0008 0
    else if j = 3 && d.fld Fld.LDR_STATE_FAILS = 3 then d.enterLoader 0x0009 0
    else
      match bad with
      | some st => d.enterLoader 0x0007 st.toNat
      | none =>
        if d.sys.factoryEn then d.enterLoader 0x000A 0
        else { d with sys := { d.sys with startup := some 0x0006 } })) s

/-- The confirm condition holds (R483): within 30 s of ROM start the update is confirmed. -/
def Dev.confirm (d : Dev) : Dev :=
  if d.fld Fld.LDR_STATE_JOURNAL ≠ 3 || d.sys.confirmMissed || d.sys.romStart + 30000000000 < d.tns then d
  else
    let rb := d.mgmt.journalRollback
    let d := (d.peak Fld.LDR_ROLLBACK_COUNTER rb).put Fld.LDR_STATE_JOURNAL 0
    (d.stageRecord 5 E_OK rb).flushStages

/-- CONFIRM_DEADLINE: 30 s after ROM start without a confirmation (R484). -/
def execConfirmDeadline (s : State) : Out :=
  run (fun d => d.onlyIf (d.logicRuns && d.fld Fld.LDR_STATE_JOURNAL = 3 && !d.sys.confirmMissed &&
      d.sys.romStart + 30000000000 < d.tns) (fun d =>
    let d := { d with sys := { d.sys with confirmMissed := true } }
    let d := (d.put Fld.LDR_STATE_FAILS (min 3 (d.fld Fld.LDR_STATE_FAILS + 1))).raise 26
    (d.stageRecord 6 E_OK d.mgmt.journalRollback).flushStages)) s

/-! ### The settings store (R42) -/

/-- The addresses of ENG_ADJ words, whose value stands in data memory. -/
def isAdj (a : Nat) : Bool := 0x400000 ≤ a && a < 0x480000 && 0x2000 ≤ a % 0x10000 && a % 0x10000 < 0x3000

/-- Whether a register holds a held setting in the register file. -/
def isHeld (a : Nat) : Bool := regMask (· = .held) a ≠ 0 && !isAdj a

/-- An adjustable word (R123): its address in data memory and its range. -/
def Dev.adj (d : Dev) (e i : Nat) : Option (Nat × Nat × Nat) := Tab.get (fun _ => none) d.eng.adj (1024 * e + i)

/-- The value of an adjustable word; 0 for an entry that is not used. -/
def Dev.adjWord (d : Dev) (e i : Nat) : Word :=
  match d.adj e i with
  | some (a, _, _) => BitVec.ofNat 32 (leNat (d.dmem e a 4))
  | none => 0

/-- Sets an adjustable word. -/
def Dev.putAdj (e i : Nat) (v : Word) (d : Dev) : Dev :=
  match d.adj e i with
  | some (a, _, _) => d.putDmem e a (leBytes 4 v.toNat)
  | none => d

/-- Puts a value of the settings store. -/
def Dev.setting (a : Nat) (v : Word) (d : Dev) : Dev := { d with settings := Tab.set regReset d.settings a v }

/-- The windows of the bound controllers: controller, cycle, window. -/
def Dev.allWindows (d : Dev) : List (Nat × Nat × Nat × CanWin) :=
  (d.canBound.map (fun n =>
    match d.canCtl n with
    | some c => ((List.range c.sets.length).zip c.sets |>.map (fun x =>
        (List.range x.2.length).zip x.2 |>.map (fun y => (n, x.1, y.1, y.2)))).flatten
    | none => [])).flatten

/-- The key of a domain's gPTP priorities in the settings store (R49); no register shows them. -/
def prioKey (k : Nat) : Nat := 0x20000000 + k

/-- The settings store takes the defaults of the image as it has just been applied: every held setting as it stands. -/
def Dev.defaultSettings (d : Dev) : Dev :=
  let d := (d.wr Reg.SYS_HOSTCFG (regReset Reg.SYS_HOSTCFG)).wr Reg.MGT_LEASE_CFG (regReset Reg.MGT_LEASE_CFG)
  let d := { d with settings := [] }.each ((Tab.keys d.regs).filter isHeld) Dev.storeSetting
  let d := d.each (Tab.keys d.eng.adj) (fun k d => d.setting (Reg.ENG_ADJ (k / 1024) (k % 1024)) (d.adjWord (k / 1024) (k % 1024)))
  let d := d.each [0, 1] (fun k d => d.setting (prioKey k) (BitVec.ofNat 32 ((d.tdCfg k).prio1 + 256 * (d.tdCfg k).prio2)))
  d.each d.allWindows (fun w d =>
    d.setting (winKey w.1 w.2.1 w.2.2.1) (BitVec.ofNat 32 (w.2.2.2.start * 65536 + w.2.2.2.len)))

/-- A held setting takes its value from the store. -/
def Dev.restoreReg (a : Nat) (d : Dev) : Dev :=
  if !isHeld a then d
  else
    let m := regMask (· = .held) a
    d.wr a ((d.rd a &&& ~~~m) ||| (Tab.get regReset d.settings a &&& m))

/-- The windows of a controller as the store has them. -/
def restoreWins (settings : Tab Word) (n : Nat) (sets : List (List CanWin)) : List (List CanWin) :=
  (List.range sets.length).zip sets |>.map (fun x =>
    (List.range x.2.length).zip x.2 |>.map (fun y =>
      let v := (Tab.get regReset settings (winKey n x.1 y.1)).toNat
      { y.2 with start := v / 65536, len := v % 65536 }))

/-- Entry to RUN: each held setting takes its value from the store. -/
def Dev.restoreSettings (d : Dev) : Dev :=
  let d := d.each (Tab.keys d.regs ++ Tab.keys d.settings) Dev.restoreReg
  let d := d.each (Tab.keys d.eng.adj) (fun k d =>
    d.putAdj (k / 1024) (k % 1024) (Tab.get regReset d.settings (Reg.ENG_ADJ (k / 1024) (k % 1024))))
  let d := d.each [0, 1] (fun k d =>
    let v := (Tab.get regReset d.settings (prioKey k)).toNat
    d.onlyIf (d.tdCfg k).present (fun d => d.putTdCfg k { d.tdCfg k with prio1 := v % 256, prio2 := v / 256 % 256 }))
  d.each d.canBound (fun n d => d.onCan n (fun c => { c with sets := restoreWins d.settings n c.sets }))

/-! ### Service (R450, R463) -/

/-- The engines at entry to RUN and at the return from DOZE (R110, R120). A transition from SAFE or DEGRADED to RUN is no entry that fills
the limiters (DESIGN CHOICE, log entry 198). -/
def Dev.enginesIdle (d : Dev) : Dev :=
  let d := d.each (List.range 48) Dev.ringEmpty
  { d with eng := { d.eng with
    threads := [], asmTmpl := [], rr := [], issued := []
    limiters := Tab.map (fun _ => limiterNone) (fun _ l => { l with tokens := l.burst, armed := none }) d.eng.limiters } }.coresAnew

/-- CONFIGURE is left for service with cause 0x000C: blocks take their settings and enter service per their mode tables, the tamper
enables come into force (R392), and every configured driver is enabled with its first value (R463). -/
def Dev.enterService (d : Dev) : Dev :=
  let factory := d.flag Fld.SYS_STATUS_FACTORY_PATH
  let was := d
  let d := d.transit (if factory then .factory else .run) 0x000C (d.fld Fld.IMG_SEQ % 65536)
  let d := { d with img := { d.img with lossNodes := [] } }
  let d := (d.restoreSettings.wr Reg.SYS_LOSS 0).timeServiceEntry.enginesIdle.phaseEntry.canEntry
  let d := (((d.swEntry false).ringEntry.loadsEntry).faultsEntry.tamperArm).showPinsAs Dev.pinStart was
  let d := { d with
    sys := { d.sys with linkDownAt := if d.mayMaster then none else some d.tns, aliveAt := d.tns, staged := [] } }
  let d := if factory then d.clearFactoryKeys else d
  let d := if d.time.tampPending then d.tamperRecord else d
  d.confirm

/-! ### CONFIGURE (R40, R417) -/

/-- Partial images are lost (R48). -/
def Dev.partialsLost (d : Dev) : Dev :=
  let d := { d.partialDiscard with img := { d.img with part := [], partCheck := none, removing := none, removed := ⟨[], []⟩, added := [], check := none } }
  ((d.put Fld.IMG_PART_STATUS_COUNT 0).wr (Reg.IMG_PART_NODES_LO) 0).wr (Reg.IMG_PART_NODES_HI) 0

/-- The check of the image in the structure region begins, or the region is found empty. -/
def Dev.checkRegion (d : Dev) : Dev :=
  let d := (d.wr Reg.IMG_STATUS 0).wr Reg.IMG_DETAIL 0
  if d.img.region.isEmpty then d.confirm
  else ({ d with img := { d.img with check := some 0 } }).put Fld.IMG_STATUS_STATE 1

/-- What every entry to CONFIGURE does. -/
def Dev.configure (d : Dev) : Dev :=
  let d := d.partialsLost.loadKeys
  let d := { d with sys := { d.sys with staged := [], startup := none } }
  ([Reg.SYS_HOSTCFG, Reg.MGT_LEASE_CFG].foldl (fun d a => d.wr a (Tab.get regReset d.settings a)) d).checkRegion

/-- CONFIGURE_ENTRY: supervisor firmware starts, and with it the DRBG where LOADER has not started it (R395). While the journal reads CONFIRMING and FMT is 0 it formats the settings store
first (R483). -/
def execConfigureEntry (s : State) : Out :=
  run (fun d =>
    match d.sys.startup with
    | some cause =>
      d.onlyIf ((d.mode = .rom || d.mode = .loader) && !d.flag Fld.SYS_STATUS_HALT) (fun d =>
        let d := if d.fld Fld.LDR_STATE_JOURNAL = 3 && !d.mgmt.journalFmt then
            { d with settings := [], img := { d.img with settingsDigest := [] }, mgmt := { d.mgmt with journalFmt := true } }
          else d
        let d := d.onlyIf (d.mode = .rom) (Dev.putFlag Fld.KS_STATUS_DRBG_OK true)
        let d := (d.transit .configure cause 0).put Fld.LDR_STATE_STAGE 0
        let d := if cause = 0x000B then d.putFlag Fld.SYS_STATUS_FACTORY_PATH true else d
        let d := { d with mgmt := { d.mgmt with tokenNonce := none } }
        (d.recorderStart.flushStages.drawAckNonce).configure)
    | none => d) s

/-! ### SYS_CTRL operations (R451, R464) -/

/-- The result of a SYS_CTRL write. -/
def Dev.sysCode (c : Nat) (d : Dev) : Dev := d.put Fld.SYS_STATUS_CODE c

/-- A SYS_CTRL operation of the host or the management port: refused during an entry, where another transition is taken in the same
cycle (`raced`), or where `ok` does not hold. -/
def Dev.sysOp (p : Path) (raced : Bool) (ok : Dev → Bool) (f : Dev → Dev) (d : Dev) : Dev :=
  if !isMaster p || raced || d.sys.entry ≠ .none || !ok d then d.sysCode E_PERM else f (d.sysCode E_OK)

/-- RESET by a master: HELD with its cause; FACTORY keys go with the slots. -/
def Dev.resetOp (p : Path) (d : Dev) : Dev := d.held (if p = .mgmt then 0x0005 else 0x0004)

/-- OP 1, RESET. -/
def Dev.sysReset (p : Path) (raced : Bool) : Dev → Dev := Dev.sysOp p raced (fun _ => true) (Dev.resetOp p)

/-- SYS_RESET. -/
def execSysReset (p : Path) (raced : Bool) (s : State) : Out := runWrite p Reg.SYS_CTRL 0x7C000001 (Dev.sysReset p raced) s

/-- RUN or DEGRADED, the supervisor not halted (R458). -/
def Dev.maySleep (d : Dev) : Bool := (d.mode = .run || d.mode = .degraded) && !d.flag Fld.SYS_STATUS_HALT

/-- The records that wait in the SYSTEM queue are written, as far as the ring has room. -/
def Dev.drainSystem : Nat → Dev → Dev
  | 0, d => d
  | n + 1, d =>
    let q := d.hq.sysQ
    if q = 0xFF || !d.enabled q || !d.mayMaster then d
    else
      let d := d.finishRecord q
      match d.nextRecord q (d.queue q).waiting with
      | (some (r, rs), d) => Dev.drainSystem n (d.startRecord q r rs)
      | (none, d) => d

/-- The mode is taken and its MODE record written; then every queue is disabled (R331, R345). -/
def Dev.leaveService (m : Mode) (cause : Nat) (d : Dev) : Dev :=
  let d := (d.partialDiscard).transit m cause 0
  let n := if d.hq.sysQ = 0xFF then 0 else (d.queue d.hq.sysQ).waiting.length
  (d.drainSystem (n + 2)).queuesStop

/-- The entry steps of DOZE and SLEEP (R459), steps 1 to 7. -/
def Dev.sleepSteps (m : Mode) (e : Entry) (cause : Nat) (d : Dev) : Dev :=
  let was := d
  let d := (d.leaveService m cause).loadsPark.ringDoze.swDoze.canDoze.writeEpochs
  let d := (d.ckptForSleep.flushJobs.timeDoze.phaseDoze).putFlag Fld.SYS_STATUS_ENTRY true
  { d with sys := { d.sys with entry := e, entryAt := d.tns, woken := false } }.showPins was

/-- OP 2, DOZE. -/
def Dev.sysDoze (p : Path) (raced : Bool) : Dev → Dev := Dev.sysOp p raced Dev.maySleep (Dev.sleepSteps .doze .doze 0x0015)

/-- SYS_DOZE. -/
def execSysDoze (p : Path) (raced : Bool) (s : State) : Out := runWrite p Reg.SYS_CTRL 0x7C000002 (Dev.sysDoze p raced) s

/-- OP 3, SLEEP: the mode has no link (R345). -/
def Dev.sysSleep (p : Path) (raced : Bool) : Dev → Dev :=
  Dev.sysOp p raced Dev.maySleep (fun d => (Dev.sleepSteps .sleep .sleep 0x0016 d).linkDrop false false)

/-- SYS_SLEEP. -/
def execSysSleep (p : Path) (raced : Bool) (s : State) : Out := runWrite p Reg.SYS_CTRL 0x7C000003 (Dev.sysSleep p raced) s

/-- OP 4, RECONFIG: service ends, CONFIGURE is entered again. -/
def Dev.sysReconfig (p : Path) (raced : Bool) : Dev → Dev :=
  Dev.sysOp p raced Dev.maySleep (fun d =>
    let was := d
    let d := (d.leaveService .configure 0x000D).ringStop.loadsStop.enginesIdle.flushJobs.phaseStop.ppsStop
    (((d.swDoze.canDoze).configure).emit .pinsOff).showPins was)

/-- SYS_RECONFIG. -/
def execSysReconfig (p : Path) (raced : Bool) (s : State) : Out := runWrite p Reg.SYS_CTRL 0x7C000004 (Dev.sysReconfig p raced) s

/-- OP 5, WAKE: on the host path in DOZE. -/
def Dev.sysWakeOp (p : Path) (raced : Bool) : Dev → Dev := Dev.sysOp p raced (fun d => p = .host && d.mode = .doze) (Dev.wake 5 0 false)

/-- SYS_WAKE. -/
def execSysWake (p : Path) (raced : Bool) (s : State) : Out := runWrite p Reg.SYS_CTRL 0x7C000005 (Dev.sysWakeOp p raced) s

/-- Whether the host is absent by R453. -/
def Dev.hostGone (d : Dev) : Bool :=
  let timeout := d.fld Fld.SYS_HOSTCFG_TIMEOUT
  (match d.sys.linkDownAt with
    | some t => decide (t + 1000000 * d.fld Fld.SYS_HOSTCFG_GRACE ≤ d.tns)
    | none => false) ||
  (timeout ≠ 0 && decide (d.sys.aliveAt + 1000000 * timeout < d.tns))

/-- The return from DOZE (R461). It is an entry to RUN, so held settings take their values from the store (R42); so do they where a
loss makes the target DEGRADED. The transitions among RUN, DEGRADED and SAFE keep them (R191, R443; log entry 153). -/
def Dev.dozeReturn (d : Dev) : Dev :=
  let was := d
  let gone := d.hostGone
  let d := if gone && !d.flag Fld.SYS_LOSS_HOST_ABSENT then d.raise 17 else d
  let d := (d.putFlag Fld.SYS_LOSS_RING_OPEN false).putFlag Fld.SYS_LOSS_HOST_ABSENT gone
  let d := d.transit (if d.rd Reg.SYS_LOSS = 0 then .run else .degraded) 0x0017 ((d.rd Reg.SYS_WAKE).toNat % 65536)
  let d := (d.restoreSettings.timeServiceEntry.enginesIdle.canEntry).swEntry true
  let d := d.each ((List.range 15).filter (fun p => d.flag (Fld.ETH_STATUS_HELD p))) (fun p =>
    Dev.onSwPort p (fun x => { x with heldAt := some d.tns }))
  let d := (d.ringEntry.loadsEntry).withheldReactions
  let d := d.onlyIf d.time.tampPending Dev.tamperRecord
  { d with sys := { d.sys with woken := false } }.showPins was

/-- DOZE_RETURN. -/
def execDozeReturn (s : State) : Out :=
  run (fun d => d.onlyIf (d.mode = .doze && d.sys.entry = .none && d.sys.woken) Dev.dozeReturn) s

/-- DOZE_ENTRY_DONE: the entry is over; a latched wake is acted on. -/
def execDozeEntryDone (s : State) : Out :=
  run (fun d => d.onlyIf (d.mode = .doze && d.sys.entry = .doze) (fun d =>
    let d := { d with sys := { d.sys with entry := .none } }.putFlag Fld.SYS_STATUS_ENTRY false
    if d.sys.woken then d.dozeReturn else d)) s

/-- The return from SLEEP: HELD, and the boot from there. -/
def Dev.sleepWake (d : Dev) : Dev := (d.held 0x0017).bootRom

/-- SLEEP_POWER_DOWN: the checkpoint is written, or 100 ms have passed; a latched wake is acted on. -/
def execSleepPowerDown (s : State) : Out :=
  run (fun d =>
    let done := d.sec.ckptWant.isNone && d.sec.ckptBody.isNone && d.sec.ckptRetry.isNone
    d.onlyIf (d.mode = .sleep && d.sys.entry = .sleep && (done || decide (d.sys.entryAt + 100000000 ≤ d.tns))) (fun d =>
      let woken := d.sys.woken
      let d := d.logicReset.showPins d
      let d := { d with sys := { d.sys with woken := woken } }
      if woken then d.sleepWake else d)) s

/-- SLEEP_WAKE. -/
def execSleepWake (s : State) : Out :=
  run (fun d => d.onlyIf (d.mode = .sleep && d.sys.entry = .none && d.sys.woken) Dev.sleepWake) s

/-! ### Declared losses and halt (R452, R453, R458) -/

/-- HOST_ABSENT. -/
def execHostAbsent (s : State) : Out :=
  run (fun d => d.onlyIf (d.inService && !d.flag Fld.SYS_LOSS_HOST_ABSENT && d.hostGone) (fun d =>
    (d.raise 17).declareLoss Fld.SYS_LOSS_HOST_ABSENT 0x000F 0)) s

/-- A write of SYS_HOST_ALIVE. -/
def Dev.hostAlive (d : Dev) : Dev :=
  let d := { d with sys := { d.sys with aliveAt := d.tns } }
  if d.mayMaster then d.clearLoss Fld.SYS_LOSS_HOST_ABSENT else d

/-- HOST_ALIVE. -/
def execHostAlive (p : Path) (s : State) : Out := runWrite p Reg.SYS_HOST_ALIVE 0 Dev.hostAlive s

/-- A write of 1 to SYS_LOSS.PARTIAL. -/
def Dev.partialLossClear (p : Path) (d : Dev) : Dev :=
  d.onlyIf (isMaster p) (fun d => { d with img := { d.img with lossNodes := [] } }.clearLoss Fld.SYS_LOSS_PARTIAL)

/-- PARTIAL_LOSS_CLEAR. -/
def execPartialLossClear (p : Path) (s : State) : Out := runWrite p Reg.SYS_LOSS 4 (Dev.partialLossClear p) s

/-- LOCKSTEP_MISMATCH. -/
def execLockstepMismatch (s : State) : Out :=
  run (fun d => d.onlyIf d.logicRuns (fun d => (d.raise 2).putFlag Fld.SYS_STATUS_HALT true)) s

end Sys2Proof.Machine
end

