-- ==== Sys2Proof/Machine/ImageCmds.lean ====
section
/-! DEFINITION. Applying images (chapter 01): the full image from APPLY to service (R37 to R42), the partial images of one ring
node (R43 to R48, R307). -/

namespace Sys2Proof.Machine

/-! ### The full image -/

/-- The register windows of the blocks an image configures, first and last address; of Clockmaker all but the calendar, of
Locksmith only what the image sets. -/
def imageWindows : List (Nat × Nat) :=
  [(0x200000, 0x2FFFFF), (0x400000, 0x4FFFFF), (0x800000, 0x8FFFFF), (0xA00000, 0xBFFFFF), (0xC00000, 0xCFFFFF), (0xD00000, 0xD3FFFF),
    (Reg.HQ_WM_HIT_LO, Reg.HQ_WM_HIT_HI + 3), (0xE00000, 0xE007FF), (0xE80000, 0xEFFFFF), (0xF00000, 0xFFFFFF), (0x1100000, 0x111FFFF)]

/-- Every block returns to its reset state before an image is applied (R37), with the defaults of what an image may leave out. -/
def Dev.configReset (d : Dev) : Dev :=
  let d := { d with
    regs := Tab.drop (fun a => imageWindows.any (fun w => w.1 ≤ a && a ≤ w.2) && !isWakeFlag a) d.regs
    store := storeReset, eng := engReset d.eng.epochs, can := canReset, phase := phaseReset, sw := swReset, drv := drvReset
    hq := { d.hq with qs := [], classQ := [], sysQ := 0xFF, ptpQ := 0xFF, sbVec := 0 }
    time := { timeReset with
      calNs := d.time.calNs, calTaken := d.time.calTaken, calWindow := d.time.calWindow, oscRuns := d.time.oscRuns, bkupLost := d.time.bkupLost
      tampPending := d.time.tampPending }
    sec := { d.sec with regions := [], qsets := [], cphVec := 0, classes := [], ckptMax := 0 }
    flt := { d.flt with srcs := [], patterns := [], holdsets := [], dioCtl := 0, errEnd := none }
    loads := { d.loads with cfg := [], patterns := [], ctl := 0, warm := [] }
    img := { d.img with pins := [] } }
  let d := ((d.clearFactoryKeys.wr Reg.KS_TAMPCFG 0).putFlag Fld.REC_STATUS_WRAP false).put Fld.KS_REMASK_PERIOD 10
  let d := (d.putFlag (Fld.TB_TD_STATUS_SERVO 0) true).putFlag (Fld.TB_TD_STATUS_SERVO 1) true
  let d := (d.put Fld.TB_SYS_SLEW 10).put Fld.FLT_ERRMIN 10
  ((((d.put Fld.LS_DIAG_PERIOD 100).put Fld.LS_TWARN 150).put Fld.RING_EXPORT_EXPORT_US 100).put Fld.SW_AGING 300).showErr

/-- The sections in apply order (R37), each with how it is applied; `pins` are the items of the PINS body, read ahead (R38). -/
def applyOrder (pins : List Nat) : List (Nat × (Nat → List Byte → Dev → Applied)) :=
  [(0xB, applySecurity), (0xC, applyRecorder), (7, applyTime), (3, applySignals), (4, applyEngines), (5, applyQueues),
    (2, applySwitch), (6, applyRing), (9, applyLoads), (8, applyPhase pins), (0xA, applyFaults pins), (1, applyPins)]

/-- What refuses the step of an absent section: route targets and QSETs that name queues where no QUEUES section makes any (R347). -/
def Dev.absentCode (d : Dev) (id : Nat) : Option (Nat × Nat) := if id = 5 then d.queueRefs 0 [] else none

/-- Applies the sections that are present, in order; at a failure what was applied before stays loaded (R39). Answers the failing
section, code and DETAIL. -/
def applyFrom (g : ImgSrc) : List (Nat × (Nat → List Byte → Dev → Applied)) → Dev → Option (Nat × Nat × Nat) × Dev
  | [], d => (none, d)
  | (id, f) :: rest, d =>
    match imgSection g id with
    | none =>
      match d.absentCode id with
      | some e => (some (id, e.1, e.2), d)
      | none => applyFrom g rest d
    | some x =>
      match f x.count (x.body g) d with
      | .ok d => applyFrom g rest d
      | .error e => (some (id, e.1, e.2), d)

/-- The items of a PINS body, as far as it holds them. -/
def pinsAhead (g : ImgSrc) : List Nat :=
  match imgSection g 1 with
  | some x => chunks 4 (min x.count 128) (x.body g)
  | none => []

/-- IMG_STATUS and IMG_DETAIL. -/
def Dev.imgStatus (state stage sec code detail : Nat) (d : Dev) : Dev :=
  ((((d.put Fld.IMG_STATUS_STATE state).put Fld.IMG_STATUS_STAGE stage).put Fld.IMG_STATUS_SECTION sec).put Fld.IMG_STATUS_CODE code).put
    Fld.IMG_DETAIL detail

/-- An image is refused: the status, and the record of R409. -/
def Dev.imgRefused (stage sec code detail : Nat) (d : Dev) : Dev :=
  ((d.imgStatus 4 stage sec code detail).recAppendFree 0x0003 [0, stage, sec, code, detail])

/-- An image is applied: digest, sequence, floor (R36) and BUILD_ID (R22) are recorded, settings (R42), entry to service. -/
def Dev.imgApplied (g : ImgSrc) (d : Dev) : Dev :=
  let digest := imgDigest g
  let seq := imgNum g 0x10 4
  let d := d.each (List.range 16) (fun k => Dev.wr (Reg.IMG_DIGEST k) (BitVec.ofNat 32 (leNat ((digest.drop (4 * k)).take 4))))
  let d := ((d.put Fld.IMG_SEQ seq).peak Fld.IMG_SEQ_FLOOR seq).imgStatus 3 8 0 E_OK 0
  let build := imgNum g 0x18 8
  let d := { d with img := { d.img with buildId := build } }
  let d := if d.img.settingsDigest = digest then d
    else { d.defaultSettings with img := { d.img with settingsDigest := digest } }
  (d.recAppendFree 0x0003 [1, seq, build]).enterService

/-- An image check that came to its signature was a job of the ML-DSA engine (R403, R420). -/
def Dev.sigChecked (v : ImgVerdict) (d : Dev) : Dev := d.onlyIf (5 ≤ v.stage) (Dev.pqCode (if v.stage = 5 then E_AUTH else E_OK))

/-- IMAGE_APPLY_DONE: the check of the region or of the staged image ends; a staged image that passes is stored first (R41) and read
back: where it does not read back equal (`stored` false), stage 7 refuses it with E_AUTH and the region does not verify (R33). -/
def execImageApplyDone (stored : Bool) (s : State) : Out :=
  run (fun d =>
    match d.img.check with
    | none => d
    | some src =>
      d.onlyIf (d.mode = .configure && !d.flag Fld.SYS_STATUS_HALT) (fun d =>
        let d := { d with img := { d.img with check := none } }
        let g := if src = 0 then d.regionImage else d.stagedImage
        let v := d.checkImage false (src = 0 && d.img.torn) g
        let d := d.sigChecked v
        if v.code ≠ E_OK then d.imgRefused v.stage v.section_ v.code v.detail
        else
          let d := if src = 0 then d else { d.storeRegion with img := { d.storeRegion.img with torn := !stored } }
          if src ≠ 0 && !stored then d.imgRefused 7 0 E_AUTH 0
          else
            match applyFrom g (applyOrder (pinsAhead g)) d.configReset with
            | (some (sec, code, detail), d) => d.imgRefused 8 sec code detail
            | (none, d) => d.imgApplied g)) s

/-! ### IMG_CTRL (R41, R44) -/

/-- APPLY: in CONFIGURE, where no check runs; while one runs it is ignored (DESIGN CHOICE, log entry 194). SOURCE names the path that
wrote APPLY, whichever path staged the bytes: the spec does not say which of the two it follows (DESIGN CHOICE, log entry 140). -/
def Dev.applyImage (p : Path) (d : Dev) : Dev :=
  if d.mode ≠ .configure || d.img.check.isSome then d
  else
    let src := if p = .mgmt then 2 else 1
    (({ d with img := { d.img with check := some src } }).imgStatus 1 0 0 E_OK 0).put Fld.IMG_STATUS_SOURCE src

/-- A route entry as a partial image finds it: among its items, or loaded already. -/
def Dev.partWords (d : Dev) (xs : List Nat) (i : Nat) : Option (Nat × Nat) :=
  match routeWords xs i with
  | some w => some w
  | none =>
    let word (k : Nat) : Nat := (Tab.get (fun _ => 0) d.store.routes k).toNat
    if word (2 * i) = 0 && word (2 * i + 1) = 0 then none else some (word (2 * i), word (2 * i + 1))

/-- The codes of a slot definition in a partial image for a node, among its items (R307, R83). -/
def Dev.partSlotCodes (d : Dev) (node : Nat) (xs seen : List Nat) (x : Nat) : List Nat :=
  let n := bits x 24 8
  let age := bits x 71 66
  let ptr := bits x 45 32
  let r := (d.roster node).getD ⟨false, false, 0, 0, 0, 0, 0, 0, 0, 0, [], []⟩
  let inside := ptr ≠ 0 && r.routeFirst ≤ ptr && ptr < r.routeFirst + r.routeCount
  slotItemCodes x ++
    [need ((age = 0 || d.rd (Reg.SIG_AGE age) ≠ 0) && (!inside || routeEnds (d.partWords xs) 16384 ptr)) E_LEN,
      need (d.windowNode n = some node && !(d.slot n).isDefined && !dup seen (fun y => bits y 24 8) x && (ptr = 0 || inside)) E_PERM]

/-- The target words of a slot's list as a partial image finds it. -/
def partRoute (words : Nat → Option (Nat × Nat)) : Nat → Nat → List Nat
  | 0, _ => []
  | n + 1, i =>
    match words i with
    | none => []
    | some w => if bit w.1 31 then [w.1] else if bit w.2 31 then [w.1, w.2] else w.1 :: w.2 :: partRoute words n (i + 1)

/-- Whether the KIND 3 targets of a slot definition agree with their descriptors (R306): one of the partial image's own, which is its
node's, or one that is in the part already. -/
def Dev.partExportsOk (d : Dev) (xs : List Nat) (node x : Nat) : Bool :=
  bits x 45 32 = 0 || (partRoute (d.partWords xs) 16384 (bits x 45 32)).all (fun w =>
    bits w 29 27 ≠ 3 ||
      (match (ofKind 3 xs).find? (fun y => bits y 31 16 = bits w 20 0) with
        | some y => bits w 26 21 = node && bits y 127 111 = bits x 24 8
        | none => d.exportAgrees (bits x 24 8) (BitVec.ofNat 32 w)))

/-- The codes of an item of an ADD; a route entry's KIND 2 target names a NOTIFY queue (R347), its KIND 5 target a routed class (R419). -/
def Dev.addCodes (d : Dev) (node : Nat) (xs seen : List Nat) (x : Nat) : List Nat :=
  let r := (d.roster node).getD ⟨false, false, 0, 0, 0, 0, 0, 0, 0, 0, [], []⟩
  let i := bits x 31 16
  match kindOf x with
  | 1 => d.partSlotCodes node xs seen x ++ [need (d.partExportsOk xs node x) E_PERM]
  | 3 =>
    [need (clean x [(31, 0), (80, 64), (95, 95), (127, 111)] && bits x 15 8 = 1) E_VERSION,
      need (r.exportFirst ≤ i && i < r.exportFirst + r.exportCount && !dup seen (fun y => bits y 31 16) x) E_PERM]
  | 4 =>
    let bad (w : Nat) : Bool := (bits w 29 27 = 5 && !d.routeClass (bits w 15 0)) ||
      (bits w 29 27 = 2 && d.role (bits w 26 21) ≠ 3)
    routeItemCodes x ++
      [need (1 ≤ i && r.routeFirst ≤ i && i < r.routeFirst + r.routeCount && !dup seen (fun y => bits y 31 16) x &&
        !bad (bits x 95 64) && !bad (bits x 127 96)) E_PERM]
  | _ => [E_VERSION]

/-- The RING section of the partial staging buffer: OP, NODE, ITEM_COUNT and body. -/
def Dev.partSegment (d : Dev) : Nat × Nat × Nat × List Byte :=
  let g : ImgSrc := fun off n => Tab.bytes d.img.part off n
  match imgSection g 6 with
  | some x =>
    let b := x.body g
    ((b.getD 0 0).toNat, (b.getD 1 0).toNat, x.count, b)
  | none => (0, 0, 0, [])

/-- The bit of a node in IMG_PART_NODES. -/
def partNodeFld (node : Nat) : Fld :=
  if node < 32 then ⟨Reg.IMG_PART_NODES_LO, node, node⟩ else ⟨Reg.IMG_PART_NODES_HI, node - 32, node - 32⟩

/-- Whether a node has an applied partial image. -/
def Dev.hasPartial (d : Dev) (node : Nat) : Bool := d.flag (partNodeFld node)

/-- What the check of the segment finds (R43, R45, R46, R307), as a code. -/
def Dev.segmentCode (d : Dev) : Nat :=
  let (op, node, count, b) := d.partSegment
  let items := if op = 1 then count else 0
  let head := lowestCode
    [need (b.length = 8 + 16 * count && (op ≠ 2 || count = 0)) E_LEN, need (op = 1 || op = 2) E_VERSION,
      need ((bytesAt b 2 6).all (fun x => x = 0)) E_VERSION, need (1 ≤ node && node ≤ 62 && (d.roster node).isSome) E_PERM,
      need (op ≠ 1 || !d.hasPartial node) E_PERM, need (op ≠ 2 || d.hasPartial node) E_PERM]
  if head ≠ E_OK then head
  else
    let xs := chunks 16 items (b.drop 8)
    match firstBad (d.addCodes node xs) [] xs with
    | some e => e.1
    | none => E_OK

/-- PART_SUBMIT: ignored while BUSY; refused outside RUN and DEGRADED (R44, R47). -/
def Dev.partSubmit (d : Dev) : Dev :=
  if d.flag Fld.IMG_PART_STATUS_BUSY then d.putFlag Fld.IMG_PART_STATUS_WR_LOCKED true
  else if d.mode ≠ .run && d.mode ≠ .degraded then d.put Fld.IMG_PART_STATUS_CODE E_PERM
  else
    let v := d.checkImage true false (fun off n => Tab.bytes d.img.part off n)
    let (op, node, _, _) := d.partSegment
    let pc : ImgVerdict × Nat × Nat := if v.code ≠ E_OK then (v, 0, 0) else (⟨8, d.segmentCode, 6, 0⟩, op, node)
    ({ d with img := { d.img with partCheck := some pc } }.sigChecked v).putFlag Fld.IMG_PART_STATUS_BUSY true

/-- A write of IMG_CTRL: the key, and one of the two bits. -/
def Dev.imgCtrl (p : Path) (w : Word) (d : Dev) : Dev :=
  if w.toNat / 2 ^ 24 ≠ 0x5C then d
  else
    match bit w.toNat 0, bit w.toNat 1 with
    | true, false => d.applyImage p
    | false, true => d.partSubmit
    | _, _ => d

/-- APPLY. -/
def execApply (p : Path) (w : Word) (s : State) : Out := runWrite p Reg.IMG_CTRL w.toNat (Dev.imgCtrl p w) s

/-- PART_SUBMIT. -/
def execPartSubmit (p : Path) (w : Word) (s : State) : Out := runWrite p Reg.IMG_CTRL w.toNat (fun d => Dev.imgCtrl p w d) s

/-- A word written to the partial staging window, at an offset of it. -/
def Dev.partStage (off : Nat) (v : Word) (d : Dev) : Dev :=
  if d.flag Fld.IMG_PART_STATUS_BUSY then d.putFlag Fld.IMG_PART_STATUS_WR_LOCKED true
  else { d with img := { d.img with part := Tab.setBytes d.img.part off (leBytes 4 v.toNat) } }

/-- PART_STAGE_WRITE: an aligned write into the staging window. -/
def execPartStageWrite (p : Path) (a : BitVec 40) (v : Word) (s : State) : Out :=
  if 0x180000 ≤ a.toNat && a.toNat < 0x1A0000 && a.toNat % 4 = 0 then
    runWrite p a.toNat v.toNat (Dev.partStage (a.toNat - 0x180000) v) s
  else run (fun d => d) s

/-! ### Partial images -/

/-- The end of a partial image: status and BUSY. -/
def Dev.partEnds (stage code op node : Nat) (d : Dev) : Dev :=
  let d := { d with img := { d.img with partCheck := none } }
  let d := ((d.put Fld.IMG_PART_STATUS_NODE node).put Fld.IMG_PART_STATUS_CODE code).put Fld.IMG_PART_STATUS_OP op
  (d.put Fld.IMG_PART_STATUS_STAGE stage).putFlag Fld.IMG_PART_STATUS_BUSY false

/-- A partial image of a node is applied: it is counted, and a PARTIAL loss for the node ends (R452). -/
def Dev.partApplied (op node : Nat) (on : Bool) (d : Dev) : Dev :=
  let d := ((d.partEnds 8 E_OK op node).bump Fld.IMG_PART_STATUS_COUNT).putFlag (partNodeFld node) on
  if d.img.lossNodes.contains node then
    let d := { d with img := { d.img with lossNodes := d.img.lossNodes.filter (· ≠ node) } }
    d.onlyIf d.img.lossNodes.isEmpty (Dev.clearLoss Fld.SYS_LOSS_PARTIAL)
  else d

/-- Slots that become active at this boundary: an event in progress completes with the old tables, in which they are undefined; so
nothing of their routes is seen by it either (R45). -/
def Dev.hideFromEvents (ns : List Nat) (d : Dev) : Dev :=
  { d with eng := { d.eng with
    threads := Tab.map (fun _ => threadIdle) (fun _ th => if th.ev.isSome then { th with unseen := th.unseen ++ ns } else th)
      d.eng.threads } }

/-- PARTIAL_ADD: slots, routes and descriptors become active together. -/
def execPartialAdd (s : State) : Out :=
  run (fun d =>
    match d.img.partCheck with
    | some (v, op, node) =>
      d.onlyIf (v.code = E_OK && op = 1 && (d.mode = .run || d.mode = .degraded)) (fun d =>
        let (_, _, count, b) := d.partSegment
        let xs := chunks 16 count (b.drop 8)
        let d := eachItem routeItem (ofKind 4 xs) d
        let d := eachItem exportItem (ofKind 3 xs) d
        let d := eachItem slotItem (ofKind 1 xs) d
        let d := d.hideFromEvents ((ofKind 1 xs).map (fun x => bits x 24 8))
        let made := ((ofKind 1 xs).map (fun x => bits x 24 8), (ofKind 4 xs).map (fun x => bits x 31 16),
          (ofKind 3 xs).map (fun x => bits x 31 16))
        let d := { d with img := { d.img with added := Tab.set (fun _ => ([], [], [])) d.img.added node made } }
        d.partApplied 1 node true)
    | none => d) s

/-- PARTIAL_REMOVE: the node leaves (R295) and its routes are deactivated; what they were is kept until the next boundary, since a
change of mode before it discards the partial image (R48). -/
def execPartialRemove (s : State) : Out :=
  run (fun d =>
    match d.img.partCheck with
    | some (v, op, node) =>
      d.onlyIf (v.code = E_OK && op = 2 && (d.mode = .run || d.mode = .degraded)) (fun d =>
        let d := d.nodeLeave node 0 true
        let (slots, routes, _) := Tab.get (fun _ => (([], [], []) : List Nat × List Nat × List Nat)) d.img.added node
        let old : RouteSave := ⟨slots.map (fun n => (n, (d.slot n).routePtr)), d.store.routes.filter (fun e => routes.contains (e.1 / 2))⟩
        let d := d.each slots (fun n d => d.putSlot n { d.slot n with routePtr := 0 })
        { d with
          store := { d.store with routes := Tab.drop (fun k => routes.contains (k / 2)) d.store.routes }
          img := { d.img with partCheck := none, removing := some node, removed := old } })
    | none => d) s

/-- PARTIAL_REMOVE_UNDEFINE: at the next store-cycle boundary the slots are undefined, whatever else writes them in that cycle
(R66, R70). -/
def execPartialRemoveUndefine (rivals : List StoreReq) (s : State) : Out :=
  run (fun d =>
    match d.img.removing with
    | some node =>
      let (slots, _, exports) := Tab.get (fun _ => (([], [], []) : List Nat × List Nat × List Nat)) d.img.added node
      let d := d.invalidationWins (rivals.filter (fun r => slots.contains r.slot.val))
      let d := { d with
        store := { d.store with slots := Tab.drop (fun n => slots.contains n) d.store.slots }
        drv := { d.drv with exports := Tab.drop (fun i => exports.contains i) d.drv.exports }
        img := { d.img with removing := none, removed := ⟨[], []⟩, added := Tab.drop (· = node) d.img.added } }
      d.partApplied 2 node false
    | none => d) s

/-- PARTIAL_REFUSED (R47, R452). -/
def execPartialRefused (s : State) : Out :=
  run (fun d =>
    match d.img.partCheck with
    | some (v, op, node) =>
      d.onlyIf (v.code ≠ E_OK) (fun d =>
        let d := (d.partEnds v.stage v.code op node).raise 16
        let d := { d with img := { d.img with lossNodes := d.img.lossNodes.filter (· ≠ node) ++ [node] } }
        d.declareLoss Fld.SYS_LOSS_PARTIAL 0x0010 node)
    | none => d) s

end Sys2Proof.Machine
end

