-- ==== Sys2Proof/Machine/Loader.lean ====
section
/-! DEFINITION. The write lease and the resident loader (chapter 14): TAKE and RELEASE, the stages of an update. -/

namespace Sys2Proof.Machine

/-! ### Leases (R476, R477) -/

/-- Whether a master (1 host, 2 management port) has been silent for its silence time. -/
def Dev.silent (d : Dev) (m : Nat) : Bool :=
  let t := d.fld (if m = 1 then Fld.MGT_LEASE_CFG_HOST_SILENCE else Fld.MGT_LEASE_CFG_MGMT_SILENCE)
  let since := if m = 1 then d.mgmt.hostSeen else d.mgmt.lastValid
  t ≠ 0 && decide (since + 1000000 * t ≤ d.tns)

/-- The code of a TAKE by a master. -/
def Dev.takeCode (d : Dev) (m : Nat) : Nat :=
  let h := d.fld Fld.MGT_STATUS_HOLDER
  if h = 0 || h = m || d.silent h then E_OK else E_PERM

/-- TAKE by a master. -/
def Dev.leaseTake (m : Nat) (d : Dev) : Dev := if d.takeCode m = E_OK then d.putHolder m else d

/-- The code of a RELEASE by a master. -/
def Dev.releaseCode (d : Dev) (m : Nat) : Nat := if d.fld Fld.MGT_STATUS_HOLDER = m then E_OK else E_PERM

/-- RELEASE by a master. -/
def Dev.leaseRelease (m : Nat) (d : Dev) : Dev := if d.releaseCode m = E_OK then d.putHolder 0 else d

/-- A write of MGT_LEASE, on the host path only; a write with both bits takes the lease (log entry 26). -/
def Dev.leaseWrite (p : Path) (w : Word) (d : Dev) : Dev :=
  if p ≠ .host || bits w.toNat 31 24 ≠ 0x7C then d
  else if w.getLsbD 0 then (d.leaseTake 1).put Fld.MGT_STATUS_CODE (d.takeCode 1)
  else if w.getLsbD 1 then (d.leaseRelease 1).put Fld.MGT_STATUS_CODE (d.releaseCode 1)
  else d

/-- HOST_LEASE_RELEASE. -/
def execHostLeaseRelease (s : State) : Out := runWrite .host Reg.MGT_LEASE 0x7C000002 (Dev.leaseWrite .host 0x7C000002) s

/-- Whether a silence time is one of the setting's values. -/
def silenceOk (t : Nat) : Bool := t = 0 || (10 ≤ t && t ≤ 60000)

/-- A write of MGT_LEASE_CFG: the management port's alone. -/
def Dev.leaseCfgWrite (p : Path) (w : Word) (d : Dev) : Dev :=
  if p ≠ .mgmt || !silenceOk (w.toNat / 65536) || !silenceOk (w.toNat % 65536) then d.put Fld.MGT_STATUS_CODE E_PERM
  else ((d.wr Reg.MGT_LEASE_CFG w).storeSetting Reg.MGT_LEASE_CFG).put Fld.MGT_STATUS_CODE E_OK

/-! ### The stages of an update (R480, R481) -/

/-- The result of an LDR_CTRL operation. -/
def Dev.ldrCode (c : Nat) (d : Dev) : Dev := d.put Fld.LDR_STATE_CODE c

/-- The stage of an update: 1 DOWNLOAD, 2 VERIFIED, 3 activating. -/
def Dev.ldrStage (d : Dev) : Nat := d.fld Fld.LDR_STATE_STAGE

/-- An operation of a master that is valid where `ok` holds; refused elsewhere. -/
def Dev.ldrOp (p : Path) (ok : Dev → Bool) (f : Dev → Dev) (d : Dev) : Dev :=
  if isMaster p && ok d then f (d.ldrCode E_OK) else d.ldrCode E_PERM

/-- OP 1, ENTER: the journal, then the RESET operation of the writing master. -/
def Dev.ldrEnter (p : Path) : Dev → Dev :=
  Dev.ldrOp p (fun d => d.mode = .configure || d.mode = .run || d.mode = .degraded || d.mode = .factory)
    (fun d => ((d.put Fld.LDR_STATE_JOURNAL 1).stageRecord 1 E_OK 0).resetOp p)

/-- OP 2, VERIFY: the check begins. -/
def Dev.ldrVerify (p : Path) : Dev → Dev :=
  Dev.ldrOp p (fun d => d.mode = .loader && d.ldrStage = 1 && !d.mgmt.verifying)
    (fun d => { d with mgmt := { d.mgmt with verifying := true } })

/-- OP 3, ACTIVATE: the journal holds the verified image's digest, LEN and ROLLBACK; the sectors are being written. -/
def Dev.ldrActivate (p : Path) : Dev → Dev :=
  Dev.ldrOp p (fun d => d.mode = .loader && d.ldrStage = 2) (fun d =>
    let rb := d.fld Fld.LDR_IMG_ROLLBACK
    let d := ((d.put Fld.LDR_STATE_JOURNAL 2).put Fld.LDR_STATE_STAGE 3).put Fld.LDR_PROGRESS_SECTORS 0
    { d with mgmt := { d.mgmt with
        journalDigest := d.mgmt.verified, journalLen := d.fld Fld.LDR_LEN, journalRollback := rb
        activating := some (leaseMaster p = 2) } }.stageRecord 3 E_OK rb)

/-- OP 4, REBOOT: the RESET operation from LOADER. -/
def Dev.ldrReboot (p : Path) : Dev → Dev := Dev.ldrOp p (fun d => d.mode = .loader) (Dev.resetOp p)

/-- A write of LDR_CTRL. -/
def Dev.ldrWrite (p : Path) (w : Word) (d : Dev) : Dev :=
  if bits w.toNat 31 24 ≠ 0x7C then d
  else
    match w.toNat % 16 with
    | 1 => d.ldrEnter p
    | 2 => d.ldrVerify p
    | 3 => d.ldrActivate p
    | 4 => d.ldrReboot p
    | _ => d.ldrCode E_PERM

/-- LDR_ENTER. -/
def execLdrEnter (p : Path) (s : State) : Out := runWrite p Reg.LDR_CTRL 0x7C000001 (Dev.ldrEnter p) s

/-- LDR_VERIFY. -/
def execLdrVerify (p : Path) (s : State) : Out := runWrite p Reg.LDR_CTRL 0x7C000002 (Dev.ldrVerify p) s

/-- LDR_ACTIVATE. -/
def execLdrActivate (p : Path) (s : State) : Out := runWrite p Reg.LDR_CTRL 0x7C000003 (Dev.ldrActivate p) s

/-- LDR_REBOOT. -/
def execLdrReboot (p : Path) (s : State) : Out := runWrite p Reg.LDR_CTRL 0x7C000004 (Dev.ldrReboot p) s

/-- Any write to space 2 or LDR_LEN takes a VERIFIED image back to DOWNLOAD. -/
def Dev.unverify (d : Dev) : Dev := if d.ldrStage = 2 then d.put Fld.LDR_STATE_STAGE 1 else d

/-- A write of LDR_LEN, in LOADER only. -/
def Dev.ldrLenWrite (w : Word) (d : Dev) : Dev := d.onlyIf (d.mode = .loader) (fun d => (d.put Fld.LDR_LEN w.toNat).unverify)

/-- The checks of VERIFY ahead of the signature, in order, with the code of the first that fails (R481). -/
def Dev.firmwareUnsigned (d : Dev) : Nat :=
  let g := d.stagedImage
  let len := d.fld Fld.LDR_LEN
  let n := imgSigned g
  let ok := imgNum g 0 4 = 0x4B4E4954 && imgNum g 4 2 = 1 && imgNum g 6 2 = 64 && imgNum g 8 2 = 0x9640 && imgNum g 0xA 2 = 0 &&
    imgNum g 0x18 40 = 0
  if len < 5325 || 7864320 < len then E_LEN
  else if !ok then E_VERSION
  else if n + 3309 ≠ len then E_LEN
  else if shake256 (g (n - 1952) 1952) 32 ≠ Config.firmwareKeyDigest then E_AUTH
  else E_OK

/-- Whether the signature of the staged firmware verifies. -/
def Dev.firmwareSig (d : Dev) : Bool :=
  let g := d.stagedImage
  let n := imgSigned g
  verifySig (g (n - 1952) 1952) (imgDigest g) (g n 3309)

/-- The checks of VERIFY in order, with the code of the first that fails (R481). -/
def Dev.firmwareCode (d : Dev) : Nat :=
  let g := d.stagedImage
  if d.firmwareUnsigned ≠ E_OK then d.firmwareUnsigned
  else if !d.firmwareSig then E_AUTH
  else if imgNum g 0x10 4 < d.fld Fld.LDR_ROLLBACK_COUNTER then E_PERM
  else E_OK

/-- VERIFY_DONE: VERIFIED, or back to DOWNLOAD with the code and FS26. -/
def execVerifyDone (s : State) : Out :=
  run (fun d => d.onlyIf (d.mode = .loader && d.mgmt.verifying) (fun d =>
    let code := d.firmwareCode
    let rb := imgNum d.stagedImage 0x10 4
    let d := { d with mgmt := { d.mgmt with verifying := false } }
    let d := d.onlyIf (d.firmwareUnsigned = E_OK) (Dev.pqCode (if d.firmwareSig then E_OK else E_AUTH))
    let d := (d.ldrCode code).stageRecord 2 code rb
    if code = E_OK then
      let d := { d with mgmt := { d.mgmt with verified := imgDigest d.stagedImage } }
      (d.put Fld.LDR_STATE_STAGE 2).put Fld.LDR_IMG_ROLLBACK rb
    else d.raise 26)) s

/-- `k` of the sectors are written, ascending: PROGRESS is journaled every 64 sectors (R480). -/
def Dev.activatePart (k : Nat) (d : Dev) : Dev :=
  let k := k / 64 * 64
  d.onlyIf (d.fld Fld.LDR_PROGRESS_SECTORS < k && 4096 * k < d.mgmt.journalLen) (fun d =>
    let new := Tab.drop (fun a => decide (4096 * k ≤ a)) d.sys.staged
    let old := Tab.drop (fun a => decide (a < 4096 * k)) d.mgmt.firmware
    ({ d with mgmt := { d.mgmt with firmware := new ++ old } }).put Fld.LDR_PROGRESS_SECTORS k)

/-- Every sector is written and the region's digest is compared. Where it is the verified one, the journal reads CONFIRMING and the
RESET operation of the master that issued OP 3 follows; elsewhere (staging was written meanwhile) OP 3 may be repeated. -/
def Dev.activateEnd (mgmt : Bool) (d : Dev) : Dev :=
  let n := d.mgmt.journalLen
  let region := Tab.drop (fun k => decide (n ≤ k)) d.sys.staged
  let ok := imgDigest (fun off n => Tab.bytes region off n) = d.mgmt.journalDigest
  let d := d.put Fld.LDR_PROGRESS_SECTORS ((n + 4095) / 4096)
  let d := { d with mgmt := { d.mgmt with firmware := region, activating := none } }
  if ok then
    let d := { d with
      sec := { d.sec with fwDigest := d.mgmt.journalDigest }
      mgmt := { d.mgmt with journalFmt := false } }
    (((d.put Fld.LDR_STATE_JOURNAL 3).put Fld.LDR_STATE_FAILS 0).stageRecord 4 E_OK d.mgmt.journalRollback).resetOp
      (if mgmt then .mgmt else .host)
  else (((d.put Fld.LDR_STATE_STAGE 2).ldrCode E_AUTH).raise 26).stageRecord 4 E_AUTH d.mgmt.journalRollback

/-- ACTIVATE_DONE. -/
def execActivateDone (part : Option (Fin 1921)) (s : State) : Out :=
  run (fun d =>
    match d.mgmt.activating, part with
    | some _, some k => d.activatePart k.val
    | some mgmt, none => d.activateEnd mgmt
    | none, _ => d) s

end Sys2Proof.Machine
end

