-- ==== Sys2Proof/Machine/Bus.lean ====
section
/-! DEFINITION. Reads and writes of the local registers (R6, R7, R76): what a register shows, what a read or a write of any
register does, the register pairs, the windows of memory in the register space. -/

namespace Sys2Proof.Machine

/-! ### What registers show -/

/-- A register as the register file holds it, write-only fields reading 0. -/
def Dev.rawReg (d : Dev) (a : Nat) : Word := d.rd a &&& regMask (· ≠ .wo) a

/-- The state of a thread in ENG_STATUS. -/
def Dev.threadCode (d : Dev) (e t : Nat) : Nat :=
  let th := d.thread e t
  if !d.enginesRun then (if d.mode = .configure then 0 else 4)
  else if th.ev.isNone then 0 else if th.demoted then 3 else if th.isReady d.tns then 1 else 2

/-- A register of the engine window. -/
def Dev.showEngine (d : Dev) (a : Nat) : Word :=
  let e := (a - 0x400000) / 0x10000
  let o := (a - 0x400000) % 0x10000
  let counter := (d.freshEntry e (d.fld (Fld.ENG_FRESH_SEL_ENTRY e))).counter
  if 8 ≤ e then 0
  else if o = 0 then
    BitVec.ofNat 32 (b2n d.enginesRun * 2 ^ 16 + d.threadCode e 3 * 2 ^ 12 + d.threadCode e 2 * 2 ^ 8 + d.threadCode e 1 * 2 ^ 4 +
      d.threadCode e 0)
  else if o = 0x44 then BitVec.ofNat 32 counter
  else if o = 0x48 then BitVec.ofNat 32 (counter / 2 ^ 32)
  else if isAdj a then d.adjWord e ((o - 0x2000) / 4)
  else d.rawReg a

/-- A register of the CAN window. -/
def Dev.showCan (d : Dev) (a : Nat) : Word :=
  let n := (a - 0x800000) / 0x1000
  let o := (a - 0x800000) % 0x1000
  let used := match d.ring n with
    | some r => r.used
    | none => 0
  if 32 ≤ n then d.rawReg a
  else if o = 0x18 then BitVec.ofNat 32 (setBits (d.rawReg a).toNat 15 0 (used / 8))
  else if o = 0x60 then d.winData n
  else if o = 0x64 then d.winShape n
  else if ((0x80 ≤ o && o < 0x9C) || 0x800 ≤ o) && d.mode ≠ .factory then 0
  else d.rawReg a

/-- Whether words 1 and up of a multi-word entry stand at an address: they read as the path last latched them (R147). -/
def isLatchedWord (a : Nat) : Bool :=
  (Reg.TB_SNAP_FRC_LO ≤ a && a < 0xE00050) ||
    (Reg.TB_TSQ_W0 0 ≤ a && a < 0xE00580 && 4 ≤ a % 0x20 && a % 0x20 < 0x10) ||
    (Reg.TB_CAP_W0 0 ≤ a && a < 0xE00800 && 4 ≤ a % 0x20 && a % 0x20 < 0x10) || a = Reg.TB_CAL_SUB ||
    a = Reg.BRG_LOG_W1 || a = Reg.BRG_LOG_W2 || (Reg.CPH_DONE_W 0 ≤ a && a ≤ Reg.CPH_DONE_W 4)

/-- A register of the time window. -/
def Dev.showTime (d : Dev) (a : Nat) : Word :=
  let r := (d.residAt d.frc.toNat % 2 ^ 40).toNat
  if a = Reg.TB_FRC_LO then BitVec.ofNat 32 d.frc.toNat
  else if a = Reg.TB_FRC_HI then BitVec.ofNat 32 (d.frc.toNat / 2 ^ 32)
  else if a = Reg.TB_SYS_RESID_LO then BitVec.ofNat 32 r
  else if a = Reg.TB_SYS_RESID_HI then BitVec.ofNat 32 (r / 2 ^ 32)
  else d.rawReg a

/-- A register of the phase and discrete-line window. -/
def Dev.showPhase (d : Dev) (a : Nat) : Word :=
  let k := (a - 0xE80000) / 0x40
  let x := d.phDom k
  let phi := d.phi k
  if a < 0xE80100 then
    if !x.present then d.rawReg a
    else
      match a % 0x40 with
      | 0x00 => BitVec.ofNat 32 (b2n d.phaseRuns * 2 ^ 31 + b2n x.stalled * 2 ^ 30 + b2n x.frozen * 2 ^ 29 + b2n x.reverse * 2 ^ 28 +
          x.source * 2 ^ 26)
      | 0x04 => BitVec.ofNat 32 phi
      | 0x08 => BitVec.ofNat 32 (phi / 2 ^ 32)
      | 0x0C => BitVec.ofInt 32 x.vel
      | 0x10 => BitVec.ofNat 32 x.edge
      | 0x14 => BitVec.ofNat 32 (x.edge / 2 ^ 32)
      | 0x18 => BitVec.ofNat 32 x.edgeAt
      | 0x1C => BitVec.ofNat 32 (x.edgeAt / 2 ^ 32)
      | _ => d.rawReg a
  else if a = Reg.DIO_IN then d.dioIn
  else if a = Reg.DIO_OUT_SET || a = Reg.DIO_OUT_CLR then d.rd Reg.DIO_OUT
  else d.rawReg a

/-- A word of the security window: the certificate, the export window, the registers. -/
def Dev.showSecurity (d : Dev) (p : Path) (a : Nat) : Word :=
  if 0x1060000 ≤ a && a < 0x1070000 then BitVec.ofNat 32 (leNat (Tab.bytes d.sec.cert (a - 0x1060000) 4))
  else if 0x1080000 ≤ a && a < 0x1081000 then d.exportWord (a - 0x1080000)
  else if p = .mgmt && Reg.CPH_JD 0 ≤ a && a ≤ Reg.CPH_JD 15 then Tab.get (fun _ => 0) d.sec.mgmtDesc ((a - Reg.CPH_JD 0) / 4)
  else if a = Reg.PQ_STATUS then BitVec.ofNat 32 (setBits (d.rawReg a).toNat 31 31 (b2n d.pqBusy))
  else d.rawReg a

/-- What a register shows to a path at this moment, read or not; 0 where no register is (R76). -/
def Dev.regShow (d : Dev) (p : Path) (a : Nat) : Word :=
  if isLatchedWord a then d.latchedWord p a
  else if a = Reg.SIG_DEFINED then BitVec.ofNat 32 d.definedCount
  else if 0x400000 ≤ a && a < 0x800000 then d.showEngine a
  else if 0x800000 ≤ a && a < 0xA00000 then d.showCan a
  else if a = Reg.BRG_STATUS then BitVec.ofNat 32 (setBits (d.rawReg a).toNat 6 0 d.hq.held.length)
  else if 0xE00000 ≤ a && a < 0xE80000 then d.showTime a
  else if 0xE80000 ≤ a && a < 0xF00000 then d.showPhase a
  else if 0xF00000 ≤ a && a < 0x1000000 then (if d.hasLoads then d.rawReg a else 0)
  else if 0x1000000 ≤ a && a < 0x1100000 then d.showSecurity p a
  else d.rawReg a

/-! ### Reads -/

/-- The extreme of a field that records one restarts at the present value when it is read; every other RC field is cleared. -/
def Dev.clearRead (a : Nat) (d : Dev) : Dev :=
  let v := (d.regShow .supervisor a).toNat
  let again (hi lo v : Nat) (d : Dev) : Dev := d.put ⟨a, hi, lo⟩ v
  if regMask (· = .rc) a = 0 then d
  else
    let d := d.wr a (d.rd a &&& ~~~regMask (· = .rc) a)
    if 0x800000 ≤ a && a < 0xA00000 && a % 0x1000 = 0x18 then again 31 16 (v % 65536) d
    else if 0xA00000 ≤ a && a < 0xB00000 && 0x40 ≤ a % 0x1000 && a % 0x1000 ≤ 0x60 then again 31 16 (v % 65536) d
    else if a = Reg.SW_FREE then again 31 16 (v % 65536) d
    else if 0xD00000 ≤ a && a < 0xD04000 && a % 0x100 = 0x6C then
      let q := (a - 0xD00000) / 0x100
      again 24 0 (ctrDist (d.fillPtr q) (d.consPtr q)) d
    else if 0xF00000 ≤ a && a < 0xF00600 && a % 0x40 = 0x20 then again 24 16 (v % 512) d
    else if a = Reg.LS_VBAT then again 28 16 (v % 8192) d
    else d

/-- A 32-bit read of a register on a path, with its side effects: RC fields are cleared, the low register of a pair latches the
high one, a high register returns what the path has latched, the first word of an entry removes the entry, a read in the
consuming window consumes the slot (R6, R7, R81, R147). -/
def Dev.regRead (p : Path) (a : Nat) (d : Dev) : Word × Dev :=
  if 0x300000 ≤ a && a < 0x400000 then
    if a % 8 = 0 then
      let (v, d) := d.consume p ((a - 0x300000) / 8)
      (BitVec.ofNat 32 v, d)
    else ((d.latch p).read &&& 0x1FF, d)
  else if a = Reg.TB_CAL_SEC_LO then d.calReadLatch p
  else if Reg.TB_TSQ_W0 0 ≤ a && a < 0xE00580 && a % 0x20 = 0 then d.tsqRead p ((a - Reg.TB_TSQ_W0 0) / 0x20)
  else if Reg.TB_CAP_W0 0 ≤ a && a < 0xE00800 && a % 0x20 = 0 then d.capRead p ((a - Reg.TB_CAP_W0 0) / 0x20)
  else if a = Reg.BRG_LOG_W0 then d.logRead p
  else if a = Reg.CPH_DONE_W0 then d.cphRead p
  else if (pairLow a).isSome then ((d.latch p).read &&& regMask (· ≠ .wo) a, d)
  else
    let v := d.regShow p a
    let d := if pairWidth a = 0 then d else d.latchRead p (d.regShow p (a + 4))
    (v, if 0xF00000 ≤ a && a < 0x1000000 && !d.hasLoads then d else d.clearRead a)

/-! ### Writes -/

/-- Whether the word carries the key of the control registers. -/
def keyed (v : Word) : Bool := v.toNat / 2 ^ 24 = 0x7C

/-- The bits a plain write sets. -/
def setMask (a : Nat) : Word := regMask (fun x => x = .rw || x = .held) a

/-- A write by the access codes alone: RW fields take the written bits, W1C and W1S act where a 1 is written. -/
def Dev.plainWrite (a : Nat) (v : Word) (d : Dev) : Dev :=
  let m := setMask a
  let w := ((d.rd a &&& ~~~m) ||| (v &&& m)) &&& ~~~(v &&& regMask (· = .w1c) a) ||| (v &&& regMask (· = .w1s) a)
  d.wr a w

/-- A write of a setting: kept in the settings store where it is a held one; refused with `code` where it lies outside its range
(R50); ignored where no register is (R76). The bus access itself is accepted (R470; log entry 29). -/
def Dev.settingWriteOr (code a : Nat) (v : Word) (ok : Bool) (d : Dev) : Dev :=
  if ok then (d.plainWrite a v).onlyIf (isHeld a) (Dev.storeSetting a) else d.onlyIf (setMask a ≠ 0) (Dev.refuseSetting a code)

/-- A write of a setting that is no size or count. -/
def Dev.settingWrite (a : Nat) (v : Word) (ok : Bool) (d : Dev) : Dev := d.settingWriteOr E_PERM a v ok

/-- SYS_ (R448, R451, R452, R453, R460). -/
def Dev.writeSys (p : Path) (a : Nat) (v : Word) (d : Dev) : Dev :=
  if a = Reg.SYS_CTRL then
    if !keyed v then d
    else
      match v.toNat % 16 with
      | 1 => d.sysReset p false
      | 2 => d.sysDoze p false
      | 3 => d.sysSleep p false
      | 4 => d.sysReconfig p false
      | 5 => d.sysWakeOp p false
      | _ => d.sysCode E_PERM
  else if a = Reg.SYS_LOSS then d.onlyIf (v.getLsbD 2) (Dev.partialLossClear p)
  else if a = Reg.SYS_HOST_ALIVE then d.hostAlive
  else if a = Reg.SYS_HOSTCFG then
    d.settingWrite a v ((v.toNat / 65536 = 0 || within 10 60000 (v.toNat / 65536)) && v.toNat % 65536 ≤ 60000)
  else d.plainWrite a v

/-- IMG_ (R41, R44). -/
def Dev.writeImg (p : Path) (a : Nat) (v : Word) (d : Dev) : Dev :=
  if a = Reg.IMG_CTRL then d.imgCtrl p v
  else if 0x180000 ≤ a && a < 0x1A0000 then d.partStage (a - 0x180000) v
  else d.plainWrite a v

/-- SIG_ (R84); the consuming window is read-only. -/
def Dev.writeSig (a : Nat) (v : Word) (d : Dev) : Dev :=
  if a = Reg.SIG_AGE 0 then d
  else if Reg.SIG_AGE 1 ≤ a && a ≤ Reg.SIG_AGE 63 then d.settingWrite a v (v ≠ 0)
  else d.settingWrite a v true

/-- A write of ENG_ADJ: the word in data memory, and its record in the settings store. -/
def Dev.adjWrite (e i : Nat) (v : Word) (d : Dev) : Dev :=
  match d.adj e i with
  | some (_, lo, hi) =>
    if within lo hi v.toNat then (d.putAdj e i v).setting (Reg.ENG_ADJ e i) v else d.refuseSetting (Reg.ENG_ADJ e i) E_PERM
  | none => d

/-- The doorbell of an engine: a DOORBELL event for the thread named (R87). -/
def Dev.doorbellWrite (e : Nat) (v : Word) (d : Dev) : Dev :=
  d.postEvent e (bits v.toNat 31 30) 5 (v.toNat % 65536) 0 d.now8

/-- ENG_ (R87, R110, R123, R125). ENG_RATEk of a limiter that no record defines refuses every write with E_PERM (DESIGN CHOICE, log entry
201). -/
def Dev.writeEng (a : Nat) (v : Word) (d : Dev) : Dev :=
  let e := (a - 0x400000) / 0x10000
  let o := (a - 0x400000) % 0x10000
  if 8 ≤ e then d
  else if o = 0x04 then d.doorbellWrite e v
  else if 0x1000 ≤ o && o < 0x1400 then
    let l := d.limiter e ((o - 0x1000) / 4)
    d.settingWrite a v (within l.min l.max v.toNat && v ≠ 0)
  else if isAdj a then d.adjWrite e ((o - 0x2000) / 4) v
  else d.plainWrite a v

/-- CAN_ (R199, R216, R218, R220, R221). -/
def Dev.writeCan (a : Nat) (v : Word) (d : Dev) : Dev :=
  let n := (a - 0x800000) / 0x1000
  let o := (a - 0x800000) % 0x1000
  if o = 0x04 then d.onlyIf (keyed v) (Dev.canCtrlWrite n (bits v.toNat 5 4) (v.getLsbD 0))
  else if o = 0x50 then d.canCycleWrite n v
  else if o = 0x70 then d.settingWrite a v true
  else if o = 0x60 then d.winDataWrite n v
  else if o = 0x98 then d.onlyIf (v.getLsbD 0) (Dev.injectGo n)
  else if (0x80 ≤ o && o < 0x98) || 0x800 ≤ o then d.onlyIf (d.mode = .factory) (Dev.plainWrite a v)
  else d.plainWrite a v

/-- ETH_ and SW_ (R236, R259, R260, R266). -/
def Dev.writeSwitch (a : Nat) (v : Word) (d : Dev) : Dev :=
  let port := (a - 0xA00000) / 0x1000
  if a < 0xA0F000 && a % 0x1000 = 0x04 then d.ethCfgWrite port v
  else if a < 0xA0F000 && a % 0x1000 = 0x08 then d.ethAgeWrite port v
  else if a = Reg.SW_AGING then d.settingWrite a v (within 10 3600 (v.toNat % 4096))
  else if a = Reg.SW_MDIO_CMD 0 || a = Reg.SW_MDIO_CMD 1 then d.mdioStart ((a - Reg.SW_MDIO_CMD 0) / 8) v
  else d.settingWrite a v true

/-- RING_ (R278, R280, R299, R300). -/
def Dev.writeRing (a : Nat) (v : Word) (d : Dev) : Dev :=
  let n := (a - 0xC01000) / 0x40
  if a = Reg.RING_EXPORT then d.settingWrite a v (within 1 1000 (v.toNat % 1024))
  else if a = Reg.RING_QUAR_CLR then d.onlyIf (keyed v && v.toNat % 64 < 63) (Dev.quarEnd (v.toNat % 64))
  else if 0xC01000 ≤ a && a % 0x40 = 0x24 then
    match d.roster n with
    | some r => (d.refillRate n).settingWrite a v (within 1 r.kbMax (v.toNat / 65536) && within 1 r.frMax (v.toNat % 65536))
    | none => d
  else if 0xC01000 ≤ a && a % 0x40 = 0x28 then d.settingWrite a v (within 100 100000 (v.toNat % 2 ^ 17))
  else d.plainWrite a v

/-- HQ_, BRG_ and the MSI-X table (R320, R321, R328, R329, R331, R333, R337, R338). -/
def Dev.writeQueues (a : Nat) (v : Word) (d : Dev) : Dev :=
  let q := (a - 0xD00000) / 0x100
  if a < 0xD04000 then
    match a % 0x100 with
    | 0x00 => if v.getLsbD 0 then d.queueEnable q else (d.queueStop q).queueCode q E_OK
    | 0x08 => d.versionOffer q (v.toNat % 16)
    | 0x40 => d.consWrite q v
    | 0x50 => d.doorbell q v
    | 0x64 => d.onlyIf (v.toNat % 16 = 1) (Dev.dropRest q)
    | 0x68 => d.settingWriteOr E_LEN a v (v.toNat % 2 ^ 25 ≤ 16777216)
    | 0x70 => d.settingWrite a v (bits v.toNat 25 16 ≤ 1000)
    | _ => d.plainWrite a v
  else if 0xD80000 ≤ a && a < 0xD80800 && a % 0x10 = 0xC then d.msixMask ((a - 0xD80000) / 0x10) (v.getLsbD 0)
  else d.plainWrite a v

/-- TB_: the domain parameters go to shadows (R133), the calendar registers are written while no set is pending (R153), a cleared
OSC_STOP restarts the oscillator (log entry 13). One write with several requests carries them out in the order selection, restart (R144),
and CMD, LOCK_SET, LOCK_CLR (R133) (DESIGN CHOICE, log entry 203). -/
def Dev.writeTime (p : Path) (a : Nat) (v : Word) (d : Dev) : Dev :=
  let k := (a - 0xE00100) / 0x40
  let o := (a - 0xE00100) % 0x40
  if a = Reg.TB_SNAP then d.onlyIf (v.getLsbD 0) (Dev.snapshot p)
  else if 0xE00100 ≤ a && a < 0xE00180 then
    if o = 0x24 then
      if !keyed v then d
      else
        let d := match v.toNat % 4 with
          | 1 => d.tdLoad p k
          | 2 => d.tdRateCmd p k
          | 3 => d.tdAdjCmd p k
          | _ => d
        (d.onlyIf (v.getLsbD 2) (Dev.lockWrite p k true)).onlyIf (v.getLsbD 3) (Dev.lockWrite p k false)
    else if o = 0x20 then d.plainWrite a v
    else if setMask a = 0 then d
    else { d with time := { d.time with shadow := Tab.set (fun _ => 0) d.time.shadow a (v &&& setMask a) } }
  else if a = Reg.TB_SYS_CTRL then
    if !keyed v then d
    else (d.onlyIf (v.getLsbD 3) (Dev.sysSelectWrite (v.toNat % 4))).onlyIf (v.getLsbD 2) Dev.sysRestart
  else if a = Reg.TB_SYS_SLEW then
    if within 1 1000 (v.toNat % 1024) then (d.putResid (d.residAt d.frc.toNat)).settingWrite a v true else d.refuseSetting a E_PERM
  else if a = Reg.TB_CAL_CTRL then
    if !keyed v then d else (d.onlyIf (v.getLsbD 1) Dev.tampClearWrite).onlyIf (v.getLsbD 0) Dev.calWrite
  else if Reg.TB_CAL_SEC_LO ≤ a && a ≤ Reg.TB_CAL_TAMP_INFO then
    if d.flag Fld.TB_CAL_STATUS_WBUSY then d
    else
      let d := d.plainWrite a v
      if a = Reg.TB_CAL_STATUS && v.getLsbD 29 then { d with time := { d.time with oscRuns := true } } else d
  else d.settingWrite a v true

/-- PH_ and DIO_ (R171, R174, R183, R187, R188). -/
def Dev.writePhase (p : Path) (a : Nat) (v : Word) (d : Dev) : Dev :=
  let k := (a - 0xE80000) / 0x40
  let act := (a - 0xE88000) / 0x20
  if a < 0xE80100 && a % 0x40 = 0x20 then (d.settingWrite a v (v.toNat % 2 ^ 31 ≠ 0)).vminChanged k
  else if a < 0xE80100 && a % 0x40 = 0x30 then
    d.onlyIf (keyed v && v.getLsbD 0 && d.phaseRuns && (d.phDom k).present) (Dev.preset k)
  else if 0xE88000 ≤ a && a < 0xE90000 then
    match a % 0x20 with
    | 0x00 => d.actWrite p act (.p v)
    | 0x08 => d.actWrite p act (.period v)
    | 0x10 => d.actWrite p act (.ctrl v)
    | _ => d
  else if a = Reg.DIO_OUT then d.dioOutWrite .out v
  else if a = Reg.DIO_OUT_SET then d.dioOutWrite .set v
  else if a = Reg.DIO_OUT_CLR then d.dioOutWrite .clr v
  else if a = Reg.DIO_FORCE_EN || a = Reg.DIO_FORCE_VAL then d.dioForceWrite a v
  else d.plainWrite a v

/-- LS_ (R351, R359, R361, R358); without the power dies every register is absent (R383). -/
def Dev.writeLoads (a : Nat) (v : Word) (d : Dev) : Dev :=
  let n := (a - 0xF00000) / 0x40
  if !d.hasLoads then d
  else if a < 0xF00600 then
    match a % 0x40 with
    | 0x00 => d.onlyIf d.inService (Dev.loadWrite n .cmd v)
    | 0x04 => d.onlyIf d.inService (Dev.loadWrite n .pwm v)
    | 0x08 => d.onlyIf d.inService (Dev.loadWrite n .thr v)
    | 0x0C => d.onlyIf d.inService (Dev.loadWrite n .inr v)
    | 0x10 => d.onlyIf d.inService (Dev.loadWrite n .vref v)
    | 0x14 => d.onlyIf d.inService (Dev.latchClearWrite n v)
    | _ => d
  else if a = Reg.LS_DIAG_PERIOD then d.settingWrite a v (within 10 1000 (v.toNat % 1024))
  else if a = Reg.LS_TWARN then d.settingWrite a v (within 100 160 (v.toNat % 256))
  else d

/-- KS_, CPH_ and REC_ (R386, R391, R397, R409 to R413). -/
def Dev.writeSecurity (p : Path) (a : Nat) (v : Word) (d : Dev) : Dev :=
  if a = Reg.KS_REMASK then d.settingWrite a v (within 1 1000 (v.toNat % 1024))
  else if a = Reg.KS_CMD then
    if !keyed v then d
    else
      match bits v.toNat 9 8 with
      | 1 => d.ksErase (v.toNat % 256)
      | 2 => d.ksLock (v.toNat % 256)
      | _ => d
  else if p = .mgmt && Reg.CPH_JD 0 ≤ a && a ≤ Reg.CPH_JD 15 then
    { d with sec := { d.sec with mgmtDesc := Tab.set (fun _ => 0) d.sec.mgmtDesc ((a - Reg.CPH_JD 0) / 4) v } }
  else if a = Reg.CPH_SUBMIT then d.onlyIf (v.getLsbD 0) (Dev.submitJob (p = .mgmt))
  else if a = Reg.REC_CTRL then
    if !keyed v then d
    else ((d.onlyIf (v.getLsbD 0) Dev.hostAppend).onlyIf (v.getLsbD 1) Dev.ckptRequest).onlyIf (v.getLsbD 2) Dev.recAck
  else if 0x1090000 ≤ a && a < 0x1092000 then
    { d with sec := { d.sec with ackWin := Tab.setBytes d.sec.ackWin (a - 0x1090000) (leBytes 4 v.toNat) } }
  else d.plainWrite a v

/-- Whether an arming asks for nothing that the image does not permit (R426). -/
def Dev.armingOk (d : Dev) (n arming : Nat) : Bool :=
  let permit := d.fld (Fld.FLT_SRC_ARM_PERMIT n)
  (!bit arming 3 || bit permit 0) && (!bit arming 4 || bit permit 1) && (!bit arming 5 || bit permit 2)

/-- FLT_ (R421, R423, R426, R429 to R435). -/
def Dev.writeFaults (p : Path) (a : Nat) (v : Word) (d : Dev) : Dev :=
  let n := (a - 0x1110000) / 0x20
  if a = Reg.FLT_CTRL then
    if !keyed v then d
    else if v.getLsbD 1 then d.forceSafe p (bits v.toNat 4 2)
    else d.onlyIf (v.getLsbD 0) (Dev.safeExit p)
  else if a = Reg.FLT_ERR_HOLD then d.errHoldWrite (v.getLsbD 0)
  else if a = Reg.FLT_ERRMIN then d.settingWrite a v (v.toNat % 256 ≠ 0)
  else if a = Reg.FLT_HOLD_LO then d.onlyIf (isMaster p) (Dev.holdClear false v)
  else if a = Reg.FLT_HOLD_HI then d.onlyIf (isMaster p) (Dev.holdClear true v)
  else if a = Reg.FLT_INJ then d.onlyIf (keyed v) (Dev.inject (bits v.toNat 16 8) (v.toNat % 256) [])
  else if a = Reg.FLT_INJ_COUNTS then d.onlyIf (d.mode = .factory) (Dev.plainWrite a v)
  else if Reg.FLT_SEVERE 0 ≤ a && a ≤ Reg.FLT_SEVERE 15 then
    d.onlyIf (isMaster p) (Dev.severeClear ((a - Reg.FLT_SEVERE 0) / 4) v)
  else if 0x1110000 ≤ a && a < 0x1114000 then
    if !sourceListed n then d
    else
      match a % 0x20 with
      | 0x00 =>
        d.settingWriteOr (if v.toNat % 65536 = 0 then E_LEN else E_PERM) a v (within 1 60000 (v.toNat / 65536) && v.toNat % 65536 ≠ 0)
      | 0x04 => d.settingWrite a v (d.armingOk n (v.toNat % 64))
      | _ => d
  else d.plainWrite a v

/-- MGT_ and LDR_ (R477, R480). -/
def Dev.writeMgmt (p : Path) (a : Nat) (v : Word) (d : Dev) : Dev :=
  if a = Reg.MGT_LEASE then d.leaseWrite p v
  else if a = Reg.MGT_LEASE_CFG then d.leaseCfgWrite p v
  else if a = Reg.LDR_CTRL then d.ldrWrite p v
  else if a = Reg.LDR_LEN then d.ldrLenWrite v
  else d.plainWrite a v

/-- A 32-bit write of a register that no pair is made of, by the window it lies in (R76). -/
def Dev.windowWrite (p : Path) (a : Nat) (v : Word) (d : Dev) : Dev :=
  if a < 0x100000 then d.writeSys p a v
  else if a < 0x200000 then d.writeImg p a v
  else if a < 0x300000 then d.writeSig a v
  else if a < 0x400000 then d
  else if a < 0x800000 then d.writeEng a v
  else if a < 0xA00000 then d.writeCan a v
  else if a < 0xC00000 then d.writeSwitch a v
  else if a < 0xD00000 then d.writeRing a v
  else if a < 0xE00000 then d.writeQueues a v
  else if a < 0xE80000 then d.writeTime p a v
  else if a < 0xF00000 then d.writePhase p a v
  else if a < 0x1000000 then d.writeLoads a v
  else if a < 0x1100000 then d.writeSecurity p a v
  else if a < 0x1200000 then d.writeFaults p a v
  else d.writeMgmt p a v

/-- The staged high register of a path as a pair of width `w` takes it. -/
def Dev.stagedHigh (d : Dev) (p : Path) (w : Nat) : Word := BitVec.ofNat 32 ((d.latch p).staged.toNat % 2 ^ w)

/-- The commit of a writable pair (R7): the low word written and the path's staged high register. The actions and the export
selection take the staged register themselves. -/
def Dev.pairCommit (p : Path) (a : Nat) (v : Word) (d : Dev) : Dev :=
  if a = Reg.REC_EXP_SSEQ_LO then d.exportSelect (v.toNat + (d.latch p).staged.toNat * 2 ^ 32)
  else if 0xE88000 ≤ a && a < 0xE90000 then d.windowWrite p a v
  else (d.windowWrite p a v).windowWrite p (a + 4) (d.stagedHigh p (pairWidth a))

/-- A 32-bit write of a register on a path: the high register of a writable pair is staged, the low one commits the pair (R7). -/
def Dev.regWrite (p : Path) (a : Nat) (v : Word) (d : Dev) : Dev :=
  match pairLow a with
  | some _ => if setMask a = 0 then d else d.setLatch p { d.latch p with staged := v &&& setMask a }
  | none => if pairWidth a ≠ 0 && setMask a ≠ 0 then d.pairCommit p a v else d.windowWrite p a v

/-- Whether a 64-bit access may start at an address (R313): the low register of a pair, or of a consuming pair. -/
def pairStart (a : Nat) : Bool := a % 8 = 0 && (pairAccess a || (0x300000 ≤ a && a < 0x400000))

/-- A 64-bit read of a pair (R7, R313): both registers in one step; the path's latch stays. -/
def Dev.pairRead (p : Path) (a : Nat) (d : Dev) : Nat × Dev :=
  let kept := (d.latch p).read
  let (lo, d) := d.regRead p a
  let (hi, d) := d.regRead p (a + 4)
  (lo.toNat + hi.toNat * 2 ^ 32, d.latchRead p kept)

/-- A 64-bit write of a pair: the high register, then the low register; the path's staged register stays. -/
def Dev.pairWrite (p : Path) (a : Nat) (v : BitVec 64) (d : Dev) : Dev :=
  let kept := (d.latch p).staged
  let d := (d.regWrite p (a + 4) (v.extractLsb' 32 32)).regWrite p a (v.setWidth 32)
  d.setLatch p { d.latch p with staged := kept }

/-! ### The commands on registers (R6, R7, R76, R313) -/

/-- Whether an address lies in a block window (R76). -/
def inWindows (a : Nat) : Bool := decide (a < 0x1300000)

/-- The code of an access to the local registers: outside every window, or a size no register takes (R16, R76, R313). -/
def regCode (a : Nat) (pair : Bool) : Nat :=
  lowestCode [if inWindows a then E_OK else E_PERM, if (if pair then pairStart a else decide (a % 4 = 0)) then E_OK else E_SIZE]

/-- A register command on an address: refused with a code, or `f`. -/
def Dev.regAccess (p : Path) (write : Bool) (a : Nat) (pair : Bool) (f : Dev → Dev) (d : Dev) : Dev :=
  let code := regCode a pair
  if code = E_OK then f d else d.refuseAccess p write code a (if pair then 8 else 4)

/-- A 32-bit write of a register on a path. -/
def Dev.busWrite (p : Path) (a : Nat) (v : Word) : Dev → Dev :=
  Dev.regAccess p true a false (Dev.writeAs p a v.toNat (Dev.regWrite p a v))

/-- A 32-bit read of a register on a path. -/
def Dev.busRead (p : Path) (a : Nat) : Dev → Dev := Dev.regAccess p false a false (Dev.readAs p a (Dev.regRead p a))

/-- REGISTER_WRITE. -/
def execRegisterWrite (p : Path) (a : BitVec 40) (v : Word) (s : State) : Out := run (Dev.busWrite p a.toNat v) s

/-- READ_CLEAR: a read of a register with an RC field. -/
def execReadClear (p : Path) (a : BitVec 40) (s : State) : Out :=
  run (fun d => d.onlyIf (regMask (· = .rc) a.toNat ≠ 0) (Dev.busRead p a.toNat)) s

/-- LOW_REGISTER_READ: a read of the low register of a pair. -/
def execLowRegisterRead (p : Path) (a : BitVec 40) (s : State) : Out :=
  run (fun d => d.onlyIf (pairWidth a.toNat ≠ 0) (Dev.busRead p a.toNat)) s

/-- HIGH_REGISTER_WRITE: a write of the high register of a pair. -/
def execHighRegisterWrite (p : Path) (a : BitVec 40) (v : Word) (s : State) : Out :=
  run (fun d => d.onlyIf (pairLow a.toNat).isSome (Dev.busWrite p a.toNat v)) s

/-- LOW_REGISTER_COMMIT: a write of the low register of a pair. -/
def execLowRegisterCommit (p : Path) (a : BitVec 40) (v : Word) (s : State) : Out :=
  run (fun d => d.onlyIf (pairWidth a.toNat ≠ 0) (Dev.busWrite p a.toNat v)) s

/-- A 64-bit read of a pair on a path; refused as a 32-bit one is. -/
def Dev.busRead64 (p : Path) (a : Nat) : Dev → Dev :=
  Dev.regAccess p false a true (fun d =>
    if d.pathOpen p a then
      let (v, d) := d.pairRead p a
      d.emit (.data p a v)
    else d.refuseAccess p false E_PERM a 8)

/-- A 64-bit write of a pair on a path. -/
def Dev.busWrite64 (p : Path) (a : Nat) (v : BitVec 64) : Dev → Dev :=
  Dev.regAccess p true a true (Dev.writeAs p a (v.toNat % 2 ^ 32) (Dev.pairWrite p a v))

/-- PAIR_ACCESS_64: a 64-bit read, or a 64-bit write of `w`. -/
def execPairAccess64 (p : Path) (a : BitVec 40) (w : Option (BitVec 64)) (s : State) : Out :=
  match w with
  | none => run (Dev.busRead64 p a.toNat) s
  | some v => run (Dev.busWrite64 p a.toNat v) s

end Sys2Proof.Machine
end

