-- ==== Sys2Proof/Machine/EngineJobs.lean ====
section
/-! DEFINITION. The jobs of the engines (R111 to R117, R207, R208, R327): freshness and authentication, transmission, accesses by
fabric address, records offered to host queues; and the commands that end a job's wait. -/

namespace Sys2Proof.Machine

/-- Presents the job whose target has taken it: the thread waits for its completion. -/
def Thread.jobTaken (dst : Option (Fin 16)) (w : Tagged) (code : Nat) (th : Thread) : Thread :=
  th.waiting (.job dst (some (w, code)))

/-! ### Freshness entries (R111 to R115) -/

/-- An entry as the jobs use it: of a MODE 0 entry nothing is used (R111). -/
def Dev.freshUse (d : Dev) (e i : Nat) : Fresh :=
  let x := d.freshEntry e i
  if x.mode = 0 then freshNone else x

/-- The bytes of the FV field. -/
def Fresh.fvBytes (x : Fresh) : Nat := (x.fvBits + 7) / 8

/-- Where a job's data start and how long they are: A[31:16] and A[15:0]. -/
def layoutStart (a : Word) : Nat := bits a.toNat 31 16

/-- L of a layout. -/
def layoutLen (a : Word) : Nat := bits a.toNat 15 0

/-- The bytes an authenticated PDU takes up to its end: DATA, FV, MAC behind the start. -/
def Fresh.layoutEnd (x : Fresh) (a : Word) : Nat := layoutStart a + layoutLen a + x.fvBytes + x.macBytes

/-- The MAC of an entry over data with a counter (R111): its first MAC_BYTES bytes. -/
def Fresh.mac (x : Fresh) (key data : List Byte) (counter : Nat) : List Byte :=
  (cmac key (beBytes 2 x.dataId ++ data ++ beBytes 8 counter)).take x.macBytes

/-- The candidate counter of MACVER (R112); FV-field bits above FV_BITS are ignored (DESIGN CHOICE, log entry 200). -/
def Fresh.candidate (x : Fresh) (fv : Nat) : Nat :=
  if x.fvBits = 0 then x.counter + 1
  else
    let m := 2 ^ x.fvBits
    let c := x.counter - x.counter % m + fv % m
    if c ≤ x.counter then c + m else c

/-- The key of a job at its completion: what it loaded at its start (R387). -/
def Dev.macKey (d : Dev) (e : Nat) (op : MacOp) (x : Fresh) (k : MacKey) : Option (List Byte) :=
  match k with
  | .live => d.usableKey x.keySlot (macUse op) e
  | .kept key => key
  | .lost => none

/-- The codes of R115 that do not depend on the content; `limit` is the buffer behind the layout. The key of an unused entry is not
looked at (R111). -/
def macCodes (op : MacOp) (x : Fresh) (a : Word) (limit : Nat) (key : Option (List Byte)) : List Nat :=
  [if x.mode ≠ (match op with | .ver => 2 | _ => 1) then E_PERM else E_OK,
   if op = .fresh && x.counter = 2 ^ 64 - 1 then E_PERM else E_OK,
   if limit < x.layoutEnd a then E_LEN else E_OK,
   if op ≠ .fresh && x.mode ≠ 0 && key.isNone then E_KEYUSE else E_OK]

/-- Changes an entry's counter; its epoch goes to MRAM where it changes (R113). -/
def Dev.putCounter (e i c : Nat) (d : Dev) : Dev :=
  let x := d.freshEntry e i
  let d := d.putFresh e i { x with counter := c }
  if c / 1024 = x.counter / 1024 then d else d.writeEpoch e i

/-- FRESH at its completion: the counter advances and its low FV_BITS bits go into the FV field of buffer `b`. -/
def Dev.freshDone (e i b : Nat) (a : Word) (d : Dev) : Nat × Dev :=
  let x := d.freshUse e i
  let code := lowestCode (macCodes .fresh x a 2560 none)
  if code ≠ E_OK then (code, d)
  else
    let d := d.putCounter e i (x.counter + 1)
    (E_OK, d.putAsm e b (layoutStart a + layoutLen a) (beBytes x.fvBytes ((x.counter + 1) % 2 ^ x.fvBits)))

/-- MACGEN at its completion: the MAC goes into the MAC field. -/
def Dev.macgenDone (e i b : Nat) (a : Word) (k : MacKey) (d : Dev) : Nat × Dev :=
  let x := d.freshUse e i
  let key := d.macKey e .gen x k
  let code := lowestCode (macCodes .gen x a 2560 key)
  if code ≠ E_OK then (code, d)
  else
    let data := d.asm e b (layoutStart a) (layoutLen a)
    (E_OK, d.putAsm e b (layoutStart a + layoutLen a + x.fvBytes) (x.mac (key.getD []) data x.counter))

/-- A failed MACVER is counted. -/
def Dev.authFail (e i : Nat) (replay : Bool) (d : Dev) : Dev :=
  ((d.bump (Fld.ENG_AUTHFAIL_COUNT e)).put (Fld.ENG_AUTHFAIL_ENTRY e) i).putFlag (Fld.ENG_AUTHFAIL_REPLAY e) replay

/-- MACVER at its completion (R112). A candidate that 64 bits cannot hold is free (the spec states none). -/
def Dev.macverDone (e t i : Nat) (a : Word) (k : MacKey) (d : Dev) : Nat × Dev :=
  let x := d.freshUse e i
  let ev := (d.thread e t).ev
  let limit := (ev.map (fun ev => if ev.kind < 2 then ev.length else 0)).getD 0
  let at' := (ev.map (·.recAddr)).getD 0 + layoutStart a
  let key := d.macKey e .ver x k
  let codes := macCodes .ver x a limit key
  let fv := beNat (d.dmem e (at' + layoutLen a) x.fvBytes)
  let c := x.candidate fv
  let (c, d) := if c < 2 ^ 64 then (c, d) else (Config.free d.draw.1 % 2 ^ 64, d.draw.2)
  let replay := x.mode = 2 && x.layoutEnd a ≤ limit && x.window < c - x.counter
  let same := x.mac (key.getD []) (d.dmem e at' (layoutLen a)) c = d.dmem e (at' + layoutLen a + x.fvBytes) x.macBytes
  let code := lowestCode (codes ++ [if replay then E_AUTH else E_OK])
  if code ≠ E_OK then (code, d.authFail e i replay)
  else if same then (E_OK, (d.putCounter e i c).onThread e t (fun th => { th with fauth := true }))
  else (E_AUTH, d.authFail e i false)

/-- A job on a freshness entry is presented: it takes a ticket and the thread waits. -/
def Dev.macStart (e : Fin 8) (t : Fin 4) (op : MacOp) (entry : Fin 512) (h : Fin 4) (a : Word) (d : Dev) : Dev :=
  let no := d.eng.macNo
  (({ d with eng := { d.eng with macNo := no + 1 } }).onThread e.val t.val (Thread.waiting (.mac op entry h a no .live))).coreMark

/-- FRESH: the next counter into the FV field of an assembly buffer; the job acts at its completion (R114). -/
def execFresh (e : Fin 8) (t : Fin 4) (a : GReg) (h : Fin 4) (entry : Fin 512) (s : State) : Out :=
  run (Dev.issue e t (wordR 0x28 0 a.val 0 (entry.val + h.val * 2 ^ 12)) (fun pc dv =>
    let th := dv.thread e.val t.val
    if (th.handle h.val).isNone then dv.trap e.val t.val 12 0 pc
    else dv.macStart e t .fresh entry h (th.reg a).value)) s

/-- MACGEN: the MAC of an assembly buffer's PDU. -/
def execMacgen (e : Fin 8) (t : Fin 4) (a : GReg) (h : Fin 4) (entry : Fin 512) (s : State) : Out :=
  run (Dev.issue e t (wordR 0x29 0 a.val 0 (entry.val + h.val * 2 ^ 12)) (fun pc dv =>
    let th := dv.thread e.val t.val
    if (th.handle h.val).isNone then dv.trap e.val t.val 12 0 pc
    else dv.macStart e t .gen entry h (th.reg a).value)) s

/-- MACVER: the MAC of the received payload is verified. -/
def execMacver (e : Fin 8) (t : Fin 4) (a : GReg) (entry : Fin 512) (s : State) : Out :=
  run (Dev.issue e t (wordR 0x2A 0 a.val 0 entry.val) (fun _ dv =>
    dv.macStart e t .ver entry 0 ((dv.thread e.val t.val).reg a).value)) s

/-! ### Transmission (R117, R207, R208) -/

/-- Replaces the bytes of a list from position `i`, as far as the list reaches. -/
def patchBytes (i : Nat) (new bs : List Byte) : List Byte :=
  bs.take i ++ (new.take (bs.length - i)) ++ bs.drop (i + new.length)

/-- The ones' complement sum of the 16-bit words of a byte list, an odd last byte filled with zero. -/
def onesSum : List Byte → Nat
  | [] => 0
  | [a] => a.toNat * 256
  | a :: b :: bs => let v := a.toNat * 256 + b.toNat + onesSum bs; v % 65536 + v / 65536

/-- The Internet checksum of a byte list. -/
def inetSum (bs : List Byte) : Nat := 65535 - onesSum bs % 65536

/-- The IPv4 header checksum is set in the header of `n` bytes at `i`. -/
def ipv4Sum (i n : Nat) (bs : List Byte) : List Byte :=
  let bs := patchBytes (i + 10) [0, 0] bs
  patchBytes (i + 10) (beBytes 2 (inetSum ((bs.drop i).take n))) bs

/-- The pseudo-header of a transport checksum over `len` bytes of protocol `proto`. -/
def pseudoHeader (v6 : Bool) (l3 proto len : Nat) (bs : List Byte) : List Byte :=
  if v6 then bytesAt bs (l3 + 8) 32 ++ beBytes 4 len ++ [0, 0, 0] ++ leBytes 1 proto
  else bytesAt bs (l3 + 12) 8 ++ [0] ++ leBytes 1 proto ++ beBytes 2 len

/-- Sets the checksum of the transport header at `l4`, its field at `l4 + off`; of UDP, 0 is sent as 0xFFFF. -/
def l4Sum (v6 : Bool) (l3 l4 off proto : Nat) (bs : List Byte) : List Byte :=
  let bs := patchBytes (l4 + off) [0, 0] bs
  let x := inetSum (pseudoHeader v6 l3 proto (bs.length - l4) bs ++ bs.drop l4)
  patchBytes (l4 + off) (beBytes 2 (if proto = 17 && x = 0 then 0xFFFF else x)) bs

/-- The UDP fix-up of TXSEND (R117) on a frame whose tags end at `l2`. -/
def udpFix (l2 : Nat) (bs : List Byte) : List Byte :=
  if be16 bs (l2 - 2) = 0x0800 then
    let ihl := 4 * ((bs.getD l2 0).toNat % 16)
    let bs := ipv4Sum l2 ihl (patchBytes (l2 + 2) (beBytes 2 (bs.length - l2)) bs)
    l4Sum false l2 (l2 + ihl) 6 17 (patchBytes (l2 + ihl + 4) (beBytes 2 (bs.length - l2 - ihl)) bs)
  else if be16 bs (l2 - 2) = 0x86DD then
    let bs := patchBytes (l2 + 4) (beBytes 2 (bs.length - l2 - 40)) bs
    l4Sum true l2 (l2 + 40) 6 17 (patchBytes (l2 + 44) (beBytes 2 (bs.length - l2 - 40)) bs)
  else bs

/-- Whether an ingress credit of port 13 is free (R255). -/
def Dev.creditFree (d : Dev) : Bool :=
  (d.swCfg 13).isSome && decide ((d.sw.adm.filter (fun f => f.ingress = 13)).length < 16)

/-- A TXSEND with a status other than E_OK is counted. -/
def Dev.txRef (e code : Nat) (d : Dev) : Dev :=
  if code = E_OK then d else (d.bump (Fld.ENG_TXREF_COUNT e)).put (Fld.ENG_TXREF_CODE e) code

/-- The template target word of an open buffer. -/
def Dev.txTarget (d : Dev) (e b : Nat) : Word := (((d.asmTmpl e b).bind (d.template e)).map (·.target)).getD 0

/-- The frame of buffer `b` enters port 13 in its template's class. -/
def Dev.txEnter (e b len : Nat) (d : Dev) : Dev :=
  let tgt := (d.txTarget e b).toNat
  let bs := d.asm e b 0 len
  let bs := if bit tgt 20 then udpFix (14 + 4 * d.tagCount 13 bs) bs else bs
  d.swEnter 13 bs true (some (bits tgt 23 21)) d.frc.toNat 0 none none d.tns

/-- TXSEND: hands a buffer to its template's target. A frame that finds no credit waits up to 10 µs. -/
def execTxsend (e : Fin 8) (t : Fin 4) (a : GReg) (h : Fin 4) (s : State) : Out :=
  run (Dev.issue e t (wordR 0x26 0 a.val 0 (h.val * 2 ^ 12)) (fun pc dv =>
    let th := dv.thread e.val t.val
    let n := (th.reg a).value.toNat
    match th.handle h.val with
    | none => dv.trap e.val t.val 12 0 pc
    | some b =>
      let tgt := (dv.txTarget e.val b).toNat
      let ends (code : Nat) (d : Dev) : Dev :=
        ((d.txRef e.val code).closeHandle e.val t.val h.val).onThread e.val t.val (Thread.jobTaken none ⟨0, 0⟩ code)
      if bits tgt 31 30 = 1 then
        if 2560 < n then ends E_LEN dv
        else if dv.creditFree then ends E_OK (dv.txEnter e.val b n)
        else dv.onThread e.val t.val (Thread.waiting (.credit h n (dv.tns + 10000)))
      else
        let w (i : Nat) : Nat := leNat (dv.asm e.val b (4 * i) 4)
        let r := dv.canBufferStore (bits tgt 28 24) (bits tgt 21 16) e.val (w 0) (w 1) (w 2) n (dv.asm e.val b 16 (min n 2048))
        ends r.1 r.2)) s

/-- A TXSEND ends without its frame having found a credit in 10 µs: the frame is discarded (R117). -/
def Dev.creditTimeout (e t h : Nat) (d : Dev) : Dev :=
  ((d.txRef e E_TIMEOUT).closeHandle e t h).onThread e t (Thread.jobDone E_TIMEOUT)

/-- PORT13_CREDIT_TIMEOUT: the frame that found no credit in 10 µs is discarded. -/
def execPort13CreditTimeout (e : Fin 8) (t : Fin 4) (s : State) : Out :=
  run (fun d =>
    match (d.thread e.val t.val).wait with
    | .credit h _ deadline => d.onlyIf (d.enginesRun && decide (deadline ≤ d.tns)) (Dev.creditTimeout e.val t.val h.val)
    | _ => d) s

/-! ### Accesses by fabric address (R114, R314) -/

/-- Node, space and offset of a fabric address (R12). -/
def fabricNode (a : Nat) : Nat := bits a 39 34

/-- The space of a fabric address. -/
def fabricSpace (a : Nat) : Nat := bits a 33 30

/-- The offset of a fabric address. -/
def fabricOff (a : Nat) : Nat := bits a 29 0

/-- Why an access of `len` bytes misses node 0's populated range of a space (R75): by its start, or by its end. -/
def rangeCode (space off len : Nat) : Nat :=
  let top := match space with | 0 => 0x1300000 | 1 => 0x200000 | 2 => 0x800000 | 4 => 0x100 | _ => 0
  if top ≤ off then E_PERM else if top < off + len then E_LEN else E_OK

/-- The address of FLD and FST: {B[7:0], A[31:0]}. -/
def Thread.fabricAddr (th : Thread) (a b : GReg) : Nat := (th.reg b).value.toNat % 256 * 2 ^ 32 + (th.reg a).value.toNat

/-- E_ABSENT for a node 1 to 62 that is not a member (R13). -/
def Dev.nodeCode (d : Dev) (node : Nat) : Nat := if node = 0 || node = 63 || d.isMember node then E_OK else E_ABSENT

/-- What a thread's access to a fabric address is refused with before it reaches a target (R114, R314). The port buffers of a node
(space 2), which R114 does not list, are refused (DESIGN CHOICE, log entry 146). -/
def Dev.fabricCode (d : Dev) (write : Bool) (addr : Nat) : Nat :=
  let node := fabricNode addr
  let space := fabricSpace addr
  let off := fabricOff addr
  let size := if space = 1 || (space = 4 && node = 0) then 8 else 4
  let perm : Bool := 4 < space ||
    (if node = 0 then space = 2 || space = 3 || (space = 4 && write) || (space = 1 && write && off % 16 = 8)
     else if node = 63 then !write || space = 1 || space = 2
     else space = 2)
  lowestCode [
    if off % size ≠ 0 then E_ALIGN else E_OK,
    if perm then E_PERM else E_OK, if node = 0 then rangeCode space off size else E_OK, d.nodeCode node]

/-- FLD of node 0: one word on the thread's own access path. Word 1 of a slot, which R114 does not name, gives word 0 (DESIGN CHOICE,
log entry 145). -/
def Dev.fabricRead (e : Fin 8) (t : Fin 4) (addr : Nat) (d : Dev) : Tagged × Dev :=
  let off := fabricOff addr
  match fabricSpace addr with
  | 0 =>
    let r := d.regRead (.thread e t) off
    (⟨r.1, tagNeutral⟩, r.2)
  | 1 =>
    let x := d.eventSlot e.val t.val (off / 16)
    (⟨x.value, x.tag⟩, d)
  | _ => (d.dioWord (off / 8), d)

/-- FLD: a word of the fabric address. A read across the ring holds the thread. -/
def execFld (e : Fin 8) (t : Fin 4) (d a b : GReg) (s : State) : Out :=
  run (Dev.issue e t (wordR 0x2B d.val a.val b.val 0) (fun _ dv =>
    let addr := (dv.thread e.val t.val).fabricAddr a b
    let code := dv.fabricCode false addr
    if code ≠ E_OK then dv.onThread e.val t.val (Thread.jobTaken (some d) ⟨0, 2⟩ code)
    else if fabricNode addr = 0 then
      let r := dv.fabricRead e t addr
      r.2.onThread e.val t.val (Thread.jobTaken (some d) r.1 E_OK)
    else
      (dv.onThread e.val t.val (Thread.waiting (.job (some d) none))).readIssue (fabricNode addr) (fabricSpace addr)
        (if fabricSpace addr = 1 then 1 else 0) (fabricOff addr) (.thread e t))) s

/-- FST: D to the fabric address; into space 1 as the tagged word D ⊗ PT. A thread's write does not reach the settings store (R42). -/
def execFst (e : Fin 8) (t : Fin 4) (d a b : GReg) (s : State) : Out :=
  run (Dev.issue e t (wordR 0x2C d.val a.val b.val 0) (fun _ dv =>
    let th := dv.thread e.val t.val
    let addr := th.fabricAddr a b
    let w : Tagged := ⟨(th.reg d).value, tagComb (th.reg d).tag th.pt⟩
    let off := fabricOff addr
    let ends (code : Nat) (dv : Dev) : Dev := dv.onThread e.val t.val (Thread.jobTaken none ⟨0, 0⟩ code)
    let code := dv.fabricCode true addr
    if code ≠ E_OK then ends code dv
    else if fabricNode addr = 0 then
      if fabricSpace addr = 0 then ends E_OK (dv.writeBy (.thread e t) (Dev.regWrite (.thread e t) off w.value))
      else
        let n := Fin.ofNat 131072 (off / 16)
        ends (dv.eventCode e t.val n.val) (dv.eventWrite e t.val n w none [])
    else
      let dv := dv.onThread e.val t.val (Thread.waiting (.job none none))
      let sp := fabricSpace addr
      let data := if sp = 1 then leBytes 8 (Tagged.toNat40 w) else leBytes 4 w.value.toNat
      let size := if sp = 1 then 1 else 0
      if fabricNode addr = 63 then dv.enqueueAll sp size off data (some (e, t))
      else dv.enqueue (fabricNode addr) ⟨.write sp size off data, some (e, t)⟩)) s

/-! ### Records to host queues (R327) -/

/-- QPUT: A bytes at data address B to an ENGINE queue; the thread waits for the record's end, at most t_qput for space. -/
def execQput (e : Fin 8) (t : Fin 4) (a b : GReg) (q : Fin 64) (s : State) : Out :=
  run (Dev.issue e t (wordR 0x2F 0 a.val b.val q.val) (fun pc dv =>
    let th := dv.thread e.val t.val
    let n := (th.reg a).value.toNat
    let at' := (th.reg b).value.toNat
    let ends (code : Nat) (dv : Dev) : Dev := dv.onThread e.val t.val (Thread.jobTaken none ⟨0, 0⟩ code)
    if n ≠ 0 && 0x20000 < at' + n then dv.trap e.val t.val 3 0 pc
    else
      let r : Rec := { dv.plainRecord 2 (4 * e.val + t.val) 0 (dv.dmem e.val at' n) with prod := .qput e t }
      let long := dv.enabled q.val && dv.lenRefused q.val r
      let code := lowestCode [if n = 0 || long then E_LEN else E_OK,
        if dv.enabled q.val && dv.role q.val = 2 && bit (dv.queue q.val).engmask e.val then E_OK else E_PERM]
      if code ≠ E_OK then ends code (dv.onlyIf (n ≠ 0 && long) (Dev.countLenRef q.val))
      else
        (dv.onThread e.val t.val (Thread.waiting (.space q at' n (dv.tns + 10000)))).offerRecord q.val r)) s

/-! ### Commands that end a wait -/

/-- The completion of a job: JOB, D, and what the job does only when it completes. -/
def Dev.jobComplete (e : Fin 8) (t : Fin 4) (d : Dev) : Dev :=
  let th := d.thread e.val t.val
  match th.wait with
  | .job dst (some (w, code)) =>
    d.onThread e.val t.val (fun th => ((match dst with | some r => th.setReg r w | none => th)).jobDone code)
  | .mac op entry h a no key =>
    if d.macHeld e.val entry no then d
    else
      let b := (th.handle h.val).getD 0
      let r := match op with
        | .fresh => d.freshDone e.val entry.val b a
        | .gen => d.macgenDone e.val entry.val b a key
        | .ver => d.macverDone e.val t.val entry.val a key
      (r.2.onThread e.val t.val (Thread.jobDone r.1)).coreMark
  | .credit h len deadline =>
    match th.handle h.val with
    | some b =>
      if deadline ≤ d.tns then d.creditTimeout e.val t.val h.val
      else if d.creditFree then
        ((d.txEnter e.val b len).closeHandle e.val t.val h.val).onThread e.val t.val (Thread.jobDone E_OK)
      else d
    | none => d
  | _ => d

/-- ENGINE_JOB_COMPLETE: the job of a waiting thread completes (R114). -/
def execEngineJobComplete (e : Fin 8) (t : Fin 4) (s : State) : Out :=
  run (fun d => d.onlyIf d.enginesRun (Dev.jobComplete e t)) s

/-- DOORBELL: a write of ENG_DOORBELL posts a DOORBELL event (R89). -/
def execDoorbell (p : Path) (e : Fin 8) (v : Word) (s : State) : Out :=
  runWrite p (Reg.ENG_DOORBELL e.val) v.toNat (Dev.doorbellWrite e.val v) s

end Sys2Proof.Machine
end

