-- ==== Sys2Proof/Machine/Bridge.lean ====
section
/-! DEFINITION. The host bridge (chapter 09): host accesses through the BARs, held reads and posted writes, transmit descriptors,
bridge resets; and the paths into the signal store that chapter 02 names for the host. -/

namespace Sys2Proof.Machine

/-! ### The content of node 0's spaces (R75, R79, R314) -/

/-- The slots as words of 8 bytes from an offset of space 1; past the slot array the mirror reads zero (R79). -/
def Dev.slotBytes (d : Dev) (off : Nat) : Nat → List Byte
  | 0 => []
  | n + 1 =>
    let x := d.evalSlot (off / 16)
    let w := if 0x200000 ≤ off || !d.inService then 0 else if off % 16 = 0 then slotWord0 x else slotWord1 x
    leBytes 8 w ++ Dev.slotBytes d (off + 8) n

/-- The discrete lines as entries of 8 bytes. -/
def Dev.lineBytes (d : Dev) (off : Nat) : Nat → List Byte
  | 0 => []
  | n + 1 => leBytes 8 (Tagged.toNat40 (d.dioWord (off / 8))) ++ Dev.lineBytes d (off + 8) n

/-- Registers as words of 4 bytes on a path, ascending; an aligned pair is one 64-bit access (R313, R470). -/
def Dev.regBlock (p : Path) (a : Nat) : Nat → Dev → List Byte × Dev
  | 0, d => ([], d)
  | 1, d => let r := d.regRead p a; (leBytes 4 r.1.toNat, r.2)
  | n + 2, d =>
    if pairStart a then
      let r := d.pairRead p a
      let x := Dev.regBlock p (a + 8) n r.2
      (leBytes 8 r.1 ++ x.1, x.2)
    else
      let r := d.regRead p a
      let x := Dev.regBlock p (a + 4) (n + 1) r.2
      (leBytes 4 r.1.toNat ++ x.1, x.2)

/-- Writes registers as `regBlock` reads them. -/
def Dev.regBlockWrite (p : Path) (a : Nat) (bs : List Byte) : Nat → Dev → Dev
  | 0, d => d
  | 1, d => d.regWrite p a (BitVec.ofNat 32 (leNat (bytesAt bs 0 4)))
  | n + 2, d =>
    if pairStart a then Dev.regBlockWrite p (a + 8) (bs.drop 8) n (d.pairWrite p a (BitVec.ofNat 64 (leNat (bytesAt bs 0 8))))
    else Dev.regBlockWrite p (a + 4) (bs.drop 4) (n + 1) (d.regWrite p a (BitVec.ofNat 32 (leNat (bytesAt bs 0 4))))

/-- The words of a register write that need the lease: address and value of each. -/
def leasableWords (p : Path) (a : Nat) (bs : List Byte) : Nat → Bool
  | 0 => false
  | n + 1 => leasable p a (leNat (bytesAt bs 0 4)) || leasableWords p (a + 4) (bs.drop 4) n

/-- `len` bytes of node 0 on a path: registers, slots, staging area, lines. -/
def Dev.node0Read (p : Path) (space off len : Nat) (d : Dev) : List Byte × Dev :=
  match space with
  | 0 => Dev.regBlock p off (len / 4) d
  | 1 => (d.slotBytes off (len / 8), d)
  | 2 => (Tab.bytes d.sys.staged off len, d)
  | 4 => (d.lineBytes off (len / 8), d)
  | _ => (List.replicate len 0, d)

/-- Bytes into the staging area; a verification made before no longer holds (R480). -/
def Dev.stageWrite (off : Nat) (bs : List Byte) (d : Dev) : Dev :=
  ({ d with sys := { d.sys with staged := Tab.setBytes d.sys.staged off bs } }).unverify

/-- Whether a master may write what the lease covers: it holds the lease, or nobody does (R476). -/
def Dev.leaseOk (d : Dev) (p : Path) : Bool :=
  d.fld Fld.MGT_STATUS_HOLDER = 0 || d.fld Fld.MGT_STATUS_HOLDER = leaseMaster p

/-- A leasable write while the holder is FREE gives the lease to its master. -/
def Dev.leaseTo (p : Path) (d : Dev) : Dev :=
  if d.fld Fld.MGT_STATUS_HOLDER = 0 then d.putHolder (leaseMaster p) else d

/-! ### Host accesses (R312 to R316, R345) -/

/-- The request of a host access: its fabric address by the BAR, or by the page of BAR2 (R77, R78). -/
def Dev.hostReq (d : Dev) (bar : Bar) (off len : Nat) (whole : Bool) : HostReq :=
  let addr := match bar with
    | .bar0 => off % 2 ^ 26
    | .bar4 => 2 ^ 30 + off % 2 ^ 22
    | .bar2 =>
      let k := off / 2 ^ 30 % 4
      (d.fld (Fld.BRG_PAGE_NODE k) * 16 + d.fld (Fld.BRG_PAGE_SPACE k)) * 2 ^ 30 + off % 2 ^ 30
  ⟨bar, addr, len, whole⟩

/-- SRC of a request in the bridge log. -/
def barSrc : Bar → Nat
  | .bar0 => 0
  | .bar2 => 1
  | .bar4 => 2

/-- Whether a request names a ring node. -/
def HostReq.remote (r : HostReq) : Bool := fabricNode r.addr ≠ 0

/-- Aligned whole words of `u` bytes. -/
def HostReq.words (r : HostReq) (u : Nat) : Bool := r.whole && r.len ≠ 0 && r.len % u = 0 && r.addr % u = 0

/-- Whether the size and alignment of a request are ones its target takes (R313, R314). -/
def HostReq.sizeOk (r : HostReq) (write : Bool) : Bool :=
  if r.remote then r.whole && (r.len = 4 || r.len = 8 || r.len = 16) && r.addr % r.len = 0
  else
    match fabricSpace r.addr with
    | 0 => r.whole && ((r.len = 4 && r.addr % 4 = 0) || (r.len = 8 && pairStart r.addr))
    | 1 => if write then r.words 8 && r.len = 8 else r.words 8
    | 2 => r.words 4
    | 4 => r.words 8
    | _ => true

/-- Why the target of a request, by its place and the mode, does not take it (R75, R314, R345). -/
def Dev.hostTargetCode (d : Dev) (write : Bool) (r : HostReq) : Nat :=
  let node := fabricNode r.addr
  let space := fabricSpace r.addr
  let off := fabricOff r.addr
  let stage := d.mode = .configure || d.mode = .loader
  let may : Bool :=
    if node = 0 then
      match space with
      | 0 => inWindows off
      | 1 => if r.bar = .bar4 then !write else !(write && (stage || off % 16 = 8))
      | 2 => stage
      | 4 => !(stage || write)
      | _ => false
    else if node = 63 then write && d.inService && (space = 0 || space = 3 || space = 4)
    else space ≤ 4
  if d.mode = .doze then
    lowestCode [if node = 0 && space = 0 && off < 0x100000 then E_OK else E_PERM,
      if node = 0 && space ≠ 0 && r.bar ≠ .bar4 then rangeCode space off r.len else E_OK, d.nodeCode node]
  else lowestCode [if may then E_OK else E_PERM, if node = 0 && space ≠ 0 && r.bar ≠ .bar4 then rangeCode space off r.len else E_OK,
    d.nodeCode node, if stage && node ≠ 0 && node ≠ 63 then E_ABSENT else E_OK]

/-- Whether a host write needs the lease (R476). -/
def HostReq.needsLease (r : HostReq) (data : List Byte) : Bool :=
  r.remote || fabricSpace r.addr = 1 || (fabricSpace r.addr = 0 && leasableWords .host (fabricOff r.addr) data (r.len / 4))

/-- The code of a host read. -/
def Dev.hostReadCode (d : Dev) (r : HostReq) : Nat :=
  lowestCode [if r.sizeOk false then E_OK else E_SIZE, d.hostTargetCode false r]

/-- The code of a host write before its target sees it. -/
def Dev.hostWriteCode (d : Dev) (r : HostReq) (data : List Byte) : Nat :=
  lowestCode [if r.bar = .bar4 || r.sizeOk true then E_OK else E_SIZE, d.hostTargetCode true r,
    if r.needsLease data && !d.leaseOk .host then E_PERM else E_OK]

/-- A refused host access: a bridge log entry; a read gets Completer Abort (R316). -/
def Dev.hostRefuse (write : Bool) (r : HostReq) (code : Nat) (d : Dev) : Dev :=
  let d := d.bridgeLog write (barSrc r.bar) code r.addr r.len
  if write then d else d.emit (.completion none)

/-- The request counts as host activity (R477): BAR0 and BAR2. -/
def Dev.hostActive (r : HostReq) (d : Dev) : Dev := if r.bar = .bar4 then d else d.seen .host

/-- SIZE of a ring transaction of `len` bytes. -/
def sizeOf' (len : Nat) : Nat := if len = 4 then 0 else if len = 8 then 1 else 2

/-- Serves or refuses a host read; a ring node's takes an entry of the held-read table (R312). -/
def Dev.hostReadGo (r : HostReq) (d : Dev) : Dev :=
  let code := d.hostReadCode r
  if code ≠ E_OK then d.hostRefuse false r code
  else
    if r.remote then
      let d := { d with hq := { d.hq with held := d.hq.held ++ [(d.drv.nextId, r)] } }
      d.readIssue (fabricNode r.addr) (fabricSpace r.addr) (sizeOf' r.len) (fabricOff r.addr) .host
    else
      let x := d.node0Read .host (fabricSpace r.addr) (fabricOff r.addr) r.len
      x.2.emit (.completion (some x.1))

/-- Whether a read has to wait for the held-read table. -/
def Dev.readHeld (d : Dev) (r : HostReq) : Bool := r.remote && d.hostReadCode r = E_OK && decide (64 ≤ d.hq.held.length)

/-- Performs a request that was accepted earlier: the host's silence counts from its acceptance (R477). -/
def Dev.accepted (f : Dev → Dev) (d : Dev) : Dev :=
  let x := f d
  { x with mgmt := { x.mgmt with hostSeen := d.mgmt.hostSeen } }

/-- Reads leave the inbound non-posted buffer in order, as far as the held-read table lets them. -/
def Dev.readsGo : Nat → Dev → Dev
  | 0, d => d
  | n + 1, d =>
    match d.hq.stalled with
    | [] => d
    | r :: rs =>
      if d.readHeld r then d
      else Dev.readsGo n (({ d with hq := { d.hq with stalled := rs } }).accepted (Dev.hostReadGo r))

/-- Performs or discards a host write that has reached the head of the posted buffer. -/
def Dev.hostWriteGo (r : HostReq) (data : List Byte) (rivals : List StoreReq) (d : Dev) : Dev :=
  let code := d.hostWriteCode r data
  if code ≠ E_OK then d.hostRefuse true r code
  else
    let d := if r.needsLease data then d.leaseTo .host else d
    let off := fabricOff r.addr
    if r.remote then
      let sp := fabricSpace r.addr
      if fabricNode r.addr = 63 then d.enqueueAll sp (sizeOf' r.len) off data none
      else d.enqueue (fabricNode r.addr) ⟨.write sp (sizeOf' r.len) off data, none⟩
    else
      match fabricSpace r.addr with
      | 0 => Dev.regBlockWrite .host off data (r.len / 4) d
      | 1 =>
        let n := Fin.ofNat 131072 (off / 16)
        let refused := d.storeCode .host n.val
        let d := d.storeWrite ⟨.host, n, tagged40 (leNat (bytesAt data 0 8)), none⟩ rivals
        if refused = E_OK then d else d.hostRefuse true r refused
      | _ => d.stageWrite off data

/-- Whether a write has to wait for room in the queues of its ring nodes (R282). -/
def Dev.writeHeld (d : Dev) (r : HostReq) (data : List Byte) : Bool :=
  r.remote && d.hostWriteCode r data = E_OK &&
    (if fabricNode r.addr = 63 then d.members.any (fun n => d.ringFull n) else d.ringFull (fabricNode r.addr))

/-- Performs a write as the lease stood with an earlier holder (R478); a holder that the write itself sets stays. -/
def Dev.underHolder (h : Nat) (f : Dev → Dev) (d : Dev) : Dev :=
  let was := d.fld Fld.MGT_STATUS_HOLDER
  let x := f (d.put Fld.MGT_STATUS_HOLDER h)
  if x.fld Fld.MGT_STATUS_HOLDER = h then x.put Fld.MGT_STATUS_HOLDER was else x

/-- Writes leave the inbound posted buffer in order, as far as the ring lets them. -/
def Dev.writesGo : Nat → Dev → Dev
  | 0, d => d
  | n + 1, d =>
    match d.hq.posted with
    | [] => d
    | w :: ws =>
      if (d.put Fld.MGT_STATUS_HOLDER w.holder).writeHeld w.req w.data then d
      else Dev.writesGo n (({ d with hq := { d.hq with posted := ws } }).accepted (Dev.underHolder w.holder (Dev.hostWriteGo w.req w.data [])))

/-- What waits in the bridge's inbound buffers goes on where it can. -/
def Dev.bridgeGo (d : Dev) : Dev :=
  let d := Dev.writesGo d.hq.posted.length d
  Dev.readsGo d.hq.stalled.length d

/-- Whether the bridge serves accesses (R345); none comes over while one side of its crossing is in reset (R442). -/
def Dev.bridgeServes (d : Dev) : Bool :=
  d.flag Fld.BRG_STATUS_LINK && !d.halfReset 0 && (d.inService || d.mode = .configure || d.mode = .loader || d.mode = .doze)

/-- HOST_READ. A read behind one that waits for the held-read table waits with it; a full buffer takes none (R310, R312). -/
def execHostRead (bar : Bar) (off : BitVec 32) (len : BitVec 16) (whole : Bool) (s : State) : Out :=
  run (fun d => d.onlyIf d.bridgeServes (fun d =>
    let r := d.hostReq bar off.toNat len.toNat whole
    let d := d.onlyIf (d.hostReadCode r = E_OK && decide (d.hq.stalled.length < 32)) (Dev.hostActive r)
    if d.hq.stalled.isEmpty && !d.readHeld r then d.hostReadGo r
    else if 32 ≤ d.hq.stalled.length then d
    else { d with hq := { d.hq with stalled := d.hq.stalled ++ [r] } })) s

/-- A write the bridge accepts: the host is not silent (R477), and the lease goes to it where nobody holds it (R476). -/
def Dev.hostTakes (r : HostReq) (data : List Byte) (d : Dev) : Dev :=
  if d.hostWriteCode r data = E_OK then (d.hostActive r).onlyIf (r.needsLease data) (Dev.leaseTo .host) else d

/-- A host write reaches the bridge: performed, or behind what waits in the posted buffer. -/
def Dev.hostWrite (r : HostReq) (data : List Byte) (rivals : List StoreReq) (d : Dev) : Dev :=
  if d.hq.posted.isEmpty && !d.writeHeld r data then (d.hostTakes r data).hostWriteGo r data rivals
  else if 64 ≤ d.hq.posted.length || 16384 < (d.hq.posted.foldl (fun n w => n + w.data.length) 0) + data.length then d
  else
    let d := d.hostTakes r data
    { d with hq := { d.hq with posted := d.hq.posted ++ [(⟨r, data, d.fld Fld.MGT_STATUS_HOLDER⟩ : PostedWrite)] } }

/-- HOST_WRITE. -/
def execHostWrite (bar : Bar) (off : BitVec 32) (data : List Byte) (whole : Bool) (s : State) : Out :=
  run (fun d => d.onlyIf d.bridgeServes (fun d =>
    d.hostWrite (d.hostReq bar off.toNat data.length whole) data [])) s

/-! ### The host's and the store's own accesses to slots (R62, R67, R80, R81) -/

/-- HOST_SLOT_WRITE: an aligned 64-bit write to word 0 of a slot through BAR2, beside the writes of the same store cycle. -/
def execHostSlotWrite (n : Fin 131072) (w : BitVec 64) (rivals : List StoreReq) (s : State) : Out :=
  run (fun d => d.onlyIf d.bridgeServes (fun d =>
    d.hostWrite ⟨.bar2, 2 ^ 30 + 16 * n.val, 8, true⟩ (leBytes 8 w.toNat) rivals)) s

/-- STALE_MARKING: the age scanner visits a slot. -/
def execStaleMarking (n : Fin 131072) (rivals : List StoreReq) (s : State) : Out :=
  run (fun d => d.onlyIf d.inService (Dev.scanVisit n rivals)) s

/-- NODE_LEAVE_MARK: the background marker's next slot. -/
def execNodeLeaveMark (rivals : List StoreReq) (s : State) : Out := run (fun d => d.onlyIf d.inService (Dev.markStep rivals)) s

/-- CONSUMING_READ: a read of the low register of the consuming window; writes of the same store cycle come after it. -/
def execConsumingRead (p : Path) (n : Fin 131072) (rivals : List StoreReq) (s : State) : Out :=
  run (fun d => (d.busRead p (0x300000 + 8 * n.val)).onlyIf d.inService (Dev.storeCycle (onSlot n rivals))) s

/-! ### Transmit descriptors (R252 to R254, R332 to R334) -/

/-- Byte fields of a descriptor. -/
def descField (w : BitVec 256) (at' n : Nat) : Nat := w.toNat / 2 ^ (8 * at') % 2 ^ (8 * n)

/-- MSS. -/
def descMss (w : BitVec 256) : Nat := descField w 16 2
/-- LENGTH, or S. -/
def descLen (w : BitVec 256) : Nat := descField w 4 4
/-- L2_LEN. -/
def descL2 (w : BitVec 256) : Nat := descField w 18 1
/-- L3_LEN. -/
def descL3 (w : BitVec 256) : Nat := descField w 19 1
/-- L4_LEN. -/
def descL4 (w : BitVec 256) : Nat := descField w 20 1
/-- H, the length of all headers. -/
def descHead (w : BitVec 256) : Nat := descL2 w + descL3 w + descL4 w
/-- L34[0]: IPv6. -/
def descV6 (w : BitVec 256) : Bool := w.getLsbD 168
/-- L34[1]: UDP. -/
def descUdp (w : BitVec 256) : Bool := w.getLsbD 169

/-- Whether the header lengths lie in the ranges of R253. -/
def descLensOk (w : BitVec 256) : Bool :=
  descHead w ≤ 256 && (if descV6 w then descL3 w = 40 else within 20 60 (descL3 w)) &&
    (if descUdp w then descL4 w = 8 else within 20 60 (descL4 w))

/-- The port-12 limit minus 4 for data with given tags (R252). -/
def Dev.hostLimit (d : Dev) (data : List Byte) : Nat := d.swLimit 12 (d.tagCount 12 data) - 4

/-- The code of a fetched descriptor (R334); `data` is what the read of ADDR returned, none for an error completion. -/
def Dev.descCode (d : Dev) (w : BitVec 256) (data : Option (List Byte)) : Nat :=
  let kind := descField w 0 1
  let flags := descField w 1 1
  let bs := data.getD []
  let lim := d.hostLimit bs
  let len := descLen w
  let inserts := bit flags 4 || bit flags 5
  let version : Bool := 2 < kind || bit flags 7 || descField w 21 1 / 4 ≠ 0 || descField w 22 10 ≠ 0
  let lenBad : Bool := match kind with
    | 1 => len < 14 || lim < len
    | 2 => 262144 < len || lim < descHead w + descMss w || descMss w < 64 || 9000 < descMss w || len ≤ descHead w
    | _ => false
  let perm : Bool := (kind = 1 || kind = 2) &&
    (((kind = 2 || inserts) && !descLensOk w) || (bit flags 4 && descV6 w) || data.isNone ||
      (kind = 2 && !descV6 w && be16 bs (descL2 w + 6) % 2 ^ 14 ≠ 0))
  lowestCode [if version then E_VERSION else E_OK, if lenBad then E_LEN else E_OK, if perm then E_PERM else E_OK]

/-- The transport checksum of a frame under a descriptor. -/
def descL4Sum (w : BitVec 256) (bs : List Byte) : List Byte :=
  let l4 := descL2 w + descL3 w
  l4Sum (descV6 w) (descL2 w) l4 (if descUdp w then 6 else 16) (if descUdp w then 17 else 6) bs

/-- The frame of a SEND: the checksums it asks for are inserted (R252). -/
def sendFrame (w : BitVec 256) (bs : List Byte) : List Byte :=
  let bs := if w.getLsbD 12 then ipv4Sum (descL2 w) (descL3 w) bs else bs
  if w.getLsbD 13 then descL4Sum w bs else bs

/-- The TCP or UDP header fields of segment `k` of `n` (R254). -/
def segL4 (w : BitVec 256) (k n : Nat) (bs : List Byte) : List Byte :=
  let l4 := descL2 w + descL3 w
  if descUdp w then patchBytes (l4 + 4) (beBytes 2 (bs.length - l4)) bs
  else
    let f := (bs.getD (l4 + 13) 0).toNat
    let f := if k + 1 = n then f else setBits (setBits f 0 0 0) 3 3 0
    let f := if k = 0 then f else setBits f 7 7 0
    patchBytes (l4 + 13) (leBytes 1 f) (patchBytes (l4 + 4) (beBytes 4 (beNat (bytesAt bs (l4 + 4) 4) + k * descMss w)) bs)

/-- Segment `k` of `n` of a segmentation send (R253, R254). -/
def segFrame (w : BitVec 256) (bs : List Byte) (n k : Nat) : List Byte :=
  let h := descHead w
  let l2 := descL2 w
  let seg := bs.take h ++ ((bs.drop (h + k * descMss w)).take (min (descMss w) (descLen w - h - k * descMss w)))
  let seg :=
    if descV6 w then patchBytes (l2 + 4) (beBytes 2 (seg.length - l2 - 40)) seg
    else
      ipv4Sum l2 (descL3 w) (patchBytes (l2 + 4) (beBytes 2 (be16 seg (l2 + 4) + k)) (patchBytes (l2 + 2) (beBytes 2 (seg.length - l2)) seg))
  descL4Sum w (segL4 w k n seg)

/-- The frames a descriptor of code E_OK sends. -/
def descFrames (w : BitVec 256) (data : List Byte) : List TxFrame :=
  let flags := descField w 1 1
  let bs := bytesAt data 0 (descLen w)
  let frame (ts : Bool) (x : List Byte) : TxFrame := ⟨flags % 8, x, ts && bit flags 3, descField w 2 2⟩
  match descField w 0 1 with
  | 1 => [frame true (sendFrame w bs)]
  | 2 =>
    let n := (descLen w - descHead w + descMss w - 1) / descMss w
    (List.range n).map (fun k => frame (k = 0) (segFrame w bs n k))
  | _ => []

/-- The ETH queues with a descriptor to fetch. -/
def Dev.fetchDue (d : Dev) : List Nat :=
  (List.range 64).filter (fun q => d.enabled q && d.role q = 1 && (d.rd (Reg.HQ_H2D_PROD q)).toNat ≠ (d.queue q).fetched)

/-- The queue whose descriptor is fetched next (R333): the highest class, and queues of equal class in turn; `cls` has the class of each
queue's next descriptor. -/
def Dev.fetchNext (d : Dev) (cls : Nat → Nat) : Option Nat :=
  let top := d.fetchDue.foldl (fun m q => max m (cls q)) 0
  let best := d.fetchDue.filter (fun q => cls q = top)
  match best.find? (fun q => d.hq.lastServed < q) with
  | some q => some q
  | none => best.head?

/-- The classes of the next descriptors, as host memory has them: the fetched one's own, and those of the other queues. -/
def headClass (q : Nat) (desc : BitVec 256) (heads : List (Fin 64 × Fin 8)) (k : Nat) : Nat :=
  if k = q then descField desc 1 1 % 8 else ((heads.find? (fun h => h.1.val = k)).map (·.2.val)).getD 0

/-- Reads of host memory from an address on, of at most Max_Read_Request_Size, which is 128 bytes or more (R309). -/
def Dev.fetchBytes (addr : Nat) : Nat → Nat → Dev → Dev
  | 0, _, d => d
  | k + 1, n, d =>
    let m := min n (max 128 d.hq.mrrs)
    if n = 0 then d else Dev.fetchBytes (addr + m) k (n - m) (d.emit (.hostFetch addr m))

/-- The reads of a descriptor's fetch: the descriptor, then the data of a SEND or SEND_SEG of a length that can be sent at all. -/
def Dev.fetchReads (q : Nat) (desc : BitVec 256) (d : Dev) : Dev :=
  let at_ := d.pair (Fld.HQ_H2D_BASE_LO_BASE q) (Fld.HQ_H2D_BASE_HI_BASE q) + (d.queue q).fetched % d.h2dSize q
  let kind := descField desc 0 1
  let d := d.emit (.hostFetch at_ 32)
  d.onlyIf ((kind = 1 || kind = 2) && descLen desc ≤ 262144) (Dev.fetchBytes (descField desc 8 8) (descLen desc / 128 + 1) (descLen desc))

/-- DESCRIPTOR_FETCHED: the next descriptor of a queue and the data its ADDR names have arrived; `heads`: the classes of the other
queues' next descriptors. -/
def execDescriptorFetched (q : Fin 64) (desc : BitVec 256) (data : Option (List Byte)) (heads : List (Fin 64 × Fin 8)) (s : State) : Out :=
  run (fun d =>
    let x := d.queue q.val
    if !d.mayMaster || d.fetchNext (headClass q.val desc heads) ≠ some q.val then d
    else
      let d := d.fetchReads q.val desc
      let code := d.descCode desc data
      let it : Desc := ⟨x.fetched, descField desc 2 2, bit (descField desc 1 1) 6, code, 0,
        if code = E_OK then descFrames desc (data.getD []) else []⟩
      let d := d.onQueue q.val (fun x => { x with descs := x.descs ++ [it], fetched := (x.fetched + 32) % 2 ^ 32 })
      let d := { d with hq := { d.hq with lastServed := q.val } }
      if code = E_OK then d else (d.bump (Fld.HQ_TXREF_COUNT q.val)).raise 287) s

/-- Cells of headroom of a port other than 13 (R245). -/
def Dev.headroom (d : Dev) (p : Nat) : Nat :=
  match d.swCfg p with
  | some c => 2 * ((c.ceiling + 4 + 255) / 256)
  | none => 0

/-- PORT12_FRAME_ENTRY: the next frame of a queue's descriptors enters port 12 where its headroom can hold it. -/
def execPort12FrameEntry (q : Fin 64) (s : State) : Out :=
  run (fun d =>
    match (d.queue q.val).descs.find? (fun x => !x.frames.isEmpty) with
    | none => d
    | some x =>
      match x.frames with
      | [] => d
      | f :: fs =>
        if !d.swRuns || !d.swLink 12 || !d.enabled q.val || d.headroom 12 < d.headroomUsed 12 + cellsOf f.bytes.length then d
        else
          let d := d.onQueue q.val (fun y =>
            { y with descs := y.descs.map (fun (z : Desc) => if z.counter = x.counter then { z with frames := fs, sent := z.sent + 1 } else z) })
          d.swEnter 12 f.bytes true (some f.cls) d.frc.toNat 0 (if f.tsReq then some (q.val, f.tag) else none) (some (q.val, x.counter)) d.tns) s

/-- Whether a descriptor's frames have all been admitted or dropped. -/
def Dev.descDone (d : Dev) (q : Nat) (x : Desc) : Bool :=
  x.frames.isEmpty && !d.sw.adm.any (fun f => f.desc = some (q, x.counter))

/-- Whether a TXDONE record of a queue is still to be written (R327). -/
def Queue.txdoneDue (x : Queue) : Bool :=
  x.waiting.any (fun r => r.prod = .txdone) || (match x.cur with | some c => c.item.prod = .txdone | none => false)

/-- DESCRIPTOR_RETIRE: the oldest descriptor is retired; its TXDONE record is made where one is due. -/
def execDescriptorRetire (q : Fin 64) (s : State) : Out :=
  run (fun d =>
    match (d.queue q.val).descs with
    | [] => d
    | x :: xs =>
      if !d.enabled q.val || !d.descDone q.val x || (d.queue q.val).txdoneDue then d
      else
        let d := d.onQueue q.val (fun y => { y with descs := xs })
        let d := (d.wr (Reg.HQ_H2D_CONS q.val) (BitVec.ofNat 32 (x.counter + 32))).bump (Fld.HQ_TXDESC_COUNT q.val)
        if x.compl || x.code ≠ E_OK then
          d.offerRecord q.val { d.plainRecord 5 x.tag x.counter
            (leBytes 1 x.code ++ [0] ++ leBytes 2 x.sent ++ [0, 0, 0, 0]) with prod := .txdone }
        else d) s

/-! ### The link (R341, R342) -/

/-- Port 12 and the host-absence count follow the link and Bus Master Enable (R229, R453). -/
def Dev.linkFollow (d : Dev) : Dev :=
  let d := { d with sys := { d.sys with linkDownAt := if d.mayMaster then none else some (d.sys.linkDownAt.getD d.tns) } }
  d.hostPort

/-- What a bridge reset forgets: held and stalled requests with their ring reads, whose responses then find no one waiting (R280),
writes not issued, the request sizes, the page and MSI-X registers. -/
def Dev.bridgeForget (d : Dev) : Dev :=
  let d := d.each (d.drv.reads.filter (fun r => r.by_ = ReqBy.host)) Dev.forgetRead
  { d with
    hq := { d.hq with held := [], stalled := [], outPosted := [], outSource := [], mps := 128, mrrs := 512 }
    regs := Tab.drop (fun a => (Reg.BRG_PAGE 0 ≤ a && a ≤ Reg.BRG_PAGE 3) || (Reg.MSIX_ADDR_LO 0 ≤ a && a ≤ Reg.MSIX_PBA 3)) d.regs }

/-- A bridge reset: one side of crossing group 0 is in reset (R441), after a Function Level Reset only for the moment, else until the link
is up again. The pages and the MSI-X registers return to their reset values, Bus Master Enable to 0. -/
def Dev.bridgeReset (cause : LinkReset) (d : Dev) : Dev :=
  let d := (((d.linkDrop (cause = .flr || cause = .d3hotExit) (cause = .flr)).bridgeForget.linkFollow).linkSync.bridgeGo).halfResetStart 0 true
  d.onlyIf (cause = .flr) (Dev.halfResetEnd 0)

/-- BRIDGE_RESET. -/
def execBridgeReset (cause : LinkReset) (s : State) : Out :=
  run (fun d => d.onlyIf (d.flag Fld.BRG_STATUS_LINK) (Dev.bridgeReset cause)) s

/-- What waited for bus mastering goes out (R335, R342). -/
def Dev.masterGo (d : Dev) : Dev :=
  let due := d.hq.outPosted ++ d.hq.outSource
  let d := ({ d with hq := { d.hq with outPosted := [], outSource := [] } }).each due (fun w => Dev.post w.1 w.2)
  d.each (List.range 128) Dev.sendPending

/-- The state of the PCI Express side as it has come over its crossing (R440). -/
def Dev.pcieTaken (d : Dev) : Dev :=
  let v := (d.crossing 0).taken
  let d := ((d.putFlag Fld.BRG_STATUS_LINK (bit v 0)).putFlag Fld.BRG_STATUS_BME (bit v 1)).put Fld.BRG_STATUS_SPEED (bits v 4 2)
  let d := { d.put Fld.BRG_STATUS_WIDTH (bits v 7 5) with hq := { d.hq with mps := bits v 23 8, mrrs := bits v 47 24 } }
  d.linkFollow.onlyIf (bit v 1) Dev.masterGo

/-- The PCI Express side gives a new state; during a mismatch of its crossing group it waits there (R442). -/
def Dev.pcieState (v : Nat) (d : Dev) : Dev := (d.crossWrite 0 v).onlyIf (!d.halfReset 0) Dev.pcieTaken

/-- BUS_MASTER_CHANGE: Bus Master Enable, Max_Payload_Size and Max_Read_Request_Size as the host's configuration writes leave them. In
ROM a configuration request gets a retry status and changes nothing (R345). -/
def execBusMasterChange (on : Bool) (mps : Fin 3) (mrrs : Fin 6) (s : State) : Out :=
  run (fun d =>
    let v := (d.crossing 0).latest
    d.onlyIf (bit v 0 && d.mode ≠ .rom)
      (Dev.pcieState (linkValue true on (bits v 4 2) (bits v 7 5) (128 * 2 ^ mps.val) (128 * 2 ^ mrrs.val)))) s

/-- PCIE_LINK_UP: the link finishes training, in a mode that has one (R345). -/
def execPcieLinkUp (speed : Fin 4) (width : Fin 3) (s : State) : Out :=
  run (fun d => d.onlyIf (!bit (d.crossing 0).latest 0 && hasLink d) (fun d =>
    (d.retrained 0).pcieState (linkValue true false (speed.val + 1) (2 ^ width.val) 128 512))) s
where
  /-- The modes with a link. -/
  hasLink (d : Dev) : Bool := d.inService || d.mode = .rom || d.mode = .loader || d.mode = .configure || d.mode = .doze

/-! ### Half-resets (R441, R442) -/

/-- What a mismatch does to the data under way across a group: the bridge's buffers are emptied; of a port the frame that is cutting
through is broken and counted as a receive error. -/
def Dev.crossEmpty (g : Nat) (d : Dev) : Dev :=
  if g = 0 then { d with hq := { d.hq with stalled := [], outPosted := [] } }
  else
    match (if 3 ≤ g && g ≤ 14 then d.cutOutput (g - 3) else none) with
    | some o => (d.onSwPort o (fun y => { y with tx := y.tx.map (fun (x : SwTx) => { x with broken := true }) })).rxError (g - 3)
        (Fld.ETH_FCS_COUNT (g - 3))
    | none => d

/-- HALF_RESET_START. -/
def execHalfResetStart (g : Fin 16) (s : State) : Out :=
  run (fun d => d.onlyIf (d.logicRuns && !d.halfReset g.val) (fun d => (d.halfResetStart g.val false).crossEmpty g.val)) s

/-- What the link state of a group, come over its crossing, brings: of the bridge, of a ring lane, of a port. -/
def Dev.linkTaken (g : Nat) (d : Dev) : Dev :=
  if g = 0 then d.onlyIf (d.logicRuns) Dev.pcieTaken
  else if g = 1 || g = 2 then d.onlyIf (d.ringRuns && d.laneUsed (g - 1)) (Dev.laneTaken (g - 1))
  else d.onlyIf (3 ≤ g && g ≤ 14 && d.rxRuns (g - 3) && (d.swCfg (g - 3)).isSome) (Dev.portTaken (g - 3))

/-- HALF_RESET_END. -/
def execHalfResetEnd (g : Fin 16) (s : State) : Out :=
  run (fun d => d.onlyIf (d.halfReset g.val) (fun d => (d.halfResetEnd g.val).linkTaken g.val)) s

end Sys2Proof.Machine
end

