-- ==== Sys2Proof/Machine/Mgmt.lean ====
section
/-! DEFINITION. The management port (chapter 14): frames, the request being executed and its response, the commands. -/

namespace Sys2Proof.Machine

/-! ### Frames (R465 to R468) -/

/-- Whether the port works (R465). -/
def Dev.portUp (d : Dev) : Bool := d.mode ≠ .off && d.sys.vbat

/-- CRC-16/CCITT of a frame's bytes (R467). -/
def frameCrc (bs : List Byte) : Nat := crcLeft 16 0x1021 0xFFFF bs

/-- RESP of the status byte. -/
def Dev.resp (d : Dev) : Nat := if d.mgmt.executing.isSome then 1 else if d.mgmt.response.isSome then 2 else 0

/-- MISO byte 0 (R466). -/
def Dev.misoStatus (d : Dev) : Byte :=
  BitVec.ofNat 8 (b2n (!d.mgmt.notices.isEmpty) * 128 + b2n (d.fld Fld.MGT_STATUS_HOLDER = 2) * 64 + d.resp)

/-- A response frame. -/
def respFrame (seq cmd status : Nat) (payload : List Byte) : List Byte :=
  let bs := [0x3A] ++ beBytes 2 seq ++ leBytes 1 cmd ++ leBytes 1 status ++ [0] ++ beBytes 2 payload.length ++ payload
  bs ++ beBytes 2 (frameCrc bs)

/-- A NAK becomes the ready response. -/
def Dev.nak (seq code : Nat) (d : Dev) : Dev := { d with mgmt := { d.mgmt with response := some (respFrame seq 0xFF code []) } }

/-- The executing request ends: its response is ready. -/
def Dev.respond (r : MgmtReq) (code : Nat) (payload : List Byte) (d : Dev) : Dev :=
  let f := respFrame r.seq r.cmd code (if code = E_OK then payload else [])
  { d with mgmt := { d.mgmt with executing := none, response := some f, lastResp := f, ringResult := none } }

/-- The commands of R469. -/
def mgmtCmds : List Nat := [0, 1, 2, 3, 4, 5, 6, 7, 0x10, 0x11, 0x20, 0x21, 0x30, 0x31, 0x40, 0x41, 0x42]

/-- A frame that ends before its last CRC byte (R467, R442). -/
def Dev.mgmtTrunc (d : Dev) : Dev := ((d.bump Fld.MGT_ERR_TRUNC).halfResetStart 15 false).halfResetEnd 15

/-- A frame of an unknown kind (R466). -/
def Dev.mgmtSync (d : Dev) : Dev := (d.bump Fld.MGT_ERR_SYNC).raise 24

/-- A whole REQUEST without the bytes past its CRC. -/
def Dev.mgmtAccept (f : List Byte) (seq cmd : Nat) (payload : List Byte) (d : Dev) : Dev :=
  let d := { d with mgmt := { d.mgmt with lastValid := d.tns } }
  if d.mgmt.lastReq = some f then { d with mgmt := { d.mgmt with response := some d.mgmt.lastResp } }
  else
    let r : MgmtReq := ⟨seq, cmd, payload⟩
    let d := { d with mgmt := { d.mgmt with lastReq := some f, response := none, executing := some r, ringResult := none } }
    if mgmtCmds.contains cmd then d else d.respond r E_VERSION []

/-- A frame that is no FETCH: its kind, and the checks of R467. -/
def Dev.mgmtFrame (f : List Byte) (d : Dev) : Dev :=
  let seq := beNat (bytesAt f 1 2)
  let len := beNat (bytesAt f 4 2)
  if (f.getD 0 0) ≠ 0xC5 then d.mgmtSync
  else if f.length < 8 + len then d.mgmtTrunc
  else if d.mgmt.executing.isSome then d.bump Fld.MGT_ERR_OVERRUN
  else if 4104 < len then d.nak seq E_LEN
  else if frameCrc (f.take (6 + len)) ≠ beNat (bytesAt f (6 + len) 2) then ((d.bump Fld.MGT_ERR_CRC).raise 24).nak seq E_AUTH
  else d.mgmtAccept (f.take (8 + len)) seq (f.getD 3 0).toNat (bytesAt f 6 len)

/-- Whether the port takes a frame: it works and its crossing is not reset on one side. -/
def Dev.frameTakes (d : Dev) : Bool := d.portUp && !d.halfReset 15

/-- What MISO carries in a frame of `count` bytes that is no FETCH with a response: the status byte and zeros. -/
def Dev.misoZeros (d : Dev) (count : Nat) : List Byte := (d.misoStatus :: List.replicate (count - 1) 0).take count

/-- A FETCH of `count` bytes. The response has left only when its last CRC byte has been clocked out (R468). -/
def Dev.mgmtFetch (count : Nat) (d : Dev) : Dev :=
  let body := if d.resp = 2 then d.mgmt.response.getD [] else []
  let n := count - 1
  let e := d.emit (.miso (d.misoStatus :: bytesAt body 0 n))
  if d.resp = 2 && body.length ≤ n then { e with mgmt := { e.mgmt with response := none } } else e

/-- MGMT_REQUEST; a frame whose first byte is 0x96 is a FETCH. -/
def execMgmtRequest (frame : List Byte) (s : State) : Out :=
  run (fun d => d.onlyIf (d.frameTakes && !frame.isEmpty) (fun d =>
    if frame.getD 0 0 = 0x96 then d.mgmtFetch frame.length
    else (d.emit (.miso (d.misoZeros frame.length))).mgmtFrame frame)) s

/-- MGMT_FETCH: `count` bytes are clocked. -/
def execMgmtFetch (count : BitVec 16) (s : State) : Out :=
  run (fun d => d.onlyIf (d.frameTakes && count ≠ 0) (Dev.mgmtFetch count.toNat)) s

/-- MGMT_SYNC_ERROR. -/
def execMgmtSyncError (byte0 : Byte) (count : BitVec 16) (s : State) : Out :=
  run (fun d => d.onlyIf (d.frameTakes && byte0 ≠ 0xC5 && byte0 ≠ 0x96 && count ≠ 0) (fun d =>
    (d.emit (.miso (d.misoZeros count.toNat))).mgmtSync)) s

/-- MGMT_TRUNCATED. -/
def execMgmtTruncated (count : BitVec 16) (s : State) : Out :=
  run (fun d => d.onlyIf (d.frameTakes && count ≠ 0) (fun d => (d.emit (.miso (d.misoZeros count.toNat))).mgmtTrunc)) s

/-! ### Execution of a request (R469) -/

/-- Ends a request with the lowest of some codes, or with what `f` does where none applies. -/
def Dev.reqCodes (r : MgmtReq) (codes : List Nat) (f : Dev → Dev) (d : Dev) : Dev :=
  let code := lowestCode codes
  if code = E_OK then f d else d.respond r code []

/-- The code of a payload length. -/
def MgmtReq.lenCode (r : MgmtReq) (n : Nat) : Nat := if r.payload.length = n then E_OK else E_LEN

/-- The code of a command outside its modes. -/
def modeCodeOf (ok : Bool) : Nat := if ok then E_OK else E_PERM

/-- A payload byte. -/
def MgmtReq.byte (r : MgmtReq) (i : Nat) : Nat := (r.payload.getD i 0).toNat

/-- NOP. -/
def Dev.mgmtNop (r : MgmtReq) (d : Dev) : Dev := d.reqCodes r [r.lenCode 0] (fun d => d.respond r E_OK [])

/-- The 16 bytes of STATUS. -/
def Dev.statusBytes (d : Dev) : List Byte :=
  leBytes 1 (modeCode d.mode) ++ leBytes 1 (d.fld Fld.SYS_MODE_PREV) ++ beBytes 2 (d.fld Fld.SYS_MODE_CAUSE) ++ beBytes 2 d.sys.detail ++
    beBytes 4 (d.rd Reg.SYS_WAKE).toNat ++ leBytes 1 (d.fld Fld.MGT_STATUS_HOLDER) ++ leBytes 1 d.mgmt.notices.length ++
    beBytes 4 (d.rd Reg.LDR_STATE).toNat

/-- STATUS. -/
def Dev.mgmtStatus (r : MgmtReq) (d : Dev) : Dev := d.reqCodes r [r.lenCode 0] (fun d => d.respond r E_OK d.statusBytes)

/-- A notice as it is sent (R471). -/
def Notice.bytes (n : Notice) : List Byte :=
  leBytes 1 n.kind ++ leBytes 1 (b2n (n.lost ≠ 0) + 2 * b2n n.inj) ++ beBytes 2 n.lost ++
    (if n.kind = 3 then leBytes 2 n.source ++ beBytes 2 n.cause ++ beBytes 2 n.arg ++ [0, 0]
     else beBytes 2 n.source ++ [0, 0] ++ beBytes 4 n.arg) ++ beBytes 4 n.cal

/-- NOTICE_FETCH: the oldest notices leave. -/
def Dev.noticeFetch (r : MgmtReq) (d : Dev) : Dev :=
  d.reqCodes r [r.lenCode 1, if within 1 32 (r.byte 0) then E_OK else E_LEN] (fun d =>
    let out := d.mgmt.notices.take (r.byte 0)
    let rest := d.mgmt.notices.drop (r.byte 0)
    let was := d.irqAsserted
    ((({ d with mgmt := { d.mgmt with notices := rest } }).put Fld.MGT_STATUS_NOTICES rest.length).showIrq was).respond r E_OK
      (out.map Notice.bytes).flatten)

/-- CAL_READ. -/
def Dev.calRead (r : MgmtReq) (d : Dev) : Dev :=
  d.reqCodes r [r.lenCode 0] (fun d =>
    d.respond r E_OK (beBytes 5 (d.pair Fld.TB_CAL_SEC_LO_SEC Fld.TB_CAL_SEC_HI_SEC) ++ beBytes 2 (d.fld Fld.TB_CAL_SUB) ++
      leBytes 1 (bits (d.regShow .mgmt Reg.TB_CAL_STATUS).toNat 31 24)))

/-- WAKE. -/
def Dev.mgmtWake (r : MgmtReq) (d : Dev) : Dev :=
  d.reqCodes r [r.lenCode 0, modeCodeOf (d.mode = .doze || d.mode = .sleep)] (fun d => (d.wake 6 0 true).respond r E_OK [])

/-- RESET: a HELD cause; the response stays ready across it. -/
def Dev.mgmtReset (r : MgmtReq) (d : Dev) : Dev :=
  d.reqCodes r [r.lenCode 0, modeCodeOf (d.mode ≠ .held && d.mode ≠ .limp)] (fun d => (d.respond r E_OK []).resetOp .mgmt)

/-- FORCE_SAFE. -/
def Dev.mgmtForceSafe (r : MgmtReq) (d : Dev) : Dev :=
  d.reqCodes r [r.lenCode 1, if r.byte 0 < 8 then E_OK else E_VERSION, modeCodeOf d.inService] (fun d =>
    (d.forceSafe .mgmt (r.byte 0)).respond r E_OK [])

/-- LEASE: byte 0 is 1 for TAKE, 2 for RELEASE. -/
def Dev.mgmtLease (r : MgmtReq) (d : Dev) : Dev :=
  let op := r.byte 0
  let code := if op = 1 then d.takeCode 2 else if op = 2 then d.releaseCode 2 else E_VERSION
  d.reqCodes r [r.lenCode 1, code] (fun d =>
    let d := if op = 1 then d.leaseTake 2 else d.leaseRelease 2
    d.respond r E_OK (leBytes 1 (d.fld Fld.MGT_STATUS_HOLDER)))

/-! ### Block access (R470) -/

/-- Whether an access of `len` bytes at a fabric address has a size and alignment its target takes. -/
def blockSizeOk (write : Bool) (addr len : Nat) : Bool :=
  let off := fabricOff addr
  within 4 4096 len &&
    (if fabricNode addr ≠ 0 then (len = 4 || len = 8 || len = 16) && off % len = 0
     else
       match fabricSpace addr with
       | 1 => len % 8 = 0 && off % 8 = 0 && (!write || (len = 8 && off % 16 = 0))
       | 4 => len % 8 = 0 && off % 8 = 0
       | _ => len % 4 = 0 && off % 4 = 0)

/-- Why the target of a block access, by its place and the mode, does not take it. -/
def Dev.blockTargetCode (d : Dev) (write : Bool) (addr len : Nat) : Nat :=
  let node := fabricNode addr
  let space := fabricSpace addr
  let off := fabricOff addr
  let stage := d.mode = .configure || d.mode = .loader
  let may : Bool :=
    if node = 0 then
      match space with
      | 0 => d.inService || stage || (d.mode = .doze && off + len ≤ 0x100000)
      | 1 => d.inService
      | 2 => stage
      | 4 => d.inService && !write
      | _ => false
    else if node = 63 then d.inService && write && (space = 0 || space = 3 || space = 4)
    else d.inService && space ≤ 4
  lowestCode [if may then E_OK else E_PERM, if node = 0 then rangeCode space off len else E_OK, d.nodeCode node]

/-- BLOCK_READ. A read of a ring node executes until the read completes (R280). -/
def Dev.blockRead (r : MgmtReq) (d : Dev) : Dev :=
  let addr := beNat (bytesAt r.payload 0 5)
  let n := beNat (bytesAt r.payload 6 2)
  match d.mgmt.ringResult with
  | some (code, bs) => d.respond r code bs
  | none =>
    if d.drv.reads.any (fun x => x.by_ = .mgmt) then d
    else
      d.reqCodes r [r.lenCode 8, if r.byte 5 = 0 then E_OK else E_VERSION, if blockSizeOk false addr n then E_OK else E_SIZE,
          d.blockTargetCode false addr n] (fun d =>
        if fabricNode addr = 0 then
          let x := d.node0Read .mgmt (fabricSpace addr) (fabricOff addr) n
          x.2.respond r E_OK x.1
        else d.readIssue (fabricNode addr) (fabricSpace addr) (sizeOf' n) (fabricOff addr) .mgmt)

/-- Whether a block write waits for room in the queues of its ring nodes (R282). -/
def Dev.blockHeld (d : Dev) (addr : Nat) : Bool :=
  if fabricNode addr = 0 then false
  else if fabricNode addr = 63 then d.members.any (fun n => d.ringFull n)
  else d.ringFull (fabricNode addr)

/-- BLOCK_WRITE; `rivals`: the writes of the same store cycle on a slot it writes (R70). -/
def Dev.blockWrite (rivals : List StoreReq) (r : MgmtReq) (d : Dev) : Dev :=
  let addr := beNat (bytesAt r.payload 0 5)
  let bs := r.payload.drop 8
  let n := bs.length
  let space := fabricSpace addr
  let off := fabricOff addr
  let leased := fabricNode addr ≠ 0 || space = 1 || (space = 0 && leasableWords .mgmt off bs (n / 4))
  let slot := Fin.ofNat 131072 (off / 16)
  d.reqCodes r [if r.payload.length < 8 then E_LEN else E_OK, if beNat (bytesAt r.payload 5 3) = 0 then E_OK else E_VERSION,
      if blockSizeOk true addr n then E_OK else E_SIZE, d.blockTargetCode true addr n,
      if leased && !d.leaseOk .mgmt then E_PERM else E_OK] (fun d =>
    if d.blockHeld addr then d
    else
      let d := if leased then d.leaseTo .mgmt else d
      if fabricNode addr = 63 then (d.enqueueAll space (sizeOf' n) off bs none).respond r E_OK []
      else if fabricNode addr ≠ 0 then (d.enqueue (fabricNode addr) ⟨.write space (sizeOf' n) off bs, none⟩).respond r E_OK []
      else
        match space with
        | 0 => (Dev.regBlockWrite .mgmt off bs (n / 4) d).respond r E_OK []
        | 1 =>
          (d.storeWrite ⟨.mgmt, slot, tagged40 (leNat (bytesAt bs 0 8)), none⟩ rivals).respond r (d.storeCode .mgmt slot.val) []
        | _ => (d.stageWrite off bs).respond r E_OK [])

/-! ### Recorder, attestation, OTP (R412, R405, R472) -/

/-- The modes of REC_EXPORT and ATTEST, and HALT (R458, R469). -/
def Dev.sealedCode (d : Dev) : Nat :=
  modeCodeOf ((d.inService || d.mode = .configure) && !d.flag Fld.SYS_STATUS_HALT)

/-- REC_EXPORT: a log sector's plaintext; the host's selector stays. -/
def Dev.mgmtExport (r : MgmtReq) (d : Dev) : Dev :=
  let s := d.sectorOf (beNat (bytesAt r.payload 0 8))
  d.reqCodes r [r.lenCode 8, d.sealedCode, if s.isSome then E_OK else E_PERM] (fun d =>
    d.respond r E_OK ((s.map Sector.plain).getD []))

/-- ATTEST: the attestation report over the nonce; E_PERM while the DRBG is stopped (R395). It waits for a job on the ML-DSA engine. -/
def Dev.mgmtAttest (r : MgmtReq) (d : Dev) : Dev :=
  d.reqCodes r [r.lenCode 32, d.sealedCode, d.drbgCode] (fun d =>
    if d.pqTaken then d
    else
      let (code, rep, d) := d.attest r.payload
      (d.pqCode code).respond r code (if code = E_OK then rep else []))

/-- The modes of the OTP commands. -/
def Dev.otpCode (d : Dev) (die : Nat) : Nat :=
  lowestCode [if die < 2 then E_OK else E_VERSION, modeCodeOf ((d.mode = .run || d.mode = .degraded || d.mode = .factory) && d.hasLoads)]

/-- GLOBAL or a CH word as the die's OTP reads now; while the link is down, as its mirror does. -/
def Dev.otpRead (d : Dev) (k w : Nat) : Nat :=
  if d.linkUp k then
    if w = 0 then setBits (d.otpWord k 0) 19 19 (b2n ((List.range 13).any (fun i => d.loads.otpBad.contains (13 * k + i))))
    else d.otpWord k w
  else if w = 0 then d.fld (Fld.LS_OTP_GLOBAL k)
  else d.fld (Fld.LS_OTP_CH k (w - 1))

/-- OTP_READ. -/
def Dev.mgmtOtpRead (r : MgmtReq) (d : Dev) : Dev :=
  let k := r.byte 0
  d.reqCodes r [r.lenCode 1, d.otpCode k] (fun d =>
    d.respond r E_OK ((List.range 13).map (fun w => leBytes 4 (d.otpRead k w))).flatten)

/-- Whether a value has only bits that an OTP word holds (R375). -/
def otpFits (w v : Nat) : Bool := if w = 0 then v % 2 ^ 20 = 0 else v % 2 ^ 8 = 0

/-- The conditions of OTP_PROG (R472). -/
def Dev.otpMayProg (d : Dev) (k w : Nat) : Bool :=
  d.linkUp k && !(d.die k).inLimp && w ≤ 12 && !bit (d.otpRead k 0) 20 && !d.loads.otpDone.contains (13 * k + w) &&
    (List.range 12).all (fun i => !d.flag (Fld.LS_CH_CMD_ON (12 * k + i)) && (d.dieCh (12 * k + i)).pulse.isNone)

/-- OTP_PROG: whether the word reads back as programmed, and what it reads as otherwise, is free. -/
def Dev.mgmtOtpProg (r : MgmtReq) (d : Dev) : Dev :=
  let k := r.byte 0
  let w := r.byte 1
  let v := beNat (bytesAt r.payload 4 4)
  d.reqCodes r [r.lenCode 8, d.otpCode k, if beNat (bytesAt r.payload 2 2) = 0 && otpFits w v then E_OK else E_VERSION,
      modeCodeOf (d.otpMayProg k w)] (fun d =>
    let (i, d) := d.draw
    let read := if Config.free i = 0 then v else Config.free (i + 1) % 2 ^ 32
    let x := d.draw.2
    let x := { x with loads := { x.loads with
      otp := Tab.set (fun _ => 0) x.loads.otp (13 * k + w) (BitVec.ofNat 32 read)
      otpDone := (13 * k + w) :: x.loads.otpDone
      otpBad := if read = v then x.loads.otpBad else (13 * k + w) :: x.loads.otpBad } }
    x.respond r (if read = v then E_OK else E_AUTH) [])

/-! ### Provisioning (R473 to R475) -/

/-- OWNER_DIGEST: written once; KS1 is derived from it. -/
def Dev.mgmtOwner (r : MgmtReq) (d : Dev) : Dev :=
  d.reqCodes r [r.lenCode 32, modeCodeOf ((d.mode = .loader || d.mode = .configure) && !d.flag Fld.SYS_STATUS_HALT),
      if d.sec.ownerDigest.isSome || r.payload = List.replicate 32 0xFF then E_PERM else E_OK] (fun d =>
    (({ d with sec := { d.sec with ownerDigest := some r.payload } }).deriveOwner).respond r E_OK [])

/-- Whether the token commands are open: a LOADER entered with cause 0x000A. -/
def Dev.tokenOpen (d : Dev) : Bool := d.mode = .loader && d.mgmt.ldrCause = 0x000A

/-- TOKEN_NONCE. -/
def Dev.mgmtNonce (r : MgmtReq) (d : Dev) : Dev :=
  d.reqCodes r [r.lenCode 0, modeCodeOf d.tokenOpen] (fun d => d.respond r E_OK (d.mgmt.tokenNonce.getD []))

/-- The first check of R475 that a token fails, ahead of its signature. -/
def Dev.tokenCode (d : Dev) (p : List Byte) : Nat :=
  if p.length ≠ 3405 then E_LEN
  else if leNat (bytesAt p 0 4) ≠ 0x46544B4E || leNat (bytesAt p 4 2) ≠ 1 || leNat (bytesAt p 6 2) ≠ 0 || leNat (bytesAt p 0x40 32) ≠ 0 then E_VERSION
  else if bytesAt p 8 16 ≠ d.sec.deviceId then E_PERM
  else if some (bytesAt p 0x18 32) ≠ d.mgmt.tokenNonce then E_AUTH
  else E_OK

/-- FACTORY_TOKEN: a refused token draws a new nonce; an accepted one starts CONFIGURE on the factory path. -/
def Dev.mgmtToken (r : MgmtReq) (d : Dev) : Dev :=
  if !d.tokenOpen then d.respond r (lowestCode [r.lenCode 3405, E_PERM]) []
  else
    let code := d.tokenCode r.payload
    let (ok, d) := if code = E_OK then d.verifyJob Config.factoryKey (ascii "RLNF" ++ r.payload.take 96) (r.payload.drop 96) else (false, d)
    let code := if code = E_OK && !ok then E_AUTH else code
    if code = E_OK then
      let d := d.respond r E_OK []
      { d with sys := { d.sys with startup := some 0x000B } }
    else
      let (n, d) := (d.raise 27).randomBytes 32
      ({ d with mgmt := { d.mgmt with tokenNonce := some n } }).respond r code []

/-! ### The commands -/

/-- Executes the request in execution where its CMD is `c`. -/
def Dev.serve (c : Nat) (f : MgmtReq → Dev → Dev) (d : Dev) : Dev :=
  match d.mgmt.executing with
  | some r => if r.cmd = c && d.portUp then f r d else d
  | none => d

/-- MGMT_NOP. -/
def execMgmtNop (s : State) : Out := run (Dev.serve 0x00 Dev.mgmtNop) s

/-- MGMT_STATUS. -/
def execMgmtStatus (s : State) : Out := run (Dev.serve 0x01 Dev.mgmtStatus) s

/-- NOTICE_FETCH. -/
def execNoticeFetch (s : State) : Out := run (Dev.serve 0x02 Dev.noticeFetch) s

/-- CAL_READ. -/
def execCalRead (s : State) : Out := run (Dev.serve 0x03 Dev.calRead) s

/-- MGMT_WAKE. -/
def execMgmtWake (s : State) : Out := run (Dev.serve 0x04 Dev.mgmtWake) s

/-- MGMT_RESET. -/
def execMgmtReset (s : State) : Out := run (Dev.serve 0x05 Dev.mgmtReset) s

/-- MGMT_FORCE_SAFE. -/
def execMgmtForceSafe (s : State) : Out := run (Dev.serve 0x06 Dev.mgmtForceSafe) s

/-- MGMT_LEASE_TAKE: a LEASE request whose byte 0 is not RELEASE. -/
def execMgmtLeaseTake (s : State) : Out :=
  run (Dev.serve 0x07 (fun r d => if r.byte 0 = 2 then d else d.mgmtLease r)) s

/-- MGMT_LEASE_RELEASE: a LEASE request whose byte 0 is not TAKE. -/
def execMgmtLeaseRelease (s : State) : Out :=
  run (Dev.serve 0x07 (fun r d => if r.byte 0 = 1 then d else d.mgmtLease r)) s

/-- HOST_LEASE_TAKE; of two TAKE requests in one cycle the management port's wins, so its request is served first (R478). -/
def execHostLeaseTake (rival : Bool) (s : State) : Out :=
  run (fun d =>
    let d := if rival then d.serve 0x07 (fun r d => if r.byte 0 = 1 then d.mgmtLease r else d) else d
    d.writeAs .host Reg.MGT_LEASE 0x7C000001 (Dev.leaseWrite .host 0x7C000001)) s

/-- BLOCK_READ. -/
def execBlockRead (s : State) : Out := run (Dev.serve 0x10 Dev.blockRead) s

/-- BLOCK_WRITE. -/
def execBlockWrite (rivals : List StoreReq) (s : State) : Out := run (Dev.serve 0x11 (Dev.blockWrite rivals)) s

/-- REC_EXPORT. -/
def execRecExport (s : State) : Out := run (Dev.serve 0x20 Dev.mgmtExport) s

/-- MGMT_ATTEST. -/
def execMgmtAttest (s : State) : Out := run (Dev.serve 0x21 Dev.mgmtAttest) s

/-- OTP_READ. -/
def execOtpRead (s : State) : Out := run (Dev.serve 0x30 Dev.mgmtOtpRead) s

/-- OTP_PROG. -/
def execOtpProg (s : State) : Out := run (Dev.serve 0x31 Dev.mgmtOtpProg) s

/-- OWNER_DIGEST. -/
def execOwnerDigest (s : State) : Out := run (Dev.serve 0x40 Dev.mgmtOwner) s

/-- TOKEN_NONCE. -/
def execTokenNonce (s : State) : Out := run (Dev.serve 0x41 Dev.mgmtNonce) s

/-- FACTORY_TOKEN. -/
def execFactoryToken (s : State) : Out := run (Dev.serve 0x42 Dev.mgmtToken) s

/-- A block access that waits for the ring goes on. -/
def Dev.mgmtGo (d : Dev) : Dev :=
  (d.serve 0x10 Dev.blockRead).serve 0x11 (fun r d =>
    d.onlyIf (fabricNode (beNat (bytesAt r.payload 0 5)) ≠ 0) (Dev.blockWrite [] r))

end Sys2Proof.Machine
end

