-- ==== Sys2Proof/Machine/RingCmds.lean ====
section
/-! DEFINITION. The commands that move frames on the ring (chapter 08). After each, the host's and the management port's accesses
that waited for the ring go on. -/

namespace Sys2Proof.Machine

/-- Accesses that waited for the ring go on (R282, R312, R470). -/
def Dev.ringGo (d : Dev) : Dev := d.bridgeGo.mgmtGo

/-- Whether a lane receives: the ring runs, the lane is used and has link, its crossing is not reset on one side. -/
def Dev.laneTakes (d : Dev) (lane : Nat) : Bool :=
  d.ringRuns && d.laneUsed lane && d.flag (laneFld lane) && !d.halfReset (1 + lane)

/-- RING_FRAME_RECEIVE: the checks of R298, then what the frame brings. `full`: the lane's receive buffer has no room for the frame,
which is discarded whole (R298, log entry 181). A frame caught partly across the crossing in a half-reset of the lane is discarded and
counted as a receive error (R442). -/
def execRingFrameReceive (lane : Fin 2) (bytes : List Byte) (fcs : Word) (codeOk full : Bool) (age : BitVec 40) (rivals : List StoreReq)
    (s : State) : Out :=
  run (fun d =>
    if d.ringRuns && d.laneUsed lane.val && d.caught (1 + lane.val) (age.toNat / 1000) then d.bump (laneErr lane.val)
    else d.onlyIf (d.laneTakes lane.val) (fun d =>
    if full then d.bump (if lane = 0 then Fld.RING_LANEA_OVF else Fld.RING_LANEB_OVF)
    else (d.ringReceive lane.val bytes fcs codeOk age.toNat rivals).ringGo)) s

/-- RING_BEACON_SEND: the start of a ring cycle (R284). -/
def execRingBeaconSend (s : State) : Out := run (fun d => d.ringCycle.ringGo) s

/-- RING_READ_ISSUE: the read at the head of a node's queue is sent (R280). -/
def execRingReadIssue (n : Fin 63) (s : State) : Out :=
  run (fun d => d.onlyIf d.ringRuns (fun d => (d.readSend n.val).ringGo)) s

/-- RING_READ_TIMEOUT: the read whose timeout expired first ends (R280). -/
def execRingReadTimeout (s : State) : Out := run (fun d => d.readTimeout.ringGo) s

/-- RING_WRITE_SEND: the write at the head of a node's queue goes; node 63 names the oldest broadcast (R281). -/
def execRingWriteSend (n : Fin 64) (s : State) : Out :=
  run (fun d => d.onlyIf d.ringRuns (fun d => (if n.val = 63 then d.bcastSend else d.writeSend n.val).ringGo)) s

end Sys2Proof.Machine
end

