-- ==== Sys2Proof/Machine/Dispatch.lean ====
section
/-! DEFINITION. The dispatch: one arm per command, each a direct call of the command's meaning. -/

namespace Sys2Proof.Machine

def exec (i : Instr) (s : State) : Host.Outcome State Fault Refusal :=
  match i with
  | .registerWrite p a v => Sys2Proof.Machine.execRegisterWrite p a v s
  | .readClear p a => Sys2Proof.Machine.execReadClear p a s
  | .lowRegisterRead p a => Sys2Proof.Machine.execLowRegisterRead p a s
  | .highRegisterWrite p a v => Sys2Proof.Machine.execHighRegisterWrite p a v s
  | .lowRegisterCommit p a v => Sys2Proof.Machine.execLowRegisterCommit p a v s
  | .pairAccess64 p a w => Sys2Proof.Machine.execPairAccess64 p a w s
  | .apply p w => Sys2Proof.Machine.execApply p w s
  | .imageApplyDone stored => Sys2Proof.Machine.execImageApplyDone stored s
  | .partStageWrite p a v => Sys2Proof.Machine.execPartStageWrite p a v s
  | .partSubmit p w => Sys2Proof.Machine.execPartSubmit p w s
  | .partialAdd => Sys2Proof.Machine.execPartialAdd s
  | .partialRemove => Sys2Proof.Machine.execPartialRemove s
  | .partialRemoveUndefine rivals => Sys2Proof.Machine.execPartialRemoveUndefine rivals s
  | .partialRefused => Sys2Proof.Machine.execPartialRefused s
  | .hostSlotWrite n w rivals => Sys2Proof.Machine.execHostSlotWrite n w rivals s
  | .routeEventDelivery => Sys2Proof.Machine.execRouteEventDelivery s
  | .staleMarking n rivals => Sys2Proof.Machine.execStaleMarking n rivals s
  | .nodeLeaveMark rivals => Sys2Proof.Machine.execNodeLeaveMark rivals s
  | .consumingRead p n rivals => Sys2Proof.Machine.execConsumingRead p n rivals s
  | .eventStart e t => Sys2Proof.Machine.execEventStart e t s
  | .doorbell p e v => Sys2Proof.Machine.execDoorbell p e v s
  | .threadTimerExpiry e t => Sys2Proof.Machine.execThreadTimerExpiry e t s
  | .rateTokenRefill e k => Sys2Proof.Machine.execRateTokenRefill e k s
  | .trailTimerExpiry e k => Sys2Proof.Machine.execTrailTimerExpiry e k s
  | .sliceDemotion e t => Sys2Proof.Machine.execSliceDemotion e t s
  | .budgetOverrun e t => Sys2Proof.Machine.execBudgetOverrun e t s
  | .engineJobComplete e t => Sys2Proof.Machine.execEngineJobComplete e t s
  | .assemblyBufferGrant e t => Sys2Proof.Machine.execAssemblyBufferGrant e t s
  | .engLoadUpdate e => Sys2Proof.Machine.execEngLoadUpdate e s
  | .nop e t => Sys2Proof.Machine.execNop e t s
  | .mov e t d a => Sys2Proof.Machine.execMov e t d a s
  | .movi e t d imm => Sys2Proof.Machine.execMovi e t d imm s
  | .movu e t d imm => Sys2Proof.Machine.execMovu e t d imm s
  | .add e t d a b => Sys2Proof.Machine.execAdd e t d a b s
  | .sub e t d a b => Sys2Proof.Machine.execSub e t d a b s
  | .mul e t d a b => Sys2Proof.Machine.execMul e t d a b s
  | .scale e t d a m signed trunc sh => Sys2Proof.Machine.execScale e t d a m signed trunc sh s
  | .divu e t d a b => Sys2Proof.Machine.execDivu e t d a b s
  | .and e t d a b => Sys2Proof.Machine.execAnd e t d a b s
  | .or e t d a b => Sys2Proof.Machine.execOr e t d a b s
  | .xor e t d a b => Sys2Proof.Machine.execXor e t d a b s
  | .shl e t d a b => Sys2Proof.Machine.execShl e t d a b s
  | .shr e t d a b => Sys2Proof.Machine.execShr e t d a b s
  | .sar e t d a b => Sys2Proof.Machine.execSar e t d a b s
  | .min e t d a b signed => Sys2Proof.Machine.execMin e t d a b signed s
  | .max e t d a b signed => Sys2Proof.Machine.execMax e t d a b signed s
  | .cmp e t a b => Sys2Proof.Machine.execCmp e t a b s
  | .sel e t d a b cond => Sys2Proof.Machine.execSel e t d a b cond s
  | .tagdn e t d a x => Sys2Proof.Machine.execTagdn e t d a x s
  | .tagrd e t d a => Sys2Proof.Machine.execTagrd e t d a s
  | .ext e t d a signed lenm1 => Sys2Proof.Machine.execExt e t d a signed lenm1 s
  | .lds e t d a imm => Sys2Proof.Machine.execLds e t d a imm s
  | .sts e t d a cap imm rivals => Sys2Proof.Machine.execSts e t d a cap imm rivals s
  | .age e t d a imm => Sys2Proof.Machine.execAge e t d a imm s
  | .ldw e t d a imm => Sys2Proof.Machine.execLdw e t d a imm s
  | .stw e t d a imm => Sys2Proof.Machine.execStw e t d a imm s
  | .ldt e t d a imm => Sys2Proof.Machine.execLdt e t d a imm s
  | .stt e t d a imm => Sys2Proof.Machine.execStt e t d a imm s
  | .ldh e t d field => Sys2Proof.Machine.execLdh e t d field s
  | .lkup e t d a frameKey table => Sys2Proof.Machine.execLkup e t d a frameKey table s
  | .unpk e t d a base => Sys2Proof.Machine.execUnpk e t d a base s
  | .unpks e t a base rivals => Sys2Proof.Machine.execUnpks e t a base rivals s
  | .pack e t d a h base => Sys2Proof.Machine.execPack e t d a h base s
  | .packs e t a h base => Sys2Proof.Machine.execPacks e t a h base s
  | .txopen e t h tmpl => Sys2Proof.Machine.execTxopen e t h tmpl s
  | .txsend e t a h => Sys2Proof.Machine.execTxsend e t a h s
  | .port13CreditTimeout e t => Sys2Proof.Machine.execPort13CreditTimeout e t s
  | .rate e t k => Sys2Proof.Machine.execRate e t k s
  | .fresh e t a h entry => Sys2Proof.Machine.execFresh e t a h entry s
  | .macgen e t a h entry => Sys2Proof.Machine.execMacgen e t a h entry s
  | .macver e t a entry => Sys2Proof.Machine.execMacver e t a entry s
  | .fld e t d a b => Sys2Proof.Machine.execFld e t d a b s
  | .fst e t d a b => Sys2Proof.Machine.execFst e t d a b s
  | .post e t a te tt => Sys2Proof.Machine.execPost e t a te tt s
  | .arm e t a code periodic => Sys2Proof.Machine.execArm e t a code periodic s
  | .qput e t a b q => Sys2Proof.Machine.execQput e t a b q s
  | .br e t cond target => Sys2Proof.Machine.execBr e t cond target s
  | .call e t target => Sys2Proof.Machine.execCall e t target s
  | .ret e t => Sys2Proof.Machine.execRet e t s
  | .jr e t a => Sys2Proof.Machine.execJr e t a s
  | .yield e t => Sys2Proof.Machine.execYield e t s
  | .done e t => Sys2Proof.Machine.execDone e t s
  | .trap e t arg => Sys2Proof.Machine.execTrap e t arg s
  | .tdLoad p dom => Sys2Proof.Machine.execTdLoad p dom s
  | .tdRate p dom => Sys2Proof.Machine.execTdRate p dom s
  | .tdAdj p dom => Sys2Proof.Machine.execTdAdj p dom s
  | .lockSet p dom => Sys2Proof.Machine.execLockSet p dom s
  | .lockClr p dom => Sys2Proof.Machine.execLockClr p dom s
  | .gptpFrameReceive port domainNumber msg => Sys2Proof.Machine.execGptpFrameReceive port domainNumber msg s
  | .syncLoss dom => Sys2Proof.Machine.execSyncLoss dom s
  | .sysSelect p sel => Sys2Proof.Machine.execSysSelect p sel s
  | .sysSelectEffect => Sys2Proof.Machine.execSysSelectEffect s
  | .sysRestart p => Sys2Proof.Machine.execSysRestart p s
  | .slewEnd => Sys2Proof.Machine.execSlewEnd s
  | .txTimestamp port hostReq queue tag => Sys2Proof.Machine.execTxTimestamp port hostReq queue tag s
  | .tsqRead p port => Sys2Proof.Machine.execTsqRead p port s
  | .snapshot p => Sys2Proof.Machine.execSnapshot p s
  | .ppsEdge k => Sys2Proof.Machine.execPpsEdge k s
  | .captureEdge idx rising delay => Sys2Proof.Machine.execCaptureEdge idx rising delay s
  | .captureRead p idx => Sys2Proof.Machine.execCaptureRead p idx s
  | .calWrite p => Sys2Proof.Machine.execCalWrite p s
  | .calLoad => Sys2Proof.Machine.execCalLoad s
  | .calReadLatch p => Sys2Proof.Machine.execCalReadLatch p s
  | .tampClr p => Sys2Proof.Machine.execTampClr p s
  | .calendarAlarm => Sys2Proof.Machine.execCalendarAlarm s
  | .oscStop => Sys2Proof.Machine.execOscStop s
  | .encoderEdge enc step delay => Sys2Proof.Machine.execEncoderEdge enc step delay s
  | .zResync enc rising delay => Sys2Proof.Machine.execZResync enc rising delay s
  | .stallTimeout dom => Sys2Proof.Machine.execStallTimeout dom s
  | .phaseSourceUpdate dom => Sys2Proof.Machine.execPhaseSourceUpdate dom s
  | .preset p dom => Sys2Proof.Machine.execPreset p dom s
  | .actionRearm p a w => Sys2Proof.Machine.execActionRearm p a w s
  | .actionCrossing dom => Sys2Proof.Machine.execActionCrossing dom s
  | .actionDispatch dom => Sys2Proof.Machine.execActionDispatch dom s
  | .pulseEnd load line => Sys2Proof.Machine.execPulseEnd load line s
  | .dcmdSend a => Sys2Proof.Machine.execDcmdSend a s
  | .dioInputAccept line level stable rivals => Sys2Proof.Machine.execDioInputAccept line level stable rivals s
  | .dioOutWrite p r v => Sys2Proof.Machine.execDioOutWrite p r v s
  | .dioWakeQualify line rising ticks => Sys2Proof.Machine.execDioWakeQualify line rising ticks s
  | .canFrameReceive n f => Sys2Proof.Machine.execCanFrameReceive n f s
  | .canBusError n err step xlData => Sys2Proof.Machine.execCanBusError n err step xlData s
  | .busOffRecovery n seqs => Sys2Proof.Machine.execBusOffRecovery n seqs s
  | .protocolException n xl step => Sys2Proof.Machine.execProtocolException n xl step s
  | .timingSelWrite p n sel => Sys2Proof.Machine.execTimingSelWrite p n sel s
  | .timingSwitch n => Sys2Proof.Machine.execTimingSwitch n s
  | .listenWrite p n listen => Sys2Proof.Machine.execListenWrite p n listen s
  | .listenEffect n => Sys2Proof.Machine.execListenEffect n s
  | .canTxStart n => Sys2Proof.Machine.execCanTxStart n s
  | .canTxSuccess n => Sys2Proof.Machine.execCanTxSuccess n s
  | .arbitrationLost n => Sys2Proof.Machine.execArbitrationLost n s
  | .cycleStart n => Sys2Proof.Machine.execCycleStart n s
  | .windowStart n => Sys2Proof.Machine.execWindowStart n s
  | .windowEnd n => Sys2Proof.Machine.execWindowEnd n s
  | .refTimeout n => Sys2Proof.Machine.execRefTimeout n s
  | .winDataWrite p n v => Sys2Proof.Machine.execWinDataWrite p n v s
  | .cycleWrite p n v => Sys2Proof.Machine.execCycleWrite p n v s
  | .canWakeMatch n ide id byte0 => Sys2Proof.Machine.execCanWakeMatch n ide id byte0 s
  | .injectGo p n => Sys2Proof.Machine.execInjectGo p n s
  | .ethFrameReceive port bytes fcs codeOk age => Sys2Proof.Machine.execEthFrameReceive port bytes fcs codeOk age s
  | .cutThroughDecide port head => Sys2Proof.Machine.execCutThroughDecide port head s
  | .admission => Sys2Proof.Machine.execAdmission s
  | .stomp port cause bytes => Sys2Proof.Machine.execStomp port cause bytes s
  | .switchEgressStart port => Sys2Proof.Machine.execSwitchEgressStart port s
  | .switchEgressDone port => Sys2Proof.Machine.execSwitchEgressDone port s
  | .portLinkDown port halfDuplex => Sys2Proof.Machine.execPortLinkDown port halfDuplex s
  | .portLinkUp port speed => Sys2Proof.Machine.execPortLinkUp port speed s
  | .lingerExpiry port => Sys2Proof.Machine.execLingerExpiry port s
  | .fdbAgeOut mac vid => Sys2Proof.Machine.execFdbAgeOut mac vid s
  | .wakePatternMatch port bytes => Sys2Proof.Machine.execWakePatternMatch port bytes s
  | .mdioStart p m w => Sys2Proof.Machine.execMdioStart p m w s
  | .mdioDone m data => Sys2Proof.Machine.execMdioDone m data s
  | .ringFrameReceive lane bytes fcs codeOk full age rivals => Sys2Proof.Machine.execRingFrameReceive lane bytes fcs codeOk full age rivals s
  | .orderGapTimeout n => Sys2Proof.Machine.execOrderGapTimeout n s
  | .ringBeaconSend => Sys2Proof.Machine.execRingBeaconSend s
  | .exportTimer n => Sys2Proof.Machine.execExportTimer n s
  | .ringReadIssue n => Sys2Proof.Machine.execRingReadIssue n s
  | .ringReadTimeout => Sys2Proof.Machine.execRingReadTimeout s
  | .ringWriteSend n => Sys2Proof.Machine.execRingWriteSend n s
  | .joinChallenge => Sys2Proof.Machine.execJoinChallenge s
  | .joinResponseTimeout => Sys2Proof.Machine.execJoinResponseTimeout s
  | .joinVerifyDone rivals => Sys2Proof.Machine.execJoinVerifyDone rivals s
  | .quarantineExpiry n => Sys2Proof.Machine.execQuarantineExpiry n s
  | .quarClr p n => Sys2Proof.Machine.execQuarClr p n s
  | .laneLinkChange lane up => Sys2Proof.Machine.execLaneLinkChange lane up s
  | .hostRead bar off len whole => Sys2Proof.Machine.execHostRead bar off len whole s
  | .hostWrite bar off data whole => Sys2Proof.Machine.execHostWrite bar off data whole s
  | .bridgeLogRead p => Sys2Proof.Machine.execBridgeLogRead p s
  | .versionOffer p q offer => Sys2Proof.Machine.execVersionOffer p q offer s
  | .queueEnable p q => Sys2Proof.Machine.execQueueEnable p q s
  | .queueDisable p q => Sys2Proof.Machine.execQueueDisable p q s
  | .recordStart q => Sys2Proof.Machine.execRecordStart q s
  | .recordFinish q => Sys2Proof.Machine.execRecordFinish q s
  | .d2hConsWrite p q v => Sys2Proof.Machine.execD2hConsWrite p q v s
  | .dropRest p q => Sys2Proof.Machine.execDropRest p q s
  | .qputTimeout e t => Sys2Proof.Machine.execQputTimeout e t s
  | .h2dDoorbell p q v => Sys2Proof.Machine.execH2dDoorbell p q v s
  | .descriptorFetched q desc data heads => Sys2Proof.Machine.execDescriptorFetched q desc data heads s
  | .port12FrameEntry q => Sys2Proof.Machine.execPort12FrameEntry q s
  | .descriptorRetire q => Sys2Proof.Machine.execDescriptorRetire q s
  | .holdoffExpiry q => Sys2Proof.Machine.execHoldoffExpiry q s
  | .msixUnmask p v => Sys2Proof.Machine.execMsixUnmask p v s
  | .bridgeReset cause => Sys2Proof.Machine.execBridgeReset cause s
  | .busMasterChange on mps mrrs => Sys2Proof.Machine.execBusMasterChange on mps mrrs s
  | .loadCommandWrite p n r v => Sys2Proof.Machine.execLoadCommandWrite p n r v s
  | .latchClear p n w => Sys2Proof.Machine.execLatchClear p n w s
  | .overcurrentTrip n code => Sys2Proof.Machine.execOvercurrentTrip n code s
  | .fastTrip n code => Sys2Proof.Machine.execFastTrip n code s
  | .overtempShutdown n => Sys2Proof.Machine.execOvertempShutdown n s
  | .inrushEnd n => Sys2Proof.Machine.execInrushEnd n s
  | .pwmPeriodStart n vbat => Sys2Proof.Machine.execPwmPeriodStart n vbat s
  | .diagCheck n on off vbat => Sys2Proof.Machine.execDiagCheck n on off vbat s
  | .supplyShutdown die isOver => Sys2Proof.Machine.execSupplyShutdown die isOver s
  | .supplyRestart die vbat => Sys2Proof.Machine.execSupplyRestart die vbat s
  | .groundLoss => Sys2Proof.Machine.execGroundLoss s
  | .reverseBattery present => Sys2Proof.Machine.execReverseBattery present s
  | .heartbeat die w => Sys2Proof.Machine.execHeartbeat die w s
  | .setFrame die w => Sys2Proof.Machine.execSetFrame die w s
  | .safeFrame die w => Sys2Proof.Machine.execSafeFrame die w s
  | .clearFrame die w => Sys2Proof.Machine.execClearFrame die w s
  | .readback die w => Sys2Proof.Machine.execReadback die w s
  | .takeover die w => Sys2Proof.Machine.execTakeover die w s
  | .park die w => Sys2Proof.Machine.execPark die w s
  | .statusFrame die w => Sys2Proof.Machine.execStatusFrame die w s
  | .senseFrame die w chs vbat => Sys2Proof.Machine.execSenseFrame die w chs vbat s
  | .stateFrame die w => Sys2Proof.Machine.execStateFrame die w s
  | .linkFrameRetry die => Sys2Proof.Machine.execLinkFrameRetry die s
  | .linkDown die => Sys2Proof.Machine.execLinkDown die s
  | .powerDieHold die => Sys2Proof.Machine.execPowerDieHold die s
  | .holdPolicy die => Sys2Proof.Machine.execHoldPolicy die s
  | .powerDiePowerup die => Sys2Proof.Machine.execPowerDiePowerup die s
  | .powerupTakeoverTimeout die => Sys2Proof.Machine.execPowerupTakeoverTimeout die s
  | .limpEntry => Sys2Proof.Machine.execLimpEntry s
  | .limpNRelease => Sys2Proof.Machine.execLimpNRelease s
  | .lhiFollow pin level => Sys2Proof.Machine.execLhiFollow pin level s
  | .limpLatchClear n => Sys2Proof.Machine.execLimpLatchClear n s
  | .supplyLimitReport => Sys2Proof.Machine.execSupplyLimitReport s
  | .xtsEnc input => Sys2Proof.Machine.execXtsEnc input s
  | .xtsDec input => Sys2Proof.Machine.execXtsDec input s
  | .gcmEnc input aad => Sys2Proof.Machine.execGcmEnc input aad s
  | .gcmDec input aad => Sys2Proof.Machine.execGcmDec input aad s
  | .cmacGen input => Sys2Proof.Machine.execCmacGen input s
  | .cmacVer input => Sys2Proof.Machine.execCmacVer input s
  | .unwrap blob => Sys2Proof.Machine.execUnwrap blob s
  | .wrap input => Sys2Proof.Machine.execWrap input s
  | .derive label => Sys2Proof.Machine.execDerive label s
  | .generate => Sys2Proof.Machine.execGenerate s
  | .random => Sys2Proof.Machine.execRandom s
  | .shake input => Sys2Proof.Machine.execShake input s
  | .mldsaVer message keySig => Sys2Proof.Machine.execMldsaVer message keySig s
  | .mldsaSign message blob => Sys2Proof.Machine.execMldsaSign message blob s
  | .attest nonce => Sys2Proof.Machine.execAttest nonce s
  | .cipherJobDone idx => Sys2Proof.Machine.execCipherJobDone idx s
  | .cphDoneRead p => Sys2Proof.Machine.execCphDoneRead p s
  | .cphLoadUpdate => Sys2Proof.Machine.execCphLoadUpdate s
  | .ksErase p slot => Sys2Proof.Machine.execKsErase p slot s
  | .ksLock p slot => Sys2Proof.Machine.execKsLock p slot s
  | .remaskVisit => Sys2Proof.Machine.execRemaskVisit s
  | .tamperEvent cause => Sys2Proof.Machine.execTamperEvent cause s
  | .rederive => Sys2Proof.Machine.execRederive s
  | .drbgHealthFail => Sys2Proof.Machine.execDrbgHealthFail s
  | .drbgResume => Sys2Proof.Machine.execDrbgResume s
  | .drbgReseed => Sys2Proof.Machine.execDrbgReseed s
  | .recAppend p => Sys2Proof.Machine.execRecAppend p s
  | .recorderWrite => Sys2Proof.Machine.execRecorderWrite s
  | .checkpoint => Sys2Proof.Machine.execCheckpoint s
  | .ckptRequest p => Sys2Proof.Machine.execCkptRequest p s
  | .ckptAgeExpiry => Sys2Proof.Machine.execCkptAgeExpiry s
  | .ckptRetry => Sys2Proof.Machine.execCkptRetry s
  | .checkSectorWritten => Sys2Proof.Machine.execCheckSectorWritten s
  | .recAck p => Sys2Proof.Machine.execRecAck p s
  | .recExportSelect p lo => Sys2Proof.Machine.execRecExportSelect p lo s
  | .faultEvent evs => Sys2Proof.Machine.execFaultEvent evs s
  | .faultWindowClose n => Sys2Proof.Machine.execFaultWindowClose n s
  | .severeClear p k v => Sys2Proof.Machine.execSevereClear p k v s
  | .safeExit p => Sys2Proof.Machine.execSafeExit p s
  | .forceSafe p pattern => Sys2Proof.Machine.execForceSafe p pattern s
  | .holdClear p high v => Sys2Proof.Machine.execHoldClear p high v s
  | .errHoldWrite p hold => Sys2Proof.Machine.execErrHoldWrite p hold s
  | .errminExpiry => Sys2Proof.Machine.execErrminExpiry s
  | .faultInject p src k evs => Sys2Proof.Machine.execFaultInject p src k evs s
  | .halfResetStart g => Sys2Proof.Machine.execHalfResetStart g s
  | .halfResetEnd g => Sys2Proof.Machine.execHalfResetEnd g s
  | .powerOn => Sys2Proof.Machine.execPowerOn s
  | .powerOff => Sys2Proof.Machine.execPowerOff s
  | .vbatValid factoryEn refclk => Sys2Proof.Machine.execVbatValid factoryEn refclk s
  | .vbatUndervoltage => Sys2Proof.Machine.execVbatUndervoltage s
  | .vbatWarning => Sys2Proof.Machine.execVbatWarning s
  | .rstNAssert => Sys2Proof.Machine.execRstNAssert s
  | .rstNRelease factoryEn refclk => Sys2Proof.Machine.execRstNRelease factoryEn refclk s
  | .romCheckDone bad => Sys2Proof.Machine.execRomCheckDone bad s
  | .configureEntry => Sys2Proof.Machine.execConfigureEntry s
  | .sysReset p raced => Sys2Proof.Machine.execSysReset p raced s
  | .sysDoze p raced => Sys2Proof.Machine.execSysDoze p raced s
  | .dozeEntryDone => Sys2Proof.Machine.execDozeEntryDone s
  | .sysSleep p raced => Sys2Proof.Machine.execSysSleep p raced s
  | .sleepPowerDown => Sys2Proof.Machine.execSleepPowerDown s
  | .sysReconfig p raced => Sys2Proof.Machine.execSysReconfig p raced s
  | .sysWake p raced => Sys2Proof.Machine.execSysWake p raced s
  | .dozeReturn => Sys2Proof.Machine.execDozeReturn s
  | .sleepWake => Sys2Proof.Machine.execSleepWake s
  | .hostAbsent => Sys2Proof.Machine.execHostAbsent s
  | .hostAlive p => Sys2Proof.Machine.execHostAlive p s
  | .partialLossClear p => Sys2Proof.Machine.execPartialLossClear p s
  | .lockstepMismatch => Sys2Proof.Machine.execLockstepMismatch s
  | .mgmtRequest frame => Sys2Proof.Machine.execMgmtRequest frame s
  | .mgmtFetch count => Sys2Proof.Machine.execMgmtFetch count s
  | .mgmtSyncError byte0 count => Sys2Proof.Machine.execMgmtSyncError byte0 count s
  | .mgmtTruncated count => Sys2Proof.Machine.execMgmtTruncated count s
  | .mgmtNop => Sys2Proof.Machine.execMgmtNop s
  | .mgmtStatus => Sys2Proof.Machine.execMgmtStatus s
  | .noticeFetch => Sys2Proof.Machine.execNoticeFetch s
  | .calRead => Sys2Proof.Machine.execCalRead s
  | .mgmtWake => Sys2Proof.Machine.execMgmtWake s
  | .mgmtReset => Sys2Proof.Machine.execMgmtReset s
  | .mgmtForceSafe => Sys2Proof.Machine.execMgmtForceSafe s
  | .mgmtLeaseTake => Sys2Proof.Machine.execMgmtLeaseTake s
  | .mgmtLeaseRelease => Sys2Proof.Machine.execMgmtLeaseRelease s
  | .hostLeaseTake rival => Sys2Proof.Machine.execHostLeaseTake rival s
  | .hostLeaseRelease => Sys2Proof.Machine.execHostLeaseRelease s
  | .blockRead => Sys2Proof.Machine.execBlockRead s
  | .blockWrite rivals => Sys2Proof.Machine.execBlockWrite rivals s
  | .recExport => Sys2Proof.Machine.execRecExport s
  | .mgmtAttest => Sys2Proof.Machine.execMgmtAttest s
  | .otpRead => Sys2Proof.Machine.execOtpRead s
  | .otpProg => Sys2Proof.Machine.execOtpProg s
  | .ownerDigest => Sys2Proof.Machine.execOwnerDigest s
  | .tokenNonce => Sys2Proof.Machine.execTokenNonce s
  | .factoryToken => Sys2Proof.Machine.execFactoryToken s
  | .ldrEnter p => Sys2Proof.Machine.execLdrEnter p s
  | .ldrVerify p => Sys2Proof.Machine.execLdrVerify p s
  | .verifyDone => Sys2Proof.Machine.execVerifyDone s
  | .ldrActivate p => Sys2Proof.Machine.execLdrActivate p s
  | .activateDone part => Sys2Proof.Machine.execActivateDone part s
  | .ldrReboot p => Sys2Proof.Machine.execLdrReboot p s
  | .confirmDeadline => Sys2Proof.Machine.execConfirmDeadline s
  | .busIntegration n => Sys2Proof.Machine.execBusIntegration n s
  | .pcieLinkUp speed width => Sys2Proof.Machine.execPcieLinkUp speed width s
  | .linkRecovery die => Sys2Proof.Machine.execLinkRecovery die s
  | .backupSupplyLoss => Sys2Proof.Machine.execBackupSupplyLoss s
  | .syncIntervalTimer dom => Sys2Proof.Machine.execSyncIntervalTimer dom s

end Sys2Proof.Machine
end

