-- ==== Sys2Proof/Machine/Tick.lean ====
section
/-! DEFINITION. One tick of the timing clock, 1 ns: what a step does while no command waits (log entry 7). The FRC counts, the calendar
counts, the age scanner's sweep goes on, a held part whose supply and reset pin allow it leaves HELD, and what waits for the ring, for
host memory or for the management port goes on. -/

namespace Sys2Proof.Machine

/-- The modes in which the FRC counts (R127). -/
def Dev.frcRuns (d : Dev) : Bool :=
  d.inService || d.mode = .rom || d.mode = .loader || d.mode = .configure || d.mode = .doze

/-- FRC and the time since power-on advance by 1 ns. -/
def Dev.timeTick (d : Dev) : Dev := { d with tns := d.tns + 1, frc := if d.frcRuns then d.frc + 1 else d.frc }

/-- A sweep of the age scanner takes 655.36 µs (R62); its end is counted and its duration shown. -/
def Dev.sweepTick (d : Dev) : Dev :=
  if !d.inService then d
  else
    let x := d.store.sweepNs + 1
    if x < 655360 then { d with store := { d.store with sweepNs := x } }
    else (({ d with store := { d.store with sweepNs := 0 } }).bump Fld.SIG_SWEEP_SWEEPS).put Fld.SIG_SWEEP_LAST_US 655

/-- A corrected error in an engine's memory, which may happen at any time: whether one does, and where, is free (log entry 33). -/
def Dev.eccTick (d : Dev) : Dev :=
  if !d.enginesRun then d
  else
    let (i, d) := d.draw
    d.count (Fld.ENG_ECC_CORR (Config.free i / 2 % 8)) (Config.free i % 2)

/-- One tick. -/
def Dev.tick (d : Dev) : Dev := ((d.eccTick.timeTick.ppsTick.calNsTick.sweepTick.bootRom).queueTick).ringGo

end Sys2Proof.Machine
end

