-- ==== Sys2Proof/Machine/Step.lean ====
section
/-! DEFINITION. One step: the command at the front of the queue, or, where none waits, one tick of the timing clock. -/

namespace Sys2Proof.Machine

/-- Puts a command at the front of the queue. -/
def State.push (s : State) (c : Instr) : State := { s with pending := c :: s.pending }

/-- The command at the front runs with the queue's rest; on an empty queue the part's clock ticks once (log entry 7). -/
def step (s : State) : Out :=
  match s.pending with
  | [] => run Dev.tick s
  | c :: cs => exec c { s with pending := cs }

/-- `s` with the command a table word spells at the front of its queue; the table gives no row bits, so no word spells one. -/
def State.withFetchWord (s : State) (nbits w : Nat) : State :=
  match Sys2Proof.decodeTableWord nbits w with
  | some c => s.push c
  | none => s

end Sys2Proof.Machine
end

