-- ==== Sys2Proof/Safety.lean ====
section
/-! DEFINITION. What counts as a safe state of the part (every step goes on), the canonical form of its tables, and what a change of
the part keeps: the parts of the device outside a given set, the passing of time, the canonical form. The invariants and the frames of
the statements are these. -/

namespace Sys2Proof.Machine

/-- Whether a step goes on. -/
def Goes (o : Out) : Prop := ∃ t, o = .next t

/-- A state from which every command, and the clock, goes on. -/
def State.Safe (s : State) : Prop := Goes (step s)

/-- The register file, the settings store, the signal slots and the key slots stand in canonical form: keys strictly rising, and no
entry equal to what an unlisted key holds. -/
structure Dev.Canonical (d : Dev) : Prop where
  regs : Tab.wf regReset d.regs = true
  settings : Tab.wf regReset d.settings = true
  slots : Tab.wf (fun _ => slotUndefined) d.store.slots = true
  keys : Tab.wf (fun _ => keyEmpty) d.sec.slots = true

/-! ### The parts of the device -/

/-- The register file. -/
def Part.regs : Nat := 1
/-- The settings store. -/
def Part.settings : Nat := 2
/-- The access paths' latches (R7). -/
def Part.latches : Nat := 4
/-- The operating mode. -/
def Part.mode : Nat := 8
/-- The free-running counter. -/
def Part.frc : Nat := 16
/-- The signal store. -/
def Part.store : Nat := 32
/-- The signal engines. -/
def Part.eng : Nat := 64
/-- The time base. -/
def Part.time : Nat := 128
/-- The phase scheduler and the discrete lines. -/
def Part.phase : Nat := 256
/-- The host bridge and the queues. -/
def Part.hq : Nat := 512
/-- The security block: keys, tickets, recorder. -/
def Part.sec : Nat := 1024
/-- The fault collector. -/
def Part.flt : Nat := 2048
/-- The mode sequencer. -/
def Part.sys : Nat := 4096
/-- The structure image. -/
def Part.img : Nat := 8192
/-- The management port and the loader. -/
def Part.mgmt : Nat := 16384
/-- The load switches and the power dies. -/
def Part.loads : Nat := 32768
/-- The CAN controllers. -/
def Part.can : Nat := 65536
/-- The Ethernet switch. -/
def Part.sw : Nat := 131072
/-- The ring fabric. -/
def Part.drv : Nat := 262144
/-- The words latched from multi-word entries (R147). -/
def Part.latched : Nat := 524288
/-- The fault events not yet taken. -/
def Part.faultQ : Nat := 1048576

/-- What an engine instruction that touches no signal slot may change. -/
def Part.instr : Nat := Part.regs ||| Part.eng ||| Part.hq ||| Part.drv ||| Part.faultQ

/-- What a change from `d` to `e` keeps, whose effect is confined to the set `M` of parts: every part outside `M` is the same, no time
passes, the free-running counter is what it was or 0, the canonical form stays. -/
structure Kept (M : Nat) (d e : Dev) : Prop where
  regs : M.testBit 0 = false → e.regs = d.regs
  settings : M.testBit 1 = false → e.settings = d.settings
  latches : M.testBit 2 = false → e.latches = d.latches
  mode : M.testBit 3 = false → e.mode = d.mode
  frc : M.testBit 4 = false → e.frc = d.frc
  store : M.testBit 5 = false → e.store = d.store
  eng : M.testBit 6 = false → e.eng = d.eng
  time : M.testBit 7 = false → e.time = d.time
  phase : M.testBit 8 = false → e.phase = d.phase
  hq : M.testBit 9 = false → e.hq = d.hq
  sec : M.testBit 10 = false → e.sec = d.sec
  flt : M.testBit 11 = false → e.flt = d.flt
  sys : M.testBit 12 = false → e.sys = d.sys
  img : M.testBit 13 = false → e.img = d.img
  mgmt : M.testBit 14 = false → e.mgmt = d.mgmt
  loads : M.testBit 15 = false → e.loads = d.loads
  can : M.testBit 16 = false → e.can = d.can
  sw : M.testBit 17 = false → e.sw = d.sw
  drv : M.testBit 18 = false → e.drv = d.drv
  latched : M.testBit 19 = false → e.latched = d.latched
  faultQ : M.testBit 20 = false → e.faultQ = d.faultQ
  tns : e.tns = d.tns
  counter : e.frc = d.frc ∨ e.frc = 0
  canonical : d.Canonical → e.Canonical

/-! ### What a command does -/

/-- Command `c` at `s` goes on, leaves the queue of waiting commands alone, and the device it leaves satisfies `P`. -/
def Does (c : Instr) (s : State) (P : Dev → Prop) : Prop := ∃ d, exec c s = .next ⟨d, s.pending⟩ ∧ P d

/-- Every register but those listed reads as before. -/
def OtherRegs (as : List Nat) (d0 d : Dev) : Prop := ∀ a, a ∉ as → d.rd a = d0.rd a

/-! ### An engine's instruction -/

/-- The thread may issue the instruction `w`: the engines run, the scheduler selects it, its budgets are not used up, and `w` is the
word at its PC, within the loaded instructions (R91, R92, R98). -/
def Dev.Issues (d : Dev) (e : Fin 8) (t : Fin 4) (w : BitVec 40) : Prop :=
  d.mayIssue e.val t.val = true ∧ (d.thread e.val t.val).pc < d.imemCount e.val ∧ d.imem e.val (d.thread e.val t.val).pc = w

/-- A thread after it has issued an instruction at time `now`: the PC past the instruction, the counts advanced, no load under way. -/
def Thread.counted (now : Nat) (th : Thread) : Thread :=
  { th with
    pc := th.pc + 1, insns := th.insns + 1, slice := th.slice + 1, wait := .ready, started := some (th.started.getD now) }

/-- The thread of an engine's instruction is `th` after it; of the engine's state only it and the scheduler's counts changed, nothing
else of the device. -/
structure ThreadOnly (e : Fin 8) (t : Fin 4) (th : Thread) (d0 d : Dev) : Prop where
  thread : d.thread e.val t.val = th
  others : ∀ i, i ≠ 4 * e.val + t.val → Tab.get (fun _ => threadIdle) d.eng.threads i = Tab.get (fun _ => threadIdle) d0.eng.threads i
  engine : { d.eng with threads := d0.eng.threads, rr := d0.eng.rr, issued := d0.eng.issued } = d0.eng
  kept : Kept Part.eng d0 d

/-- An instruction whose one effect is to write register `r`, with a word that satisfies `P`: G0 takes nothing and reads 0 with the
neutral tag (R86), the other registers, the flags and the rest of the thread stay, the PC moves past the instruction. -/
structure WritesReg (e : Fin 8) (t : Fin 4) (r : GReg) (P : Tagged → Prop) (d0 d : Dev) : Prop where
  value : r ≠ 0 → P ((d.thread e.val t.val).reg r)
  zero : (d.thread e.val t.val).reg 0 = ⟨0, tagNeutral⟩
  regs : ∀ q, q ≠ r → (d.thread e.val t.val).reg q = (d0.thread e.val t.val).reg q
  frame : ThreadOnly e t { (d0.thread e.val t.val).counted d0.tns with g := (d.thread e.val t.val).g } d0 d

/-- The thread `x` is `th` waiting for a slot load: until a time within t_lds, the count of its slice over (R91, R118). -/
def LoadWaits (now : Nat) (th x : Thread) : Prop :=
  ∃ u, now + 5 ≤ u ∧ u ≤ now + 25 ∧ x = { th with wait := .load u, slice := 0, demoted := false }

/-- An instruction that loads a slot's word into register `r`, which then satisfies `P`, and waits for it: as `WritesReg`, with the thread
otherwise as `th`. -/
structure LoadsReg (e : Fin 8) (t : Fin 4) (r : GReg) (P : Tagged → Prop) (th : Thread) (d0 d : Dev) : Prop where
  value : r ≠ 0 → P ((d.thread e.val t.val).reg r)
  zero : (d.thread e.val t.val).reg 0 = ⟨0, tagNeutral⟩
  regs : ∀ q, q ≠ r → (d.thread e.val t.val).reg q = th.reg q
  waits : LoadWaits d0.tns { th with g := (d.thread e.val t.val).g } (d.thread e.val t.val)
  frame : ThreadOnly e t (d.thread e.val t.val) d0 d

/-! ### Slots -/

/-- Every slot but `n` is as before. -/
def OtherSlots (n : Nat) (d0 d : Dev) : Prop := ∀ m, m ≠ n → d.slot m = d0.slot m

/-- Among the writes `rs` of one store cycle on slot `n` the slot admits at least one, and it holds the word of one of the highest
priority (R70), under the tag and the capture time its source forms (R57, R58), CONSUMED clear; the routes are the store's to fire. -/
def SlotTakes (n : Fin 131072) (rs : List StoreReq) (d0 d : Dev) : Prop :=
  ∃ r ∈ rs, d0.storeAdmits r.src n.val = true ∧ (∀ q ∈ rs, d0.storeAdmits q.src n.val = true → srcPrio r.src ≤ srcPrio q.src) ∧
    d.slot n.val = { d0.slot n.val with
      value := r.word.value, tag := formTag r.src r.word.tag, capture := srcCapture r.src d0.now8 r.capture
      consumed := false, exempt := false, shows := false }

/-- A bit of an assembly buffer. -/
def Dev.asmBit (d : Dev) (e b p : Nat) : Bool := bit (leNat (d.asm e b (p / 8) 1)) (p % 8)

/-- A bit of an engine's data memory, counted from the byte at `at'`. -/
def Dev.dmemBit (d : Dev) (e at' p : Nat) : Bool := bit (leNat (d.dmem e (at' + p / 8) 1)) (p % 8)

/-- A descriptor in little-endian bit order, unsigned, with no qualifier and no not-available code (R106). -/
def plainDesc (desc : Nat) : Prop := bit desc 43 = false ∧ bit desc 44 = false ∧ bit desc 21 = false ∧ bits desc 46 45 = 0

/-- Every thread of every engine but one is as before. -/
def OtherThreads (e : Fin 8) (t : Fin 4) (d0 d : Dev) : Prop :=
  ∀ i, i ≠ 4 * e.val + t.val → Tab.get (fun _ => threadIdle) d.eng.threads i = Tab.get (fun _ => threadIdle) d0.eng.threads i

/-- A trap of a thread: recorded with its cause and the instruction's address, the event abandoned, the buffers closed (R93). -/
structure Traps (e : Fin 8) (t : Fin 4) (cause arg : Nat) (d0 d : Dev) : Prop where
  thread : d.fld (Fld.ENG_TRAP_THREAD e.val) = t.val
  cause : d.fld (Fld.ENG_TRAP_CAUSE e.val) = cause
  arg : d.fld (Fld.ENG_TRAP_ARG e.val) = arg
  pc : d.fld (Fld.ENG_TRAP_PC e.val) = (d0.thread e.val t.val).pc % 2 ^ 14
  raised : d.faultQ = (d0.eventsPass (88 + e.val) 1).faultQ
  event : (d.thread e.val t.val).ev = none
  handles : ∀ h, h < 4 → (d.thread e.val t.val).handle h = none
  kept : Kept Part.instr d0 d

/-! ### Counters, fault events, link frames -/

/-- The saturating counter `x` has advanced by one. -/
def Bumped (x : Fld) (d0 d : Dev) : Prop := d.fld x = min (d0.fld x + 1) (2 ^ x.width - 1)

/-- One event of source `n` is the one fault event raised: it has passed its crossing, and waits for Reeve (R422, R439). -/
def Raised (n : Nat) (d0 d : Dev) : Prop := d.faultQ = (d0.eventsPass n 1).faultQ

/-- While the links carry frames, the next logic-to-power frame that die `k`, which has its supply, is to receive is `f`, of SEQ `q`
(R367, R368). -/
def Dev.NextFrame (d : Dev) (k : Nat) (f : LinkFrame) (q : Nat) : Prop :=
  d.linkRuns = true ∧ (d.die k).powered = true ∧ (nextFrame (d.die k).queue).map (fun x => (x.frame, x.seq)) = some (f, q)

/-- `w` is a frame of TYPE `type` and SEQ `q` whose CRC is right (R367). -/
def FrameOk (w : BitVec 64) (type q : Nat) : Prop := linkType w = type ∧ linkSeq w = q ∧ linkCrc w = w.toNat % 256

/-- The die has received a valid frame just now. -/
def Heard (k : Nat) (d0 d : Dev) : Prop := (d.die k).heard = d0.tns

/-! ### Cipher jobs -/

/-- Job `j` of operation `op` is the one submitted job, and it can start: service, room among the jobs under way, a free engine, and,
where it reads host memory, the part may fetch (R342, R396, R397). -/
def Dev.JobReady (d : Dev) (op : Nat) (j : Job) : Prop :=
  d.sec.jobs = [j] ∧ j.op = op ∧ d.inService = true ∧ d.sec.running.length < 20 ∧ d.unitFree op = true ∧ (j.fetches = true → d.mayMaster = true)

/-- Job `j` has left the FIFO and is under way, to complete with a code and a result; its bulk output, if any, is offered to its
queue as one record, behind those that wait there (R398, R400). -/
structure JobStarts (j : Job) (code : Nat) (result : List Byte) (bulk : Option (List Byte)) (d0 d : Dev) : Prop where
  jobs : d.sec.jobs = []
  running : ∃ r, d.sec.running = d0.sec.running ++ [r] ∧ r.job = j ∧ r.code = code ∧ r.result = result ∧ r.record = bulk.map (fun _ => j.queue)
  offered : ∀ bs, bulk = some bs → ∃ r : Rec, r.payload = bs ∧ r.code = code ∧ r.prod = .cipher j.id ∧
    (d.queue j.queue).waiting = (d0.queue j.queue).waiting ++ [r]
  quiet : bulk = none → d.hq = d0.hq

/-- Every key slot but `n` is as before. -/
def OtherKeys (n : Nat) (d0 d : Dev) : Prop := ∀ m, m ≠ n → d.keySlot m = d0.keySlot m

end Sys2Proof.Machine
end

