-- ==== Sys2Proof/Machine/Touches.lean ====
section
/-! DEFINITION. For every command, the parts of the device it may change (Part.*): the frame the statements give it. A command that
changes a counter or a status field of a block changes Part.regs; a command that raises a fault event, Part.faultQ. -/

namespace Sys2Proof.Machine

/-- Everything but the settings store. -/
def Part.resets : Nat := Part.regs ||| Part.latches ||| Part.mode ||| Part.frc ||| Part.store ||| Part.eng ||| Part.time ||| Part.phase ||| Part.hq ||| Part.sec ||| Part.flt ||| Part.sys ||| Part.img ||| Part.mgmt ||| Part.loads ||| Part.can ||| Part.sw ||| Part.drv ||| Part.latched ||| Part.faultQ

/-- Everything a write through a window may change: any part. -/
def Part.all : Nat := Part.resets ||| Part.settings

/-- The parts a command may change. -/
def touches : Instr → Nat
  | .registerWrite _ _ _ => Part.all
  | .readClear _ _ => Part.regs ||| Part.latches ||| Part.store ||| Part.time ||| Part.hq ||| Part.sec ||| Part.mgmt ||| Part.latched ||| Part.faultQ
  | .lowRegisterRead _ _ => Part.regs ||| Part.latches ||| Part.store ||| Part.time ||| Part.hq ||| Part.sec ||| Part.mgmt ||| Part.latched ||| Part.faultQ
  | .highRegisterWrite _ _ _ => Part.all
  | .lowRegisterCommit _ _ _ => Part.all
  | .pairAccess64 _ _ _ => Part.all
  | .apply _ _ => Part.regs ||| Part.hq ||| Part.img ||| Part.mgmt ||| Part.faultQ
  | .imageApplyDone _ => Part.regs ||| Part.settings ||| Part.mode ||| Part.store ||| Part.eng ||| Part.time ||| Part.phase ||| Part.hq ||| Part.sec ||| Part.flt ||| Part.sys ||| Part.img ||| Part.mgmt ||| Part.loads ||| Part.can ||| Part.sw ||| Part.drv ||| Part.faultQ
  | .partStageWrite _ _ _ => Part.regs ||| Part.hq ||| Part.img ||| Part.mgmt ||| Part.faultQ
  | .partSubmit _ _ => Part.regs ||| Part.hq ||| Part.img ||| Part.mgmt ||| Part.faultQ
  | .partialAdd => Part.regs ||| Part.mode ||| Part.store ||| Part.eng ||| Part.hq ||| Part.sec ||| Part.sys ||| Part.img ||| Part.mgmt ||| Part.drv ||| Part.faultQ
  | .partialRemove => Part.regs ||| Part.store ||| Part.eng ||| Part.hq ||| Part.img ||| Part.mgmt ||| Part.drv ||| Part.faultQ
  | .partialRemoveUndefine _ => Part.regs ||| Part.mode ||| Part.store ||| Part.hq ||| Part.sec ||| Part.sys ||| Part.img ||| Part.mgmt ||| Part.drv ||| Part.faultQ
  | .partialRefused => Part.regs ||| Part.mode ||| Part.hq ||| Part.sec ||| Part.sys ||| Part.img ||| Part.mgmt ||| Part.faultQ
  | .hostSlotWrite _ _ _ => Part.all
  | .routeEventDelivery => Part.regs ||| Part.store ||| Part.eng ||| Part.phase ||| Part.hq ||| Part.sec ||| Part.drv ||| Part.faultQ
  | .staleMarking _ _ => Part.regs ||| Part.store
  | .nodeLeaveMark _ => Part.regs ||| Part.store
  | .consumingRead _ _ _ => Part.regs ||| Part.latches ||| Part.store ||| Part.time ||| Part.hq ||| Part.sec ||| Part.mgmt ||| Part.latched ||| Part.faultQ
  | .eventStart _ _ => Part.latches ||| Part.eng
  | .doorbell _ _ _ => Part.regs ||| Part.eng ||| Part.hq ||| Part.mgmt ||| Part.faultQ
  | .threadTimerExpiry _ _ => Part.regs ||| Part.eng ||| Part.faultQ
  | .rateTokenRefill _ _ => Part.eng
  | .trailTimerExpiry _ _ => Part.regs ||| Part.eng ||| Part.faultQ
  | .sliceDemotion _ _ => Part.eng
  | .budgetOverrun _ _ => Part.regs ||| Part.eng ||| Part.hq ||| Part.sec ||| Part.drv ||| Part.faultQ
  | .engineJobComplete _ _ => Part.regs ||| Part.eng ||| Part.sec ||| Part.sw ||| Part.faultQ
  | .assemblyBufferGrant _ _ => Part.eng
  | .engLoadUpdate _ => Part.regs ||| Part.eng
  | .nop _ _ => Part.instr
  | .mov _ _ _ _ => Part.instr
  | .movi _ _ _ _ => Part.instr
  | .movu _ _ _ _ => Part.instr
  | .add _ _ _ _ _ => Part.instr
  | .sub _ _ _ _ _ => Part.instr
  | .mul _ _ _ _ _ => Part.instr
  | .scale _ _ _ _ _ _ _ _ => Part.instr
  | .divu _ _ _ _ _ => Part.instr
  | .and _ _ _ _ _ => Part.instr
  | .or _ _ _ _ _ => Part.instr
  | .xor _ _ _ _ _ => Part.instr
  | .shl _ _ _ _ _ => Part.instr
  | .shr _ _ _ _ _ => Part.instr
  | .sar _ _ _ _ _ => Part.instr
  | .min _ _ _ _ _ _ => Part.instr
  | .max _ _ _ _ _ _ => Part.instr
  | .cmp _ _ _ _ => Part.instr
  | .sel _ _ _ _ _ _ => Part.instr
  | .tagdn _ _ _ _ _ => Part.instr
  | .tagrd _ _ _ _ => Part.instr
  | .ext _ _ _ _ _ _ => Part.instr
  | .lds _ _ _ _ _ => Part.instr
  | .sts _ _ _ _ _ _ _ => Part.regs ||| Part.store ||| Part.eng ||| Part.hq ||| Part.drv ||| Part.faultQ
  | .age _ _ _ _ _ => Part.instr
  | .ldw _ _ _ _ _ => Part.instr
  | .stw _ _ _ _ _ => Part.instr
  | .ldt _ _ _ _ _ => Part.instr
  | .stt _ _ _ _ _ => Part.instr
  | .ldh _ _ _ _ => Part.instr
  | .lkup _ _ _ _ _ _ => Part.instr
  | .unpk _ _ _ _ _ => Part.instr
  | .unpks _ _ _ _ _ => Part.regs ||| Part.store ||| Part.eng ||| Part.hq ||| Part.drv ||| Part.faultQ
  | .pack _ _ _ _ _ _ => Part.instr
  | .packs _ _ _ _ _ => Part.instr
  | .txopen _ _ _ _ => Part.instr
  | .txsend _ _ _ _ => Part.regs ||| Part.eng ||| Part.hq ||| Part.can ||| Part.sw ||| Part.drv ||| Part.faultQ
  | .port13CreditTimeout _ _ => Part.regs ||| Part.eng
  | .rate _ _ _ => Part.instr
  | .fresh _ _ _ _ _ => Part.regs ||| Part.eng ||| Part.hq ||| Part.sec ||| Part.drv ||| Part.faultQ
  | .macgen _ _ _ _ _ => Part.regs ||| Part.eng ||| Part.hq ||| Part.sec ||| Part.drv ||| Part.faultQ
  | .macver _ _ _ _ => Part.regs ||| Part.eng ||| Part.hq ||| Part.sec ||| Part.drv ||| Part.faultQ
  | .fld _ _ _ _ _ => Part.regs ||| Part.latches ||| Part.store ||| Part.eng ||| Part.time ||| Part.hq ||| Part.sec ||| Part.mgmt ||| Part.drv ||| Part.latched ||| Part.faultQ
  | .fst _ _ _ _ _ => Part.all
  | .post _ _ _ _ _ => Part.instr
  | .arm _ _ _ _ _ => Part.instr
  | .qput _ _ _ _ _ => Part.instr
  | .br _ _ _ _ => Part.instr
  | .call _ _ _ => Part.instr
  | .ret _ _ => Part.instr
  | .jr _ _ _ => Part.instr
  | .yield _ _ => Part.instr
  | .done _ _ => Part.instr
  | .trap _ _ _ => Part.instr
  | .tdLoad _ _ => Part.regs ||| Part.time ||| Part.hq ||| Part.mgmt ||| Part.can ||| Part.faultQ
  | .tdRate _ _ => Part.regs ||| Part.time ||| Part.hq ||| Part.mgmt ||| Part.can ||| Part.faultQ
  | .tdAdj _ _ => Part.regs ||| Part.time ||| Part.hq ||| Part.mgmt ||| Part.can ||| Part.faultQ
  | .lockSet _ _ => Part.regs ||| Part.time ||| Part.hq ||| Part.mgmt ||| Part.faultQ
  | .lockClr _ _ => Part.regs ||| Part.time ||| Part.hq ||| Part.mgmt ||| Part.faultQ
  | .gptpFrameReceive _ _ _ => Part.regs ||| Part.time
  | .syncLoss _ => Part.regs ||| Part.time ||| Part.faultQ
  | .sysSelect _ _ => Part.regs ||| Part.time ||| Part.hq ||| Part.mgmt ||| Part.faultQ
  | .sysSelectEffect => Part.regs ||| Part.time
  | .sysRestart _ => Part.regs ||| Part.time ||| Part.hq ||| Part.sec ||| Part.mgmt ||| Part.faultQ
  | .slewEnd => Part.regs ||| Part.time
  | .txTimestamp _ _ _ _ => Part.regs ||| Part.time ||| Part.hq ||| Part.faultQ
  | .tsqRead _ _ => Part.regs ||| Part.time ||| Part.hq ||| Part.mgmt ||| Part.latched ||| Part.faultQ
  | .snapshot _ => Part.regs ||| Part.hq ||| Part.mgmt ||| Part.latched ||| Part.faultQ
  | .ppsEdge _ => Part.time
  | .captureEdge _ _ _ => Part.regs ||| Part.time ||| Part.hq ||| Part.faultQ
  | .captureRead _ _ => Part.regs ||| Part.time ||| Part.hq ||| Part.mgmt ||| Part.latched ||| Part.faultQ
  | .calWrite _ => Part.regs ||| Part.hq ||| Part.mgmt ||| Part.faultQ
  | .calLoad => Part.regs ||| Part.time ||| Part.sec ||| Part.faultQ
  | .calReadLatch _ => Part.regs ||| Part.latches ||| Part.hq ||| Part.mgmt ||| Part.latched ||| Part.faultQ
  | .tampClr _ => Part.regs ||| Part.hq ||| Part.mgmt ||| Part.faultQ
  | .calendarAlarm => Part.regs ||| Part.sys
  | .oscStop => Part.regs ||| Part.time ||| Part.faultQ
  | .encoderEdge _ _ _ => Part.regs ||| Part.store ||| Part.phase ||| Part.faultQ
  | .zResync _ _ _ => Part.regs ||| Part.phase ||| Part.faultQ
  | .stallTimeout _ => Part.phase
  | .phaseSourceUpdate _ => Part.regs ||| Part.store ||| Part.phase ||| Part.faultQ
  | .preset _ _ => Part.regs ||| Part.phase ||| Part.hq ||| Part.mgmt ||| Part.faultQ
  | .actionRearm _ _ _ => Part.regs ||| Part.settings ||| Part.phase ||| Part.hq ||| Part.mgmt ||| Part.faultQ
  | .actionCrossing _ => Part.phase
  | .actionDispatch _ => Part.regs ||| Part.eng ||| Part.phase ||| Part.sec ||| Part.loads ||| Part.can ||| Part.drv ||| Part.faultQ
  | .pulseEnd _ _ => Part.regs ||| Part.mode ||| Part.phase ||| Part.hq ||| Part.sec ||| Part.sys ||| Part.mgmt ||| Part.loads ||| Part.faultQ
  | .dcmdSend _ => Part.regs ||| Part.eng ||| Part.sec ||| Part.drv ||| Part.faultQ
  | .dioInputAccept _ _ _ _ => Part.regs ||| Part.store ||| Part.phase
  | .dioOutWrite _ _ _ => Part.regs ||| Part.phase ||| Part.hq ||| Part.mgmt ||| Part.faultQ
  | .dioWakeQualify _ _ _ => Part.regs ||| Part.sys
  | .canFrameReceive _ _ => Part.regs ||| Part.eng ||| Part.can ||| Part.faultQ
  | .canBusError _ _ _ _ => Part.regs ||| Part.can ||| Part.faultQ
  | .busOffRecovery _ _ => Part.regs ||| Part.faultQ
  | .protocolException _ _ _ => Part.regs ||| Part.faultQ
  | .timingSelWrite _ _ _ => Part.regs ||| Part.settings ||| Part.hq ||| Part.mgmt ||| Part.faultQ
  | .timingSwitch _ => Part.regs
  | .listenWrite _ _ _ => Part.regs ||| Part.settings ||| Part.hq ||| Part.mgmt ||| Part.faultQ
  | .listenEffect _ => Part.regs
  | .canTxStart _ => Part.regs ||| Part.can
  | .canTxSuccess _ => Part.regs ||| Part.eng ||| Part.can ||| Part.faultQ
  | .arbitrationLost _ => Part.regs ||| Part.can
  | .cycleStart _ => Part.regs ||| Part.can ||| Part.faultQ
  | .windowStart _ => Part.regs ||| Part.can ||| Part.faultQ
  | .windowEnd _ => Part.regs ||| Part.can ||| Part.faultQ
  | .refTimeout _ => Part.regs ||| Part.can ||| Part.faultQ
  | .winDataWrite _ _ _ => Part.regs ||| Part.settings ||| Part.hq ||| Part.mgmt ||| Part.can ||| Part.faultQ
  | .cycleWrite _ _ _ => Part.regs ||| Part.settings ||| Part.hq ||| Part.mgmt ||| Part.faultQ
  | .canWakeMatch _ _ _ _ => Part.regs ||| Part.sys
  | .injectGo _ _ => Part.regs ||| Part.eng ||| Part.hq ||| Part.mgmt ||| Part.can ||| Part.faultQ
  | .ethFrameReceive _ _ _ _ _ => Part.regs ||| Part.sw ||| Part.faultQ
  | .cutThroughDecide _ _ => Part.regs ||| Part.sw ||| Part.faultQ
  | .admission => Part.regs ||| Part.sw ||| Part.faultQ
  | .stomp _ _ _ => Part.regs ||| Part.sw ||| Part.faultQ
  | .switchEgressStart _ => Part.regs ||| Part.eng ||| Part.hq ||| Part.sec ||| Part.sw ||| Part.drv ||| Part.faultQ
  | .switchEgressDone _ => Part.regs ||| Part.sw
  | .portLinkDown _ _ => Part.regs ||| Part.flt ||| Part.sw ||| Part.faultQ
  | .portLinkUp _ _ => Part.regs ||| Part.flt ||| Part.sw ||| Part.faultQ
  | .lingerExpiry _ => Part.regs ||| Part.sw ||| Part.faultQ
  | .fdbAgeOut _ _ => Part.regs ||| Part.sw
  | .wakePatternMatch _ _ => Part.regs ||| Part.sys
  | .mdioStart _ _ _ => Part.regs ||| Part.hq ||| Part.mgmt ||| Part.faultQ
  | .mdioDone _ _ => Part.regs
  | .ringFrameReceive _ _ _ _ _ _ _ => Part.all
  | .orderGapTimeout _ => Part.regs ||| Part.store ||| Part.eng ||| Part.hq ||| Part.mgmt ||| Part.sw ||| Part.drv ||| Part.faultQ
  | .ringBeaconSend => Part.all
  | .exportTimer _ => Part.regs ||| Part.sec ||| Part.drv
  | .ringReadIssue _ => Part.all
  | .ringReadTimeout => Part.all
  | .ringWriteSend _ => Part.all
  | .joinChallenge => Part.regs ||| Part.sec ||| Part.drv ||| Part.faultQ
  | .joinResponseTimeout => Part.regs ||| Part.drv ||| Part.faultQ
  | .joinVerifyDone _ => Part.regs ||| Part.store ||| Part.eng ||| Part.hq ||| Part.sec ||| Part.mgmt ||| Part.drv ||| Part.faultQ
  | .quarantineExpiry _ => Part.regs ||| Part.drv
  | .quarClr _ _ => Part.regs ||| Part.hq ||| Part.mgmt ||| Part.drv ||| Part.faultQ
  | .laneLinkChange _ _ => Part.regs ||| Part.flt ||| Part.faultQ
  | .hostRead _ _ _ _ => Part.regs ||| Part.latches ||| Part.store ||| Part.eng ||| Part.time ||| Part.hq ||| Part.sec ||| Part.mgmt ||| Part.drv ||| Part.latched ||| Part.faultQ
  | .hostWrite _ _ _ _ => Part.all
  | .bridgeLogRead _ => Part.regs ||| Part.hq ||| Part.mgmt ||| Part.latched ||| Part.faultQ
  | .versionOffer _ _ _ => Part.regs ||| Part.hq ||| Part.mgmt ||| Part.faultQ
  | .queueEnable _ _ => Part.regs ||| Part.hq ||| Part.mgmt ||| Part.faultQ
  | .queueDisable _ _ => Part.regs ||| Part.eng ||| Part.hq ||| Part.sec ||| Part.mgmt ||| Part.faultQ
  | .recordStart _ => Part.regs ||| Part.eng ||| Part.hq ||| Part.sec ||| Part.faultQ
  | .recordFinish _ => Part.regs ||| Part.eng ||| Part.hq ||| Part.sec ||| Part.faultQ
  | .d2hConsWrite _ _ _ => Part.regs ||| Part.hq ||| Part.mgmt ||| Part.faultQ
  | .dropRest _ _ => Part.regs ||| Part.eng ||| Part.hq ||| Part.sec ||| Part.mgmt ||| Part.faultQ
  | .qputTimeout _ _ => Part.regs ||| Part.eng ||| Part.hq ||| Part.faultQ
  | .h2dDoorbell _ _ _ => Part.regs ||| Part.hq ||| Part.mgmt ||| Part.faultQ
  | .descriptorFetched _ _ _ _ => Part.regs ||| Part.hq ||| Part.faultQ
  | .port12FrameEntry _ => Part.regs ||| Part.hq ||| Part.sw ||| Part.faultQ
  | .descriptorRetire _ => Part.regs ||| Part.hq
  | .holdoffExpiry _ => Part.regs ||| Part.hq
  | .msixUnmask _ _ => Part.regs ||| Part.hq ||| Part.mgmt ||| Part.faultQ
  | .bridgeReset _ => Part.all
  | .busMasterChange _ _ _ => Part.regs ||| Part.hq ||| Part.flt ||| Part.sys ||| Part.sw ||| Part.faultQ
  | .loadCommandWrite _ _ _ _ => Part.regs ||| Part.settings ||| Part.phase ||| Part.hq ||| Part.mgmt ||| Part.loads ||| Part.faultQ
  | .latchClear _ _ _ => Part.regs ||| Part.hq ||| Part.mgmt ||| Part.loads ||| Part.faultQ
  | .overcurrentTrip _ _ => Part.regs ||| Part.mode ||| Part.hq ||| Part.sec ||| Part.sys ||| Part.mgmt ||| Part.loads ||| Part.faultQ
  | .fastTrip _ _ => Part.regs ||| Part.mode ||| Part.hq ||| Part.sec ||| Part.sys ||| Part.mgmt ||| Part.loads ||| Part.faultQ
  | .overtempShutdown _ => Part.regs ||| Part.mode ||| Part.hq ||| Part.sec ||| Part.sys ||| Part.mgmt ||| Part.loads ||| Part.faultQ
  | .inrushEnd _ => Part.loads
  | .pwmPeriodStart _ _ => Part.regs ||| Part.mode ||| Part.hq ||| Part.sec ||| Part.sys ||| Part.mgmt ||| Part.loads ||| Part.faultQ
  | .diagCheck _ _ _ _ => Part.regs ||| Part.loads ||| Part.faultQ
  | .supplyShutdown _ _ => Part.regs ||| Part.mode ||| Part.hq ||| Part.sec ||| Part.sys ||| Part.mgmt ||| Part.loads ||| Part.faultQ
  | .supplyRestart _ _ => Part.regs ||| Part.mode ||| Part.hq ||| Part.sec ||| Part.sys ||| Part.mgmt ||| Part.loads ||| Part.faultQ
  | .groundLoss => Part.regs ||| Part.mode ||| Part.hq ||| Part.sec ||| Part.sys ||| Part.mgmt ||| Part.loads ||| Part.faultQ
  | .reverseBattery _ => Part.resets
  | .heartbeat _ _ => Part.regs ||| Part.mode ||| Part.hq ||| Part.sec ||| Part.sys ||| Part.mgmt ||| Part.loads ||| Part.faultQ
  | .setFrame _ _ => Part.regs ||| Part.mode ||| Part.hq ||| Part.sec ||| Part.sys ||| Part.mgmt ||| Part.loads ||| Part.faultQ
  | .safeFrame _ _ => Part.regs ||| Part.mode ||| Part.hq ||| Part.sec ||| Part.sys ||| Part.mgmt ||| Part.loads ||| Part.faultQ
  | .clearFrame _ _ => Part.regs ||| Part.mode ||| Part.hq ||| Part.sec ||| Part.sys ||| Part.mgmt ||| Part.loads ||| Part.faultQ
  | .readback _ _ => Part.regs ||| Part.mode ||| Part.hq ||| Part.sec ||| Part.sys ||| Part.mgmt ||| Part.loads ||| Part.faultQ
  | .takeover _ _ => Part.regs ||| Part.mode ||| Part.hq ||| Part.sec ||| Part.sys ||| Part.mgmt ||| Part.loads ||| Part.faultQ
  | .park _ _ => Part.regs ||| Part.mode ||| Part.hq ||| Part.sec ||| Part.sys ||| Part.mgmt ||| Part.loads ||| Part.faultQ
  | .statusFrame _ _ => Part.regs ||| Part.loads ||| Part.faultQ
  | .senseFrame _ _ _ _ => Part.regs ||| Part.loads ||| Part.faultQ
  | .stateFrame _ _ => Part.regs ||| Part.phase ||| Part.loads ||| Part.faultQ
  | .linkFrameRetry _ => Part.regs ||| Part.loads
  | .linkDown _ => Part.regs ||| Part.loads ||| Part.faultQ
  | .powerDieHold _ => Part.regs ||| Part.mode ||| Part.hq ||| Part.sec ||| Part.sys ||| Part.mgmt ||| Part.loads ||| Part.faultQ
  | .holdPolicy _ => Part.regs ||| Part.mode ||| Part.hq ||| Part.sec ||| Part.sys ||| Part.mgmt ||| Part.loads ||| Part.faultQ
  | .powerDiePowerup _ => Part.regs ||| Part.mode ||| Part.hq ||| Part.sec ||| Part.sys ||| Part.mgmt ||| Part.loads ||| Part.faultQ
  | .powerupTakeoverTimeout _ => Part.regs ||| Part.mode ||| Part.hq ||| Part.sec ||| Part.sys ||| Part.mgmt ||| Part.loads ||| Part.faultQ
  | .limpEntry => Part.regs ||| Part.mode ||| Part.phase ||| Part.hq ||| Part.sec ||| Part.sys ||| Part.mgmt ||| Part.loads ||| Part.faultQ
  | .limpNRelease => Part.regs ||| Part.mode ||| Part.hq ||| Part.sec ||| Part.sys ||| Part.mgmt ||| Part.loads ||| Part.faultQ
  | .lhiFollow _ _ => Part.regs ||| Part.mode ||| Part.hq ||| Part.sec ||| Part.sys ||| Part.mgmt ||| Part.loads ||| Part.faultQ
  | .limpLatchClear _ => Part.regs ||| Part.mode ||| Part.hq ||| Part.sec ||| Part.sys ||| Part.mgmt ||| Part.loads ||| Part.faultQ
  | .supplyLimitReport => Part.regs ||| Part.loads ||| Part.faultQ
  | .xtsEnc _ => Part.regs ||| Part.hq ||| Part.sec ||| Part.faultQ
  | .xtsDec _ => Part.regs ||| Part.hq ||| Part.sec ||| Part.faultQ
  | .gcmEnc _ _ => Part.regs ||| Part.hq ||| Part.sec ||| Part.faultQ
  | .gcmDec _ _ => Part.regs ||| Part.hq ||| Part.sec ||| Part.faultQ
  | .cmacGen _ => Part.regs ||| Part.hq ||| Part.sec
  | .cmacVer _ => Part.regs ||| Part.hq ||| Part.sec ||| Part.faultQ
  | .unwrap _ => Part.regs ||| Part.hq ||| Part.sec ||| Part.faultQ
  | .wrap _ => Part.regs ||| Part.hq ||| Part.sec ||| Part.faultQ
  | .derive _ => Part.regs ||| Part.hq ||| Part.sec
  | .generate => Part.regs ||| Part.hq ||| Part.sec
  | .random => Part.regs ||| Part.hq ||| Part.sec ||| Part.faultQ
  | .shake _ => Part.regs ||| Part.hq ||| Part.sec ||| Part.faultQ
  | .mldsaVer _ _ => Part.regs ||| Part.hq ||| Part.sec
  | .mldsaSign _ _ => Part.regs ||| Part.hq ||| Part.sec ||| Part.faultQ
  | .attest _ => Part.regs ||| Part.hq ||| Part.sec ||| Part.faultQ
  | .cipherJobDone _ => Part.regs ||| Part.eng ||| Part.sec ||| Part.faultQ
  | .cphDoneRead _ => Part.regs ||| Part.hq ||| Part.sec ||| Part.mgmt ||| Part.latched ||| Part.faultQ
  | .cphLoadUpdate => Part.regs ||| Part.sec
  | .ksErase _ _ => Part.regs ||| Part.eng ||| Part.hq ||| Part.sec ||| Part.mgmt ||| Part.faultQ
  | .ksLock _ _ => Part.regs ||| Part.hq ||| Part.sec ||| Part.mgmt ||| Part.faultQ
  | .remaskVisit => Part.regs ||| Part.sec
  | .tamperEvent _ => Part.regs ||| Part.eng ||| Part.time ||| Part.hq ||| Part.sec ||| Part.faultQ
  | .rederive => Part.regs ||| Part.time ||| Part.sec ||| Part.faultQ
  | .drbgHealthFail => Part.regs ||| Part.sec ||| Part.faultQ
  | .drbgResume => Part.regs ||| Part.sec
  | .drbgReseed => Part.regs ||| Part.sec
  | .recAppend _ => Part.regs ||| Part.hq ||| Part.sec ||| Part.mgmt ||| Part.faultQ
  | .recorderWrite => Part.regs ||| Part.sec ||| Part.faultQ
  | .checkpoint => Part.regs ||| Part.sec
  | .ckptRequest _ => Part.regs ||| Part.hq ||| Part.sec ||| Part.mgmt ||| Part.faultQ
  | .ckptAgeExpiry => Part.sec
  | .ckptRetry => Part.sec
  | .checkSectorWritten => Part.regs ||| Part.sec ||| Part.faultQ
  | .recAck _ => Part.regs ||| Part.hq ||| Part.sec ||| Part.mgmt ||| Part.faultQ
  | .recExportSelect _ _ => Part.regs ||| Part.hq ||| Part.sec ||| Part.mgmt ||| Part.faultQ
  | .faultEvent _ => Part.regs ||| Part.mode ||| Part.store ||| Part.eng ||| Part.time ||| Part.phase ||| Part.hq ||| Part.sec ||| Part.flt ||| Part.sys ||| Part.img ||| Part.mgmt ||| Part.loads ||| Part.sw ||| Part.drv ||| Part.faultQ
  | .faultWindowClose _ => Part.regs
  | .severeClear _ _ _ => Part.regs ||| Part.hq ||| Part.flt ||| Part.mgmt ||| Part.faultQ
  | .safeExit _ => Part.regs ||| Part.mode ||| Part.eng ||| Part.hq ||| Part.sec ||| Part.flt ||| Part.sys ||| Part.mgmt ||| Part.loads ||| Part.faultQ
  | .forceSafe _ _ => Part.regs ||| Part.mode ||| Part.store ||| Part.eng ||| Part.time ||| Part.phase ||| Part.hq ||| Part.sec ||| Part.flt ||| Part.sys ||| Part.img ||| Part.mgmt ||| Part.loads ||| Part.sw ||| Part.faultQ
  | .holdClear _ _ _ => Part.regs ||| Part.time ||| Part.hq ||| Part.mgmt ||| Part.sw ||| Part.faultQ
  | .errHoldWrite _ _ => Part.regs ||| Part.hq ||| Part.mgmt ||| Part.faultQ
  | .errminExpiry => Part.regs ||| Part.flt
  | .faultInject _ _ _ _ => Part.regs ||| Part.mode ||| Part.store ||| Part.eng ||| Part.time ||| Part.phase ||| Part.hq ||| Part.sec ||| Part.flt ||| Part.sys ||| Part.img ||| Part.mgmt ||| Part.loads ||| Part.sw ||| Part.drv ||| Part.faultQ
  | .halfResetStart _ => Part.regs ||| Part.hq ||| Part.flt ||| Part.sw ||| Part.faultQ
  | .halfResetEnd _ => Part.regs ||| Part.hq ||| Part.flt ||| Part.sys ||| Part.sw ||| Part.faultQ
  | .powerOn => Part.regs ||| Part.mode ||| Part.eng ||| Part.time ||| Part.hq ||| Part.sec ||| Part.sys ||| Part.mgmt ||| Part.faultQ
  | .powerOff => Part.resets
  | .vbatValid _ _ => Part.regs ||| Part.mode ||| Part.frc ||| Part.hq ||| Part.sec ||| Part.sys ||| Part.mgmt ||| Part.faultQ
  | .vbatUndervoltage => Part.resets
  | .vbatWarning => Part.regs ||| Part.faultQ
  | .rstNAssert => Part.resets
  | .rstNRelease _ _ => Part.regs ||| Part.mode ||| Part.frc ||| Part.hq ||| Part.sec ||| Part.sys ||| Part.mgmt ||| Part.faultQ
  | .romCheckDone _ => Part.regs ||| Part.mode ||| Part.hq ||| Part.sec ||| Part.sys ||| Part.mgmt ||| Part.faultQ
  | .configureEntry => Part.regs ||| Part.settings ||| Part.mode ||| Part.store ||| Part.hq ||| Part.sec ||| Part.sys ||| Part.img ||| Part.mgmt ||| Part.faultQ
  | .sysReset _ _ => Part.resets
  | .sysDoze _ _ => Part.regs ||| Part.mode ||| Part.store ||| Part.eng ||| Part.time ||| Part.phase ||| Part.hq ||| Part.sec ||| Part.flt ||| Part.sys ||| Part.img ||| Part.mgmt ||| Part.loads ||| Part.can ||| Part.sw ||| Part.drv ||| Part.faultQ
  | .dozeEntryDone => Part.regs ||| Part.mode ||| Part.store ||| Part.eng ||| Part.time ||| Part.phase ||| Part.hq ||| Part.sec ||| Part.flt ||| Part.sys ||| Part.img ||| Part.mgmt ||| Part.loads ||| Part.can ||| Part.sw ||| Part.drv ||| Part.faultQ
  | .sysSleep _ _ => Part.regs ||| Part.mode ||| Part.store ||| Part.eng ||| Part.time ||| Part.phase ||| Part.hq ||| Part.sec ||| Part.flt ||| Part.sys ||| Part.img ||| Part.mgmt ||| Part.loads ||| Part.can ||| Part.sw ||| Part.drv ||| Part.faultQ
  | .sleepPowerDown => Part.resets
  | .sysReconfig _ _ => Part.regs ||| Part.mode ||| Part.store ||| Part.eng ||| Part.time ||| Part.phase ||| Part.hq ||| Part.sec ||| Part.flt ||| Part.sys ||| Part.img ||| Part.mgmt ||| Part.loads ||| Part.can ||| Part.sw ||| Part.drv ||| Part.faultQ
  | .sysWake _ _ => Part.regs ||| Part.hq ||| Part.sys ||| Part.mgmt ||| Part.faultQ
  | .dozeReturn => Part.regs ||| Part.mode ||| Part.store ||| Part.eng ||| Part.time ||| Part.phase ||| Part.hq ||| Part.sec ||| Part.flt ||| Part.sys ||| Part.img ||| Part.mgmt ||| Part.loads ||| Part.can ||| Part.sw ||| Part.drv ||| Part.faultQ
  | .sleepWake => Part.resets
  | .hostAbsent => Part.regs ||| Part.mode ||| Part.hq ||| Part.sec ||| Part.sys ||| Part.mgmt ||| Part.faultQ
  | .hostAlive _ => Part.regs ||| Part.mode ||| Part.hq ||| Part.sec ||| Part.sys ||| Part.mgmt ||| Part.faultQ
  | .partialLossClear _ => Part.regs ||| Part.mode ||| Part.hq ||| Part.sec ||| Part.sys ||| Part.img ||| Part.mgmt ||| Part.faultQ
  | .lockstepMismatch => Part.regs ||| Part.faultQ
  | .mgmtRequest _ => Part.regs ||| Part.flt ||| Part.mgmt ||| Part.faultQ
  | .mgmtFetch _ => Part.mgmt
  | .mgmtSyncError _ _ => Part.regs ||| Part.faultQ
  | .mgmtTruncated _ => Part.regs ||| Part.flt ||| Part.faultQ
  | .mgmtNop => Part.mgmt
  | .mgmtStatus => Part.mgmt
  | .noticeFetch => Part.regs ||| Part.mgmt
  | .calRead => Part.mgmt
  | .mgmtWake => Part.regs ||| Part.sys ||| Part.mgmt
  | .mgmtReset => Part.resets
  | .mgmtForceSafe => Part.regs ||| Part.mode ||| Part.store ||| Part.eng ||| Part.time ||| Part.phase ||| Part.hq ||| Part.sec ||| Part.flt ||| Part.sys ||| Part.img ||| Part.mgmt ||| Part.loads ||| Part.sw ||| Part.faultQ
  | .mgmtLeaseTake => Part.regs ||| Part.mgmt ||| Part.faultQ
  | .mgmtLeaseRelease => Part.regs ||| Part.mgmt ||| Part.faultQ
  | .hostLeaseTake _ => Part.regs ||| Part.hq ||| Part.mgmt ||| Part.faultQ
  | .hostLeaseRelease => Part.regs ||| Part.hq ||| Part.mgmt ||| Part.faultQ
  | .blockRead => Part.regs ||| Part.latches ||| Part.store ||| Part.eng ||| Part.time ||| Part.hq ||| Part.sec ||| Part.mgmt ||| Part.drv ||| Part.latched ||| Part.faultQ
  | .blockWrite _ => Part.all
  | .recExport => Part.mgmt
  | .mgmtAttest => Part.regs ||| Part.sec ||| Part.mgmt ||| Part.faultQ
  | .otpRead => Part.mgmt
  | .otpProg => Part.mgmt ||| Part.loads
  | .ownerDigest => Part.regs ||| Part.sec ||| Part.mgmt
  | .tokenNonce => Part.mgmt
  | .factoryToken => Part.regs ||| Part.sec ||| Part.sys ||| Part.mgmt ||| Part.faultQ
  | .ldrEnter _ => Part.resets
  | .ldrVerify _ => Part.regs ||| Part.hq ||| Part.mgmt ||| Part.faultQ
  | .verifyDone => Part.regs ||| Part.mgmt ||| Part.faultQ
  | .ldrActivate _ => Part.regs ||| Part.hq ||| Part.mgmt ||| Part.faultQ
  | .activateDone _ => Part.resets
  | .ldrReboot _ => Part.resets
  | .confirmDeadline => Part.regs ||| Part.sec ||| Part.sys ||| Part.mgmt ||| Part.faultQ
  | .busIntegration _ => Part.regs
  | .pcieLinkUp _ _ => Part.regs ||| Part.hq ||| Part.flt ||| Part.sys ||| Part.sw ||| Part.faultQ
  | .linkRecovery _ => Part.loads
  | .backupSupplyLoss => Part.regs ||| Part.time ||| Part.sec
  | .syncIntervalTimer _ => Part.regs ||| Part.time

end Sys2Proof.Machine
end

