-- ==== Sys2Proof/Certificates/Slice0/Obligations.lean ====
section
/-! DEFINITION. The statements for the provers: what the commands of each chapter do and leave alone, where each completes, the reset
state, the invariant every step keeps. Where a statement rests on a choice of the model, its docstring names the log entry. -/

open Sys2Proof Sys2Proof.Machine

/-- NOP, MOV, MOVI, MOVU, ADD, SUB, MUL, AND, OR, XOR (R86, R99). -/
def Obligations.EngineAddSubMulAndBitwise : Prop :=
  ∀ (e : Fin 8) (t : Fin 4) (s : State),
    let th := s.dev.thread e.val t.val
    (s.dev.Issues e t (wordZ 0x00) → Does (.nop e t) s (ThreadOnly e t (th.counted s.dev.tns) s.dev)) ∧
    (∀ d a, s.dev.Issues e t (wordR 0x01 d.val a.val 0 0) → Does (.mov e t d a) s (WritesReg e t d (fun w => w = th.reg a) s.dev)) ∧
    (∀ d imm, s.dev.Issues e t (wordI 0x02 d.val 0 imm.toNat) →
      Does (.movi e t d imm) s (WritesReg e t d (fun w => w.value.toInt = imm.toInt ∧ w.tag = 0x94) s.dev)) ∧
    (∀ d imm, s.dev.Issues e t (wordI 0x03 d.val 0 imm.toNat) →
      Does (.movu e t d imm) s (WritesReg e t d (fun w =>
        w.value.toNat = imm.toNat * 2 ^ 16 + (th.reg d).value.toNat % 2 ^ 16 ∧ w.tag = (th.reg d).tag) s.dev)) ∧
    (∀ d a b, s.dev.Issues e t (wordOpB 0x04 d a b) → Does (.add e t d a b) s (WritesReg e t d (fun w =>
      w.value.toNat = ((th.reg a).value.toNat + (th.opVal b).toNat) % 2 ^ 32 ∧ w.tag = tagComb (th.reg a).tag (th.opTag b)) s.dev)) ∧
    (∀ d a b, s.dev.Issues e t (wordOpB 0x05 d a b) → Does (.sub e t d a b) s (WritesReg e t d (fun w =>
      (w.value.toNat : Int) = ((th.reg a).value.toNat - (th.opVal b).toNat : Int) % 2 ^ 32 ∧
        w.tag = tagComb (th.reg a).tag (th.opTag b)) s.dev)) ∧
    (∀ d a b, s.dev.Issues e t (wordOpB 0x06 d a b) → Does (.mul e t d a b) s (WritesReg e t d (fun w =>
      w.value.toNat = (th.reg a).value.toNat * (th.opVal b).toNat % 2 ^ 32 ∧ w.tag = tagComb (th.reg a).tag (th.opTag b)) s.dev)) ∧
    (∀ d a b, s.dev.Issues e t (wordOpB 0x09 d a b) → Does (.and e t d a b) s (WritesReg e t d (fun w =>
      (∀ i, w.value.getLsbD i = ((th.reg a).value.getLsbD i && (th.opVal b).getLsbD i)) ∧
        w.tag = tagComb (th.reg a).tag (th.opTag b)) s.dev)) ∧
    (∀ d a b, s.dev.Issues e t (wordOpB 0x0A d a b) → Does (.or e t d a b) s (WritesReg e t d (fun w =>
      (∀ i, w.value.getLsbD i = ((th.reg a).value.getLsbD i || (th.opVal b).getLsbD i)) ∧
        w.tag = tagComb (th.reg a).tag (th.opTag b)) s.dev)) ∧
    (∀ d a b, s.dev.Issues e t (wordOpB 0x0B d a b) → Does (.xor e t d a b) s (WritesReg e t d (fun w =>
      (∀ i, w.value.getLsbD i = ((th.reg a).value.getLsbD i != (th.opVal b).getLsbD i)) ∧
        w.tag = tagComb (th.reg a).tag (th.opTag b)) s.dev))

/-- SHL, SHR, SAR, MIN, MAX, EXT, DIVU, SCALE (R99, R100). -/
def Obligations.EngineShiftOrderScaleDivide : Prop :=
  ∀ (e : Fin 8) (t : Fin 4) (s : State),
    let th := s.dev.thread e.val t.val
    (∀ d a b, s.dev.Issues e t (wordOpB 0x0C d a b) → Does (.shl e t d a b) s (WritesReg e t d (fun w =>
      w.value.toNat = (th.reg a).value.toNat * 2 ^ ((th.opVal b).toNat % 32) % 2 ^ 32 ∧
        w.tag = tagComb (th.reg a).tag (th.opTag b)) s.dev)) ∧
    (∀ d a b, s.dev.Issues e t (wordOpB 0x0D d a b) → Does (.shr e t d a b) s (WritesReg e t d (fun w =>
      w.value.toNat = (th.reg a).value.toNat / 2 ^ ((th.opVal b).toNat % 32) ∧ w.tag = tagComb (th.reg a).tag (th.opTag b)) s.dev)) ∧
    (∀ d a b, s.dev.Issues e t (wordOpB 0x0E d a b) → Does (.sar e t d a b) s (WritesReg e t d (fun w =>
      w.value.toInt = (th.reg a).value.toInt / 2 ^ ((th.opVal b).toNat % 32) ∧ w.tag = tagComb (th.reg a).tag (th.opTag b)) s.dev)) ∧
    (∀ d a b sg, s.dev.Issues e t (wordR 0x0F d.val a.val b.val (b2n sg)) → Does (.min e t d a b sg) s (WritesReg e t d (fun w =>
      (if sg then w.value.toInt = min (th.reg a).value.toInt (th.reg b).value.toInt
        else w.value.toNat = min (th.reg a).value.toNat (th.reg b).value.toNat) ∧
        w.tag = tagComb (th.reg a).tag (th.reg b).tag) s.dev)) ∧
    (∀ d a b sg, s.dev.Issues e t (wordR 0x10 d.val a.val b.val (b2n sg)) → Does (.max e t d a b sg) s (WritesReg e t d (fun w =>
      (if sg then w.value.toInt = max (th.reg a).value.toInt (th.reg b).value.toInt
        else w.value.toNat = max (th.reg a).value.toNat (th.reg b).value.toNat) ∧
        w.tag = tagComb (th.reg a).tag (th.reg b).tag) s.dev)) ∧
    (∀ d a sg n, s.dev.Issues e t (wordR 0x15 d.val a.val 0 (n.val + 32 * b2n sg)) → Does (.ext e t d a sg n) s
      (WritesReg e t d (fun w =>
        w.value = (if sg then ((th.reg a).value.setWidth (n.val + 1)).signExtend 32
          else ((th.reg a).value.setWidth (n.val + 1)).setWidth 32) ∧
        w.tag = tagWithSrc (th.reg a).tag 4) s.dev)) ∧
    (∀ d a b, s.dev.Issues e t (wordR 0x08 d.val a.val b.val 0) → Does (.divu e t d a b) s (WritesReg e t d (fun w =>
      ((th.reg b).value = 0 → w.value = 0xFFFFFFFF ∧ tagValid w.tag = false) ∧
      ((th.reg b).value ≠ 0 → w.value.toNat = (th.reg a).value.toNat / (th.reg b).value.toNat ∧
        w.tag = tagComb (th.reg a).tag (th.reg b).tag)) s.dev)) ∧
    (∀ d a m sg tr sh, s.dev.Issues e t (wordScale d a m sg tr sh) → Does (.scale e t d a m sg tr sh) s (WritesReg e t d (fun w =>
      let half : Int := if tr || sh = 0 then 0 else 2 ^ (sh.val - 1)
      (sg = false → (w.value.toNat : Int) =
        min (2 ^ 32 - 1) (((th.reg a).value.toNat * th.scaleVal false m + half) / 2 ^ sh.val)) ∧
      (sg = true → w.value.toInt =
        max (-(2 ^ 31)) (min (2 ^ 31 - 1) (((th.reg a).value.toInt * th.scaleVal true m + half) / 2 ^ sh.val))) ∧
      w.tag = tagComb (th.reg a).tag (th.scaleTag m)) s.dev))

/-- The combination of tags (R95). -/
def Obligations.TagCombination : Prop :=
  (∀ a b : Byte,
    tagValid (tagComb a b) = (tagValid a && tagValid b) ∧ tagAuth (tagComb a b) = (tagAuth a && tagAuth b) ∧
    tagStale (tagComb a b) = (tagStale a || tagStale b) ∧ tagSubst (tagComb a b) = (tagSubst a || tagSubst b) ∧
    tagTest (tagComb a b) = (tagTest a || tagTest b) ∧ tagSrc (tagComb a b) = 4) ∧
  (tagNeutral = 0x94 ∧ tagValid tagNeutral = true ∧ tagAuth tagNeutral = true ∧ tagStale tagNeutral = false ∧
    tagSubst tagNeutral = false ∧ tagTest tagNeutral = false ∧ tagSrc tagNeutral = 4) ∧
  (∀ a : Byte, (tagComb a tagNeutral).toNat / 8 = a.toNat / 8) ∧
  (∀ (th : Thread) (a : Byte) (x : BitVec 21), tagComb a (th.opTag (.imm x)) = tagComb a tagNeutral)

/-- CMP, SEL, TAGDN, TAGRD (R95, R99, R101). -/
def Obligations.EngineCompareSelectAndTags : Prop :=
  ∀ (e : Fin 8) (t : Fin 4) (s : State),
    let th := s.dev.thread e.val t.val
    (∀ a b, s.dev.Issues e t (wordOpB 0x11 0 a b) → Does (.cmp e t a b) s (fun d =>
      let x := d.thread e.val t.val
      let A := (th.reg a).value
      let B := th.opVal b
      ThreadOnly e t { th.counted s.dev.tns with z := x.z, n := x.n, c := x.c, v := x.v, ct := x.ct } s.dev d ∧
      x.ct = tagComb (th.reg a).tag (th.opTag b) ∧
      x.holds 1 = decide (A = B) ∧ x.holds 3 = decide (A.toNat < B.toNat) ∧ x.holds 5 = decide (A.toInt < B.toInt) ∧
      x.holds 7 = decide (B.toNat < A.toNat) ∧ x.holds 9 = decide (B.toInt < A.toInt) ∧
      x.holds 2 = !x.holds 1 ∧ x.holds 4 = !x.holds 3 ∧ x.holds 6 = !x.holds 5 ∧ x.holds 8 = !x.holds 7 ∧
      x.holds 10 = !x.holds 9)) ∧
    (∀ d a b cond, s.dev.Issues e t (wordR 0x12 d.val a.val b.val cond.val) → Does (.sel e t d a b cond) s
      (WritesReg e t d (fun w =>
        let src := if th.holds cond then th.reg a else th.reg b
        w.value = src.value ∧ w.tag = if 1 ≤ cond.val ∧ cond.val ≤ 10 then tagComb src.tag th.ct else src.tag) s.dev)) ∧
    (∀ d a x, s.dev.Issues e t (wordR 0x13 d.val a.val 0 x.toNat) → Does (.tagdn e t d a x) s (WritesReg e t d (fun w =>
      let g := (th.reg a).tag
      w.value = (th.reg a).value ∧ tagSrc w.tag = tagSrc g ∧
        tagValid w.tag = (tagValid g && !x.getLsbD 4) ∧ tagStale w.tag = (tagStale g || x.getLsbD 3) ∧
        tagSubst w.tag = (tagSubst g || x.getLsbD 2) ∧ tagAuth w.tag = (tagAuth g && !x.getLsbD 1) ∧
        tagTest w.tag = (tagTest g || x.getLsbD 0)) s.dev)) ∧
    (∀ d a, s.dev.Issues e t (wordR 0x14 d.val a.val 0 0) → Does (.tagrd e t d a) s (WritesReg e t d (fun w =>
      w.value.toNat = (th.reg a).tag.toNat ∧ tagSrc w.tag = 4 ∧ w.tag.toNat / 8 = (th.reg a).tag.toNat / 8) s.dev))

/-- LDS, AGE, LDW, LDT, LDH (R97, R99, R102). A slot is read as the thread's event sees it (R45, log entry 157), and the thread waits
for its load (R91, R118, log entry 155). -/
def Obligations.EngineLoads : Prop :=
  ∀ (e : Fin 8) (t : Fin 4) (s : State),
    let th := s.dev.thread e.val t.val
    (∀ d a imm, s.dev.Issues e t (wordI 0x18 d.val a.val imm.toNat) → th.slotIdx a imm < 131072 → Does (.lds e t d a imm) s (fun dv =>
      let x := s.dev.eventSlot e.val t.val (th.slotIdx a imm)
      LoadsReg e t d (fun w => w = ⟨x.value, x.tag⟩) { th.counted s.dev.tns with
        cn := x.consumed, lastLds := some x.capture, ldsCaps := x.capture :: th.ldsCaps } s.dev dv)) ∧
    (∀ d a imm, s.dev.Issues e t (wordI 0x1A d.val a.val imm.toNat) → th.slotIdx a imm < 131072 → Does (.age e t d a imm) s
      (LoadsReg e t d (fun w =>
        let x := s.dev.slot (th.slotIdx a imm)
        w.value.toNat = (if x.isDefined = false ∨ x.exempt = true ∨ th.slotIdx a imm ∈ th.unseen then 0xFFFFFFFF
          else min ((s.dev.now8 - x.capture).toNat * 8 / 1000) 0xFFFFFFFF) ∧
        w.tag = tagWithSrc (s.dev.eventSlot e.val t.val (th.slotIdx a imm)).tag 4) (th.counted s.dev.tns) s.dev)) ∧
    (∀ d a imm, s.dev.Issues e t (wordI 0x1B d.val a.val imm.toNat) →
      th.dataAddr a imm % 4 = 0 → th.dataAddr a imm + 3 ≤ 0x1FFFF → Does (.ldw e t d a imm) s (WritesReg e t d (fun w =>
        w.value.toNat = leNat (s.dev.dmem e.val (th.dataAddr a imm) 4) ∧
        w.tag = (s.dev.ringTag e.val t.val (th.dataAddr a imm)).getD 0x94) s.dev)) ∧
    (∀ d a imm, s.dev.Issues e t (wordI 0x1D d.val a.val imm.toNat) →
      th.dataAddr a imm % 8 = 0 → th.dataAddr a imm + 7 ≤ 0x1FFFF → Does (.ldt e t d a imm) s (WritesReg e t d (fun w =>
        let cell := s.dev.dmem e.val (th.dataAddr a imm) 8
        w.value.toNat = leNat (cell.take 4) ∧
        (s.dev.ringTag e.val t.val (th.dataAddr a imm) = none → w.tag.toNat = leNat ((cell.drop 4).take 1)) ∧
        (∀ g, s.dev.ringTag e.val t.val (th.dataAddr a imm) = some g → w.tag = g)) s.dev)) ∧
    (∀ d i, s.dev.Issues e t (wordI 0x1F d.val 0 i.val) → Does (.ldh e t d i) s (WritesReg e t d (fun w =>
      w.tag = 0x94 ∧ (∀ ev, th.ev = some ev →
        (i = 0 → w.value.toNat = ev.kind % 2 ^ 32) ∧ (i = 1 → w.value.toNat = ev.code % 2 ^ 32) ∧
        (i = 2 → w.value.toNat = ev.source % 2 ^ 32) ∧ (i = 3 → w.value.toNat = ev.ident % 2 ^ 32) ∧
        (i = 4 → w.value.toNat = ev.length % 2 ^ 32) ∧ (i = 5 → w.value.toNat = ev.flags % 2 ^ 32) ∧
        (i = 6 → w.value.toNat = ev.accept % 2 ^ 32) ∧ (i = 7 → w.value.toNat = ev.sdu % 2 ^ 32) ∧
        (i = 8 → w.value.toNat = ev.ts.toNat % 2 ^ 32) ∧ (i = 9 → w.value.toNat = ev.ts.toNat / 2 ^ 32) ∧
        (i = 10 → w.value.toNat = ev.recAddr % 2 ^ 32))) s.dev))

/-- STW, STT, STS (R97, R99, R103, R70). The address stored to is `Thread.dataAddr`, the slot `Thread.slotIdx`, as in the meanings. A slot
that a partial ADD has defined since the event started is not there for it (R45, log entry 157). -/
def Obligations.EngineStores : Prop :=
  ∀ (e : Fin 8) (t : Fin 4) (s : State),
    let th := s.dev.thread e.val t.val
    (∀ d a imm, let ad := th.dataAddr a imm
      s.dev.Issues e t (wordI 0x1C d.val a.val imm.toNat) → ad % 4 = 0 → ad + 3 ≤ 0x1FFFF →
      s.dev.touchesRing e.val ad 4 = false → tagClean (tagComb (th.reg d).tag th.pt) = true →
      Does (.stw e t d a imm) s (fun dv =>
        leNat (dv.dmem e.val ad 4) = (th.reg d).value.toNat ∧
        (∀ f b, f < 8 → b < 131072 → ¬ (f = e.val ∧ ad ≤ b ∧ b < ad + 4) → dv.dmem f b 1 = s.dev.dmem f b 1) ∧
        dv.thread e.val t.val = th.counted s.dev.tns ∧
        OtherThreads e t s.dev dv ∧
        Kept Part.eng s.dev dv)) ∧
    (∀ d a imm, let ad := th.dataAddr a imm
      s.dev.Issues e t (wordI 0x1E d.val a.val imm.toNat) → ad % 8 = 0 → ad + 7 ≤ 0x1FFFF →
      s.dev.touchesRing e.val ad 8 = false →
      Does (.stt e t d a imm) s (fun dv =>
        leNat (dv.dmem e.val ad 8) = (th.reg d).value.toNat + (tagComb (th.reg d).tag th.pt).toNat * 2 ^ 32 ∧
        (∀ f b, f < 8 → b < 131072 → ¬ (f = e.val ∧ ad ≤ b ∧ b < ad + 8) → dv.dmem f b 1 = s.dev.dmem f b 1) ∧
        dv.thread e.val t.val = th.counted s.dev.tns ∧
        OtherThreads e t s.dev dv ∧
        Kept Part.eng s.dev dv)) ∧
    (∀ d a cap imm rivals, let n := th.slotIdx a imm
      s.dev.Issues e t (wordI 0x19 d.val a.val (imm.toNat + cap.val * 2 ^ 24)) → (hn : n < 131072) →
      (n ∈ th.unseen → Does (.sts e t d a cap imm []) s (fun dv => (∀ m, dv.slot m = s.dev.slot m) ∧
        Bumped Fld.SIG_REFUSED_COUNT s.dev dv ∧ dv.fld Fld.SIG_REFUSED_SOURCE = 3 ∧ dv.fld Fld.SIG_REFUSED_SLOT = n)) ∧
      (n ∉ th.unseen → s.dev.storeAdmits (.engine e) n = true →
      Does (.sts e t d a cap imm rivals) s (fun dv =>
        SlotTakes ⟨n, hn⟩ (⟨.engine e, ⟨n, hn⟩, ⟨(th.reg d).value, tagFold (th.reg d).tag th.pt⟩, th.stsCapture s.dev.now8 cap⟩ ::
          onSlot ⟨n, hn⟩ rivals) s.dev dv ∧
        OtherSlots n s.dev dv ∧ ThreadOnly e t (th.counted s.dev.tns) s.dev { dv with store := s.dev.store, regs := s.dev.regs })))

/-- The condition codes (R101). -/
def Obligations.ConditionCodes : Prop :=
  ∀ th : Thread,
    (th.holds 0 = true ∧ th.holds 1 = th.z ∧ th.holds 2 = !th.z ∧ th.holds 3 = th.c ∧ th.holds 4 = !th.c ∧
      th.holds 5 = (th.n != th.v) ∧ th.holds 6 = (th.n == th.v) ∧ th.holds 7 = (!th.c && !th.z) ∧ th.holds 8 = (th.c || th.z) ∧
      th.holds 9 = (!th.z && th.n == th.v) ∧ th.holds 10 = (th.z || th.n != th.v) ∧ th.holds 11 = th.rl ∧ th.holds 12 = !th.rl ∧
      th.holds 13 = decide (th.job = 0) ∧ th.holds 14 = decide (th.job ≠ 0) ∧ th.holds 15 = th.cn) ∧
    ∀ c : Fin 16, condFolds c = decide (1 ≤ c.val ∧ c.val ≤ 10)

/-- BR, CALL, RET, JR, YIELD, ARM (R86, R91, R96, R99). -/
def Obligations.EngineControlFlow : Prop :=
  ∀ (e : Fin 8) (t : Fin 4) (s : State),
    let th := s.dev.thread e.val t.val
    let th1 := th.counted s.dev.tns
    (∀ c target, s.dev.Issues e t (wordJ 0x30 c.val target.toNat) → Does (.br e t c target) s (ThreadOnly e t { th1 with
      pc := if th.holds c then target.toNat else th.pc + 1
      pt := if 1 ≤ c.val ∧ c.val ≤ 10 then tagComb th.pt th.ct else th.pt } s.dev)) ∧
    (∀ target, s.dev.Issues e t (wordJ 0x31 0 target.toNat) → th.links.length < 8 → Does (.call e t target) s
      (ThreadOnly e t { th1 with links := (th.pc + 1) :: th.links, pc := target.toNat } s.dev)) ∧
    (∀ l ls, s.dev.Issues e t (wordZ 0x32) → th.links = l :: ls → Does (.ret e t) s
      (ThreadOnly e t { th1 with links := ls, pc := l } s.dev)) ∧
    (∀ a, s.dev.Issues e t (wordR 0x33 0 a.val 0 0) → Does (.jr e t a) s (ThreadOnly e t { th1 with
      pc := (th.reg a).value.toNat % 2 ^ 14, pt := tagComb th.pt (th.reg a).tag } s.dev)) ∧
    (s.dev.Issues e t (wordZ 0x34) → Does (.yield e t) s (ThreadOnly e t { th1 with slice := 0, demoted := false } s.dev)) ∧
    (∀ a code p, s.dev.Issues e t (wordR 0x2E 0 a.val 0 (b2n p + 4 * code.toNat)) → Does (.arm e t a code p) s (fun d =>
      let us := (th.reg a).value.toNat
      (us = 0 → ThreadOnly e t { th1 with timer := none } s.dev d) ∧
      (us ≠ 0 → ThreadOnly e t { th1 with
        timer := some (s.dev.tns + 1000 * us, if p then some (1000 * us) else none, code.toNat) } s.dev d)))

/-- TRAP, DONE and where the other instructions trap (R93, R97, R98, R99). -/
def Obligations.EngineTrapsAndDone : Prop :=
  ∀ (e : Fin 8) (t : Fin 4) (s : State),
    let th := s.dev.thread e.val t.val
    (∀ arg, s.dev.Issues e t (wordR 0x36 0 0 0 arg.toNat) → Does (.trap e t arg) s (Traps e t 10 arg.toNat s.dev)) ∧
    (∀ target, s.dev.Issues e t (wordJ 0x31 0 target.toNat) → 8 ≤ th.links.length → Does (.call e t target) s (Traps e t 7 0 s.dev)) ∧
    (s.dev.Issues e t (wordZ 0x32) → th.links = [] → Does (.ret e t) s (Traps e t 7 0 s.dev)) ∧
    (∀ d a imm, s.dev.Issues e t (wordI 0x1B d.val a.val imm.toNat) → th.dataAddr a imm % 4 ≠ 0 →
      Does (.ldw e t d a imm) s (Traps e t 2 0 s.dev)) ∧
    (∀ d a imm, s.dev.Issues e t (wordI 0x1D d.val a.val imm.toNat) → th.dataAddr a imm % 8 = 0 → 0x1FFFF < th.dataAddr a imm + 7 →
      Does (.ldt e t d a imm) s (Traps e t 3 0 s.dev)) ∧
    (∀ d a imm, s.dev.Issues e t (wordI 0x18 d.val a.val imm.toNat) → 131072 ≤ th.slotIdx a imm →
      Does (.lds e t d a imm) s (Traps e t 4 0 s.dev)) ∧
    (∀ d a imm, let ad := th.dataAddr a imm
      s.dev.Issues e t (wordI 0x1C d.val a.val imm.toNat) → ad % 4 = 0 → ad + 3 ≤ 0x1FFFF →
      (s.dev.touchesRing e.val ad 4 = true → Does (.stw e t d a imm) s (Traps e t 9 0 s.dev)) ∧
      (s.dev.touchesRing e.val ad 4 = false → tagClean (tagComb (th.reg d).tag th.pt) = false →
        Does (.stw e t d a imm) s (Traps e t 8 0 s.dev))) ∧
    (s.dev.Issues e t (wordZ 0x35) → Does (.done e t) s (fun d =>
      let x := d.thread e.val t.val
      d.fld (Fld.ENG_EVENTS_COUNT e.val) = min (s.dev.fld (Fld.ENG_EVENTS_COUNT e.val) + 1) (2 ^ 32 - 1) ∧
      x.ev = none ∧ x.wait = .ready ∧ x.fauth = false ∧ (∀ h, h < 4 → x.handle h = none) ∧
      (∀ q, x.reg q = th.reg q) ∧ x.z = th.z ∧ x.n = th.n ∧ x.c = th.c ∧ x.v = th.v ∧ x.rl = th.rl ∧ x.cn = th.cn ∧
      x.job = th.job ∧ x.timer = th.timer ∧ x.evq = th.evq ∧ Kept Part.instr s.dev d))

/-- LKUP, RATE, POST, TXOPEN (R89, R104, R110, R116). That TXOPEN gives the lowest free buffer is the model's choice (log entry 6). -/
def Obligations.EngineLookupRateAndPost : Prop :=
  ∀ (e : Fin 8) (t : Fin 4) (s : State),
    let th := s.dev.thread e.val t.val
    let th1 := th.counted s.dev.tns
    (∀ d a k, s.dev.Issues e t (wordR 0x20 d.val a.val 0 k.val) → Does (.lkup e t d a false k) s (fun dv =>
      let x := dv.thread e.val t.val
      let tab := Tab.get (fun _ => (0, 0)) s.dev.eng.lktabs (4 * e.val + k.val)
      let keyAt := fun i => leNat (s.dev.dmem e.val (tab.1 + 16 * i) 5)
      let key := (th.reg a).value.toNat + (th.reg a).tag.toNat * 2 ^ 32
      x.n = false ∧ x.c = false ∧ x.v = false ∧ x.ct = (th.reg a).tag ∧
      (x.z = true → ∃ i, i < tab.2 ∧ keyAt i = key ∧
        (d ≠ 0 → (x.reg d).value.toNat = leNat (s.dev.dmem e.val (tab.1 + 16 * i + 8) 4) ∧ (x.reg d).tag = 0x94)) ∧
      (x.z = false → x.g = th.g) ∧
      (tab.2 ≤ 2 ^ 31 → (∀ i j, i < j → j < tab.2 → keyAt i < keyAt j) → (∃ i, i < tab.2 ∧ keyAt i = key) → x.z = true) ∧
      (∀ q, q ≠ d → x.reg q = th.reg q) ∧
      ThreadOnly e t { th1 with g := x.g, z := x.z, n := false, c := false, v := false, ct := (th.reg a).tag } s.dev dv)) ∧
    (∀ k, s.dev.Issues e t (wordR 0x27 0 0 0 k.val) → Does (.rate e t k) s (fun d =>
      let l := s.dev.limiter e.val k.val
      let m := d.limiter e.val k.val
      d.thread e.val t.val = { th1 with rl := decide (0 < l.tokens) } ∧
      (0 < l.tokens → m.tokens = l.tokens - 1 ∧ m.armed = l.armed) ∧
      (l.tokens = 0 → m.tokens = 0 ∧ m.armed = if l.trail = true ∧ l.armed = none then some (t.val, l.nextToken) else l.armed) ∧
      (∀ i, i ≠ 256 * e.val + k.val → Tab.get (fun _ => limiterNone) d.eng.limiters i = Tab.get (fun _ => limiterNone) s.dev.eng.limiters i) ∧
      OtherThreads e t s.dev d ∧ Kept Part.eng s.dev d)) ∧
    (∀ a te tt, s.dev.Issues e t (wordR 0x2D 0 a.val 0 (tt.val + 4 * te.val)) → s.dev.vec te.val tt.val 6 ≠ 0xFFFF →
      (s.dev.thread te.val tt.val).evq.length < 32 → Does (.post e t a te tt) s (fun d =>
        (d.thread te.val tt.val).evq = (s.dev.thread te.val tt.val).evq ++
          [⟨6, (th.reg a).value.toNat % 2 ^ 16, 4 * e.val + t.val, s.dev.now8, s.dev.tns⟩] ∧
        ((te, tt) ≠ (e, t) → d.thread e.val t.val = th1) ∧
        (∀ i, i ≠ 4 * e.val + t.val → i ≠ 4 * te.val + tt.val →
          Tab.get (fun _ => threadIdle) d.eng.threads i = Tab.get (fun _ => threadIdle) s.dev.eng.threads i) ∧ Kept Part.eng s.dev d)) ∧
    (∀ h k, s.dev.Issues e t (wordR 0x25 0 0 0 (k.val + h.val * 2 ^ 12)) → th.handle h.val = none → Does (.txopen e t h k) s (fun d =>
      let x := d.thread e.val t.val
      (s.dev.freeAsm e.val = none → x = { th1 with wait := .buffer h k, slice := 0, demoted := false }) ∧
      (∀ b, s.dev.freeAsm e.val = some b → x.handle h.val = some b ∧ d.asmTmpl e.val b = some k.val ∧ x.wait = th.wait ∧
        (∀ g, g ≠ h.val → x.handle g = th.handle g) ∧ { x with handles := th.handles } = th1 ∧
        (∀ i, i ≠ 16 * e.val + b → Tab.get (fun _ => none) d.eng.asmTmpl i = Tab.get (fun _ => none) s.dev.eng.asmTmpl i)) ∧
      OtherThreads e t s.dev d ∧ Kept Part.eng s.dev d))

/-- UNPK, UNPKS, PACK, PACKS (R106 to R109). -/
def Obligations.EnginePackAndUnpack : Prop :=
  ∀ (e : Fin 8) (t : Fin 4) (s : State),
    let th := s.dev.thread e.val t.val
    let th1 := th.counted s.dev.tns
    (∀ d a base ev desc, s.dev.Issues e t (wordR 0x21 d.val a.val 0 base.toNat) → th.ev = some ev → ev.kind < 2 →
      s.dev.descriptor e.val (th.reg a).value.toNat = .ok desc → plainDesc desc →
      base.toNat * 8 + bits desc 37 24 + bits desc 42 38 < ev.length * 8 →
      Does (.unpk e t d a base) s (fun dv => WritesReg e t d (fun w =>
        (∀ i, i < 32 → w.value.getLsbD i = (decide (i ≤ bits desc 42 38) &&
          s.dev.dmemBit e.val ev.recAddr (base.toNat * 8 + bits desc 37 24 + i))) ∧
        tagValid w.tag = true ∧ tagStale w.tag = false ∧ tagSubst w.tag = false ∧ tagAuth w.tag = th.fauth ∧
        tagTest w.tag = bit ev.flags 6 ∧ tagSrc w.tag = ev.kind) s.dev { dv with regs := s.dev.regs } ∧
        ∀ r, dv.rd r = s.dev.rd r)) ∧
    (∀ d a h base b desc, s.dev.Issues e t (wordR 0x23 d.val a.val 0 (base.toNat + h.val * 2 ^ 12)) → th.handle h.val = some b → b < 16 →
      s.dev.descriptor e.val (th.reg a).value.toNat = .ok desc → plainDesc desc →
      base.toNat * 8 + bits desc 37 24 + bits desc 42 38 < 2560 * 8 →
      Does (.pack e t d a h base) s (fun dv =>
        let at' := base.toNat * 8 + bits desc 37 24
        (∀ i, i ≤ bits desc 42 38 → dv.asmBit e.val b (at' + i) = (th.reg d).value.getLsbD i) ∧
        (∀ f c p, f < 8 → c < 16 → p < 2560 * 8 → ¬ (f = e.val ∧ c = b ∧ at' ≤ p ∧ p ≤ at' + bits desc 42 38) →
          dv.asmBit f c p = s.dev.asmBit f c p) ∧
        dv.thread e.val t.val = th1 ∧ OtherThreads e t s.dev dv ∧ dv.eng.dmem = s.dev.eng.dmem ∧ Kept Part.eng s.dev dv)) ∧
    (∀ a base rivals n, let ad := (th.reg a).value.toNat
      s.dev.Issues e t (wordR 0x22 0 a.val 0 base.toNat) → s.dev.listCount e.val ad = .ok n →
      (∀ i, i < n → ∃ desc, s.dev.descriptor e.val (ad + 8 + 8 * i) = .ok desc) →
      Does (.unpks e t a base rivals) s (fun dv =>
        dv.thread e.val t.val = th1 ∧ OtherThreads e t s.dev dv ∧ dv.eng.dmem = s.dev.eng.dmem ∧
        (∀ m, (∀ i desc, i < n → s.dev.descriptor e.val (ad + 8 + 8 * i) = .ok desc → bits desc 63 47 ≠ m) →
          dv.slot m = s.dev.slot m) ∧
        (∀ desc, n = 1 → s.dev.descriptor e.val (ad + 8) = .ok desc → s.dev.storeAdmits (.engine e) (bits desc 63 47) = true →
          bits desc 63 47 ∉ th.unseen →
          let w := (s.dev.unpack e.val th desc base.toNat).1
          SlotTakes (Fin.ofNat 131072 (bits desc 63 47))
            (⟨.engine e, Fin.ofNat 131072 (bits desc 63 47), ⟨w.value, tagFold w.tag th.pt⟩, some th.ts⟩ ::
              onSlot (Fin.ofNat 131072 (bits desc 63 47)) rivals) s.dev dv))) ∧
    (∀ a h base b n, let ad := (th.reg a).value.toNat
      s.dev.Issues e t (wordR 0x24 0 a.val 0 (base.toNat + h.val * 2 ^ 12)) → th.handle h.val = some b → b < 16 →
      s.dev.listCount e.val ad = .ok n →
      (∀ i, i < n → ∃ desc, s.dev.descriptor e.val (ad + 8 + 8 * i) = .ok desc ∧
        ∀ p ∈ descNeeds desc, base.toNat * 8 + p < 2560 * 8) →
      Does (.packs e t a h base) s (fun dv =>
        LoadWaits s.dev.tns th1 (dv.thread e.val t.val) ∧ OtherThreads e t s.dev dv ∧ dv.eng.dmem = s.dev.eng.dmem ∧
        (∀ f c p, f < 8 → c < 16 → p < 2560 * 8 → ¬ (f = e.val ∧ c = b) → dv.asmBit f c p = s.dev.asmBit f c p) ∧
        Kept Part.eng s.dev dv))

/-- EVENT_START, THREAD_TIMER_EXPIRY, RATE_TOKEN_REFILL, TRAIL_TIMER_EXPIRY, SLICE_DEMOTION, BUDGET_OVERRUN, ASSEMBLY_BUFFER_GRANT,
ENG_LOAD_UPDATE. -/
def Obligations.EngineEvents : Prop :=
  ∀ (e : Fin 8) (t : Fin 4) (s : State),
    let th := s.dev.thread e.val t.val
    let run := s.dev.enginesRun = true
    (∀ x xs, run → th.ev = none → s.dev.oldestRing e.val t.val = none → th.evq = x :: xs → x.kind ≠ 2 →
      Does (.eventStart e t) s (fun d =>
        let y := d.thread e.val t.val
        (y.ev.map (fun v => (v.kind, v.code, v.source, v.ts))) = some (x.kind, x.code, x.source, x.ts) ∧ y.evq = xs ∧
        y.pc = s.dev.vec e.val t.val x.kind ∧ y.pt = 0x94 ∧ y.wait = .ready ∧ y.fauth = false ∧ (∀ q, y.reg q = th.reg q) ∧
        y.z = th.z ∧ y.c = th.c ∧ y.n = th.n ∧ y.v = th.v ∧ (∀ h, h < 4 → y.handle h = none) ∧
        d.latch (.thread e t) = ⟨0, 0⟩ ∧ OtherThreads e t s.dev d ∧ Kept (Part.eng ||| Part.latches) s.dev d)) ∧
    (∀ x xs, run → th.ev = none → s.dev.oldestRing e.val t.val = none → th.evq = x :: xs → x.kind = 2 →
      Does (.eventStart e t) s (fun d =>
        let y := d.thread e.val t.val
        (y.ev.map (fun v => (v.kind, v.code, v.source, v.ts))) = some (2, x.code, x.source, (s.dev.evalSlot x.source).capture) ∧
        y.evq = xs ∧ y.pc = s.dev.vec e.val t.val 2 ∧ y.pt = 0x94 ∧ OtherThreads e t s.dev d ∧
        Kept (Part.eng ||| Part.latches) s.dev d)) ∧
    (∀ i q, run → th.ev = none → s.dev.oldestRing e.val t.val = some (i, q) → (∀ x ∈ th.evq.head?, q.arrival ≤ x.arrival) →
      Does (.eventStart e t) s (fun d =>
        let y := d.thread e.val t.val
        y.ev = some { q.ev with ring := some i } ∧ y.evq = th.evq ∧ y.pc = s.dev.vec e.val t.val q.ev.kind ∧ y.pt = 0x94 ∧
        y.fauth = false ∧ (∀ r, y.reg r = th.reg r) ∧ d.eng.rings = s.dev.eng.rings ∧ OtherThreads e t s.dev d ∧
        Kept (Part.eng ||| Part.latches) s.dev d)) ∧
    (∀ i q x xs, run → th.ev = none → s.dev.oldestRing e.val t.val = some (i, q) → th.evq = x :: xs → x.arrival < q.arrival →
      Does (.eventStart e t) s (fun d =>
        let y := d.thread e.val t.val
        (y.ev.map (fun v => (v.kind, v.code, v.source))) = some (x.kind, x.code, x.source) ∧ y.evq = xs ∧
        y.pc = s.dev.vec e.val t.val x.kind ∧ d.eng.rings = s.dev.eng.rings ∧ OtherThreads e t s.dev d)) ∧
    (∀ due period code, run → th.timer = some (due, period, code) → due ≤ s.dev.tns → s.dev.vec e.val t.val 3 ≠ 0xFFFF →
      (∀ q ∈ th.evq, ¬ (q.kind = 3 ∧ q.code = code)) → th.evq.length < 32 →
      Does (.threadTimerExpiry e t) s (fun d => ThreadOnly e t { th with
        timer := period.map (fun p => (due + p, some p, code)),
        evq := th.evq ++ [⟨3, code, 0, s.dev.captureAt due, s.dev.tns⟩] } s.dev d)) ∧
    (∀ k, let l := s.dev.limiter e.val k.val
      run → l.tokens < l.burst → l.nextToken ≤ s.dev.tns → Does (.rateTokenRefill e k) s (fun d =>
        d.limiter e.val k.val = { l with
          tokens := l.tokens + 1, nextToken := l.nextToken + 1000 * s.dev.fld (Fld.ENG_RATE_INTERVAL e.val k.val) } ∧
        (∀ i, i ≠ 256 * e.val + k.val → Tab.get (fun _ => limiterNone) d.eng.limiters i = Tab.get (fun _ => limiterNone) s.dev.eng.limiters i) ∧
        d.eng.threads = s.dev.eng.threads ∧ Kept Part.eng s.dev d)) ∧
    (∀ k tt due, let l := s.dev.limiter e.val k.val
      run → tt < 4 → l.armed = some (tt, due) → due ≤ s.dev.tns → s.dev.vec e.val tt 3 ≠ 0xFFFF →
      (∀ q ∈ (s.dev.thread e.val tt).evq, ¬ (q.kind = 3 ∧ q.code = l.trailCode)) → (s.dev.thread e.val tt).evq.length < 32 →
      Does (.trailTimerExpiry e k) s (fun d =>
        d.limiter e.val k.val = { l with armed := none } ∧
        (d.thread e.val tt).evq = (s.dev.thread e.val tt).evq ++ [⟨3, l.trailCode, 0, s.dev.captureAt due, s.dev.tns⟩] ∧
        Kept Part.eng s.dev d)) ∧
    (th.ev.isSome = true → th.wait = .ready → s.dev.fld (Fld.ENG_THR_TIME_SLICE e.val t.val) ≤ th.slice →
      run → (∃ u, u < 4 ∧ u ≠ t.val ∧ (s.dev.thread e.val u).isReady s.dev.tns = true) →
      Does (.sliceDemotion e t) s (ThreadOnly e t { th with demoted := true } s.dev)) ∧
    (run → th.ev.isSome = true → th.wait = .ready → s.dev.fld (Fld.ENG_THR_CFG_INSN_BUDGET e.val t.val) ≤ th.insns →
      Does (.budgetOverrun e t) s (fun d =>
        d.fld (Fld.ENG_OVERRUN_THREAD e.val) = t.val ∧ d.flag (Fld.ENG_OVERRUN_BUDGET e.val) = false ∧
        d.fld (Fld.ENG_OVERRUN_COUNT e.val) = min (s.dev.fld (Fld.ENG_OVERRUN_COUNT e.val) + 1) (2 ^ (Fld.ENG_OVERRUN_COUNT e.val).width - 1) ∧
        Raised (64 + e.val) s.dev d ∧ (d.thread e.val t.val).ev = none ∧
        (d.thread e.val t.val).timer = th.timer ∧ Kept (Part.instr ||| Part.sec) s.dev d)) ∧
    (∀ st, run → th.ev.isSome = true → th.started = some st →
      1000 * s.dev.fld (Fld.ENG_THR_TIME_TIME_BUDGET e.val t.val) < s.dev.tns - st →
      (th.isReady s.dev.tns = false ∨ th.insns < s.dev.fld (Fld.ENG_THR_CFG_INSN_BUDGET e.val t.val)) →
      Does (.budgetOverrun e t) s (fun d =>
        d.fld (Fld.ENG_OVERRUN_THREAD e.val) = t.val ∧ d.flag (Fld.ENG_OVERRUN_BUDGET e.val) = true ∧
        d.fld (Fld.ENG_OVERRUN_COUNT e.val) = min (s.dev.fld (Fld.ENG_OVERRUN_COUNT e.val) + 1) (2 ^ (Fld.ENG_OVERRUN_COUNT e.val).width - 1) ∧
        Raised (64 + e.val) s.dev d ∧ (d.thread e.val t.val).ev = none ∧ (d.thread e.val t.val).wait = .ready ∧
        (d.thread e.val t.val).timer = th.timer ∧ Kept (Part.instr ||| Part.sec) s.dev d)) ∧
    (∀ h k b, run → th.wait = .buffer h k → s.dev.freeAsm e.val = some b → Does (.assemblyBufferGrant e t) s (fun d =>
      let y := d.thread e.val t.val
      y.wait = .ready ∧ y.handle h.val = some b ∧ d.asmTmpl e.val b = some k.val ∧ OtherThreads e t s.dev d ∧ Kept Part.eng s.dev d)) ∧
    (let ms := s.dev.frc.toNat / 1000000
     s.dev.mode ≠ .doze → Tab.get (fun _ => 0) s.dev.eng.loadMs e.val < ms → Does (.engLoadUpdate e) s (fun d =>
      d.fld (Fld.ENG_LOAD_ISSUE_PM e.val) =
        s.dev.issuedBefore e.val ms * 1000 / 1200000 % 2 ^ (Fld.ENG_LOAD_ISSUE_PM e.val).width ∧
      Tab.get (fun _ => 0) d.eng.loadMs e.val = ms ∧ d.eng.issued = s.dev.eng.issued ∧ d.eng.threads = s.dev.eng.threads ∧
      OtherRegs [Reg.ENG_LOAD e.val] s.dev d ∧ Kept (Part.regs ||| Part.eng) s.dev d))

/-- FRESH, MACGEN, MACVER, ENGINE_JOB_COMPLETE (R111 to R115). That bits of the FV field above FV_BITS are ignored is the model's choice
(log entry 200). -/
def Obligations.EngineAuthenticationJobs : Prop :=
  ∀ (e : Fin 8) (t : Fin 4) (s : State),
    let th := s.dev.thread e.val t.val
    let th1 := th.counted s.dev.tns
    let waits := fun op entry h a (d : Dev) =>
      d.thread e.val t.val = { th1 with wait := .mac op entry h a s.dev.eng.macNo .live, slice := 0, demoted := false } ∧
      OtherThreads e t s.dev d ∧ d.eng.dmem = s.dev.eng.dmem ∧ d.eng.asmBytes = s.dev.eng.asmBytes ∧
      d.sec = { s.dev.sec with coreBusy := d.sec.coreBusy } ∧ Kept (Part.eng ||| Part.sec) s.dev d
    let ends := fun (f : Thread → Thread) code (d : Dev) =>
      d.thread e.val t.val = f { th with job := code, wait := .ready } ∧ OtherThreads e t s.dev d ∧ d.eng.dmem = s.dev.eng.dmem ∧
      d.sec = { s.dev.sec with coreBusy := d.sec.coreBusy } ∧ Kept (Part.regs ||| Part.eng ||| Part.sec) s.dev d
    let failed := fun entry replay (d : Dev) =>
      Bumped (Fld.ENG_AUTHFAIL_COUNT e.val) s.dev d ∧ d.fld (Fld.ENG_AUTHFAIL_ENTRY e.val) = entry ∧
      d.flag (Fld.ENG_AUTHFAIL_REPLAY e.val) = replay ∧ d.eng.fresh = s.dev.eng.fresh ∧ d.eng.asmBytes = s.dev.eng.asmBytes
    (∀ a h entry b, s.dev.Issues e t (wordR 0x28 0 a.val 0 (entry.val + h.val * 2 ^ 12)) → th.handle h.val = some b →
      Does (.fresh e t a h entry) s (waits .fresh entry h (th.reg a).value)) ∧
    (∀ a h entry b, s.dev.Issues e t (wordR 0x29 0 a.val 0 (entry.val + h.val * 2 ^ 12)) → th.handle h.val = some b →
      Does (.macgen e t a h entry) s (waits .gen entry h (th.reg a).value)) ∧
    (∀ a entry, s.dev.Issues e t (wordR 0x2A 0 a.val 0 entry.val) →
      Does (.macver e t a entry) s (waits .ver entry 0 (th.reg a).value)) ∧
    (∀ entry h a no b k, s.dev.enginesRun = true → th.wait = .mac .fresh entry h a no k → s.dev.macHeld e.val entry no = false →
      th.handle h.val = some b →
      let x := s.dev.freshEntry e.val entry.val
      x.mode = 1 → x.counter < 2 ^ 64 - 1 → x.layoutEnd a ≤ 2560 →
      Does (.engineJobComplete e t) s (fun d =>
        ends id 0 d ∧ (d.freshEntry e.val entry.val) = { x with counter := x.counter + 1 } ∧
        beNat (d.asm e.val b (layoutStart a + layoutLen a) x.fvBytes) = (x.counter + 1) % 2 ^ x.fvBits)) ∧
    (∀ entry h a no b k, s.dev.enginesRun = true → th.wait = .mac .gen entry h a no k → s.dev.macHeld e.val entry no = false →
      th.handle h.val = some b → b < 16 →
      let x := s.dev.freshEntry e.val entry.val
      x.mode = 1 → x.macBytes ≤ 16 → x.layoutEnd a ≤ 2560 →
      let at' := layoutStart a + layoutLen a + x.fvBytes
      (s.dev.macKey e.val .gen x k = none → Does (.engineJobComplete e t) s (fun d =>
        ends id 4 d ∧ d.eng.fresh = s.dev.eng.fresh ∧ d.eng.asmBytes = s.dev.eng.asmBytes)) ∧
      (∀ key, s.dev.macKey e.val .gen x k = some key → Does (.engineJobComplete e t) s (fun d =>
        ends id 0 d ∧ d.eng.fresh = s.dev.eng.fresh ∧
        d.asm e.val b at' x.macBytes = x.mac key (s.dev.asm e.val b (layoutStart a) (layoutLen a)) x.counter ∧
        (∀ f c p, f < 8 → c < 16 → p < 2560 → ¬ (f = e.val ∧ c = b ∧ at' ≤ p ∧ p < at' + x.macBytes) →
          d.asm f c p 1 = s.dev.asm f c p 1)))) ∧
    (∀ entry h a no k ev, s.dev.enginesRun = true → th.wait = .mac .ver entry h a no k → s.dev.macHeld e.val entry no = false →
      th.ev = some ev → ev.kind < 2 →
      let x := s.dev.freshEntry e.val entry.val
      x.mode = 2 → x.layoutEnd a ≤ ev.length →
      let at' := ev.recAddr + layoutStart a
      let fv := beNat (s.dev.dmem e.val (at' + layoutLen a) x.fvBytes)
      (s.dev.macKey e.val .ver x k = none → Does (.engineJobComplete e t) s (fun d =>
        ends id 4 d ∧ Bumped (Fld.ENG_AUTHFAIL_COUNT e.val) s.dev d ∧ d.eng.fresh = s.dev.eng.fresh ∧
        d.eng.asmBytes = s.dev.eng.asmBytes)) ∧
      (∀ key c, s.dev.macKey e.val .ver x k = some key → c < 2 ^ 64 →
        x.counter < c → c ≤ x.counter + 2 ^ x.fvBits → c % 2 ^ x.fvBits = fv % 2 ^ x.fvBits →
        let same := x.mac key (s.dev.dmem e.val at' (layoutLen a)) c = s.dev.dmem e.val (at' + layoutLen a + x.fvBytes) x.macBytes
        (x.window < c - x.counter → Does (.engineJobComplete e t) s (fun d => ends id 5 d ∧ failed entry.val true d)) ∧
        (c - x.counter ≤ x.window → ¬ same → Does (.engineJobComplete e t) s (fun d => ends id 5 d ∧ failed entry.val false d)) ∧
        (c - x.counter ≤ x.window → same → Does (.engineJobComplete e t) s (fun d =>
          ends (fun y => { y with fauth := true }) 0 d ∧ d.freshEntry e.val entry.val = { x with counter := c } ∧
          d.eng.asmBytes = s.dev.eng.asmBytes)))) ∧
    (∀ x, s.dev.macKey e.val .gen x .lost = none ∧ s.dev.macKey e.val .ver x .lost = none) ∧
    (∀ x key, s.dev.macKey e.val .gen x (.kept key) = key ∧ s.dev.macKey e.val .ver x (.kept key) = key) ∧
    (∀ x, let kk := s.dev.keySlot x.keySlot
      (s.dev.macKey e.val .gen x .live).isSome =
        (kk.valid && kk.use 2 && kk.access e.val && decide (kk.keyLen = 16 ∨ kk.keyLen = 24 ∨ kk.keyLen = 32)) ∧
      (s.dev.macKey e.val .ver x .live).isSome =
        (kk.valid && kk.use 3 && kk.access e.val && decide (kk.keyLen = 16 ∨ kk.keyLen = 24 ∨ kk.keyLen = 32))) ∧
    (∀ dst w code, s.dev.enginesRun = true → th.wait = .job (some dst) (some (w, code)) → dst ≠ 0 →
      Does (.engineJobComplete e t) s (fun d =>
        let y := d.thread e.val t.val
        y.reg dst = w ∧ (∀ q, q ≠ dst → y.reg q = th.reg q) ∧ y.job = code ∧ y.wait = .ready ∧
        OtherThreads e t s.dev d ∧ Kept Part.eng s.dev d))

/-- FLD, FST, QPUT, PORT13_CREDIT_TIMEOUT, DOORBELL (R89, R114, R117, R327). -/
def Obligations.EngineAccessAndQueueJobs : Prop :=
  ∀ (e : Fin 8) (t : Fin 4) (s : State),
    let th := s.dev.thread e.val t.val
    let th1 := th.counted s.dev.tns
    (∀ d a b, let addr := th.fabricAddr a b
      s.dev.Issues e t (wordR 0x2B d.val a.val b.val 0) →
      (s.dev.fabricCode false addr = 0 → fabricNode addr = 0 → fabricSpace addr = 1 → Does (.fld e t d a b) s (fun dv =>
        let x := s.dev.eventSlot e.val t.val (fabricOff addr / 16)
        ThreadOnly e t { th1 with wait := .job (some d) (some (⟨x.value, x.tag⟩, 0)), slice := 0, demoted := false } s.dev dv)) ∧
      (s.dev.fabricCode false addr ≠ 0 → Does (.fld e t d a b) s (fun dv =>
        ∃ w, ThreadOnly e t { th1 with
          wait := .job (some d) (some (w, s.dev.fabricCode false addr)), slice := 0, demoted := false } s.dev dv))) ∧
    (∀ d a b, let addr := th.fabricAddr a b
      let n := Fin.ofNat 131072 (fabricOff addr / 16)
      s.dev.Issues e t (wordR 0x2C d.val a.val b.val 0) →
      (s.dev.fabricCode true addr = 0 → fabricNode addr = 0 → fabricSpace addr = 1 → n.val ∉ th.unseen →
        s.dev.storeAdmits (.engine e) n.val = true → Does (.fst e t d a b) s (fun dv =>
          SlotTakes n [⟨.engine e, n, ⟨(th.reg d).value, tagComb (th.reg d).tag th.pt⟩, none⟩] s.dev dv ∧ OtherSlots n.val s.dev dv ∧
          (dv.thread e.val t.val).wait = .job none (some (⟨0, 0⟩, 0)) ∧ OtherThreads e t s.dev dv)) ∧
      (s.dev.fabricCode true addr ≠ 0 → Does (.fst e t d a b) s (fun dv =>
        ThreadOnly e t { th1 with
          wait := .job none (some (⟨0, 0⟩, s.dev.fabricCode true addr)), slice := 0, demoted := false } s.dev dv))) ∧
    (∀ a b q, let n := (th.reg a).value.toNat
      let at' := (th.reg b).value.toNat
      s.dev.Issues e t (wordR 0x2F 0 a.val b.val q.val) →
      (n = 0 → Does (.qput e t a b q) s (ThreadOnly e t { th1 with
        wait := .job none (some (⟨0, 0⟩, 1)), slice := 0, demoted := false } s.dev)) ∧
      (0 < n → at' + n ≤ 0x20000 → s.dev.enabled q.val = true → s.dev.role q.val = 2 → bit (s.dev.queue q.val).engmask e.val = true →
        (∀ r : Rec, r.payload = s.dev.dmem e.val at' n → s.dev.lenRefused q.val r = false) →
        Does (.qput e t a b q) s (fun dv =>
          (∃ r : Rec, r.payload = s.dev.dmem e.val at' n ∧ r.prod = .qput e t ∧
            (dv.queue q.val).waiting = (s.dev.queue q.val).waiting ++ [r]) ∧
          dv.thread e.val t.val = { th1 with wait := .space q at' n (s.dev.tns + 10000), slice := 0, demoted := false } ∧
          dv.eng.dmem = s.dev.eng.dmem ∧ OtherThreads e t s.dev dv ∧ Kept (Part.eng ||| Part.hq) s.dev dv))) ∧
    (∀ h n deadline b, s.dev.enginesRun = true → th.wait = .credit h n deadline → deadline ≤ s.dev.tns → th.handle h.val = some b →
      Does (.port13CreditTimeout e t) s (fun d =>
        let y := d.thread e.val t.val
        y.wait = .ready ∧ y.job = 7 ∧ y.handle h.val = none ∧ d.asmTmpl e.val b = none ∧
        d.fld (Fld.ENG_TXREF_CODE e.val) = 7 ∧ OtherThreads e t s.dev d ∧ Kept (Part.regs ||| Part.eng) s.dev d)) ∧
    (∀ p v, let u := v.toNat / 2 ^ 30
      s.dev.writeCode p (Reg.ENG_DOORBELL e.val) v.toNat = 0 → s.dev.enginesRun = true → s.dev.vec e.val u 5 ≠ 0xFFFF →
      (s.dev.thread e.val u).evq.length < 32 → Does (.doorbell p e v) s (fun d =>
        (d.thread e.val u).evq = (s.dev.thread e.val u).evq ++ [⟨5, v.toNat % 65536, 0, s.dev.now8, s.dev.tns⟩] ∧
        (∀ i, i ≠ 4 * e.val + u → Tab.get (fun _ => threadIdle) d.eng.threads i = Tab.get (fun _ => threadIdle) s.dev.eng.threads i)))

/-- VERSION_OFFER, QUEUE_ENABLE, QUEUE_DISABLE, D2H_CONS_WRITE, H2D_DOORBELL (R320, R321, R328, R331, R333). -/
def Obligations.QueueConfiguration : Prop :=
  ∀ (p : Path) (q : Fin 64) (s : State),
    let d0 := s.dev
    (∀ offer, d0.writeCode p (Reg.HQ_VER q.val) 0 = 0 →
      (d0.enabled q.val = false → Does (.versionOffer p q offer) s (fun d =>
        let both := fun v => bit offer.toNat v && bit (d0.fld (Fld.HQ_VER_PERMIT q.val)) v
        (both 3 = true → d.fld (Fld.HQ_VER_CHOSEN q.val) = 3 ∧ d.fld (Fld.HQ_VER_CODE q.val) = 0) ∧
        (both 3 = false → both 2 = true → d.fld (Fld.HQ_VER_CHOSEN q.val) = 2 ∧ d.fld (Fld.HQ_VER_CODE q.val) = 0) ∧
        (both 3 = false → both 2 = false → both 1 = true → d.fld (Fld.HQ_VER_CHOSEN q.val) = 1 ∧ d.fld (Fld.HQ_VER_CODE q.val) = 0) ∧
        (both 3 = false → both 2 = false → both 1 = false → d.fld (Fld.HQ_VER_CHOSEN q.val) = 0 ∧ d.fld (Fld.HQ_VER_CODE q.val) = 9) ∧
        d.fld (Fld.HQ_VER_OFFER q.val) = offer.toNat ∧ OtherRegs [Reg.HQ_VER q.val, Reg.MGT_STATUS] d0 d)) ∧
      (d0.enabled q.val = true → Does (.versionOffer p q offer) s (fun d =>
        d.fld (Fld.HQ_VER_CODE q.val) = 8 ∧ d.fld (Fld.HQ_VER_CHOSEN q.val) = d0.fld (Fld.HQ_VER_CHOSEN q.val) ∧
        OtherRegs [Reg.HQ_VER q.val, Reg.MGT_STATUS] d0 d))) ∧
    (d0.writeCode p (Reg.HQ_CTRL q.val) 1 = 0 → d0.enabled q.val = false → d0.version q.val ≠ 0 → 1 ≤ d0.role q.val → d0.role q.val ≤ 5 →
      d0.inService = true → d0.fld (Fld.HQ_D2H_BASE_LO_BASE q.val) % 4096 = 0 → d0.fld (Fld.HQ_H2D_BASE_LO_BASE q.val) % 4096 = 0 →
      d0.fld (Fld.HQ_WB_LO_WB q.val) % 16 = 0 → 12 ≤ d0.fld (Fld.HQ_D2H_SIZE_LOG2 q.val) → d0.fld (Fld.HQ_D2H_SIZE_LOG2 q.val) ≤ 24 →
      (d0.role q.val = 1 → 12 ≤ d0.fld (Fld.HQ_H2D_SIZE_LOG2 q.val) ∧ d0.fld (Fld.HQ_H2D_SIZE_LOG2 q.val) ≤ 24) →
      (d0.role q.val ≠ 1 → d0.fld (Fld.HQ_H2D_SIZE_LOG2 q.val) = 0) → Does (.queueEnable p q) s (fun d =>
        d.enabled q.val = true ∧ d.fld (Fld.HQ_STATUS_CODE q.val) = 0 ∧ d.rd (Reg.HQ_D2H_CONS q.val) = 0 ∧
        d.rd (Reg.HQ_D2H_FILL q.val) = 0 ∧ d.rd (Reg.HQ_D2H_PROD q.val) = 0 ∧ d.rd (Reg.HQ_H2D_PROD q.val) = 0 ∧
        d.rd (Reg.HQ_H2D_CONS q.val) = 0 ∧ (d.queue q.val).waiting = [] ∧ (d.queue q.val).cur = none ∧ (d.queue q.val).lost = 0)) ∧
    (d0.writeCode p (Reg.HQ_CTRL q.val) 0 = 0 → d0.enabled q.val = true → Does (.queueDisable p q) s (fun d =>
      d.enabled q.val = false ∧ d.flag (Fld.HQ_CTRL_ENABLE q.val) = false ∧ d.fld (Fld.HQ_STATUS_CODE q.val) = 0 ∧
      (d.queue q.val).waiting = [] ∧ (d.queue q.val).descs = [] ∧ (d.queue q.val).cur = none)) ∧
    (∀ v, d0.writeCode p (Reg.HQ_D2H_CONS q.val) v.toNat = 0 → Does (.d2hConsWrite p q v) s (fun d =>
      let ok := ctrDist v.toNat (d0.consPtr q.val) ≤ ctrDist (d0.prodPtr q.val) (d0.consPtr q.val)
      (ok → d.rd (Reg.HQ_D2H_CONS q.val) = v ∧ d.fld (Fld.HQ_STATUS_CODE q.val) = 0) ∧
      (¬ ok → d.rd (Reg.HQ_D2H_CONS q.val) = d0.rd (Reg.HQ_D2H_CONS q.val) ∧ d.fld (Fld.HQ_STATUS_CODE q.val) = 8) ∧
      OtherRegs [Reg.HQ_D2H_CONS q.val, Reg.HQ_STATUS q.val, Reg.MGT_STATUS] d0 d)) ∧
    (∀ v, d0.writeCode p (Reg.HQ_H2D_PROD q.val) v.toNat = 0 → Does (.h2dDoorbell p q v) s (fun d =>
      let ok := d0.enabled q.val = true ∧ v.toNat % 32 = 0 ∧ ctrDist v.toNat (d0.rd (Reg.HQ_H2D_CONS q.val)).toNat ≤ d0.h2dSize q.val
      (ok → d.rd (Reg.HQ_H2D_PROD q.val) = v ∧ d.fld (Fld.HQ_STATUS_CODE q.val) = 0) ∧
      (¬ ok → d.rd (Reg.HQ_H2D_PROD q.val) = d0.rd (Reg.HQ_H2D_PROD q.val) ∧ d.fld (Fld.HQ_STATUS_CODE q.val) = 8) ∧
      OtherRegs [Reg.HQ_H2D_PROD q.val, Reg.HQ_STATUS q.val, Reg.MGT_STATUS] d0 d))

/-- RECORD_START, RECORD_FINISH, DROP_REST, QPUT_TIMEOUT, HOLDOFF_EXPIRY (R322, R324, R327, R329, R338). -/
def Obligations.QueueRecords : Prop :=
  ∀ (q : Fin 64) (s : State),
    let d0 := s.dev
    (∀ r rs, d0.enabled q.val = true → (d0.queue q.val).cur = none → d0.mayMaster = true → (d0.queue q.val).waiting = r :: rs →
      d0.lenRefused q.val r = false → d0.qputLate r.prod = false → d0.hasRoom q.val r = true → Does (.recordStart q) s (fun d =>
        (d.queue q.val).cur = some ⟨r, d0.prodPtr q.val, 0, (d0.queue q.val).lost⟩ ∧ d.flag (Fld.HQ_STATUS_INPROG q.val) = true ∧
        (d0.version q.val ≠ 3 → (d.queue q.val).waiting = rs ∧ (d.queue q.val).lost = 0))) ∧
    (∀ c, d0.enabled q.val = true → d0.mayMaster = true → (d0.queue q.val).cur = some c → d0.version q.val ≠ 1 →
      c.start % 8 = 0 → 3 ≤ d0.fld (Fld.HQ_D2H_SIZE_LOG2 q.val) → Does (.recordFinish q) s (fun d =>
        let n := roundUp8 c.item.payload.length
        (d.rd (Reg.HQ_D2H_PROD q.val)).toNat = (c.start + 32 + n) % 2 ^ 32 ∧
        d.rd (Reg.HQ_D2H_FILL q.val) = d.rd (Reg.HQ_D2H_PROD q.val) ∧ (d.queue q.val).cur = none ∧
        d.flag (Fld.HQ_STATUS_INPROG q.val) = false ∧
        d.fld (Fld.HQ_RECORDS_COUNT q.val) = min (d0.fld (Fld.HQ_RECORDS_COUNT q.val) + 1) (2 ^ (Fld.HQ_RECORDS_COUNT q.val).width - 1) ∧
        Emit.hostWrite (d0.pair (Fld.HQ_D2H_BASE_LO_BASE q.val) (Fld.HQ_D2H_BASE_HI_BASE q.val) + c.start % d0.ringSize q.val)
          (leBytes 8 (2 ^ 63 + b2n (decide (c.item.code ≠ 0)) * 2 ^ 41 + c.item.code * 2 ^ 32 + (32 + n))) ∈ d.out)) ∧
    (∀ p c, d0.writeCode p (Reg.HQ_CMD q.val) 1 = 0 → (d0.queue q.val).cur = some c → d0.version q.val = 3 →
      (d0.rd (Reg.HQ_CMD_ARG q.val)).toNat = c.start % 2 ^ 32 → c.committed < c.item.payload.length → Does (.dropRest p q) s (fun d =>
        (d.rd (Reg.HQ_D2H_PROD q.val)).toNat = (c.start + 32 + roundUp8 c.committed) % 2 ^ 32 ∧
        d.rd (Reg.HQ_D2H_FILL q.val) = d.rd (Reg.HQ_D2H_PROD q.val) ∧ (d.queue q.val).cur = none ∧
        Bumped (Fld.HQ_DROPPED_COUNT q.val) d0 d ∧ Bumped (Fld.HQ_RECORDS_COUNT q.val) d0 d ∧
        (c.item.astream = true → Bumped (Fld.HQ_AUTHZERO_COUNT q.val) d0 d) ∧
        (c.item.astream = false → d.fld (Fld.HQ_AUTHZERO_COUNT q.val) = d0.fld (Fld.HQ_AUTHZERO_COUNT q.val)) ∧
        d.fld (Fld.HQ_STATUS_CODE q.val) = 0)) ∧
    (∀ (e : Fin 8) (t : Fin 4) at' n deadline, (d0.thread e.val t.val).wait = .space q at' n deadline → deadline ≤ d0.tns →
      Does (.qputTimeout e t) s (fun d =>
        d.thread e.val t.val = { d0.thread e.val t.val with job := 7, wait := .ready } ∧
        d.fld (Fld.HQ_LOST_COUNT q.val) = min (d0.fld (Fld.HQ_LOST_COUNT q.val) + 1) (2 ^ (Fld.HQ_LOST_COUNT q.val).width - 1) ∧
        (∀ r ∈ (d.queue q.val).waiting, r.isQput e.val t.val = false) ∧ OtherThreads e t d0 d)) ∧
    (∀ last, (d0.queue q.val).lastMsg = some last → (d0.queue q.val).gathered = true →
      last + 1000 * d0.fld (Fld.HQ_IRQ_HOLDOFF q.val) ≤ d0.tns → Does (.holdoffExpiry q) s (fun d =>
        let v := d0.fld (Fld.HQ_STATUS_VECTOR q.val)
        (d.queue q.val).gathered = false ∧ (d.queue q.val).lastMsg = some d0.tns ∧
        (d0.flag (Fld.MSIX_CTRL_MASK v) = false → d0.mayMaster = true →
          d.out = [.message v ((d0.rd (Reg.MSIX_ADDR_LO v)).toNat + (d0.rd (Reg.MSIX_ADDR_HI v)).toNat * 2 ^ 32)
            (d0.rd (Reg.MSIX_DATA v)).toNat]) ∧
        (d0.flag (Fld.MSIX_CTRL_MASK v) = true → d.out = [] ∧ d.flag ⟨Reg.MSIX_PBA (v / 32), v % 32, v % 32⟩ = true)))

/-- REGISTER_WRITE, READ_CLEAR, LOW_REGISTER_READ, HIGH_REGISTER_WRITE, LOW_REGISTER_COMMIT, PAIR_ACCESS_64 (R6, R7, R313, R345). -/
def Obligations.RegisterAccesses : Prop :=
  ∀ (p : Path) (s : State),
    let d0 := s.dev
    let after := fun (a : Nat) (v : Word) =>
      ((d0.rd a &&& ~~~setMask a) ||| (v &&& setMask a)) &&& ~~~(v &&& regMask (· = .w1c) a) ||| (v &&& regMask (· = .w1s) a)
    let plain := fun (a : Nat) => 0xD00000 ≤ a ∧ a < 0xD04000 ∧ a % 4 = 0 ∧
      a % 0x100 ∉ [0x00, 0x08, 0x40, 0x50, 0x64, 0x68, 0x70]
    (∀ (a : BitVec 40) v, plain a.toNat → pairLow a.toNat = none → pairWidth a.toNat = 0 → d0.writeCode p a.toNat v.toNat = 0 →
      Does (.registerWrite p a v) s (fun d =>
        d.rd a.toNat = after a.toNat v ∧ OtherRegs [a.toNat, Reg.MGT_STATUS] d0 d ∧
        Kept (Part.regs ||| Part.mgmt ||| Part.faultQ) d0 d)) ∧
    (∀ (a : BitVec 40) v, 0x1300000 ≤ a.toNat → a.toNat % 4 = 0 → p ≠ .host → Does (.registerWrite p a v) s (fun d =>
      d.out = [.code p 8] ∧ (∀ r, d.rd r = d0.rd r) ∧ Kept 0 d0 d)) ∧
    (∀ (a : BitVec 40), 0x200000 ≤ a.toNat → a.toNat < 0x300000 → a.toNat % 4 = 0 → pairLow a.toNat = none →
      regMask (· = .rc) a.toNat ≠ 0 → d0.pathOpen p a.toNat = true → Does (.readClear p a) s (fun d =>
        d.out = [.data p a.toNat (d0.regShow p a.toNat).toNat] ∧
        d.rd a.toNat = d0.rd a.toNat &&& ~~~regMask (· = .rc) a.toNat ∧ OtherRegs [a.toNat] d0 d)) ∧
    (d0.pathOpen p Reg.TB_FRC_LO = true → Does (.lowRegisterRead p (BitVec.ofNat 40 Reg.TB_FRC_LO)) s (fun d =>
      d.out = [.data p Reg.TB_FRC_LO (d0.frc.toNat % 2 ^ 32)] ∧ (d.latch p).read.toNat = d0.frc.toNat / 2 ^ 32 ∧
      (d.latch p).staged = (d0.latch p).staged ∧ d.frc = d0.frc)) ∧
    (∀ (a : BitVec 40) v lo, a.toNat < 0x1300000 → a.toNat % 4 = 0 → pairLow a.toNat = some lo → setMask a.toNat ≠ 0 →
      d0.writeCode p a.toNat v.toNat = 0 → Does (.highRegisterWrite p a v) s (fun d =>
        (d.latch p).staged = v &&& setMask a.toNat ∧ (d.latch p).read = (d0.latch p).read ∧ OtherRegs [Reg.MGT_STATUS] d0 d ∧
        Kept (Part.regs ||| Part.latches ||| Part.mgmt ||| Part.faultQ) d0 d)) ∧
    (∀ (k : Fin 4) (ack : Bool) v, let a := if ack then Reg.REC_ACK_SEQ_LO else Reg.PH_DOM_PRESET_LO k.val
      d0.writeCode p a v.toNat = 0 → Does (.lowRegisterCommit p (BitVec.ofNat 40 a) v) s (fun d =>
        d.rd a = v ∧ d.rd (a + 4) = after (a + 4) (d0.stagedHigh p (if ack then 32 else 8)) ∧
        OtherRegs [a, a + 4, Reg.MGT_STATUS] d0 d)) ∧
    (d0.pathOpen p Reg.TB_FRC_LO = true → Does (.pairAccess64 p (BitVec.ofNat 40 Reg.TB_FRC_LO) none) s (fun d =>
      d.out = [.data p Reg.TB_FRC_LO d0.frc.toNat] ∧ (d.latch p).read = (d0.latch p).read))

/-- HOST_READ, HOST_WRITE, HOST_SLOT_WRITE, STALE_MARKING, NODE_LEAVE_MARK, CONSUMING_READ (R57, R62, R67, R70, R71, R80, R81, R312). -/
def Obligations.HostAndStoreAccesses : Prop :=
  ∀ (s : State),
    let d0 := s.dev
    let up := d0.flag Fld.BRG_STATUS_LINK = true ∧ d0.halfReset 0 = false
    (∀ (off : BitVec 32) (len : BitVec 16), up → d0.inService = true → d0.hq.stalled = [] → off.toNat + len.toNat ≤ 0x200000 →
      off.toNat % 8 = 0 → len.toNat % 8 = 0 → 0 < len.toNat → Does (.hostRead .bar4 off len true) s (fun d =>
        d.out = [.completion (some (d0.slotBytes off.toNat (len.toNat / 8)))] ∧ d.store = d0.store ∧ d.regs = d0.regs)) ∧
    (∀ (off : BitVec 32) (data : List Byte) (k : Nat), let o := off.toNat % 2 ^ 30
      up → d0.mode = .configure → d0.hq.posted = [] → k = off.toNat / 2 ^ 30 →
      d0.fld (Fld.BRG_PAGE_NODE k) = 0 → d0.fld (Fld.BRG_PAGE_SPACE k) = 2 → data ≠ [] → data.length % 4 = 0 → o % 4 = 0 →
      o + data.length ≤ 0x800000 → Does (.hostWrite .bar2 off data true) s (fun d =>
        Tab.bytes d.sys.staged o data.length = data ∧
        (∀ a, (a < o ∨ o + data.length ≤ a) → Tab.bytes d.sys.staged a 1 = Tab.bytes d0.sys.staged a 1) ∧ d.store = d0.store)) ∧
    (∀ n w rivals, up → d0.inService = true → d0.hq.posted = [] → d0.leaseOk .host = true → d0.storeAdmits .host n.val = true →
      Does (.hostSlotWrite n w rivals) s (fun d =>
        SlotTakes n (⟨.host, n, ⟨w.setWidth 32, (w.toNat / 2 ^ 32 : Nat)⟩, none⟩ :: onSlot n rivals) d0 d ∧ OtherSlots n.val d0 d)) ∧
    (∀ n, d0.inService = true → d0.scanMarks n.val = true → Does (.staleMarking n []) s (fun d =>
      let x := d0.slot n.val
      let y := d.slot n.val
      tagStale y.tag = true ∧ y.consumed = false ∧ y.capture = x.capture ∧ tagSrc y.tag = tagSrc x.tag ∧ tagValid y.tag = tagValid x.tag ∧
      (x.rule = 0 → y.value = x.value ∧ tagSubst y.tag = tagSubst x.tag) ∧
      (x.rule ≠ 0 → tagSubst y.tag = true ∧ tagAuth y.tag = false) ∧
      (x.rule = 1 ∨ x.rule = 2 → y.value = d0.substValue x.substIdx.val) ∧
      d.fld Fld.SIG_STALE_EVT_COUNT = min (d0.fld Fld.SIG_STALE_EVT_COUNT + 1) (2 ^ Fld.SIG_STALE_EVT_COUNT.width - 1) ∧
      OtherSlots n.val d0 d ∧ OtherRegs [Reg.SIG_STALE_EVT] d0 d ∧ Kept (Part.regs ||| Part.store) d0 d)) ∧
    (∀ node, let n := (d0.window node).1 + d0.markPos node
      d0.inService = true → d0.markNode = some node → (d0.slot n).isDefined = true → (d0.slot n).owner ≠ 7 →
      n ∉ (d0.gone node).written → Does (.nodeLeaveMark []) s (fun d =>
        let left := (d0.window node).2 - d0.markPos node - 1
        tagStale (d.slot n).tag = true ∧ (d.slot n).consumed = false ∧ d.markPos node = d0.markPos node + 1 ∧
        (left ≠ 0 → d.flag Fld.SIG_MARK_BUSY = true ∧ d.fld Fld.SIG_MARK_NODE = node % 2 ^ Fld.SIG_MARK_NODE.width ∧
          d.fld Fld.SIG_MARK_REMAIN = left % 2 ^ Fld.SIG_MARK_REMAIN.width) ∧
        (d.markNode = none → d.flag Fld.SIG_MARK_BUSY = false ∧ d.fld Fld.SIG_MARK_REMAIN = 0) ∧
        Bumped Fld.SIG_STALE_EVT_COUNT d0 d ∧ OtherSlots n d0 d ∧ Kept (Part.regs ||| Part.store) d0 d)) ∧
    (∀ p n, d0.inService = true → d0.pathOpen p (0x300000 + 8 * n.val) = true → (d0.slot n.val).isDefined = true →
      Does (.consumingRead p n []) s (fun d =>
        let x := d0.evalSlot n.val
        d.out = [.data p (0x300000 + 8 * n.val) x.value.toNat] ∧
        (d.latch p).read.toNat = x.tag.toNat + 256 * b2n x.consumed ∧
        d.slot n.val = { d0.slot n.val with consumed := true } ∧ OtherSlots n.val d0 d))

/-- DESCRIPTOR_FETCHED, PORT12_FRAME_ENTRY, DESCRIPTOR_RETIRE, BRIDGE_RESET, BUS_MASTER_CHANGE, PCIE_LINK_UP, MSIX_UNMASK, BRIDGE_LOG_READ.
How long a bridge reset keeps its crossing group in mismatch is the model's reading (log entry 195), and so is what passes that crossing
(log entry 188). -/
def Obligations.BridgeLinkAndDescriptors : Prop :=
  ∀ (q : Fin 64) (s : State),
    let d0 := s.dev
    let x := d0.queue q.val
    (∀ desc data heads, d0.mayMaster = true → d0.fetchNext (headClass q.val desc heads) = some q.val →
      Does (.descriptorFetched q desc data heads) s (fun d =>
        let code := d0.descCode desc data
        (d.queue q.val).fetched = (x.fetched + 32) % 2 ^ 32 ∧
        d.out.head? = some (.hostFetch (d0.pair (Fld.HQ_H2D_BASE_LO_BASE q.val) (Fld.HQ_H2D_BASE_HI_BASE q.val) +
          x.fetched % d0.h2dSize q.val) 32) ∧
        (∃ it, (d.queue q.val).descs = x.descs ++ [it] ∧ it.counter = x.fetched ∧ it.code = code ∧
          it.frames = if code = 0 then descFrames desc (data.getD []) else []) ∧
        (code ≠ 0 → d.fld (Fld.HQ_TXREF_COUNT q.val) =
          min (d0.fld (Fld.HQ_TXREF_COUNT q.val) + 1) (2 ^ (Fld.HQ_TXREF_COUNT q.val).width - 1)) ∧
        (code = 0 → d.regs = d0.regs))) ∧
    (∀ y f fs, x.descs = [y] → y.frames = f :: fs → d0.swRuns = true → d0.swLink 12 = true → d0.enabled q.val = true →
      d0.headroomUsed 12 + cellsOf f.bytes.length ≤ d0.headroom 12 → Does (.port12FrameEntry q) s (fun d =>
        (d.queue q.val).descs = [{ y with frames := fs, sent := y.sent + 1 }])) ∧
    (∀ y ys, x.descs = y :: ys → d0.enabled q.val = true → d0.descDone q.val y = true → x.txdoneDue = false →
      Does (.descriptorRetire q) s (fun d =>
        (d.queue q.val).descs = ys ∧ (d.rd (Reg.HQ_H2D_CONS q.val)).toNat = (y.counter + 32) % 2 ^ 32 ∧
        Bumped (Fld.HQ_TXDESC_COUNT q.val) d0 d ∧ OtherRegs [Reg.HQ_H2D_CONS q.val, Reg.HQ_TXDESC q.val] d0 d ∧
        (y.compl = false → y.code = 0 → (d.queue q.val).waiting = x.waiting) ∧
        (y.compl = true ∨ y.code ≠ 0 → ∃ r : Rec, r.kind = 5 ∧ r.infoA = y.tag ∧ (d.queue q.val).waiting = x.waiting ++ [r]))) ∧
    (∀ cause, d0.flag Fld.BRG_STATUS_LINK = true → d0.hq.posted = [] → Does (.bridgeReset cause) s (fun d =>
      (d0.halfReset 0 = false → d.halfReset 0 = decide (cause ≠ .flr) ∧ Bumped (Fld.FLT_XGRP_HALF 0) d0 d) ∧
      d.hq.held = [] ∧ d.hq.stalled = [] ∧ d.hq.outPosted = [] ∧ d.hq.mps = 128 ∧ d.flag Fld.BRG_STATUS_BME = false ∧
      d.flag Fld.BRG_STATUS_LINK = decide (cause = .flr) ∧
      (∀ k, k < 64 → (d.queue k).cur = none ∧ (d.queue k).waiting = [] ∧ (d.queue k).descs = [] ∧ d.enabled k = false))) ∧
    (∀ on mps mrrs, bit (d0.crossing 0).latest 0 = true → d0.mode ≠ .rom → Does (.busMasterChange on mps mrrs) s (fun d =>
      (d0.halfReset 0 = false →
        d.flag Fld.BRG_STATUS_BME = on ∧ d.hq.mps = 128 * 2 ^ mps.val ∧ d.hq.mrrs = 128 * 2 ^ mrrs.val) ∧
      (d0.halfReset 0 = true → d.regs = d0.regs ∧ d.hq = d0.hq ∧ bit (d.crossing 0).latest 1 = on ∧ Kept Part.flt d0 d))) ∧
    (∀ speed width, bit (d0.crossing 0).latest 0 = false → d0.inService = true →
      (∀ y, Tab.get (fun _ => none) d0.flt.halfReset 0 = some y → y.retrain = true) → Does (.pcieLinkUp speed width) s (fun d =>
      d.flag Fld.BRG_STATUS_LINK = true ∧ d.fld Fld.BRG_STATUS_SPEED = speed.val + 1 ∧ d.fld Fld.BRG_STATUS_WIDTH = 2 ^ width.val)) ∧
    (∀ p v, d0.writeCode p (Reg.MSIX_CTRL v.val) 0 = 0 → Does (.msixUnmask p v) s (fun d =>
      let pend : Fld := ⟨Reg.MSIX_PBA (v.val / 32), v.val % 32, v.val % 32⟩
      d.flag (Fld.MSIX_CTRL_MASK v.val) = false ∧
      (d0.flag pend = true → d0.mayMaster = true → d.flag pend = false ∧
        d.out = [.message v.val ((d0.rd (Reg.MSIX_ADDR_LO v.val)).toNat + (d0.rd (Reg.MSIX_ADDR_HI v.val)).toNat * 2 ^ 32)
          (d0.rd (Reg.MSIX_DATA v.val)).toNat]) ∧
      (d0.flag pend = false ∨ d0.mayMaster = false → d.flag pend = d0.flag pend ∧ d.out = []))) ∧
    (∀ p e es, d0.pathOpen p Reg.BRG_LOG_W0 = true → d0.hq.log = e :: es → Does (.bridgeLogRead p) s (fun d =>
      d.out = [.data p Reg.BRG_LOG_W0 e.w0.toNat] ∧ d.hq.log = es ∧ d.latchedWord p Reg.BRG_LOG_W1 = e.w1 ∧
      d.latchedWord p Reg.BRG_LOG_W2 = e.w2 ∧ d.regs = d0.regs))

/-- ROUTE_EVENT_DELIVERY (R68, R69). -/
def Obligations.RouteDelivery : Prop :=
  ∀ (s : State) (r : RouteEvt) (rs : List RouteEvt),
    let d0 := s.dev
    let w := r.target.toNat
    d0.store.routeQ = r :: rs →
    (routeKind r.target = 1 → let e := bits w 26 24; let t := bits w 23 22
      d0.enginesRun = true → d0.vec e t 2 ≠ 0xFFFF →
      (∀ q ∈ (d0.thread e t).evq, ¬ (q.kind = 2 ∧ q.code = bits w 15 0 ∧ q.source = r.slot)) → (d0.thread e t).evq.length < 32 →
      Does .routeEventDelivery s (fun d => d.store = { d0.store with routeQ := rs } ∧
        (d.thread e t).evq = (d0.thread e t).evq ++ [⟨2, bits w 15 0, r.slot, (d0.evalSlot r.slot).capture, d0.tns⟩])) ∧
    (routeKind r.target = 1 → let e := bits w 26 24; let t := bits w 23 22
      let same := fun (q : QEvent) => q.kind = 2 && q.code = bits w 15 0 && q.source = r.slot
      d0.enginesRun = true →
      (d0.vec e t 2 ≠ 0xFFFF → (∃ q ∈ (d0.thread e t).evq, same q = true) → Does .routeEventDelivery s (fun d =>
        d.store = { d0.store with routeQ := rs } ∧ Bumped (Fld.ENG_MERGED_COUNT e) d0 d ∧
        (d.thread e t).evq = (d0.thread e t).evq.map (fun q => if same q then { q with ts := (d0.evalSlot r.slot).capture } else q) ∧
        d.faultQ = d0.faultQ)) ∧
      (d0.vec e t 2 = 0xFFFF ∨ ((∀ q ∈ (d0.thread e t).evq, same q = false) ∧ 32 ≤ (d0.thread e t).evq.length) →
        Does .routeEventDelivery s (fun d =>
          d.store = { d0.store with routeQ := rs } ∧ d.eng = d0.eng ∧ Bumped (Fld.ENG_EVQ_DROP_COUNT e) d0 d ∧
          d.fld (Fld.ENG_EVQ_DROP_THREAD e) = t ∧ d.fld (Fld.ENG_EVQ_DROP_KIND e) = 2 ∧ Raised (72 + e) d0 d))) ∧
    (routeKind r.target = 3 → let n := bits w 26 21; let desc := bits w 20 0
      (d0.isMember n = false → Does .routeEventDelivery s (fun d =>
        d.store = { d0.store with routeQ := rs } ∧ Bumped (Fld.RING_NODE_EXP_EXPDROP n) d0 d ∧ d.drv = d0.drv)) ∧
      (d0.isMember n = true → d0.immediate desc = false → (d0.node n).exports.length < 255 → Does .routeEventDelivery s (fun d =>
        d.store = { d0.store with routeQ := rs } ∧ d.out = [] ∧ d.regs = d0.regs ∧
        (d.node n).exports = (if desc ∈ (d0.node n).exports then (d0.node n).exports else (d0.node n).exports ++ [desc]) ∧
        (desc ∉ (d0.node n).exports → (d.node n).exportAt = some ((d0.node n).exportAt.getD d0.tns))))) ∧
    (routeKind r.target = 5 → d0.recorderRuns = true → let y := d0.evalSlot r.slot
      (d0.flag Fld.REC_STATUS_FULL = false → (d0.flag Fld.REC_STATUS_RESERVE = false ∨ bits w 15 0 < 0x100) → d0.sec.fifo.length < 64 →
        d0.flag Fld.SYS_STATUS_HALT = false → Does .routeEventDelivery s (fun d => d.store = { d0.store with routeQ := rs } ∧
          ∃ x : RecAppend, x.cls = bits w 15 0 ∧ x.frc = d0.frc.toNat ∧ d.sec = { d0.sec with fifo := d0.sec.fifo ++ [x] } ∧
            x.payload = leBytes 4 r.slot ++ leBytes 4 y.value.toNat ++ leBytes 1 y.tag.toNat ++ leBytes 5 y.capture.toNat)) ∧
      (d0.flag Fld.REC_STATUS_FULL = true → Does .routeEventDelivery s (fun d => d.store = { d0.store with routeQ := rs } ∧
        d.sec = d0.sec ∧ Bumped Fld.REC_REFUSED_FULL d0 d ∧ Raised 356 d0 d))) ∧
    (routeKind r.target = 2 → let q := bits w 26 21
      d0.enabled q = true → Does .routeEventDelivery s (fun d => d.store = { d0.store with routeQ := rs } ∧
        ∃ x : Rec, x.kind = 3 ∧ x.infoA = bits w 15 0 ∧ x.infoB = r.slot ∧ x.ns = r.time ∧
          x.payload = leBytes 8 (slotWord0 (d0.evalSlot r.slot)) ++ leBytes 8 (slotWord1 (d0.evalSlot r.slot)) ∧
          (d.queue q).waiting = (d0.queue q).waiting ++ [x])) ∧
    (routeKind r.target = 4 → let k := bits w 26 25
      Does .routeEventDelivery s (fun d => d.store = { d0.store with routeQ := rs } ∧
        d.phDom k = { d0.phDom k with update := true } ∧ d.regs = d0.regs))

/-- ENCODER_EDGE, Z_RESYNC, STALL_TIMEOUT, PHASE_SOURCE_UPDATE, PRESET (R166 to R174): of every kind of source. That PRESET leaves EDGE
is the model's reading (log entry 34); of a ring update whose capture is no later than the last one's the velocity is open (log entry
163). -/
def Obligations.PhaseDomains : Prop :=
  ∀ (dom : Fin 4) (s : State),
    let d0 := s.dev
    let k := dom.val
    let x := d0.phDom k
    let f := d0.frc.toNat
    d0.phaseRuns = true → x.present = true →
    (∀ (enc : Fin 4) (delay : BitVec 16), let t := f - delay.toNat
      let turned := xor (d0.encInvert 5 enc.val) (d0.encInvert 6 enc.val)
      x.source = 0 → x.encoder = enc.val → x.filterNs ≤ delay.toNat → (d0.pinBound 5 enc.val || d0.pinBound 6 enc.val) = true →
      Does (.encoderEdge enc .illegal delay) s (fun d =>
        d.phDom k = x ∧ Bumped (Fld.PH_DOM_ERRCNT_ILLEGAL k) d0 d ∧ (104 + k, 1) ∈ d.faultQ.queue) ∧
      (∀ step fwd, (step = .forward ∧ fwd = (x.invert == turned)) ∨ (step = .backward ∧ fwd = (x.invert != turned)) →
        Does (.encoderEdge enc step delay) s (fun d =>
          let y := d.phDom k
          let n := min x.vavg (min x.times.length 8)
          y.base = phAdd x.base (if fwd then x.inc else -(x.inc : Int)) ∧ y.edge = y.base ∧ y.edgeAt = t ∧ y.phi t = y.base ∧
          y.reverse = !fwd ∧ (x.reverse = fwd → y.stalled = true) ∧
          (x.reverse ≠ fwd → y.stalled = (x.stalled && (x.times.isEmpty || !d0.withinStall k (t - x.times.headD 0)))) ∧
          (y.stalled = true → y.vel = 0) ∧
          (y.stalled = false → y.vNum = (if fwd then 1 else -1) * ((x.inc * n : Nat) : Int) ∧
            y.vDen = max (t - (t :: x.times).getD n 0) 1)))) ∧
    (∀ (enc : Fin 4) rising (delay : BitVec 16), let t := f - delay.toNat
      x.source = 0 → x.encoder = enc.val → x.zResync = true → x.filterNs ≤ delay.toNat → d0.pinBound 7 enc.val = true →
      rising ≠ d0.encInvert 7 enc.val → Does (.zResync enc rising delay) s (fun d =>
      let c := zNearest (x.phi t) x.zpos
      (x.zpos < 2 ^ 24 → phAdd (x.phi t) c % 2 ^ 24 = x.zpos ∧ -(2 ^ 23) < c ∧ c ≤ 2 ^ 23) ∧
      (d.phDom k).edge = phAdd x.edge c ∧ (d.phDom k).base = phAdd x.base c ∧ (d.phDom k).phi f = phAdd (x.phi f) c ∧
      (d.phDom k).edgeAt = x.edgeAt ∧ (d.phDom k).vNum = x.vNum ∧ (d.phDom k).times = x.times ∧
      (x.ztol < c.natAbs → d.fld (Fld.PH_DOM_ERRCNT_ZERR k) =
        min (d0.fld (Fld.PH_DOM_ERRCNT_ZERR k) + 1) (2 ^ (Fld.PH_DOM_ERRCNT_ZERR k).width - 1)))) ∧
    (x.source ≠ 1 → x.stalled = false → x.frozen = false → d0.withinStall k (f - x.edgeAt) = false → Does (.stallTimeout dom) s (fun d =>
      (d.phDom k).stalled = true ∧ (d.phDom k).hold = x.phi f ∧ (d.phDom k).vel = 0 ∧ Kept Part.phase d0 d)) ∧
    (x.update = true → let w := d0.evalSlot x.srcSlot
      (x.frozen = false → tagValid w.tag = false ∨ tagStale w.tag = true ∨ tagSubst w.tag = true → Does (.phaseSourceUpdate dom) s (fun d =>
        (d.phDom k).frozen = true ∧ (d.phDom k).hold = x.phi f ∧ (d.phDom k).update = false ∧ (d.phDom k).vel = 0 ∧
        Raised (108 + k) d0 d ∧ Kept (Part.phase ||| Part.faultQ ||| Part.regs) d0 d)) ∧
      (tagValid w.tag = true → tagStale w.tag = false → tagSubst w.tag = false → Does (.phaseSourceUpdate dom) s (fun d =>
        let t := d0.captureFrc w.capture
        let y := d.phDom k
        let v := slotNumber w.type w.value * x.vgain
        y.frozen = false ∧ y.update = false ∧ y.edgeAt = t ∧
        (x.source = 1 → x.frozen = false → y.base = x.phi t ∧ y.vNum = v ∧ y.vDen = 1000000 ∧
          y.stalled = decide (v.natAbs < d0.fld (Fld.PH_DOM_VMIN k))) ∧
        (x.source = 1 → x.frozen = true → y.base = x.hold ∧ y.stalled = true ∧ y.phi f = x.phi f) ∧
        (x.source ≠ 1 → y.count = some w.value.toNat) ∧
        (x.source ≠ 1 → x.count = none → y.stalled = true ∧ y.phi f = x.phi f) ∧
        (∀ last, x.source ≠ 1 → x.count = some last →
          let delta := (w.value - BitVec.ofNat 32 last).toInt
          y.base = phAdd (if x.frozen then x.hold else x.base) (delta * x.inc) ∧ y.edge = y.base ∧
          (0 < delta → y.reverse = false) ∧ (delta < 0 → y.reverse = true) ∧
          (y.stalled = true → y.vel = 0) ∧
          (y.stalled = false → x.edgeAt < t → y.vNum = delta * x.inc ∧ y.vDen = t - x.edgeAt))))) ∧
    (∀ p, d0.writeCode p (Reg.PH_DOM_CTRL k) 0 = 0 → Does (.preset p dom) s (fun d =>
      let v := d0.pair (Fld.PH_DOM_PRESET_LO_PRESET k) (Fld.PH_DOM_PRESET_HI_PRESET k)
      (d.phDom k).phi f = v ∧ (d.phDom k).stalled = true ∧ (d.phDom k).edge = x.edge ∧ OtherRegs [Reg.MGT_STATUS] d0 d ∧
      (∀ j, j ≠ k → d.phDom j = d0.phDom j)))

/-- ACTION_CROSSING, ACTION_DISPATCH, DCMD_SEND, PULSE_END, ACTION_REARM (R176 to R183, R194). That of several waiting actions the lowest
slot goes first is the spec's own order; that DCMD_SEND fires with the sending is the model's reading (log entry 34). That a dispatch serves
the domains below first is how the model orders one cycle (log entry 165); when LS_CHn_CMD.ON falls with a pulse is log entry 164. -/
def Obligations.PhaseActions : Prop :=
  ∀ (dom : Fin 4) (a : Fin 1024) (s : State),
    let d0 := s.dev
    let k := dom.val
    let x := d0.phDom k
    let f := d0.frc.toNat
    let fired := fun (d : Dev) => d.fld (Fld.PH_ACT_STATUS_FIRED a.val) =
      min (d0.fld (Fld.PH_ACT_STATUS_FIRED a.val) + 1) (2 ^ (Fld.PH_ACT_STATUS_FIRED a.val).width - 1)
    (d0.phaseRuns = true → x.present = true → x.stalled = false → x.frozen = false → x.seen < 2 ^ 40 → x.base < 2 ^ 40 →
      Does (.actionCrossing dom) s (fun d =>
        let dist := phDiff (x.phi f) x.seen
        (d.phDom k).seen = x.phi f ∧ (∀ w ∈ x.waiting, w ∈ (d.phDom k).waiting) ∧
        (decide (0 < dist) = decide (0 < x.vNum) → ∀ b ∈ d0.actions, d0.fld (Fld.PH_ACT_SHAPE_DOMAIN b) = k →
          d0.flag (Fld.PH_ACT_STATUS_ARMED b) = true → crosses (d0.fld (Fld.PH_ACT_SHAPE_DIR b)) (d0.actP b) x.seen dist = true →
          ∃ t, (b, t) ∈ (d.phDom k).waiting) ∧ Kept Part.phase d0 d)) ∧
    (∀ t, d0.phaseRuns = true → x.present = true → (∀ u, x.lastDispatch = some u → u + 1000 ≤ d0.tns) →
      lowestSlot x.waiting = some (a.val, t) → d0.mode ≠ .safe →
      d0.actedAbove (d0.fld (Fld.PH_ACT_SHAPE_TARGET a.val) % 32) (k + 1) = false →
      1 ≤ d0.fld (Fld.PH_ACT_SHAPE_KIND a.val) → d0.fld (Fld.PH_ACT_SHAPE_KIND a.val) ≤ 2 → d0.actPeriod a.val = 0 →
      (∀ j, j < k → ∀ w ∈ (d0.phDom j).waiting, w.1 < 1024 ∧ w.1 ≠ a.val) →
      Does (.actionDispatch dom) s (fun d =>
        (∀ j b u, j < k → (d0.phDom j).present = true → (∀ v, (d0.phDom j).lastDispatch = some v → v + 1000 ≤ d0.tns) →
          lowestSlot (d0.phDom j).waiting = some (b, u) → d0.fld (Fld.PH_ACT_SHAPE_KIND b) ≠ 8 →
          (d.phDom j).lastDispatch = some d0.tns) ∧
        bit (d.rd Reg.DIO_OUT).toNat (d0.fld (Fld.PH_ACT_SHAPE_TARGET a.val) % 32) =
          decide (d0.fld (Fld.PH_ACT_SHAPE_KIND a.val) = 1) ∧
        fired d ∧ d.flag (Fld.PH_ACT_STATUS_ARMED a.val) = false ∧ (d.phDom k).lastDispatch = some d0.tns ∧
        (∀ w, w ∈ (d.phDom k).waiting ↔ w ∈ x.waiting ∧ w.1 ≠ a.val) ∧
        (t + 200 < f → d.fld Fld.PH_LATE_SLOT = a.val) ∧
        ((∀ j, j < k → (d0.phDom j).waiting = []) →
          (t + 200 < f → Bumped Fld.PH_LATE_COUNT d0 d) ∧
          (f ≤ t + 200 → d.fld Fld.PH_LATE_COUNT = d0.fld Fld.PH_LATE_COUNT)))) ∧
    (∀ t, let node := bits (d0.fld (Fld.PH_ACT_SHAPE_TARGET a.val)) 13 8
      let j := d0.fld (Fld.PH_ACT_SHAPE_DOMAIN a.val)
      d0.timeToCross a.val = some t → d0.phaseRuns = true → (d0.phDom j).present = true → d0.fld (Fld.PH_ACT_SHAPE_KIND a.val) = 8 →
      d0.flag (Fld.PH_ACT_STATUS_ARMED a.val) = true → (∀ w ∈ (d0.phDom j).waiting, w.1 ≠ a.val) → d0.isMember node = false →
      t ≤ 1000 * d0.fld (Fld.RING_NODE_LAT node) + 1000 * d0.fld (Fld.PH_ACT_CTRL_WIDTH a.val) → d0.actPeriod a.val = 0 →
      Does (.dcmdSend a) s (fun d => fired d ∧ d.flag (Fld.PH_ACT_STATUS_ARMED a.val) = false ∧
        d.fld Fld.PH_LATE_COUNT = min (d0.fld Fld.PH_LATE_COUNT + 1) (2 ^ Fld.PH_LATE_COUNT.width - 1) ∧ d.drv = d0.drv)) ∧
    (∀ t, let target := d0.fld (Fld.PH_ACT_SHAPE_TARGET a.val)
      let node := bits target 13 8
      let j := d0.fld (Fld.PH_ACT_SHAPE_DOMAIN a.val)
      let lat := 1000 * d0.fld (Fld.RING_NODE_LAT node)
      d0.timeToCross a.val = some t → d0.phaseRuns = true → (d0.phDom j).present = true → d0.fld (Fld.PH_ACT_SHAPE_KIND a.val) = 8 →
      d0.flag (Fld.PH_ACT_STATUS_ARMED a.val) = true → (∀ w ∈ (d0.phDom j).waiting, w.1 ≠ a.val) → d0.isMember node = true →
      t ≤ lat + 1000 * d0.fld (Fld.PH_ACT_CTRL_WIDTH a.val) → d0.actPeriod a.val = 0 → (d0.node node).queue = [] →
      Does (.dcmdSend a) s (fun d => fired d ∧ d.flag (Fld.PH_ACT_STATUS_ARMED a.val) = false ∧
        (d0.mayExpress node = true → (d.node node).queue = [] ∧ (d.node node).sent = ((d0.node node).sent + 1) % 256 ∧
          (d.node node).seqExpress = ((d0.node node).seqExpress + 1) % 65536) ∧
        (d0.mayExpress node = false → (d.node node).queue = [⟨.dcmd a.val (target % 256) (f + max t lat), none⟩]))) ∧
    (∀ line : Fin 32, let ends := Tab.get (fun _ => 0) d0.phase.pulses line.val
      d0.phaseRuns = true → ends ≠ 0 → ends ≤ d0.tns → Does (.pulseEnd false line) s (fun d =>
        bit (d.rd Reg.DIO_OUT).toNat line.val = false ∧ Tab.get (fun _ => 0) d.phase.pulses line.val = 0 ∧
        (∀ n, n < 32 → n ≠ line.val → bit (d.rd Reg.DIO_OUT).toNat n = bit (d0.rd Reg.DIO_OUT).toNat n) ∧
        OtherRegs [Reg.DIO_OUT] d0 d)) ∧
    (∀ (n : Fin 32) e, n.val < 24 → d0.hasLoads = true → (d0.dieCh n.val).pulse = some e → e ≤ d0.tns →
      (d0.die (n.val / 12)).powered = true → Does (.pulseEnd true n) s (fun d =>
        (d.dieCh n.val).on = false ∧ (d.dieCh n.val).pulse = none ∧ (d.dieCh n.val).cause = (d0.dieCh n.val).cause ∧
        (Tab.get (fun _ => 0) d0.phase.pulses (32 + n.val) ≠ 0 → d.flag (Fld.LS_CH_CMD_ON n.val) = false) ∧
        (∀ m, m ≠ n.val → d.dieCh m = d0.dieCh m))) ∧
    (∀ p lo, p = .host ∨ p = .mgmt → d0.writeCode p (Reg.PH_ACT_P_LO a.val) 0 = 0 → Does (.actionRearm p a (.p lo)) s (fun d =>
      d.actP a.val = lo.toNat + (d0.latch p).staged.toNat % 256 * 2 ^ 32 ∧
      d.flag (Fld.PH_ACT_STATUS_ARMED a.val) = d0.flag (Fld.PH_ACT_CTRL_EN a.val) ∧
      (∀ w ∈ (d.phDom (d0.fld (Fld.PH_ACT_SHAPE_DOMAIN a.val))).waiting, w.1 ≠ a.val) ∧
      Tab.get regReset d.settings (Reg.PH_ACT_P_LO a.val) = d.rd (Reg.PH_ACT_P_LO a.val) ∧
      Tab.get regReset d.settings (Reg.PH_ACT_P_HI a.val) = d.rd (Reg.PH_ACT_P_HI a.val)))

/-- DIO_INPUT_ACCEPT, DIO_OUT_WRITE, DIO_WAKE_QUALIFY (R185 to R187, R460). -/
def Obligations.DiscreteLines : Prop :=
  ∀ (s : State),
    let d0 := s.dev
    (∀ (line : Fin 32) level (stable : BitVec 32) rivals (m : Fin 131072), let x := d0.dioLine line.val
      let v := xor level x.invert
      d0.inService = true → x.input = true → x.level ≠ some v → d0.dioForced line.val = false → x.slot = some m.val →
      1000 * x.debounce ≤ stable.toNat → 1000 * x.debounce ≤ d0.tns - d0.phase.entryAt →
      d0.storeAdmits .dio m.val = true → Does (.dioInputAccept line level stable rivals) s (fun d =>
        (d.dioLine line.val).level = some v ∧ (∀ n, n ≠ line.val → d.dioLine n = d0.dioLine n) ∧
        SlotTakes m (⟨.dio, m, ⟨BitVec.ofNat 32 (b2n v), 0x86⟩, none⟩ :: onSlot m rivals) d0 d ∧ OtherSlots m.val d0 d)) ∧
    (∀ p r v, d0.inService = true → d0.writeCode p (dioRegAddr r) v.toNat = 0 → d0.flag Fld.FLT_STATUS_SAFE_ACT = false →
      (∀ n, n < 32 → d0.actedAbove n 0 = false) → Does (.dioOutWrite p r v) s (fun d =>
        (∀ n, n < 32 → bit (d.rd Reg.DIO_OUT).toNat n =
          if (d0.dioLine n).input then bit (d0.rd Reg.DIO_OUT).toNat n
          else match r with
            | .out => v.getLsbD n
            | .set => bit (d0.rd Reg.DIO_OUT).toNat n || v.getLsbD n
            | .clr => bit (d0.rd Reg.DIO_OUT).toNat n && !v.getLsbD n) ∧
        OtherRegs [Reg.DIO_OUT, Reg.MGT_STATUS] d0 d)) ∧
    (∀ (line : Fin 8) rising (ticks : BitVec 16), let x := d0.dioLine line.val
      d0.mode = .doze ∨ d0.mode = .sleep → x.input = true → x.wakeOn = true → x.wakeFilter ≤ ticks.toNat →
      (rising = true → bit x.wakeEdge 0 = true) → (rising = false → bit x.wakeEdge 1 = true) → Does (.dioWakeQualify line rising ticks) s (fun d =>
        d.flag ⟨Reg.DIO_WAKE_SRC, line.val, line.val⟩ = true ∧
        (d0.sys.woken = false → d.flag Fld.SYS_WAKE_WOKE = true ∧ d.fld Fld.SYS_WAKE_KIND = 1 ∧ d.fld Fld.SYS_WAKE_INDEX = line.val ∧
          d.sys.woken = true) ∧
        (d0.sys.woken = true → d.rd Reg.SYS_WAKE = d0.rd Reg.SYS_WAKE) ∧ OtherRegs [Reg.DIO_WAKE_SRC, Reg.SYS_WAKE] d0 d))

/-- OVERCURRENT_TRIP, FAST_TRIP, OVERTEMP_SHUTDOWN, INRUSH_END, PWM_PERIOD_START, DIAG_CHECK (R352 to R362). The first period after PWM_EN
and the rounding of T are the model's (log entries 189, 92). -/
def Obligations.LoadProtection : Prop :=
  ∀ (n : Fin 24) (s : State),
    let d0 := s.dev
    let k := n.val / 12
    let c := d0.dieCh n.val
    let lim := d0.chLimits n.val
    let others := fun (d : Dev) => ∀ m, m ≠ n.val → d.dieCh m = d0.dieCh m
    let latched := fun (cause : Nat) (d : Dev) =>
      d.chOn n.val = false ∧ d.dieCh n.val = { c with cause := cause, latchAt := d0.tns, inrush := none } ∧ Raised (288 + n.val) d0 d ∧ others d
    d0.hasLoads = true → d0.inService = true → d0.linkUp k = true → d0.loads.reverse = false →
    (∀ code, d0.chConducts n.val = true → (if d0.inInrush n.val then lim.2 else lim.1) < code.toNat → Does (.overcurrentTrip n code) s (fun d =>
      latched 1 d ∧ Bumped (Fld.LS_CH_TRIPS_OC n.val) d0 d)) ∧
    (∀ code, code.toNat ≤ (if d0.inInrush n.val then lim.2 else lim.1) → Does (.overcurrentTrip n code) s (fun d => d.loads = d0.loads)) ∧
    (∀ code, d0.chConducts n.val = true → 2000 < code.toNat → (d0.inInrush n.val = true → 3 * lim.2 < 2 * code.toNat) →
      Does (.fastTrip n code) s (fun d => latched 2 d ∧ Bumped (Fld.LS_CH_TRIPS_FAST n.val) d0 d)) ∧
    (∀ code, code.toNat ≤ 2000 ∨ d0.inInrush n.val = true ∧ 2 * code.toNat ≤ 3 * lim.2 →
      Does (.fastTrip n code) s (fun d => d.loads = d0.loads)) ∧
    (d0.chOn n.val = true → d0.loads.warm.contains n.val = true → Does (.overtempShutdown n) s (fun d =>
      latched 3 d ∧ Bumped (Fld.LS_CH_TRIPS_OT n.val) d0 d)) ∧
    (∀ e, c.inrush = some e → e ≤ d0.tns → Does (.inrushEnd n) s (fun d =>
      d.dieCh n.val = { c with inrush := none } ∧ others d ∧ Kept Part.loads d0 d)) ∧
    (∀ vbat, let f := if c.freqUse = 0 then c.freq else c.freqUse
      let T := pwmPeriod f
      let first := (d0.die k).pwmRef + 1000 * (n.val % 12 * roundDiv T 12)
      (d0.die k).powered = true → (d0.die k).inLimp = false → c.pwmEn = true → c.freq ≠ 0 → 0 < vbat.toNat → 0 < T →
      first ≤ d0.tns → (c.freqUse = 0 ∨ c.startAt + 1000 * T ≤ d0.tns) →
      Does (.pwmPeriodStart n vbat) s (fun d =>
        let at' := (d.dieCh n.val).startAt
        first ≤ at' ∧ at' ≤ d0.tns ∧ d0.tns < at' + 1000 * T ∧ (at' - first) % (1000 * T) = 0 ∧
        (d.dieCh n.val).freqUse = c.freq ∧ (d.dieCh n.val).dutyIn = c.duty ∧
        (c.compEn = false → (d.dieCh n.val).dutyUse = c.duty) ∧
        (c.compEn = true → (d.dieCh n.val).dutyUse =
          min 1023 ((2 * c.duty * c.vref * c.vref + vbat.toNat * vbat.toNat) / (2 * vbat.toNat * vbat.toNat))) ∧
        (d.dieCh n.val).inrush = c.inrush ∧ others d)) ∧
    (∀ (on off : Bool) vbat, let r := if on then (if off then 3 else 2) else (if off then 4 else 1)
      (d0.die k).mode = .owned → (d0.die k).inLimp = false → c.diagEn = true → d0.chCommanded n.val = false ∨ c.cause ≠ 0 →
      (∀ t, c.diagAt = some t → t + 1000000 * d0.fld Fld.LS_DIAG_PERIOD ≤ d0.tns) → 600 ≤ vbat.toNat → vbat.toNat ≤ 4000 →
      Does (.diagCheck n on off vbat) s (fun d =>
        d.dieCh n.val = { c with diagPrev := r, diagAt := some d0.tns, diag := if r = c.diagPrev then r else c.diag } ∧ others d ∧
        (r = c.diagPrev → r ≠ c.diag → (r = 2 ∨ r = 3) → Raised (312 + n.val) d0 d) ∧
        (r = c.diagPrev → r ≠ c.diag → Bumped (Fld.LS_CH_TRIPS_DIAGCHG n.val) d0 d) ∧
        (r ≠ c.diagPrev ∨ r = c.diag ∨ r = 1 ∨ r = 4 → d.faultQ = d0.faultQ)))

/-- SUPPLY_SHUTDOWN, SUPPLY_RESTART, GROUND_LOSS, REVERSE_BATTERY, SUPPLY_LIMIT_REPORT (R350, R363, R364). That a shutdown both dies see
counts once is the model's reading (log entry 93), and so is the period reference (log entry 189). -/
def Obligations.LoadSupply : Prop :=
  ∀ (die : Fin 2) (s : State),
    let d0 := s.dev
    let k := die.val
    d0.hasLoads = true → d0.inService = true →
    (∀ isOver, let x := if isOver then Fld.LS_SUPPLY_OV else Fld.LS_SUPPLY_UV
      let code := if isOver then 2 else 1
      d0.linkUp k = true → d0.loads.reverse = false → (d0.die k).powered = true → (d0.die k).supply = 0 →
      Does (.supplyShutdown die isOver) s (fun d =>
        (∀ n, n / 12 = k → d.chOn n = false ∧ (d.dieCh n).cause = (d0.dieCh n).cause ∧ (d.dieCh n).on = (d0.dieCh n).on) ∧
        (d.die k).supply = code ∧ (d.die (1 - k)).supply = (d0.die (1 - k)).supply ∧
        (d0.loads.dip = [] ∨ k ∈ d0.loads.dip ∨ d0.loads.dipCode ≠ code → Raised 338 d0 d ∧ Bumped x d0 d ∧ d.loads.dip = [k]) ∧
        (d0.loads.dip ≠ [] → k ∉ d0.loads.dip → d0.loads.dipCode = code → d.faultQ = d0.faultQ ∧ d.fld x = d0.fld x ∧
          d.loads.dip = k :: d0.loads.dip))) ∧
    (∀ vbat, (d0.die k).supply ≠ 0 → d0.loads.reverse = false → (d0.die k).groundLost = false → Does (.supplyRestart die vbat) s (fun d =>
      (d.die k).supply = 0 ∧ (d.die k).pwmRef = d0.tns ∧
      ((d0.die (1 - k)).supply = 0 → d.loads.dip = []) ∧
      (∀ n, n < 24 → n / 12 = k → d0.pwmRuns n = true → (d.dieCh n).freqUse = (d0.dieCh n).freq ∧
        (d.dieCh n).startAt = d0.tns + 1000 * (n % 12 * roundDiv (pwmPeriod (d0.dieCh n).freq) 12)) ∧
      (∀ n, n < 24 → n / 12 = k →
        (d.chOn n = true ↔ d0.chCommanded n = true ∧ (d0.dieCh n).cause = 0) ∧ (d.dieCh n).cause = (d0.dieCh n).cause ∧
        (d0.chCommanded n = true → (d0.dieCh n).cause = 0 → (d0.die k).inLimp = false → (d0.dieCh n).inrMs ≠ 0 →
          (d.dieCh n).inrush = some (d0.tns + 1000000 * (d0.dieCh n).inrMs))) ∧
      (∀ n, n / 12 ≠ k → d.dieCh n = d0.dieCh n))) ∧
    (d0.loads.reverse = false → Does .groundLoss s (fun d => ∀ n, n < 24 → d.chOn n = false ∧ (d.dieCh n).cause = (d0.dieCh n).cause)) ∧
    Does (.reverseBattery true) s (fun d => (∀ n, d.chOn n = true) ∧ (d0.sys.vbat = true → d.mode = .off ∨ d.mode = .limp)) ∧
    (d0.loads.sumFrom + 1000000000 ≤ d0.tns → Does .supplyLimitReport s (fun d =>
      let isOver := 8000 * d0.loads.samples < d0.loads.sumI ∨ 12000 * d0.loads.samples < d0.loads.sumP
      (isOver → Raised 340 d0 d) ∧ (¬isOver → d.faultQ = d0.faultQ) ∧
      d.loads = { d0.loads with sumI := 0, sumP := 0, samples := 0, sumFrom := d0.tns } ∧ Kept (Part.loads ||| Part.faultQ) d0 d))

/-- LOAD_COMMAND_WRITE, LATCH_CLEAR, CLEAR_FRAME (R351, R359). -/
def Obligations.LoadCommands : Prop :=
  ∀ (p : Path) (n : Fin 24) (s : State),
    let d0 := s.dev
    let k := n.val / 12
    d0.hasLoads = true → d0.inService = true →
    (∀ r v, let a := lsRegAddr n.val r
      let code := d0.loadCode n.val r v.toNat
      d0.writeCode p a v.toNat = 0 → d0.actedAbove (32 + n.val) 0 = false → Does (.loadCommandWrite p n r v) s (fun d =>
        d.fld (Fld.LS_CH_STATUS_CODE n.val) = code ∧
        (code ≠ 0 → OtherRegs [Reg.LS_CH_STATUS n.val, Reg.MGT_STATUS] d0 d ∧ d.loads = d0.loads ∧ d.settings = d0.settings) ∧
        (code = 0 → d.rd a = v &&& regMask (fun x => x = .rw || x = .held) a ∧
          OtherRegs [a, Reg.LS_CH_STATUS n.val, Reg.MGT_STATUS] d0 d ∧
          (d.die k).queue = (d0.die k).queue ++
            [(d0.die k).toSend d0.tns (.set n.val (d.chSet n.val) (if r = .cmd || r = .pwm then .ends else .keep))] ∧
          (r ≠ .pwm → p = .host ∨ p = .mgmt → Tab.get regReset d.settings a = d.rd a) ∧
          (r = .pwm ∨ ¬(p = .host ∨ p = .mgmt) → d.settings = d0.settings)))) ∧
    (∀ (r : LsReg) (v : Word), (d0.chUsed n.val = false ∨ (d0.die k).inLimp = true ∨ bit d0.loads.ctl n.val = true →
        d0.linkUp k = true → d0.loadCode n.val r v.toNat = E_PERM) ∧
      (∀ c, Tab.get (fun _ => none) d0.loads.cfg n.val = some c → c.admits r v.toNat = true → (d0.die k).inLimp = false →
        bit d0.loads.ctl n.val = false → d0.loadCode n.val r v.toNat = if d0.linkUp k then 0 else E_TIMEOUT)) ∧
    (∀ w : Word, bits w.toNat 31 24 = 0x7C → w.getLsbD 0 = true → d0.writeCode p (Reg.LS_CH_CTRL n.val) w.toNat = 0 → d0.linkUp k = true →
      d0.chUsed n.val = true → Does (.latchClear p n w) s (fun d =>
        ((d0.die k).inLimp = true → d.fld (Fld.LS_CH_STATUS_CODE n.val) = E_PERM ∧ d.loads = d0.loads) ∧
        ((d0.die k).inLimp = false → d.fld (Fld.LS_CH_STATUS_CODE n.val) = 0 ∧
          (d.die k).queue = (d0.die k).queue ++ [(d0.die k).toSend d0.tns (.clear n.val)] ∧ d.loads.chs = d0.loads.chs) ∧
        OtherRegs [Reg.LS_CH_STATUS n.val, Reg.MGT_STATUS] d0 d)) ∧
    (∀ w : Word, bits w.toNat 31 24 ≠ 0x7C → d0.writeCode p (Reg.LS_CH_CTRL n.val) w.toNat = 0 → Does (.latchClear p n w) s (fun d =>
      d.loads = d0.loads ∧ OtherRegs [Reg.MGT_STATUS] d0 d)) ∧
    (∀ (die : Fin 2) q w, die.val = k → d0.NextFrame k (.clear n.val) q → FrameOk w 4 q → Does (.clearFrame die w) s (fun d =>
      let c := d0.dieCh n.val
      Heard k d0 d ∧
      ((d0.die k).inLimp = true ∨ c.latchAt = d0.tns → (d.dieCh n.val).cause = c.cause) ∧
      ((d0.die k).inLimp = false → c.latchAt ≠ d0.tns → (d.dieCh n.val).cause = 0 ∧
        (c.cause ≠ 0 → d0.chCommanded n.val = true → (d0.die k).supply = 0 → (d0.die k).groundLost = false →
          d0.loads.reverse = false → d.chOn n.val = true ∧ (c.inrMs ≠ 0 → (d.dieCh n.val).inrush = some (d0.tns + 1000000 * c.inrMs)))) ∧
      (∀ m, m ≠ n.val → d.dieCh m = d0.dieCh m)))

/-- HEARTBEAT, SET_FRAME, SAFE_FRAME, READBACK, TAKEOVER, PARK (R368 to R377). That FREQ and DUTY come into use at once where PWM_EN starts
a channel's periods is the model's choice (log entry 189); so is that a discarded frame holds those behind it (log entry 91); that a
takeover brings the OTP words into use is log entry 208. -/
def Obligations.LoadFramesToDies : Prop :=
  ∀ (die : Fin 2) (s : State),
    let d0 := s.dev
    let k := die.val
    let adopted := fun (n : Nat) (c : DieCh) =>
      c.diagEn = d0.flag (Fld.LS_CH_CMD_DIAG_EN n) ∧ c.ioc = d0.fld (Fld.LS_CH_THR_I_OC n) ∧ c.iinr = d0.fld (Fld.LS_CH_THR_I_INR n) ∧
      c.inrMs = d0.fld (Fld.LS_CH_INR_INR_MS n) ∧ c.vref = d0.fld (Fld.LS_CH_VREF n)
    let bad := fun (d : Dev) =>
      Bumped (Fld.LS_LINK_CRC k) d0 d ∧ d.loads.chs = d0.loads.chs ∧ (d.die k).heard = (d0.die k).heard ∧ nextFrame (d.die k).queue = none
    d0.hasLoads = true →
    (∀ w, d0.linkRuns = true → (d0.die k).powered = true → linkOk typesDown w = false → Does (.heartbeat die w) s (fun d =>
      Bumped (Fld.LS_LINK_CRC k) d0 d ∧ d.loads = d0.loads)) ∧
    (∀ w q, d0.linkRuns = true → (d0.die k).mode = .owned → (d0.die k).inLimp = false → FrameOk w 1 q → Does (.heartbeat die w) s (fun d =>
      Heard k d0 d ∧ (∀ n, n / 12 = k → n < 24 → (d.dieCh n).on = d0.flag (Fld.LS_CH_CMD_ON n) ∧ (d.dieCh n).cause = (d0.dieCh n).cause ∧
        (d.dieCh n).pulse = (d0.dieCh n).pulse) ∧ (∀ n, n / 12 ≠ k → d.dieCh n = d0.dieCh n))) ∧
    (∀ n x p q w, d0.NextFrame k (.set n x p) q →
      (linkOk typesDown w = false → Does (.setFrame die w) s bad) ∧
      ((d0.die k).mode = .owned → (d0.die k).inLimp = false → FrameOk w 2 q → Does (.setFrame die w) s (fun d =>
        let c := d.dieCh n
        let was := d0.dieCh n
        Heard k d0 d ∧ c.on = x.on ∧ c.pwmEn = x.pwmEn ∧ c.compEn = x.compEn ∧ c.diagEn = x.diagEn ∧ c.freq = x.freq ∧ c.duty = x.duty ∧
        c.ioc = x.ioc ∧ c.iinr = x.iinr ∧ c.inrMs = x.inrMs ∧ c.vref = x.vref ∧
        (x.pwmEn = true → was.freqUse ≠ 0 → c.freqUse = was.freqUse ∧ c.dutyUse = was.dutyUse ∧ c.startAt = was.startAt) ∧
        (x.pwmEn = true → was.freqUse = 0 → x.freq ≠ 0 → c.freqUse = x.freq ∧ c.dutyUse = x.duty) ∧
        (x.pwmEn = false → c.freqUse = 0) ∧ c.cause = was.cause ∧
        (p = .ends → c.pulse = none) ∧ (∀ width, p = .starts width → c.pulse = some (d0.tns + 1000 * width)) ∧
        (p = .keep → c.pulse = was.pulse) ∧ (∀ m, m ≠ n → d.dieCh m = d0.dieCh m)))) ∧
    (∀ codes q w, d0.NextFrame k (.safe codes) q → (codes.map Prod.fst).Nodup →
      (linkOk typesDown w = false → Does (.safeFrame die w) s bad) ∧
      ((d0.die k).mode = .owned → (d0.die k).inLimp = false → FrameOk w 3 q → Does (.safeFrame die w) s (fun d =>
        Heard k d0 d ∧
        (∀ e ∈ codes, let c := d.dieCh e.1
          c.cause = (d0.dieCh e.1).cause ∧ c.pulse = none ∧ (e.2 = 1 → c.on = false) ∧
          (e.2 = 2 → c.on = true ∧ c.pwmEn = false ∧ c.compEn = false)) ∧
        (∀ n, n ∉ codes.map Prod.fst → d.dieCh n = d0.dieCh n)))) ∧
    (∀ q w, d0.NextFrame k .readback q →
      (linkOk typesDown w = false → Does (.readback die w) s bad) ∧
      (FrameOk w 5 q → Does (.readback die w) s (fun d =>
        Heard k d0 d ∧ (d.die k).answer = some ((d0.die k).stateId, (dieChannels k).map d0.chState) ∧ d.loads.chs = d0.loads.chs))) ∧
    (∀ id states q w, d0.NextFrame k (.takeover id states) q → (states.map (·.n)).Nodup →
      (linkOk typesDown w = false → Does (.takeover die w) s bad) ∧
      (FrameOk w 6 q → d0.loads.limpN = true → Does (.takeover die w) s (fun d =>
        d.loads.chs = d0.loads.chs ∧ (d.die k).mode = (d0.die k).mode)) ∧
      (FrameOk w 6 q → d0.loads.limpN = false → (d0.die k).stateId ≠ id → Does (.takeover die w) s (fun d =>
        d.loads.chs = d0.loads.chs ∧ (d.die k).mode = (d0.die k).mode ∧
        (d.die k).queue = markTaken (d0.die k).queue ++ [(d0.die k).toSend d0.tns .readback])) ∧
      (FrameOk w 6 q → d0.loads.limpN = false → (d0.die k).stateId = id → Does (.takeover die w) s (fun d =>
        (d.die k).mode = .owned ∧ (∀ i, i < 13 → d.otpUsed k i = d0.otpWord k i) ∧ (d.die k).inLimp = false ∧ d.linkUp k = true ∧ Bumped (Fld.LS_LINK_TAKEOVER k) d0 d ∧
        (∀ st ∈ states, let c := d.dieCh st.n
          c.cause = (d0.dieCh st.n).cause ∧
          (d0.chUsed st.n = true → adopted st.n c ∧ c.on = st.on ∧ c.pwmEn = st.pwm ∧ c.compEn = st.comp ∧ c.freq = st.freq ∧
            c.duty = st.duty ∧ c.pulse = (d0.dieCh st.n).pulse) ∧
          (d0.chUsed st.n = false → c.on = false ∧ c.pulse = none ∧ c.diagEn = false))))) ∧
    (∀ q w, d0.NextFrame k .park q →
      (linkOk typesDown w = false → Does (.park die w) s bad) ∧
      ((d0.die k).mode = .owned → FrameOk w 7 q → Does (.park die w) s (fun d =>
        (d.die k).mode = .parked ∧ Heard k d0 d ∧
        (∀ n, n / 12 = k → n < 24 → (d.dieCh n).on = false ∧ (d.dieCh n).pulse = none ∧ (d.dieCh n).cause = (d0.dieCh n).cause) ∧
        (d0.loads.reverse = false → (d0.die k).inLimp = false → ∀ n, n / 12 = k → d.chOn n = false))))

/-- STATUS_FRAME, SENSE_FRAME, STATE_FRAME, LINK_FRAME_RETRY, LINK_DOWN, LINK_RECOVERY (R360, R369, R372). What a STATE frame carries is the
model's reading (log entry 190). -/
def Obligations.LoadFramesFromDies : Prop :=
  ∀ (die : Fin 2) (s : State),
    let d0 := s.dev
    let k := die.val
    let x := d0.die k
    let mine := fun (n : Nat) => n < 24 ∧ n / 12 = k
    d0.hasLoads = true → d0.inService = true →
    (∀ w q, x.powered = true → d0.linkUp k = true → x.reports = [] → FrameOk w 9 q → Does (.statusFrame die w) s (fun d =>
      (d.die k).seqIn = q ∧
      (∀ n, mine n → let c := d0.dieCh n
        d.fld (Fld.LS_CH_STATUS_STATE n) = (if c.cause ≠ 0 then 2 else b2n (d0.chOn n)) ∧
        d.fld (Fld.LS_CH_STATUS_CAUSE n) = c.cause % 4 ∧ d.flag (Fld.LS_CH_STATUS_INRUSH n) = d0.inInrush n ∧
        d.flag (Fld.LS_CH_STATUS_LIMP n) = x.inLimp ∧ d.flag (Fld.LS_CH_STATUS_PULSE n) = c.pulse.isSome ∧
        d.fld (Fld.LS_CH_STATUS_DIAG n) = c.diag % 8 ∧ d.fld (Fld.LS_CH_STATUS_EFF_DUTY n) = d0.effDuty n % 1024 ∧
        d.fld (Fld.LS_CH_STATUS_CODE n) = d0.fld (Fld.LS_CH_STATUS_CODE n) ∧ d.flag (Fld.LS_CH_STATUS_SAFE n) = d0.flag (Fld.LS_CH_STATUS_SAFE n)) ∧
      d.fld Fld.LS_STATUS_SUPPLY = x.supply % 2 ^ Fld.LS_STATUS_SUPPLY.width ∧ d.fld Fld.LS_STATUS_LHI = d0.loads.lhi % 256 ∧
      d.flag (if k = 0 then Fld.LS_STATUS_PS0_LIMP else Fld.LS_STATUS_PS1_LIMP) = x.inLimp ∧ d.linkUp k = true ∧
      (d.die k).queue = x.queue.filter (fun f => !f.taken) ∧ (d.die k).linkHeard = d0.tns ∧ d.loads.chs = d0.loads.chs)) ∧
    (∀ w, x.powered = true → linkOk typesUp w = false → Does (.statusFrame die w) s (fun d =>
      Bumped (Fld.LS_LINK_CRC k) d0 d ∧ d.loads = d0.loads)) ∧
    (∀ chs vbat w q, x.powered = true → chs.length = 12 → FrameOk w 10 q → Does (.senseFrame die w chs vbat) s (fun d =>
      (∀ i, ∀ h : i < chs.length, let n := 12 * k + i
        d.fld (Fld.LS_CH_SENSE_AVG n) = chs[i].avg.toNat ∧ d.fld (Fld.LS_CH_SENSE_PEAK n) = chs[i].peak.toNat ∧
        d.fld (Fld.LS_CH_TEMP_TEMP n) = chs[i].temp.toNat) ∧
      d.fld Fld.LS_VBAT_VBAT = vbat.toNat ∧ d.fld Fld.LS_VBAT_VMIN = min (d0.fld Fld.LS_VBAT_VMIN) vbat.toNat ∧
      d.fld Fld.LS_TOTAL_CURRENT = min (((List.range 24).map (fun n => chCurrent n (d.fld (Fld.LS_CH_SENSE_AVG n)))).sum / 20) 65535 ∧
      (∀ n, n < 24 → n / 12 ≠ k → d.rd (Reg.LS_CH_SENSE n) = d0.rd (Reg.LS_CH_SENSE n)) ∧ d.loads.chs = d0.loads.chs ∧
      d.loads.sumI = d0.loads.sumI + d.fld Fld.LS_TOTAL_CURRENT ∧ d.loads.samples = d0.loads.samples + 1)) ∧
    (∀ id states w q, x.answer = some (id, states) → x.powered = true → (states.map (·.n)).Nodup → (∀ st ∈ states, st.n < 24) →
      FrameOk w 12 q → Does (.stateFrame die w) s (fun d =>
        (∀ st ∈ states, d0.chUsed st.n = true → d.flag (Fld.LS_CH_CMD_ON st.n) = st.on ∧
          d.fld (Fld.LS_CH_STATUS_CAUSE st.n) = st.cause % 4 ∧
          (st.limp = true ∨ st.freq ≠ 0 → d.flag (Fld.LS_CH_CMD_PWM_EN st.n) = st.pwm ∧ d.flag (Fld.LS_CH_CMD_COMP_EN st.n) = st.comp) ∧
          (∀ e, st.pulse = some e → Tab.get (fun _ => 0) d.phase.pulses (32 + st.n) = e) ∧
          (st.freq ≠ 0 → d.fld (Fld.LS_CH_PWM_FREQ st.n) = st.freq % 2048 ∧ d.fld (Fld.LS_CH_PWM_DUTY st.n) = st.duty % 1024)) ∧
        (d.die k).answer = none ∧ d.loads.chs = d0.loads.chs ∧
        (d.die k).queue = x.queue ++ [x.toSend d0.tns (.takeover id ((dieChannels k).map d.takeoverState))] ∧
        ((∃ w, w < 13 ∧ d0.loads.otpBad.contains (13 * k + w) = true) → Raised 342 d0 d) ∧
        ((∀ w, w < 13 → d0.loads.otpBad.contains (13 * k + w) = false) → d.faultQ = d0.faultQ))) ∧
    (∀ pre f post, x.queue = pre ++ f :: post → (∀ g ∈ pre, (g.late d0.tns && decide (g.retries < 3)) = false) →
      f.sentAt + 20000 ≤ d0.tns → f.retries < 3 → Does (.linkFrameRetry die) s (fun d =>
        (d.die k).queue = pre ++ { f with sentAt := d0.tns, retries := f.retries + 1, lost := false } :: post ∧ Bumped (Fld.LS_LINK_RETRY k) d0 d ∧
        d.loads.chs = d0.loads.chs ∧ OtherRegs [Reg.LS_LINK k] d0 d)) ∧
    (x.linkDown = false → (∃ f ∈ x.queue, f.sentAt + 20000 ≤ d0.tns ∧ 3 ≤ f.retries) ∨ x.linkHeard + 350000 ≤ d0.tns →
      Does (.linkDown die) s (fun d =>
        (d.die k).linkDown = true ∧ d.linkUp k = false ∧ (d.die k).queue = [] ∧ (d.die k).mode = x.mode ∧
        (∀ n, mine n → d.fld (Fld.LS_CH_STATUS_STATE n) = 3) ∧ Bumped (Fld.LS_LINK_DOWN k) d0 d ∧ Raised (336 + k) d0 d ∧
        d.loads.chs = d0.loads.chs)) ∧
    (x.linkDown = true → x.queue = [] → Does (.linkRecovery die) s (fun d =>
      d = { d0 with out := [], loads := d.loads } ∧ d.die k = { x with queue := [x.toSend d0.tns .readback], seqOut := (x.seqOut + 1) % 16 } ∧
      d.loads.chs = d0.loads.chs))

/-- POWER_DIE_HOLD, HOLD_POLICY, POWER_DIE_POWERUP, POWERUP_TAKEOVER_TIMEOUT, LIMP_ENTRY, LIMP_N_RELEASE, LHI_FOLLOW, LIMP_LATCH_CLEAR. That
a power-up reads the OTP words anew and blanks the channels is the model's reading (log entries 95, 208). -/
def Obligations.LoadSilence : Prop :=
  ∀ (die : Fin 2) (s : State),
    let d0 := s.dev
    let k := die.val
    let x := d0.die k
    let policy := fun (d : Dev) =>
      (bit (d0.otpUsed k 0) 21 = false → (d.die k).mode = .off ∧
        ∀ n, n < 24 → n / 12 = k → (d.dieCh n).on = false ∧ (d.dieCh n).cause = (d0.dieCh n).cause) ∧
      (bit (d0.otpUsed k 0) 21 = true → (d.die k).mode = .limp ∧ (d.die k).inLimp = true ∧
        (x.inLimp = false → (d0.inService = true → Raised 339 d0 d) ∧ (d0.mode = .held → d.mode = .limp)))
    d0.hasLoads = true →
    (x.mode = .owned → x.heard + 350000 ≤ d0.tns → Does (.powerDieHold die) s (fun d =>
      (d.die k).mode = .hold d0.tns ∧ d.loads.chs = d0.loads.chs ∧ ∀ n, d.chOn n = d0.chOn n)) ∧
    (∀ since, x.mode = .hold since → since + 1000000 * d0.tHold k ≤ d0.tns → Does (.holdPolicy die) s policy) ∧
    (∀ since, x.mode = .init since → since + 300000000 ≤ d0.tns → Does (.powerupTakeoverTimeout die) s policy) ∧
    (d0.loads.reverse = false → Does (.powerDiePowerup die) s (fun d =>
      (d.die k).mode = .init d0.tns ∧ (d.die k).inLimp = d0.loads.limpN ∧ (d.die k).groundLost = false ∧
      (d.die (1 - k)).groundLost = (d0.die (1 - k)).groundLost ∧ (∀ i, i < 13 → d.otpUsed k i = d0.otpWord k i) ∧
      (d0.loads.limpN = false → ∀ n, n < 24 → n / 12 = k → d.dieCh n = chBlank ∧ d.chOn n = false))) ∧
    Does .limpEntry s (fun d => d.loads.limpN = true ∧ ∀ j, j < 2 → (d0.die j).powered = true → (d.die j).inLimp = true ∧
      (d0.loads.reverse = false → ∀ n, n / 12 = j → d.chOn n =
        (d0.limpOn n && (d0.die j).supply = 0 && !(d0.die j).groundLost && (d0.dieCh n).cause = 0)) ∧
      (d0.mode = .held → d.mode = .limp)) ∧
    (d0.loads.limpN = true → Does .limpNRelease s (fun d => d.loads.limpN = false ∧
      (d0.inService = true → x.linkDown = false → (d.die k).limpPin = x.limpPin ∧ (d.die k).mode = x.mode ∧
        (d.die k).queue = x.queue ++ [x.toSend d0.tns .readback]) ∧
      (d0.inService = false ∨ x.linkDown = true → (d.die k).limpPin = false ∧
        (d.die k).mode = if x.mode = DieMode.owned then DieMode.hold d0.tns else x.mode))) ∧
    (∀ (pin : Fin 8) level, bit d0.loads.lhi pin.val ≠ level → Does (.lhiFollow pin level) s (fun d =>
      bit d.loads.lhi pin.val = level ∧ (∀ j, j ≠ pin.val → bit d.loads.lhi j = bit d0.loads.lhi j) ∧
      Tab.get (fun _ => 0) d.loads.lhiAt pin.val = d0.tns)) ∧
    (∀ (n : Fin 24) (p : Nat), n.val / 12 = k → d0.limpPinOf n.val = some p → x.inLimp = true → d0.limpOn n.val = false →
      x.limpAt + 10000000 ≤ d0.tns → Tab.get (fun _ => 0) d0.loads.lhiAt p + 10000000 ≤ d0.tns → (d0.dieCh n.val).latchAt ≠ d0.tns →
      Does (.limpLatchClear n) s (fun d => (d.dieCh n.val).cause = 0 ∧ ∀ m, m ≠ n.val → d.dieCh m = d0.dieCh m))

/-- CAN_FRAME_RECEIVE, INJECT_GO, CAN_WAKE_MATCH (R202 to R205, R220, R221). -/
def Obligations.CanReception : Prop :=
  ∀ (n : Fin 32) (s : State),
    let d0 := s.dev
    (∀ (f : CanFrame) (c : CanCtl) (r : RxRing), let len := canLength f
      let recLen := 24 + 8 * ((len + 7) / 8)
      let xl := f.format = 2
      d0.onBus n.val = true → d0.pinBound 2 n.val = true → d0.canCtl n.val = some c → c.tx = none → c.takes f.format.val = true →
      d0.ring n.val = some r →
      (∀ start skip, r.place recLen = some (start, skip) → f.payload.length = len → Does (.canFrameReceive n f) s (fun d =>
        let at' := fun off k => leNat (d.dmem r.engine.val (r.base + start + off) k)
        at' 0 4 = recLen * 2 ^ 16 + (if xl then 0 else f.dlc.toNat * 2 ^ 12) + len ∧ at' 4 4 = f.id.toNat ∧
        at' 8 4 = (if xl then f.sdt.toNat * 2 ^ 24 + f.vcid.toNat * 2 ^ 16 + b2n f.sec * 128 else 0) + canFlags f false ∧
        at' 12 4 = (if xl then f.af.toNat else 0) ∧ d.dmem r.engine.val (r.base + start + 24) len = f.payload ∧
        (d.ring n.val).map (fun x => (x.used, x.recs.length)) = some (r.used + skip + recLen, r.recs.length + 1) ∧
        (d.canCtl n.val).map (·.seq) = some ((c.seq + 1) % 65536) ∧ Bumped (Fld.CAN_RXCNT_COUNT n.val) d0 d)) ∧
      (r.place recLen = none → Does (.canFrameReceive n f) s (fun d =>
        d.eng = d0.eng ∧ (d.canCtl n.val).map (·.seq) = some ((c.seq + 1) % 65536) ∧ Bumped (Fld.CAN_RXDROP_COUNT n.val) d0 d ∧
        d.fld (Fld.CAN_RXDROP_SEQ n.val) = c.seq % 65536 ∧ (160 + n.val, 1) ∈ d.faultQ.queue))) ∧
    (∀ (f : CanFrame) (c : CanCtl), d0.canCtl n.val = some c → c.takes f.format.val = false ∨ d0.pinBound 2 n.val = false →
      Does (.canFrameReceive n f) s (fun d => d = { d0 with out := [] })) ∧
    (∀ p, d0.writeCode p (Reg.CAN_INJ_CTRL n.val) 1 = 0 →
      let h := fun k => (d0.rd (Reg.CAN_INJ_HDR n.val k)).toNat
      (d0.mode ≠ .factory → Does (.injectGo p n) s (fun d => d.eng = d0.eng ∧ OtherRegs [Reg.MGT_STATUS] d0 d)) ∧
      (d0.mode = .factory → (d0.canCtl n.val).isSome = true →
        (injectLenOk (h 0) (h 2) = false → Does (.injectGo p n) s (fun d =>
          d.fld (Fld.CAN_INJ_CTRL_CODE n.val) = E_LEN ∧ d.eng = d0.eng ∧ d.can = d0.can)) ∧
        (∀ r, injectLenOk (h 0) (h 2) = true → d0.ring n.val = some r → (r.place (24 + 8 * ((bits (h 0) 11 0 + 7) / 8))).isSome = true →
          Does (.injectGo p n) s (fun d => d.fld (Fld.CAN_INJ_CTRL_CODE n.val) = 0 ∧
            (d.ring n.val).map (·.recs.length) = some (r.recs.length + 1))))) ∧
    (∀ ide id byte0, let m := d0.fld (Fld.CAN_WAKE_MASK n.val)
      let dm := d0.fld (Fld.CAN_WAKE_DATA_MASK n.val)
      let hit := d0.flag (Fld.CAN_WAKE_ID_EN n.val) = true ∧ ide = d0.flag (Fld.CAN_WAKE_ID_IDE n.val) ∧
        (id.toNat &&& m) = (d0.fld (Fld.CAN_WAKE_ID_ID n.val) &&& m) ∧
        (dm = 0 ∨ ∃ b : Byte, byte0 = some b ∧ (b.toNat &&& dm) = (d0.fld (Fld.CAN_WAKE_DATA_VALUE n.val) &&& dm))
      d0.mode = .doze → (d0.canCtl n.val).isSome = true →
      (hit → d0.pinBound 2 n.val = true → Does (.canWakeMatch n ide id byte0) s (fun d =>
        d.flag (Fld.CAN_WAKE_STAT_WOKE n.val) = true ∧ d.flag (Fld.CAN_WAKE_STAT_IDE n.val) = ide ∧
        d.fld (Fld.CAN_WAKE_STAT_ID n.val) = id.toNat ∧
        (d0.sys.woken = false → d0.sys.entry ≠ .sleep → d.fld Fld.SYS_WAKE_KIND = 3 ∧ d.fld Fld.SYS_WAKE_INDEX = n.val ∧ d.sys.woken = true) ∧
        d.eng = d0.eng ∧ OtherRegs [Reg.CAN_WAKE_STAT n.val, Reg.SYS_WAKE] d0 d)) ∧
      (¬hit ∨ d0.pinBound 2 n.val = false → Does (.canWakeMatch n ide id byte0) s (fun d => d = { d0 with out := [] })))

/-- TXSEND, CAN_TX_START, CAN_TX_SUCCESS, ARBITRATION_LOST (R117, R206 to R210). That a controller integrating with LISTEN set counts as
listen-only is the model's reading (log entry 220). -/
def Obligations.CanTransmission : Prop :=
  ∀ (s : State),
    let d0 := s.dev
    (∀ (e : Fin 8) (t : Fin 4) a h b, let tgt := (d0.txTarget e.val b).toNat
      let n := bits tgt 28 24
      let k := bits tgt 21 16
      let len := ((d0.thread e.val t.val).reg a).value.toNat
      let w := fun i => leNat (d0.asm e.val b (4 * i) 4)
      let code := d0.canTxCode n k e.val (w 0) len
      let pay := canPadded (w 0) len (d0.asm e.val b 16 (min len 2048))
      d0.Issues e t (wordR 0x26 0 a.val 0 (h.val * 2 ^ 12)) → (d0.thread e.val t.val).handle h.val = some b →
      (bits tgt 31 30 ≠ 1 → Does (.txsend e t a h) s (fun d =>
        (d.thread e.val t.val).wait = .job none (some (⟨0, 0⟩, code)) ∧ (d.thread e.val t.val).handle h.val = none ∧ OtherThreads e t d0 d ∧
        (code ≠ 0 → d.can = d0.can ∧ Bumped (Fld.ENG_TXREF_COUNT e.val) d0 d ∧ d.fld (Fld.ENG_TXREF_CODE e.val) = code) ∧
        (code = 0 → (d.canBuf n k).content = ⟨w 0, w 1, w 2, len, pay⟩ ∧ d.bufState n k = (if d0.bufState n k = 2 then 2 else 1) ∧
          (d0.bufState n k ≠ 0 → Bumped (Fld.CAN_TXREPL_COUNT n) d0 d) ∧
          (∀ j, j ≠ k → j < 64 → d.canBuf n j = d0.canBuf n j ∧ d.bufState n j = d0.bufState n j)))) ∧
      (∀ c, d0.canCtl n = some c → (code = 0 ↔ d0.fld (Fld.CAN_TXB_STAT_OWNER n k) = e.val ∧ d0.canState n ≠ 0 ∧ d0.canListens n = false ∧
        d0.inService = true ∧ c.takes (bits (w 0) 31 29) = true ∧
        (bits (w 0) 31 29 = 0 → len ≤ 8) ∧ (bits (w 0) 31 29 = 1 → len ≤ 64) ∧ (2 ≤ bits (w 0) 31 29 → 1 ≤ len ∧ len ≤ 2048) ∧
        16 + (canPadded (w 0) len (List.replicate len 0)).length ≤ 16 * c.sizes.getD k 0)) ∧
      (bits tgt 31 30 = 1 → 2560 < len → Does (.txsend e t a h) s (fun d =>
        (d.thread e.val t.val).wait = .job none (some (⟨0, 0⟩, E_LEN)) ∧ (d.thread e.val t.val).handle h.val = none ∧ d.sw = d0.sw)) ∧
      (bits tgt 31 30 = 1 → len ≤ 2560 → d0.creditFree = false → Does (.txsend e t a h) s (fun d =>
        (d.thread e.val t.val).wait = .credit h len (d0.tns + 10000) ∧ (d.thread e.val t.val).handle h.val = some b ∧ d.sw = d0.sw)) ∧
      (bits tgt 31 30 = 1 → len ≤ 2560 → d0.creditFree = true → Does (.txsend e t a h) s (fun d =>
        (d.thread e.val t.val).wait = .job none (some (⟨0, 0⟩, 0)) ∧ (d.thread e.val t.val).handle h.val = none))) ∧
    (∀ (n : Fin 32) (c : CanCtl), d0.onBus n.val = true → d0.canCtl n.val = some c →
      (c.tx = none → d0.canState n.val = 2 →
        (d0.flag (Fld.CAN_STATUS_HELD n.val) = false → d0.mayStart n.val c ≠ [] → Does (.canTxStart n) s (fun d =>
          ∃ b ∈ d0.mayStart n.val c, let x := (d0.canBuf n.val b).content
            let esi := x.format = 1 && d0.fld (Fld.CAN_STATUS_ERRSTATE n.val) ≠ 0
            (∀ j ∈ d0.mayStart n.val c, canRank x b ≤ canRank (d0.canBuf n.val j).content j) ∧
            (d.canCtl n.val).map (·.tx) = some (some ⟨b, x, false, d0.now8, esi⟩) ∧ d.bufState n.val b = 2 ∧
            d.out = (if d0.pinBound 1 n.val then [.canFrame n.val x.w0 x.w1 x.w2 x.len esi x.payload] else []) ++
              (if x.format = 2 ∧ c.modeLine = true then [.canMode n.val (!c.modeInvert) true] else []) ∧ d.can.bufs = d0.can.bufs)) ∧
        (d0.flag (Fld.CAN_STATUS_HELD n.val) = true → Does (.canTxStart n) s (fun d =>
          d.can.ctls = d0.can.ctls ∧ d.out = [] ∧ ∀ b, b < 64 → d.bufState n.val b = d0.bufState n.val b))) ∧
      (∀ x, c.tx = some x → x.buf < 64 → c.rxOwn = false → d0.pinBound 1 n.val = true → d0.pinBound 2 n.val = true → Does (.canTxSuccess n) s (fun d =>
        Bumped (Fld.CAN_TXB_STAT_SENT n.val x.buf) d0 d ∧ Bumped (Fld.CAN_TXCNT_COUNT n.val) d0 d ∧
        d.fld (Fld.CAN_TXB_TS n.val x.buf) = x.sof.toNat % 2 ^ 32 ∧
        d.fld (Fld.CAN_ERRCNT_TEC n.val) = min (d0.fld (Fld.CAN_ERRCNT_TEC n.val) - 1) 256 ∧
        d.bufState n.val x.buf =
          (if x.replaced = true ∨ d0.flag (Fld.CAN_TXB_STAT_SCHED n.val x.buf) = true ∧ bit x.copy.w0 25 = true then 1 else 0) ∧
        (d.canCtl n.val).map (·.tx) = some none ∧ d.can.bufs = d0.can.bufs)) ∧
      (∀ x, c.tx = some x → x.buf < 64 → d0.pinBound 2 n.val = true → Does (.arbitrationLost n) s (fun d =>
        (d.canCtl n.val).map (·.tx) = some none ∧ d.bufState n.val x.buf = 1 ∧ d.can.bufs = d0.can.bufs ∧
        OtherRegs [Reg.CAN_TXB_STAT n.val x.buf] d0 d)))

/-- CAN_BUS_ERROR, BUS_OFF_RECOVERY, PROTOCOL_EXCEPTION, BUS_INTEGRATION, TIMING_SEL_WRITE, TIMING_SWITCH, LISTEN_WRITE, LISTEN_EFFECT
(R195, R199, R217, R218). That the counters' step comes with the command is the model's choice (log entry 21). -/
def Obligations.CanErrorsAndModes : Prop :=
  ∀ (n : Fin 32) (s : State),
    let d0 := s.dev
    let tec := d0.fld (Fld.CAN_ERRCNT_TEC n.val)
    let rec_ := d0.fld (Fld.CAN_ERRCNT_REC n.val)
    let idle := if d0.flag (Fld.CAN_CTRL_LISTEN n.val) then 3 else 2
    (∀ err step xl c, d0.onBus n.val = true → d0.canCtl n.val = some c →
      (d0.canState n.val ≠ 3 → (∀ x, c.tx = some x → x.buf < 64) → Does (.canBusError n err step xl) s (fun d =>
        let t := (errStep step tec rec_).1
        let r := (errStep step tec rec_).2
        d.fld (Fld.CAN_STATUS_LEC n.val) = canLec err ∧ Bumped (canErrField n.val err) d0 d ∧
        d.fld (Fld.CAN_ERRCNT_TEC n.val) = min t 256 ∧ d.fld (Fld.CAN_ERRCNT_REC n.val) = min r 255 ∧
        d.fld (Fld.CAN_STATUS_ERRSTATE n.val) = (if 255 < t then 2 else if 128 ≤ t ∨ 128 ≤ r then 1 else 0) ∧
        (255 < t → (128 + n.val, 1) ∈ d.faultQ.queue ∧ Bumped (Fld.CAN_BUSOFF_COUNT n.val) d0 d) ∧
        (d.canCtl n.val).map (·.tx) = some none ∧ (∀ x, c.tx = some x → d.bufState n.val x.buf = 1) ∧
        d.canState n.val = (if xl = true ∧ c.modeLine = true then 1 else d0.canState n.val))) ∧
      (d0.canState n.val = 3 → Does (.canBusError n err step xl) s (fun d =>
        Bumped (Fld.CAN_LOMERR_COUNT n.val) d0 d ∧ d.rd (Reg.CAN_ERRCNT n.val) = d0.rd (Reg.CAN_ERRCNT n.val) ∧ d.can = d0.can ∧
        d.canState n.val = (if xl = true ∧ c.modeLine = true then 1 else 3)))) ∧
    (∀ seqs : Fin 129, d0.inService = true → d0.busOff n.val = true → Does (.busOffRecovery n seqs) s (fun d =>
      (seqs.val = 128 → d.fld (Fld.CAN_ERRCNT_TEC n.val) = 0 ∧ d.fld (Fld.CAN_ERRCNT_REC n.val) = 0 ∧ d.busOff n.val = false ∧
        d.canState n.val = idle) ∧
      (seqs.val < 128 → d.fld (Fld.CAN_BUSOFF_RECOV n.val) = seqs.val ∧ d.busOff n.val = true) ∧ d.can = d0.can)) ∧
    (∀ xl step c, d0.onBus n.val = true → d0.pinBound 2 n.val = true → d0.canCtl n.val = some c → (if xl then c.xl else c.fd) = false →
      tec ≤ 255 → Does (.protocolException n xl step) s (fun d =>
        Bumped (Fld.CAN_ERRDET_FORM_ACK n.val) d0 d ∧ d.fld (Fld.CAN_STATUS_LEC n.val) = 7 ∧ d.canState n.val = 1 ∧
        d.fld (Fld.CAN_ERRCNT_TEC n.val) = tec ∧
        d.fld (Fld.CAN_ERRCNT_REC n.val) = (if d0.canState n.val = 3 then rec_ else min (errStep step tec rec_).2 255) ∧ d.can = d0.can ∧
        OtherRegs [Reg.CAN_ERRDET n.val, Reg.CAN_STATUS n.val, Reg.CAN_ERRCNT n.val] d0 d)) ∧
    (d0.inService = true → d0.canState n.val = 1 → Does (.busIntegration n) s (fun d =>
      d.canState n.val = idle ∧ OtherRegs [Reg.CAN_STATUS n.val] d0 d ∧ Kept Part.regs d0 d)) ∧
    (∀ p sel, d0.writeCode p (Reg.CAN_CTRL n.val) 0 = 0 → Does (.timingSelWrite p n sel) s (fun d =>
      ((d0.canCtl n.val = none ∨ ∃ c, d0.canCtl n.val = some c ∧ c.timings.length ≤ sel.val) →
        d.fld (Fld.CAN_STATUS_CODE n.val) = E_PERM ∧ d.rd (Reg.CAN_CTRL n.val) = d0.rd (Reg.CAN_CTRL n.val) ∧ d.settings = d0.settings) ∧
      (∀ c, d0.canCtl n.val = some c → sel.val < c.timings.length →
        d.fld (Fld.CAN_STATUS_CODE n.val) = 0 ∧ d.fld (Fld.CAN_CTRL_TIMING_SEL n.val) = sel.val ∧
        d.flag (Fld.CAN_CTRL_LISTEN n.val) = d0.flag (Fld.CAN_CTRL_LISTEN n.val) ∧ d.canState n.val = d0.canState n.val) ∧
      OtherRegs [Reg.CAN_CTRL n.val, Reg.CAN_STATUS n.val, Reg.MGT_STATUS] d0 d)) ∧
    (∀ c, d0.onBus n.val = true → d0.canCtl n.val = some c → c.tx = none →
      (let sel := d0.fld (Fld.CAN_CTRL_TIMING_SEL n.val)
       d0.fld (Fld.CAN_STATUS_TIMING n.val) ≠ sel → Does (.timingSwitch n) s (fun d =>
        d.fld (Fld.CAN_STATUS_TIMING n.val) = sel ∧ d.rd (Reg.CAN_NBT n.val) = (c.timings.getD sel (0, 0, 0, 0)).1 ∧
        d.rd (Reg.CAN_DBT n.val) = (c.timings.getD sel (0, 0, 0, 0)).2.1 ∧ d.rd (Reg.CAN_XBT n.val) = (c.timings.getD sel (0, 0, 0, 0)).2.2.1 ∧
        d.rd (Reg.CAN_PWM n.val) = (c.timings.getD sel (0, 0, 0, 0)).2.2.2 ∧ d.canState n.val = 1 ∧ d.can = d0.can ∧
        OtherRegs [Reg.CAN_NBT n.val, Reg.CAN_DBT n.val, Reg.CAN_XBT n.val, Reg.CAN_PWM n.val, Reg.CAN_STATUS n.val] d0 d)) ∧
      Does (.listenEffect n) s (fun d => d.canState n.val = idle ∧ d.can = d0.can ∧ OtherRegs [Reg.CAN_STATUS n.val] d0 d)) ∧
    (∀ p listen c, d0.writeCode p (Reg.CAN_CTRL n.val) 0 = 0 → d0.canCtl n.val = some c →
      d0.fld (Fld.CAN_CTRL_TIMING_SEL n.val) < c.timings.length → Does (.listenWrite p n listen) s (fun d =>
        d.flag (Fld.CAN_CTRL_LISTEN n.val) = listen ∧ d.fld (Fld.CAN_CTRL_TIMING_SEL n.val) = d0.fld (Fld.CAN_CTRL_TIMING_SEL n.val) ∧
        d.canState n.val = d0.canState n.val ∧ d.fld (Fld.CAN_STATUS_CODE n.val) = 0))

/-- CYCLE_START, WINDOW_START, WINDOW_END, REF_TIMEOUT, WIN_DATA_WRITE, CYCLE_WRITE (R211 to R216). The windows passed over after a backward
step are the model's reading (log entry 219), and so is listen-only while integrating (log entry 220). -/
def Obligations.CanMatrix : Prop :=
  ∀ (n : Fin 32) (s : State),
    let d0 := s.dev
    let ctl := fun (d : Dev) => (d.canCtl n.val).map (fun c => (c.next, c.win, c.inCycle))
    (∀ (c : CanCtl), d0.inService = true → d0.canCtl n.val = some c →
      (∀ i t rest, let k := (d0.canWins n.val c).length - c.next
        c.ref = 3 ∨ c.ref = 4 → c.win = none → c.steps = (i, t) :: rest → c.sets ≠ [] → c.sets.length ≤ 64 → c.inCycle = true →
        d0.canListens n.val = false → Does (.cycleStart n) s (fun d =>
          d.fld (Fld.CAN_SCHED_CYCLE n.val) =
            (match i with | some j => j | none => d0.fld (Fld.CAN_SCHED_CYCLE n.val) + 1) % c.sets.length ∧
          d.flag (Fld.CAN_SCHED_RUNNING n.val) = true ∧ d.flag (Fld.CAN_SCHED_REFLOST n.val) = false ∧
          d.fld (Fld.CAN_SCHED_CNT_SKIP n.val) = min (d0.fld (Fld.CAN_SCHED_CNT_SKIP n.val) + k) 65535 ∧
          d.faultQ = (if k = 0 then d0.faultQ else (d0.eventsPass (192 + n.val) k).faultQ) ∧
          (d.canCtl n.val).map (fun x => (x.use, x.cycleAt, x.next, x.win, x.steps)) = some (c.sets, t, 0, none, rest) ∧
          OtherRegs [Reg.CAN_SCHED n.val, Reg.CAN_SCHED_CNT n.val] d0 d)) ∧
      (let cyc : Int := (1000 * c.cycleUse : Nat)
       c.ref = 1 ∨ c.ref = 2 → c.win = none → c.sets ≠ [] → c.sets.length ≤ 64 → c.inCycle = true → 0 < c.cycleUse →
        d0.fld (Fld.CAN_CYCLE_CYCLE_US n.val) = c.cycleUse →
        ((∀ t, c.landed = some t → c.cycleAt ≤ t) ∧ c.cycleAt + cyc ≤ d0.canNow c ∨
          ∃ t m, c.landed = some t ∧ t < c.cycleAt ∧ t ≤ m * cyc ∧ m * cyc ≤ d0.canNow c) → Does (.cycleStart n) s (fun d =>
          let k := (d0.canNow c / cyc % (c.sets.length : Int)).toNat
          let at' := d0.canNow c / cyc * cyc
          d.fld (Fld.CAN_SCHED_CYCLE n.val) = k ∧
          (d.canCtl n.val).map (fun x => (x.use, x.cycleAt, x.landed)) = some (c.sets, at', none) ∧
          (c.reached = none → (d.canCtl n.val).map (·.next) = some 0) ∧
          (∀ r, c.reached = some r → (d.canCtl n.val).map (·.next) =
            some ((c.sets.getD k []).filter (fun w => decide (at' + (1000 * w.start : Nat) ≤ r))).length))) ∧
      (∀ w, d0.matrixRuns n.val = true → (d0.canWins n.val c)[c.next]? = some w → c.win = none →
        c.cycleAt + (1000 * w.start : Nat) ≤ d0.canNow c → d0.cycleBefore n.val c (c.cycleAt + (1000 * w.start : Nat)) = false →
        Does (.windowStart n) s (fun d =>
          ctl d = some (c.next + 1, some c.next, c.inCycle) ∧
          (d.canCtl n.val).map (·.reached) = some (some (c.cycleAt + (1000 * w.start : Nat))) ∧ d.fld (Fld.CAN_SCHED_WINDOW n.val) = c.next % 64 ∧
          OtherRegs [Reg.CAN_SCHED n.val] d0 d)) ∧
      (∀ i w, let left := ((List.range 64).filter (fun b =>
          decide (w.first ≤ b) && decide (b < w.first + w.count) && decide (d0.bufState n.val b = 1) && !c.sent.contains b)).length
        c.win = some i → (d0.canWins n.val c)[i]? = some w → w.kind ≠ 2 → d0.canListens n.val = false → d0.flag (Fld.CAN_STATUS_HELD n.val) = false →
        c.cycleAt + (1000 * (w.start + w.len) : Nat) ≤ d0.canNow c → Does (.windowEnd n) s (fun d =>
          ctl d = some (c.next, none, c.inCycle) ∧ d.fld (Fld.CAN_SCHED_WINDOW n.val) = 63 ∧
          d.fld (Fld.CAN_SCHED_CNT_MISS n.val) = min (d0.fld (Fld.CAN_SCHED_CNT_MISS n.val) + left) 65535 ∧
          d.faultQ = (if left = 0 then d0.faultQ else (d0.eventsPass (192 + n.val) left).faultQ))) ∧
      (c.ref = 4 → c.win = none → d0.flag (Fld.CAN_SCHED_REFLOST n.val) = false →
        c.lastRef + 100000 * d0.fld (Fld.CAN_CYCLE_REF_TIMEOUT n.val) ≤ d0.tns → Does (.refTimeout n) s (fun d =>
          d.matrixRuns n.val = false ∧ d.flag (Fld.CAN_SCHED_REFLOST n.val) = true ∧ Raised (192 + n.val) d0 d ∧
          ctl d = some (c.next, none, false)))) ∧
    (∀ p v, d0.writeCode p (Reg.CAN_WIN_DATA n.val) v.toNat = 0 →
      let ci := d0.fld (Fld.CAN_WIN_SEL_CYCLE n.val)
      let wi := d0.fld (Fld.CAN_WIN_SEL_WINDOW n.val)
      (d0.selectedWin n.val = none ∨ v.toNat % 65536 = 0 → Does (.winDataWrite p n v) s (fun d =>
        d.fld (Fld.CAN_WIN_SEL_CODE n.val) = E_PERM ∧ d.can = d0.can ∧ d.settings = d0.settings)) ∧
      (∀ c w, d0.canCtl n.val = some c → (c.sets.getD ci [])[wi]? = some w →
        let ws := (c.sets.getD ci []).set wi { w with start := v.toNat / 65536, len := v.toNat % 65536 }
        winsOk (c.bound (d0.fld (Fld.CAN_CYCLE_CYCLE_US n.val))) ws = true → Does (.winDataWrite p n v) s (fun d =>
          d.fld (Fld.CAN_WIN_SEL_CODE n.val) = 0 ∧ d.canCtl n.val = some { c with sets := c.sets.set ci ws } ∧
          (p = .host ∨ p = .mgmt → Tab.get regReset d.settings (winKey n.val ci wi) = v) ∧
          OtherRegs [Reg.CAN_WIN_SEL n.val, Reg.MGT_STATUS] d0 d))) ∧
    (∀ p v, d0.writeCode p (Reg.CAN_CYCLE n.val) v.toNat = 0 →
      (d0.canCtl n.val = none ∨ v.toNat % 65536 = 0 → Does (.cycleWrite p n v) s (fun d =>
        d.fld (Fld.CAN_STATUS_CODE n.val) = E_PERM ∧ d.rd (Reg.CAN_CYCLE n.val) = d0.rd (Reg.CAN_CYCLE n.val) ∧ d.settings = d0.settings)) ∧
      (∀ c, d0.canCtl n.val = some c → v.toNat % 65536 ≠ 0 → v.toNat / 65536 ≠ 0 →
        c.sets.all (winsOk (c.bound (v.toNat % 65536))) = true → Does (.cycleWrite p n v) s (fun d =>
          d.fld (Fld.CAN_STATUS_CODE n.val) = 0 ∧ d.rd (Reg.CAN_CYCLE n.val) = v ∧ d.can = d0.can ∧
          OtherRegs [Reg.CAN_CYCLE n.val, Reg.CAN_STATUS n.val, Reg.MGT_STATUS] d0 d)))

/-- ETH_FRAME_RECEIVE, ADMISSION, CUT_THROUGH_DECIDE, STOMP (R231 to R251). By which byte a gPTP frame's domain is told is log entry 23. -/
def Obligations.SwitchIngress : Prop :=
  ∀ (s : State),
    let d0 := s.dev
    d0.swRuns = true →
    (∀ (port : Fin 12) bytes fcs (codeOk : Bool) (age : BitVec 32) (c : SwPortCfg), let i := port.val
      let t := d0.tagCount i bytes
      let isOver := d0.swLimitAt i t (d0.tns - age.toNat) < bytes.length + 4
      let v := d0.swVlan i c bytes
      let good := codeOk = true ∧ fcs = fcsOf bytes
      let plain := etherType bytes t ≠ 0x8808 ∧ d0.vlanMember v.1 i = true
      let dropped := fun (x : Fld) (d : Dev) => Bumped x d0 d ∧ d.sw = d0.sw
      d0.swLink i = true → d0.halfReset (3 + i) = false → d0.cutOutput i = none → (d0.swPort i).cutLost = false → d0.swCfg i = some c →
      (bytes.length < 60 → Does (.ethFrameReceive port bytes fcs codeOk age) s (fun d =>
        dropped (Fld.ETH_RUNT_COUNT i) d ∧ Raised (244 + i) d0 d)) ∧
      (60 ≤ bytes.length → isOver → Does (.ethFrameReceive port bytes fcs codeOk age) s (fun d =>
        dropped (Fld.ETH_OVERSIZE_INGRESS i) d ∧ Raised (244 + i) d0 d)) ∧
      (60 ≤ bytes.length → ¬isOver → ¬good → Does (.ethFrameReceive port bytes fcs codeOk age) s (fun d =>
        dropped (Fld.ETH_FCS_COUNT i) d ∧ Raised (244 + i) d0 d)) ∧
      (60 ≤ bytes.length → ¬isOver → good →
        (etherType bytes t = 0x8808 → Does (.ethFrameReceive port bytes fcs codeOk age) s (dropped (Fld.ETH_MACCTRL_COUNT i))) ∧
        (etherType bytes t ≠ 0x8808 → d0.vlanMember v.1 i = false →
          Does (.ethFrameReceive port bytes fcs codeOk age) s (dropped (Fld.ETH_VLANDROP_COUNT i))) ∧
        (plain → etherType bytes t ≠ 0x88F7 → reservedDst bytes = true → d0.swLink 12 = true →
          Does (.ethFrameReceive port bytes fcs codeOk age) s (fun d => ∃ f, d.sw.adm = admInsert f d0.sw.adm ∧ f.bytes = bytes ∧
            f.ingress = i ∧ f.outs = [12] ∧ f.cls = 7 ∧ d.sw.ports = d0.sw.ports ∧ Bumped (Fld.ETH_RX_FRAMES_COUNT i) d0 d)) ∧
        (plain → etherType bytes t = 0x88F7 → reservedDst bytes = true →
          (d0.gptpToHost t bytes = true → Does (.ethFrameReceive port bytes fcs codeOk age) s (fun d =>
            ∃ f, d.sw.adm = admInsert f d0.sw.adm ∧ f.bytes = bytes ∧ f.ingress = i ∧ f.outs = [12] ∧ f.cls = swClass c (t ≠ 0) v.2 none ∧
              Bumped (Fld.ETH_RX_FRAMES_COUNT i) d0 d)) ∧
          (d0.gptpToHost t bytes = false → Does (.ethFrameReceive port bytes fcs codeOk age) s (fun d =>
            d.sw.adm = d0.sw.adm ∧ Bumped (Fld.ETH_RX_FRAMES_COUNT i) d0 d))) ∧
        (plain → reservedDst bytes = false →
          Does (.ethFrameReceive port bytes fcs codeOk age) s (fun d =>
            let r := d.swLookup i (beNat (bytesAt bytes 0 6)) v.1
            ∃ f, d.sw.adm = admInsert f d0.sw.adm ∧ f.bytes = bytes ∧ f.ingress = i ∧ f.vid = v.1 ∧ f.cls = swClass c (t ≠ 0) v.2 r.cls ∧
              f.outs = r.outs ∧ f.cells = (bytes.length + 255) / 256 ∧ i ∉ f.outs ∧ f.done = d0.tns ∧ d.sw.ports = d0.sw.ports ∧
              Bumped (Fld.ETH_RX_FRAMES_COUNT i) d0 d)))) ∧
    (∀ f fs p lim, d0.sw.adm = f :: fs → f.outs = [p] → p < 15 → f.cls < 8 → (d0.swPort p).lingerOut = false →
      d0.egressOver p f f.first = false →
      (d0.swCfg p).map (fun x => x.limits.getD f.cls 0) = some lim →
      (d0.useClass p f.cls + f.cells ≤ lim → d0.fld (Fld.ETH_USE_USE p) + f.cells ≤ d0.fld (Fld.ETH_BUDGET_B p) → (f.cells : Int) ≤ d0.sw.free →
        Does .admission s (fun d =>
          d.sw.adm = fs ∧ (d.swPort p).queue f.cls = (d0.swPort p).queue f.cls ++ [⟨d0.sw.nextFrame, d0.tns, d0.heldTotal p⟩] ∧
          d.swFrame d0.sw.nextFrame = some f ∧ d.sw.free = d0.sw.free - f.cells ∧
          d.useClass p f.cls = (d0.useClass p f.cls + f.cells) % 65536 ∧ (∀ q, q ≠ p → d.swPort q = d0.swPort q) ∧ d.faultQ = d0.faultQ)) ∧
      (lim < d0.useClass p f.cls + f.cells → Does .admission s (fun d =>
        d.sw.adm = fs ∧ Bumped (Fld.ETH_DROP_COUNT p f.cls) d0 d ∧ Raised 256 d0 d ∧ d.sw.ports = d0.sw.ports ∧ d.sw.free = d0.sw.free ∧
        d.swFrame d0.sw.nextFrame = none))) ∧
    (∀ f fs p, d0.sw.adm = f :: fs → f.outs = [p] → p < 15 → (d0.swPort p).lingerOut = true → Does .admission s (fun d =>
      d.sw.adm = fs ∧ Bumped (Fld.ETH_LINKDOWN_DROPS p) d0 d ∧ Raised 256 d0 d ∧ d.sw.ports = d0.sw.ports ∧ d.sw.free = d0.sw.free ∧
      d.swFrame d0.sw.nextFrame = none)) ∧
    (∀ (port : Fin 12) head (c : SwPortCfg), let i := port.val
      let t := d0.tagCount i head
      let v := d0.swVlan i c head
      let r := d0.swLookup i (beNat (bytesAt head 0 6)) v.1
      let cls := swClass c (t ≠ 0) v.2 r.cls
      let first := d0.tns - headNs (d0.fld (Fld.ETH_STATUS_SPEED i))
      let n := cellsOf (d0.swLimitAt i t first - 4)
      d0.swCfg i = some c →
      (c.cut = false ∨ r.found = false ∨ 2 ≤ r.outs.length ∨ head.length < 64 ∨
          (∃ p, r.outs = [p] ∧ (d0.flowWaits i p cls v.1 t head = true ∨ d0.cutFree p cls = false)) →
        Does (.cutThroughDecide port head) s (fun d => d = { d0 with out := [] })) ∧
      (∀ p, let out := d0.egressBytes p (d0.cutFrame i cls head)
        d0.swLink i = true → 64 ≤ head.length → r.outs = [p] → r.found = true → c.cut = true → (d0.swCfg p).map (·.cut) = some true →
        p < 12 → reservedDst head = false → etherType head t ≠ 0x8808 → d0.vlanMember v.1 i = true → d0.cutOutput i = none →
        d0.cutFree p cls = true → d0.flowWaits i p cls v.1 t head = false → d0.fld (Fld.ETH_STATUS_SPEED p) ≤ d0.fld (Fld.ETH_STATUS_SPEED i) →
        d0.swLimitAt i t first ≤ d0.swLimitAt p (d0.tagCount p out) first → d0.admitPlan p cls n true = some [] → Does (.cutThroughDecide port head) s (fun d =>
          (d.swPort p).tx = some ⟨none, some i, cls, n, out, false⟩ ∧ d.sw.free = d0.sw.free - n ∧ (∀ q, q ≠ p → d.swPort q = d0.swPort q)))) ∧
    (∀ (port : Fin 12) bytes p x, d0.cutOutput port.val = some p → (d0.swPort p).tx = some x →
      let sent := d0.egressBytes p (d0.cutFrame port.val x.cls bytes)
      let stomped := fun (d : Dev) => Bumped (Fld.ETH_STOMP_COUNT p) d0 d ∧ (d.swPort p).tx = none ∧
        d.out = [.ethStomp p (sent ++ leBytes 4 (2 ^ 32 - 1 - crc32 sent % 2 ^ 32))] ∧ d.sw.free = d0.sw.free + x.cells
      (d0.halfReset (3 + port.val) = false →
        Does (.stomp port .fcs bytes) s (fun d => stomped d ∧ Bumped (Fld.ETH_FCS_COUNT port.val) d0 d ∧
          d.faultQ = ((d0.eventsPass (244 + port.val) 1).eventsPass 259 1).faultQ) ∧
        Does (.stomp port .oversize bytes) s (fun d => stomped d ∧ Bumped (Fld.ETH_OVERSIZE_INGRESS port.val) d0 d ∧
          d.faultQ = ((d0.eventsPass (244 + port.val) 1).eventsPass 259 1).faultQ)) ∧
      (x.broken = true → Does (.stomp port .linkLoss bytes) s (fun d => stomped d ∧ Raised 259 d0 d)) ∧
      (x.broken = false → Does (.stomp port .linkLoss bytes) s (fun d => d = { d0 with out := [] })))

/-- SWITCH_EGRESS_START, SWITCH_EGRESS_DONE, PORT_LINK_DOWN, PORT_LINK_UP, LINGER_EXPIRY, FDB_AGE_OUT (R236, R240, R245, R257, R258). That a
loss of lock keeps the port's group in mismatch until the link returns is the model's reading (log entry 195). -/
def Obligations.SwitchEgressAndLinks : Prop :=
  ∀ (s : State),
    let d0 := s.dev
    let empty := fun (p : Nat) (d : Dev) => ∀ c, c < 8 → (d.swPort p).queue c = []
    d0.swRuns = true →
    (∀ (p : Fin 15) (c : Fin 8) e es f, p.val < 12 → d0.swLink p.val = true → (d0.swPort p.val).tx = none →
      (∀ k, k < 8 → c.val < k → (d0.swPort p.val).queue k = []) → (d0.swPort p.val).queue c.val = e :: es → d0.swFrame e.frame = some f →
      d0.visible e = true → d0.egressOver p.val f d0.tns = false → (d0.swPort p.val).backAt ≤ e.at_ →
      (d0.flag (Fld.ETH_STATUS_HELD p.val) = false → Does (.switchEgressStart p) s (fun d =>
        (d.swPort p.val).tx = some ⟨some e.frame, none, f.cls, f.cells, d0.egressBytes p.val f, false⟩ ∧ (d.swPort p.val).queue c.val = es ∧
        (∀ k, k ≠ c.val → (d.swPort p.val).queue k = (d0.swPort p.val).queue k) ∧ (∀ q, q ≠ p.val → d.swPort q = d0.swPort q) ∧
        d.sw.free = d0.sw.free ∧ OtherRegs [] d0 d)) ∧
      (d0.flag (Fld.ETH_STATUS_HELD p.val) = true → Does (.switchEgressStart p) s (fun d => d = { d0 with out := [] }))) ∧
    (∀ (p : Fin 15) i cls cells bytes br f, (d0.swPort p.val).tx = some ⟨some i, none, cls, cells, bytes, br⟩ → d0.swFrame i = some f →
      Does (.switchEgressDone p) s (fun d =>
        (d.swPort p.val).tx = none ∧ Bumped (Fld.ETH_TX_FRAMES_COUNT p.val) d0 d ∧
        d.out = (if p.val < 12 then [.ethFrame p.val (bytes ++ leBytes 4 (crc32 bytes))] else []) ∧
        (f.outs = [p.val] → d.swFrame i = none ∧ d.sw.free = d0.sw.free + f.cells) ∧
        ((∃ q ∈ f.outs, q ≠ p.val) → d.sw.free = d0.sw.free ∧ (d.swFrame i).isSome = true) ∧
        (∀ c, (d.swPort p.val).queue c = (d0.swPort p.val).queue c))) ∧
    (∀ (p : Fin 12) half, (d0.swCfg p.val).isSome = true → d0.swLink p.val = true → d0.halfReset (3 + p.val) = false →
      Does (.portLinkDown p half) s (fun d =>
      d.swLink p.val = false ∧ d.fld (Fld.ETH_STATUS_SPEED p.val) = 7 ∧ Bumped (Fld.ETH_LINKDOWN_EVENTS p.val) d0 d ∧
      (232 + p.val, 1) ∈ d.faultQ.queue ∧ d.halfReset (3 + p.val) = !half ∧
      (half = false → Bumped (Fld.FLT_XGRP_HALF (3 + p.val)) d0 d) ∧ (d.swPort p.val).tx = none ∧
      (d0.fld (Fld.ETH_CFG_LINGER p.val) = 0 → empty p.val d ∧ (d.swPort p.val).lingerOut = true) ∧
      (d0.fld (Fld.ETH_CFG_LINGER p.val) ≠ 0 → (d.swPort p.val).lingerAt = some d0.tns ∧ d.flag (Fld.ETH_STATUS_LINGER p.val) = true ∧
        ∀ c, (d.swPort p.val).queue c = (d0.swPort p.val).queue c))) ∧
    (∀ (p : Fin 12) speed, (d0.swCfg p.val).isSome = true → d0.swLink p.val = false →
      (∀ y, Tab.get (fun _ => none) d0.flt.halfReset (3 + p.val) = some y → y.retrain = true) →
      speed.val ∈ modeSpeeds (d0.fld (Fld.ETH_STATUS_MODE p.val)) → Does (.portLinkUp p speed) s (fun d =>
      d.swLink p.val = true ∧ d.fld (Fld.ETH_STATUS_SPEED p.val) = speed.val ∧ d.flag (Fld.ETH_STATUS_LINGER p.val) = false ∧
      d.swPort p.val = { d0.swPort p.val with lingerAt := none, lingerOut := false, backAt := d0.tns } ∧
      OtherRegs [Reg.ETH_STATUS p.val] d0 d ∧ (∀ q, q ≠ p.val → d.swPort q = d0.swPort q))) ∧
    (∀ (p : Fin 15) t, (d0.swPort p.val).lingerAt = some t →
      (t + 1000000 * d0.fld (Fld.ETH_CFG_LINGER p.val) < d0.tns → Does (.lingerExpiry p) s (fun d =>
        empty p.val d ∧ (d.swPort p.val).lingerOut = true ∧ d.flag (Fld.ETH_STATUS_LINGER p.val) = false)) ∧
      (d0.tns ≤ t + 1000000 * d0.fld (Fld.ETH_CFG_LINGER p.val) → Does (.lingerExpiry p) s (fun d => d = { d0 with out := [] }))) ∧
    (∀ (mac : BitVec 48) (vid : BitVec 12) k p seen, let key := 4096 * mac.toNat + vid.toNat
      Tab.find (fun j _ => j = key) d0.sw.learned = some (k, p, seen) →
      (seen + 1000000000 * d0.fld Fld.SW_AGING ≤ d0.tns → Does (.fdbAgeOut mac vid) s (fun d =>
        Tab.find (fun j _ => j = key) d.sw.learned = none ∧
        (∀ j, j ≠ key → Tab.get (fun _ => (15, 0)) d.sw.learned j = Tab.get (fun _ => (15, 0)) d0.sw.learned j) ∧
        d.fld Fld.SW_FDB_DYN = d.sw.learned.length % 65536 ∧ OtherRegs [Reg.SW_FDB] d0 d)) ∧
      (d0.tns < seen + 1000000000 * d0.fld Fld.SW_AGING → Does (.fdbAgeOut mac vid) s (fun d => d = { d0 with out := [] })))

/-- WAKE_PATTERN_MATCH, MDIO_START, MDIO_DONE (R259, R260). What MDC 3 does besides its code is the model's reading (log entry 69). -/
def Obligations.SwitchService : Prop :=
  ∀ (s : State),
    let d0 := s.dev
    (∀ (port : Fin 12) bytes, d0.mode = .doze → (d0.swCfg port.val).isSome = true → d0.swLink port.val = true → 60 ≤ bytes.length →
      bytes.length + 4 ≤ d0.swLimit port.val (d0.tagCount port.val bytes) →
      let hit := fun k => k < 16 ∧ bit (d0.fld Fld.SW_WAKE_EN) k = true ∧
        ∃ w, Tab.get (fun _ => none) d0.sw.wakes k = some w ∧ w.matches port.val bytes = true
      ((∀ k, ¬hit k) → Does (.wakePatternMatch port bytes) s (fun d => d = { d0 with out := [] })) ∧
      (∀ k, hit k → (∀ j, j < k → ¬hit j) → Does (.wakePatternMatch port bytes) s (fun d =>
        d.flag Fld.SW_WAKE_SRC_WOKE = true ∧
        (d0.flag Fld.SW_WAKE_SRC_WOKE = false → d.fld Fld.SW_WAKE_SRC_PATTERN = k ∧ d.fld Fld.SW_WAKE_SRC_PORT = port.val) ∧
        (d0.flag Fld.SW_WAKE_SRC_WOKE = true → d.rd Reg.SW_WAKE_SRC = d0.rd Reg.SW_WAKE_SRC) ∧
        (d0.sys.woken = false → d0.sys.entry ≠ .sleep → d.fld Fld.SYS_WAKE_KIND = 2 ∧ d.fld Fld.SYS_WAKE_INDEX = k ∧ d.sys.woken = true) ∧
        d.sw = d0.sw ∧ OtherRegs [Reg.SW_WAKE_SRC, Reg.SYS_WAKE] d0 d))) ∧
    (∀ p (m : Fin 2) w, let cmd := Reg.SW_MDIO_CMD m.val
      d0.writeCode p cmd w.toNat = 0 →
      (d0.flag (Fld.SW_MDIO_CMD_BUSY m.val) = true → Does (.mdioStart p m w) s (fun d =>
        d.flag (Fld.SW_MDIO_CMD_COLL m.val) = true ∧ (∀ b, b < 32 → b ≠ 7 → bit (d.rd cmd).toNat b = bit (d0.rd cmd).toNat b) ∧ d.out = [] ∧
        OtherRegs [cmd, Reg.MGT_STATUS] d0 d)) ∧
      (d0.flag (Fld.SW_MDIO_CMD_BUSY m.val) = false → bits w.toNat 27 26 = 3 → Does (.mdioStart p m w) s (fun d =>
        d.fld (Fld.SW_MDIO_CMD_CODE m.val) = E_PERM ∧ (∀ b, b < 32 → b < 8 ∨ 16 ≤ b → bit (d.rd cmd).toNat b = bit (d0.rd cmd).toNat b) ∧
        d.out = [] ∧ OtherRegs [cmd, Reg.MGT_STATUS] d0 d)) ∧
      (d0.flag (Fld.SW_MDIO_CMD_BUSY m.val) = false → bits w.toNat 27 26 ≠ 3 → Does (.mdioStart p m w) s (fun d =>
        bits (d.rd cmd).toNat 30 16 = bits w.toNat 30 16 ∧
        d.flag (Fld.SW_MDIO_CMD_COLL m.val) = (d0.flag (Fld.SW_MDIO_CMD_COLL m.val) && !w.getLsbD 7) ∧
        (w.getLsbD 31 = false ∨ d0.inService = false → d.flag (Fld.SW_MDIO_CMD_BUSY m.val) = false ∧ d.out = []) ∧
        (w.getLsbD 31 = true → d0.inService = true → d.flag (Fld.SW_MDIO_CMD_BUSY m.val) = true ∧
          d.out = if Tab.get (fun _ => false) d0.sw.mdioPins m.val then [.mdio m.val (d.rd cmd).toNat (d0.fld (Fld.SW_MDIO_DATA m.val))] else []) ∧
        OtherRegs [cmd, Reg.MGT_STATUS] d0 d))) ∧
    (∀ (m : Fin 2) data, d0.inService = true → d0.flag (Fld.SW_MDIO_CMD_BUSY m.val) = true → Does (.mdioDone m data) s (fun d =>
      let pins := Tab.get (fun _ => false) d0.sw.mdioPins m.val
      d.flag (Fld.SW_MDIO_CMD_BUSY m.val) = false ∧ d.fld (Fld.SW_MDIO_CMD_CODE m.val) = (if pins then 0 else E_ABSENT) ∧
      d.fld (Fld.SW_MDIO_DATA m.val) =
        (if pins = true ∧ 2 ≤ d0.fld (Fld.SW_MDIO_CMD_OP m.val) then data.toNat else d0.fld (Fld.SW_MDIO_DATA m.val)) ∧
      OtherRegs [Reg.SW_MDIO_CMD m.val, Reg.SW_MDIO_DATA m.val] d0 d ∧ Kept Part.regs d0 d))

/-- RING_FRAME_RECEIVE, ORDER_GAP_TIMEOUT (R269 to R277, R298). -/
def Obligations.RingReception : Prop :=
  ∀ (s : State),
    let d0 := s.dev
    (∀ (lane : Fin 2) (bytes : List Byte) fcs (codeOk full : Bool) age rivals,
      let lost := if lane.val = 0 then Fld.RING_LANEA_OVF else Fld.RING_LANEB_OVF
      d0.laneTakes lane.val = true → Does (.ringFrameReceive lane bytes fcs codeOk true age rivals) s (fun d =>
        Bumped lost d0 d ∧ d.drv = d0.drv ∧ d.store = d0.store ∧ OtherRegs [lost.addr] d0 d)) ∧
    (∀ (lane : Fin 2) (bytes : List Byte) fcs (codeOk : Bool) age rivals,
      let b := fun i => (bytes.getD (14 + i) 0).toNat
      let len := bytes.length + 4
      let lineBad := len < 64 ∨ 9280 < len ∨ codeOk = false ∨ fcs ≠ fcsOf bytes ∨ be16 bytes 12 ≠ 0x88B5
      let type := b 0 % 16
      let src := b 1 % 64
      let headBad := b 1 / 64 ≠ 0 ∨ b 2 / 64 ≠ 0 ∨ b 3 / 64 % 2 ≠ 0 ∨ beNat (bytesAt bytes 26 4) ≠ 0 ∨ (b 9 ≠ 0 ∧ type ≠ 2 ∧ type ≠ 3) ∨
        b 0 / 16 = 0 ∨ 3 < b 0 / 16 ∨ type = 0 ∨ 9 ≤ type ∨ (src ≠ 0 ∧ (type = 2 ∨ type = 4 ∨ type = 5)) ∨ 62 ≤ b 3 % 64 ∨
        len - 34 < be16 bytes 20 ∨ (b 2 % 64 ≠ 0 ∧ src ≠ 0)
      let seq := be16 bytes 18
      let payload := bytesAt bytes 30 (be16 bytes 20)
      let x := d0.node src
      d0.laneTakes lane.val = true → d0.hq.posted = [] → d0.hq.stalled = [] → d0.mgmt.executing = none →
      (lineBad → Does (.ringFrameReceive lane bytes fcs codeOk false age rivals) s (fun d =>
        Bumped (laneErr lane.val) d0 d ∧ d.drv = d0.drv ∧ d.store = d0.store ∧ OtherRegs [(laneErr lane.val).addr] d0 d)) ∧
      (¬lineBad → headBad → d0.isMember src = false → Does (.ringFrameReceive lane bytes fcs codeOk false age rivals) s (fun d =>
        Bumped Fld.RING_MALFORMED_COUNT d0 d ∧ Raised 270 d0 d ∧ d.drv = d0.drv ∧ d.store = d0.store)) ∧
      (¬lineBad → ¬headBad → src ≠ 0 → ¬(type = 8 ∧ src = 63) →
        (d0.isMember src = false ∨ d0.fld (Fld.RING_NODE_STAT_SESSION src) ≠ be16 bytes 24) →
        Does (.ringFrameReceive lane bytes fcs codeOk false age rivals) s (fun d =>
          Bumped Fld.RING_NOTMEMBER_COUNT d0 d ∧ d.drv = d0.drv ∧ d.store = d0.store ∧ d.faultQ = d0.faultQ)) ∧
      (¬lineBad → ¬headBad → src ≠ 0 → src ≠ 63 → d0.isMember src = true → d0.fld (Fld.RING_NODE_STAT_SESSION src) = be16 bytes 24 →
        d0.fld (Fld.RING_NODE_STAT_VERSION src) ≠ b 0 / 16 →
        Does (.ringFrameReceive lane bytes fcs codeOk false age rivals) s (fun d =>
          Bumped Fld.RING_NOTMEMBER_COUNT d0 d ∧ Bumped (Fld.RING_NODE_ERR_MALF src) d0 d ∧ (270, 1) ∈ d.faultQ.queue)) ∧
      (¬lineBad → ¬headBad → src ≠ 0 → src ≠ 63 → d0.isMember src = true → d0.fld (Fld.RING_NODE_STAT_SESSION src) = be16 bytes 24 →
        d0.fld (Fld.RING_NODE_STAT_VERSION src) = b 0 / 16 → d0.authb src = false → x.queue = [] → x.started = true →
        (type = 8 → d0.joinRepeat payload = true → Does (.ringFrameReceive lane bytes fcs codeOk false age rivals) s (fun d =>
          (d.node src).finished = (if (b 8 + 256 - x.finished) % 256 ≤ (x.sent + 256 - x.finished) % 256 then b 8 else x.finished) ∧
          (d.node src).tokF = x.tokF ∧ (d.node src).tokB = x.tokB ∧ d.drv.joinQ = d0.drv.joinQ ∧ d.faultQ = d0.faultQ ∧ OtherRegs [] d0 d)) ∧
        (type = 8 → d0.joinRepeat payload = false → x.tokAt = d0.tns → x.tokF < 1000000 →
          Does (.ringFrameReceive lane bytes fcs codeOk false age rivals) s (fun d =>
            Bumped (Fld.RING_NODE_ERR_RATE src) d0 d ∧ (272, 1) ∈ d.faultQ.queue ∧ d.drv.joinQ = d0.drv.joinQ ∧ d.drv.joining = d0.drv.joining)) ∧
        (type ≠ 7 → type ≠ 8 → ¬(1 ≤ (seq + 65536 - x.high) % 65536 ∧ (seq + 65536 - x.high) % 65536 ≤ 32767) → seq ∈ x.seen →
          Does (.ringFrameReceive lane bytes fcs codeOk false age rivals) s (fun d =>
            Bumped (Fld.RING_NODE_DUP_DUP src) d0 d ∧ d.store = d0.store ∧ d.eng = d0.eng ∧ (d.node src).held = x.held ∧
            (d.node src).next = x.next ∧ (d.node src).high = x.high)) ∧
        (∀ e : BatchEntry, let slot := Fin.ofNat 131072 ((d0.window src).1 + e.index)
          type = 1 → 1 ≤ (seq + 65536 - x.high) % 65536 → (seq + 65536 - x.high) % 65536 ≤ 32767 → x.held = [] → seq = x.next →
          1000000 ≤ x.tokF → 1000000 ≤ x.tokB → batchOk (b 0 / 16) payload = true →
          batchEntries payload (BitVec.ofNat 40 (d0.frc.toNat / 8)) = [e] → e.index < (d0.window src).2 →
          d0.storeAdmits (.drover false) slot.val = true → Does (.ringFrameReceive lane bytes fcs codeOk false age rivals) s (fun d =>
            SlotTakes slot (⟨.drover false, slot, e.word, some e.capture⟩ :: onSlot slot rivals) d0 d ∧ OtherSlots slot.val d0 d ∧
            (d.node src).next = (seq + 1) % 65536 ∧ (d.node src).high = seq ∧ Bumped (Fld.RING_NODE_BATCH_COUNT src) d0 d)))) ∧
    (∀ (n : Fin 63) first seq at', d0.ringRuns = true → (d0.node n.val).held = [⟨first, seq, none, at'⟩] → at' + 200000 ≤ d0.tns →
      0 < seqDist (d0.node n.val).next first →
      Does (.orderGapTimeout n) s (fun d =>
        (d.node n.val).held = [] ∧ (d.node n.val).next = (seq + 1) % 65536 ∧
        d.fld (Fld.RING_NODE_RX_GAP n.val) =
          min (d0.fld (Fld.RING_NODE_RX_GAP n.val) + seqDist (d0.node n.val).next first) 65535 ∧
        OtherRegs [Reg.RING_NODE_RX n.val] d0 d ∧ d.store = d0.store))

/-- RING_BEACON_SEND, LANE_LINK_CHANGE, EXPORT_TIMER, RING_READ_ISSUE, RING_READ_TIMEOUT, RING_WRITE_SEND (R278 to R290). That a loss of
block lock keeps the lane's group in mismatch until the link returns is the model's reading (log entry 195). -/
def Obligations.RingCycleAndRequests : Prop :=
  ∀ (s : State),
    let d0 := s.dev
    d0.ringRuns = true → d0.hq.posted = [] → d0.hq.stalled = [] → d0.mgmt.executing = none →
    (∀ last, let now := d0.frc.toNat / 62500
      let c := last + 1
      d0.drv.lastCycle = some last →
      (now < c → Does .ringBeaconSend s (fun d => d = { d0 with out := [] })) ∧
      (c ≤ now → d0.members = [] → Does .ringBeaconSend s (fun d =>
        d.drv.lastCycle = some c ∧ d.fld Fld.RING_CYCLE = c % 2 ^ 32 ∧
        (d0.drv.laneA = false ∨ d0.drv.laneB = false → d.out.length = d0.lanesUp.length))) ∧
      (∀ n, 1 ≤ n → n ≤ 62 → c ≤ now → d0.members = [n] → (d0.node n).firstCycle + 3 ≤ c →
        let answered := (d0.node n).answered.any (fun a => a.1 = (c - 3) % 2 ^ 32 && a.2)
        (answered = true → Does .ringBeaconSend s (fun d => d.fld (Fld.RING_NODE_STAT_MISSED n) = 0 ∧ d.isMember n = true)) ∧
        (answered = false → d0.fld (Fld.RING_NODE_STAT_MISSED n) < 2 → Does .ringBeaconSend s (fun d =>
          d.fld (Fld.RING_NODE_STAT_MISSED n) = d0.fld (Fld.RING_NODE_STAT_MISSED n) + 1 ∧ d.isMember n = true)) ∧
        (answered = false → d0.fld (Fld.RING_NODE_STAT_MISSED n) = 2 → Does .ringBeaconSend s (fun d =>
          d.isMember n = false ∧ (267, 1) ∈ d.faultQ.queue ∧ (d.node n).queue = [])))) ∧
    (∀ (lane : Fin 2) (up : Bool), d0.laneUsed lane.val = true → d0.flag (laneFld lane.val) ≠ up →
      (d0.halfReset (1 + lane.val) = false → Does (.laneLinkChange lane up) s (fun d =>
        d.flag (laneFld lane.val) = up ∧ d.drv = d0.drv ∧ (up = true → d.faultQ = d0.faultQ) ∧
        (up = false → Bumped (if lane.val = 0 then Fld.RING_LANEA_LINKDN else Fld.RING_LANEB_LINKDN) d0 d ∧
          Bumped (Fld.FLT_XGRP_HALF (1 + lane.val)) d0 d ∧ d.halfReset (1 + lane.val) = true ∧
          d.faultQ = ((d0.eventsPass (264 + lane.val) 1).eventsPass (33 + lane.val) 1).faultQ))) ∧
      (∀ m, Tab.get (fun _ => none) d0.flt.halfReset (1 + lane.val) = some m →
        (m.retrain = true → up = true → Does (.laneLinkChange lane up) s (fun d =>
          d.flag (laneFld lane.val) = true ∧ d.halfReset (1 + lane.val) = false ∧ d.drv = d0.drv ∧ d.faultQ.queue = d0.faultQ.queue)) ∧
        (¬(m.retrain = true ∧ up = true) → Does (.laneLinkChange lane up) s (fun d =>
          d.drv = d0.drv ∧ d.faultQ = d0.faultQ ∧ OtherRegs [] d0 d)))) ∧
    (∀ (n : Fin 63) t, d0.isMember n.val = true → (d0.node n.val).exportAt = some t → t + 1000 * d0.fld Fld.RING_EXPORT_EXPORT_US ≤ d0.tns →
      (d0.node n.val).exports ≠ [] → (d0.node n.val).exports.length ≤ d0.exportRoom n.val → Does (.exportTimer n) s (fun d =>
        (d.node n.val).exports = [] ∧ (d.node n.val).exportAt = none ∧ d.store = d0.store ∧
        (d0.fld (Fld.RING_NODE_STAT_VERSION n.val) ≠ 1 → d0.descriptors (d0.node n.val).exports ≠ [] →
          Bumped (Fld.RING_NODE_EXP_SENT n.val) d0 d ∧ d.out.length = d0.lanesUp.length))) ∧
    (∀ (n : Fin 63) id, (d0.node n.val).queue = [⟨.read id, none⟩] →
      (∀ r tag, d0.drv.reads = [r] → r.id = id → r.tag = none → tag = 0 →
        (d0.mayBulk n.val = true → Does (.ringReadIssue n) s (fun d =>
          d.drv.reads = [{ r with tag := some tag }] ∧ (d.node n.val).queue = [] ∧ (d.node n.val).sent = ((d0.node n.val).sent + 1) % 256 ∧
          d.fld Fld.RING_READS_OUTSTANDING = 1 ∧ d.out.length = d0.lanesUp.length)) ∧
        (d0.mayBulk n.val = false → Does (.ringReadIssue n) s (fun d => d = { d0 with out := [] })))) ∧
    (∀ r, 1 ≤ r.node → r.node ≤ 62 → d0.drv.reads = [r] → r.by_ = .nobody → r.deadline ≤ d0.tns → Does .ringReadTimeout s (fun d =>
      d.drv.reads = [] ∧ Bumped (Fld.RING_NODE_TXN_RDTMO r.node) d0 d ∧ Raised 271 d0 d ∧
      (∀ q ∈ (d.node r.node).queue, q.body ≠ .read r.id))) ∧
    (∀ (n : Fin 63) space size off data, (d0.node n.val).queue = [⟨.write space size off data, none⟩] →
      let m : Fin 64 := ⟨n.val, by omega⟩
      let pay := leBytes 1 space ++ leBytes 1 size ++ [0, 0] ++ beBytes 4 off ++ data.reverse
      (d0.mayBulk n.val = true → d0.authb n.val = false → Does (.ringWriteSend m) s (fun d =>
        (d.node n.val).queue = [] ∧ (d.node n.val).sent = ((d0.node n.val).sent + 1) % 256 ∧
        d.out = d0.lanesUp.map (fun l => .ringFrame l (ringWire l (ringHeader (d0.fld (Fld.RING_NODE_STAT_VERSION n.val)) 4 0 n.val
          (d0.node n.val).seqBulk pay.length (d0.node n.val).evDone 0 (d0.fld (Fld.RING_NODE_STAT_SESSION n.val))) pay)))) ∧
      (d0.mayBulk n.val = false → Does (.ringWriteSend m) s (fun d => d = { d0 with out := [] }))) ∧
    (∀ b : Bcast, d0.drv.bcast = [b] → b.waiter = none → d0.members = [] → d0.paceLeft d0.drv.pace63 ≠ 0 → Does (.ringWriteSend 63) s (fun d =>
      d.drv.bcast = [] ∧ d.drv.seq63 = (d0.drv.seq63 + 1) % 65536 ∧ d.out.length = d0.lanesUp.length))

/-- JOIN_CHALLENGE, JOIN_RESPONSE_TIMEOUT, JOIN_VERIFY_DONE, QUARANTINE_EXPIRY, QUAR_CLR (R292 to R300). That a challenge with the DRBG
stopped ends in E_PERM is the model's choice (log entry 193). -/
def Obligations.RingMembership : Prop :=
  ∀ (s : State),
    let d0 := s.dev
    let refused := fun (n code : Nat) (d : Dev) => Bumped Fld.RING_JOIN_REFUSED d0 d ∧ d.fld Fld.RING_JOIN_NODE = n ∧
      d.fld Fld.RING_JOIN_CODE = code ∧ Raised 268 d0 d ∧ d.isMember n = d0.isMember n ∧ d.drv.joining = none
    let stateOf := fun (d : Dev) (n : Nat) => d.fld (Fld.RING_NODE_STAT_STATE n)
    (∀ h hs, let n := h.node
      let ver := if bit h.versions 3 then 3 else if bit h.versions 2 then 2 else if bit h.versions 1 then 1 else 0
      d0.ringRuns = true → d0.drv.joining = none → d0.drv.joinQ = h :: hs → 1 ≤ n → n ≤ 62 → stateOf d0 n ≠ 3 →
      (ver = 0 ∨ (d0.authb n = true ∧ ver < 3) → Does .joinChallenge s (fun d =>
        refused n E_VERSION d ∧ d.drv.joinQ = hs ∧ (stateOf d0 n = 1 → stateOf d n = 0))) ∧
      (1 ≤ ver → (d0.authb n = true → ver = 3) → d0.flag Fld.KS_STATUS_DRBG_OK = false → Does .joinChallenge s (fun d =>
        refused n E_PERM d ∧ d.drv.joinQ = hs ∧ d.out = [])) ∧
      (1 ≤ ver → (d0.authb n = true → ver = 3) → d0.flag Fld.KS_STATUS_DRBG_OK = true → Does .joinChallenge s (fun d =>
        d.drv.joinQ = hs ∧ d.fld Fld.RING_JOIN_QUEUE = hs.length % 16 ∧ d.out.length = d0.lanesUp.length ∧
        (∃ nonce, nonce.length = 32 ∧ d.drv.joining = some ⟨h, ver, nonce, d0.tns, none⟩) ∧ OtherRegs [Reg.RING_JOIN] d0 d))) ∧
    (∀ j, d0.ringRuns = true → d0.drv.joining = some j → j.response = none → 1 ≤ j.hello.node → j.hello.node ≤ 62 →
      (j.since + 20000000 ≤ d0.tns → Does .joinResponseTimeout s (refused j.hello.node E_TIMEOUT)) ∧
      (d0.tns < j.since + 20000000 → Does .joinResponseTimeout s (fun d => d = { d0 with out := [] }))) ∧
    (∀ j key sig r rivals, let n := j.hello.node
      let serial := joinSerial j.hello.payload
      let msg := [0x52, 0x4C, 0x4E, 0x4A] ++ serial ++ j.nonce ++ d0.sec.deviceId ++ leBytes 1 j.version ++ shake256 j.hello.payload 32
      let ok := shake256 key 32 = r.keyDig ∧ Config.mldsaVerify key msg [] sig = true
      d0.ringRuns = true → d0.pqTaken = false → d0.drv.joining = some j → j.response = some (key, sig) → d0.roster n = some r → 1 ≤ n → n ≤ 62 → stateOf d0 n ≠ 3 →
      j.version < 4 → Does (.joinVerifyDone rivals) s (fun d =>
        d.drv.joining = none ∧ (¬ok → refused n E_AUTH d) ∧ (shake256 key 32 = r.keyDig → d.fld Fld.PQ_STATUS_CODE = if ok then 0 else E_AUTH) ∧
        (ok → d.isMember n = true ∧ d.fld (Fld.RING_NODE_STAT_VERSION n) = j.version ∧ d.fld Fld.RING_JOIN_CODE = 0 ∧
          d.fld (Fld.RING_NODE_STAT_SESSION n) = ((d0.node n).session + 1) % 65536 ∧ (d.node n).reqDepth = j.hello.reqDepth))) ∧
    (∀ (n : Fin 63) t, d0.ringRuns = true → (d0.node n.val).quarAt = some t → stateOf d0 n.val = 3 → d0.drv.quarTime ≠ 0 →
      (t + 1000000000 * d0.drv.quarTime ≤ d0.tns → Does (.quarantineExpiry n) s (fun d =>
        stateOf d n.val = 0 ∧ (d.node n.val).quarAt = none ∧ OtherRegs [Reg.RING_NODE_STAT n.val, Reg.RING_STATUS] d0 d)) ∧
      (d0.tns < t + 1000000000 * d0.drv.quarTime → Does (.quarantineExpiry n) s (fun d => d = { d0 with out := [] }))) ∧
    (∀ p (n : Fin 64), n.val < 63 → d0.writeCode p Reg.RING_QUAR_CLR n.val = 0 → Does (.quarClr p n) s (fun d =>
      (stateOf d0 n.val = 3 → stateOf d n.val = 0 ∧ (d.node n.val).quarAt = none) ∧
      (stateOf d0 n.val ≠ 3 → d.drv = d0.drv ∧ OtherRegs [Reg.MGT_STATUS] d0 d)))

/-- XTS_ENC, XTS_DEC, GCM_ENC, GCM_DEC, CMAC_GEN, CMAC_VER, SHAKE, MLDSA_VER (R385, R396 to R403). -/
def Obligations.CipherDataJobs : Prop :=
  ∀ (s : State) (j : Job) (input aux : Option (List Byte)),
    let d0 := s.dev
    let key := d0.jobKey j
    let xts := j.formCodes ++ d0.outCodes j true j.len ++ [if j.len % 16 = 0 then lenCode j.len 16 65536 else E_LEN]
    let gcm := j.formCodes ++ (if j.len = 0 then [] else d0.outCodes j true j.len) ++ [lenCode j.len 0 1048576, lenCode j.auxLen 0 65536]
    let iv := j.bytes 32 12
    let zeros := fun n => some (List.replicate n (0 : Byte))
    let some? := fun (bs : List Byte) => if j.len = 0 then none else some bs
    let xtsEnds := fun (enc : Bool) (d : Dev) =>
      let codes := xts ++ d0.keyCodes j (if enc then 0 else 1) [32, 64]
      if lowestCode codes ≠ 0 then JobStarts j (lowestCode codes) [] none d0 d
      else match readInput input j.len with
        | none => JobStarts j E_PERM [] (zeros j.len) d0 d
        | some bs => JobStarts j E_OK [] (some (beBytes j.len (Config.xts enc key (j.bytes 32 16) bs))) d0 d
    (d0.JobReady 1 j → Does (.xtsEnc input) s (xtsEnds true)) ∧
    (d0.JobReady 2 j → Does (.xtsDec input) s (xtsEnds false)) ∧
    (d0.JobReady 3 j →
      let codes := gcm ++ d0.keyCodes j 0 aesLens
      Does (.gcmEnc input aux) s (fun d => if lowestCode codes ≠ 0 then JobStarts j (lowestCode codes) [] none d0 d
        else match readInput input j.len, readInput aux j.auxLen with
          | some bs, some ad =>
            let ct := beBytes j.len (Config.gcm key iv bs)
            JobStarts j E_OK (beBytes 16 (Config.gcmTag key iv ad ct)) (some? ct) d0 d
          | _, _ => JobStarts j E_PERM [] (if j.len = 0 then none else zeros j.len) d0 d)) ∧
    (d0.JobReady 4 j →
      let codes := gcm ++ d0.keyCodes j 1 aesLens
      Does (.gcmDec input aux) s (fun d => if lowestCode codes ≠ 0 then JobStarts j (lowestCode codes) [] none d0 d
        else match readInput input j.len, readInput aux j.auxLen with
          | some bs, some ad =>
            let plain := some? (beBytes j.len (Config.gcm key iv bs))
            if beBytes 16 (Config.gcmTag key iv ad bs) = j.bytes 48 16 then
              JobStarts j E_OK [] plain d0 d ∧ d.faultQ = d0.faultQ ∧ OtherRegs [Reg.CPH_STATUS] d0 d
            else JobStarts j E_AUTH [] plain d0 d ∧ Raised 355 d0 d ∧ Bumped Fld.CPH_AUTHFAIL_COUNT d0 d
          | _, _ => JobStarts j E_PERM [] (if j.len = 0 then none else zeros j.len) d0 d)) ∧
    (d0.JobReady 5 j →
      let codes := j.formCodes ++ [lenCode j.len 0 65536] ++ d0.keyCodes j 2 aesLens
      Does (.cmacGen input) s (fun d => if lowestCode codes ≠ 0 then JobStarts j (lowestCode codes) [] none d0 d
        else match readInput input j.len with
          | none => JobStarts j E_PERM [] none d0 d
          | some bs => JobStarts j E_OK (beBytes 16 (Config.cmac key bs)) none d0 d)) ∧
    (d0.JobReady 6 j →
      let n := (j.desc.getD 6 0).toNat
      let codes := j.formCodes ++ [lenCode j.len 0 65536, lenCode n 4 16] ++ d0.keyCodes j 3 aesLens
      Does (.cmacVer input) s (fun d => if lowestCode codes ≠ 0 then JobStarts j (lowestCode codes) [] none d0 d
        else match readInput input j.len with
          | none => JobStarts j E_PERM [] none d0 d
          | some bs =>
            if (beBytes 16 (Config.cmac key bs)).take n = j.bytes 48 n then JobStarts j E_OK [] none d0 d ∧ d.faultQ = d0.faultQ
            else JobStarts j E_AUTH [] none d0 d ∧ Raised 355 d0 d ∧ Bumped Fld.CPH_AUTHFAIL_COUNT d0 d)) ∧
    (d0.JobReady 12 j →
      let n := leNat (j.bytes 32 4)
      let codes := j.formCodes ++ d0.outCodes j false n ++ [lenCode j.len 0 1048576, lenCode n 1 4096]
      Does (.shake input) s (fun d => if lowestCode codes ≠ 0 then JobStarts j (lowestCode codes) [] none d0 d
        else match readInput input j.len with
          | none => JobStarts j E_PERM [] (zeros n) d0 d
          | some bs => JobStarts j E_OK [] (some (beBytes n (Config.shake256 bs n))) d0 d)) ∧
    (d0.JobReady 13 j →
      let codes := j.formCodes ++ [lenCode j.len 0 65536, lenCode j.auxLen 5261 5261]
      Does (.mldsaVer input aux) s (fun d => if lowestCode codes ≠ 0 then JobStarts j (lowestCode codes) [] none d0 d
        else match readInput input j.len, readInput aux j.auxLen with
          | some m, some ks =>
            JobStarts j (if Config.mldsaVerify (ks.take 1952) m [] (ks.drop 1952) then E_OK else E_AUTH) [] none d0 d
          | _, _ => JobStarts j E_PERM [] none d0 d))

/-- UNWRAP, WRAP, DERIVE, GENERATE, RANDOM, MLDSA_SIGN, ATTEST (R388 to R390, R395, R398, R402 to R405). The codes of a device key that
cannot be unwrapped are the model's (log entry 213). -/
def Obligations.CipherKeyJobs : Prop :=
  ∀ (s : State) (j : Job) (input aux : Option (List Byte)),
    let d0 := s.dev
    let key := d0.jobKey j
    let t := (j.desc.getD 32 0).toNat
    let attr : Word := BitVec.ofNat 32 (leNat (j.bytes 36 4))
    let n := lencBytes (attr.toNat / 2 ^ 25 % 8)
    let same := fun (d : Dev) => ∀ m, d.keySlot m = d0.keySlot m
    let holds := fun (t : Nat) (attr : Word) (origin : Nat) (k : List Byte) (d : Dev) => same d ∧
      d.sec.running.getLast?.map (fun r => r.keyOut) = some (some (t, BitVec.ofNat 32 (attr.toNat + 2 ^ 31 + origin * 2 ^ 28), k))
    let signed := fun (d : Dev) (P : Nat → Prop) (Q : Prop) => ∃ i r, 1 ≤ i ∧ i ≤ 1000 ∧ d.fld Fld.PQ_ITER = i ∧
      if i = 1000 then Q ∧ (359, 1) ∈ d.faultQ.queue else P r ∧ Bumped Fld.PQ_SIGNS_COUNT d0 d
    (d0.JobReady 7 j →
      let codes := j.formCodes ++ d0.keyCodes j 5 aesLens ++ [lenCode j.len 40 88, if j.len % 8 = 0 then E_OK else E_ALIGN]
      let refused := fun (c : Nat) (d : Dev) =>
        JobStarts j c [] none d0 d ∧ same d ∧ Bumped Fld.KS_STATUS_REFUSED d0 d ∧ Raised 354 d0 d
      Does (.unwrap input) s (fun d => if lowestCode codes ≠ 0 then refused (lowestCode codes) d
        else match readInput input j.len with
          | none => refused E_PERM d
          | some bs => match Config.kwpUnwrap key bs with
            | none => refused E_AUTH d
            | some plain =>
              let t := leNat ((plain.drop 1).take 1)
              let len := leNat ((plain.drop 2).take 2)
              let attr : Word := BitVec.ofNat 32 (leNat ((plain.drop 4).take 4))
              let codes := [if plain.getD 0 0 = 1 ∧ ((plain.drop 8).take 8).all (fun b => b = 0) = true then E_OK else E_VERSION,
                if 16 ≤ plain.length ∧ plain.length - 16 = len then E_OK else E_LEN] ++ d0.targetCodes t attr len
              if lowestCode codes ≠ 0 then refused (lowestCode codes) d
              else JobStarts j E_OK [] none d0 d ∧ holds t attr 1 (plain.drop 16) d)) ∧
    (d0.JobReady 8 j →
      let len := (j.len + 7) / 8 * 8 + 8
      let codes := j.formCodes ++ d0.outCodes j true len ++ [lenCode j.len 1 4096] ++ d0.keyCodes j 4 aesLens
      Does (.wrap input) s (fun d => if lowestCode codes ≠ 0 then JobStarts j (lowestCode codes) [] none d0 d
        else match readInput input j.len with
          | none => JobStarts j E_PERM [] (some (List.replicate len 0)) d0 d
          | some bs => JobStarts j E_OK [] (some (beBytes len (Config.kwpWrap key bs))) d0 d)) ∧
    (d0.JobReady 9 j →
      let codes := j.formCodes ++ [lenCode j.auxLen 1 64] ++ d0.keyCodes j 7 aesLens ++ d0.targetCodes t attr n
      Does (.derive input) s (fun d => if lowestCode codes ≠ 0 then JobStarts j (lowestCode codes) [] none d0 d ∧ same d
        else match readInput input j.auxLen with
          | none => JobStarts j E_PERM [] none d0 d ∧ same d
          | some l => JobStarts j E_OK [] none d0 d ∧ holds t attr 2 (beBytes n (Config.kdf key l [] n)) d)) ∧
    (d0.JobReady 10 j →
      let codes := j.formCodes ++ [if d0.flag Fld.KS_STATUS_DRBG_OK then E_OK else E_PERM] ++ d0.targetCodes t attr n
      Does .generate s (fun d => if lowestCode codes ≠ 0 then JobStarts j (lowestCode codes) [] none d0 d ∧ same d
        else JobStarts j E_OK [] none d0 d ∧ ∃ k, k.length = n ∧ holds t attr 3 k d)) ∧
    (d0.JobReady 11 j →
      let codes := j.formCodes ++ d0.outCodes j false j.len ++
        [lenCode j.len 1 4096, if d0.flag Fld.KS_STATUS_DRBG_OK then E_OK else E_PERM]
      Does .random s (fun d => if lowestCode codes ≠ 0 then JobStarts j (lowestCode codes) [] none d0 d
        else ∃ bs, bs.length = j.len ∧ JobStarts j E_OK [] (some bs) d0 d)) ∧
    (d0.JobReady 14 j →
      let codes := j.formCodes ++ d0.outCodes j true 3309 ++ [lenCode j.len 0 65536, lenCode j.auxLen 4056 4056,
        if d0.flag Fld.KS_STATUS_DRBG_OK then E_OK else E_PERM] ++ d0.keyCodes j 6 aesLens
      Does (.mldsaSign input aux) s (fun d => same d ∧ if lowestCode codes ≠ 0 then JobStarts j (lowestCode codes) [] none d0 d
        else match readInput input j.len, readInput aux j.auxLen with
          | some m, some b => match Config.kwpUnwrap key b with
            | none => JobStarts j E_AUTH [] none d0 d
            | some plain =>
              if plain.take 16 = (1 : Byte) :: List.replicate 15 0 then
                signed d (fun r => JobStarts j E_OK [] (some (beBytes 3309 (Config.mldsaSign (plain.drop 16) m [] r))) d0 d)
                  (JobStarts j E_TIMEOUT [] none d0 d)
              else JobStarts j E_VERSION [] none d0 d
          | _, _ => JobStarts j E_PERM [] none d0 d)) ∧
    (d0.JobReady 15 j → d0.sec.deviceId.length = 16 → d0.sec.fwDigest.length = 64 → d0.sec.chain.length = 32 →
      let codes := j.formCodes ++ d0.outCodes j false 3565 ++ [lenCode j.len 32 32,
        if d0.flag Fld.KS_STATUS_DRBG_OK then E_OK else E_PERM]
      Does (.attest input) s (fun d => same d ∧ if lowestCode codes ≠ 0 then JobStarts j (lowestCode codes) [] none d0 d
        else match readInput input j.len with
          | none => JobStarts j E_PERM [] none d0 d
          | some nonce =>
            if d0.deviceKey.1 ≠ E_OK then JobStarts j d0.deviceKey.1 [] none d0 d
            else ∃ body : List Byte, body.length = 256 ∧ body.take 4 = leBytes 2 1 ++ leBytes 1 (modeCode d0.mode) ++ (body.drop 3).take 1 ∧
              body.drop 224 = nonce ∧
              signed d (fun r => JobStarts j E_OK [] (some (body ++
                beBytes 3309 (Config.mldsaSign d0.deviceKey.2 (ascii "RLNT" ++ body) [] r))) d0 d)
                (JobStarts j E_TIMEOUT [] none d0 d)))

/-- KS_ERASE, KS_LOCK, REMASK_VISIT, TAMPER_EVENT, REDERIVE, DRBG_HEALTH_FAIL, DRBG_RESUME, DRBG_RESEED, CIPHER_JOB_DONE, CPH_DONE_READ,
CPH_LOAD_UPDATE (R384, R386, R391 to R395, R401). From when visits of the re-masker count, when the tamper enables come into force and which
jobs a tamper event ends are the model's readings (log entries 210, 211, 107), and so is the code of a target slot locked while its job runs
(log entry 223). -/
def Obligations.KeyStore : Prop :=
  ∀ (s : State),
    let d0 := s.dev
    (∀ (p : Path) (n : Fin 256), let reserved := n = 0 ∨ n = 1 ∨ n = 254 ∨ n = 255
      d0.writeCode p Reg.KS_CMD 0 = E_OK → d0.keysRun = true →
      Does (.ksErase p n) s (fun d => OtherKeys n d0 d ∧
        if reserved ∨ (d0.keySlot n).locked = true then d.keySlot n = d0.keySlot n ∧ d.fld Fld.KS_STATUS_CODE = E_PERM
        else d.keySlot n = keyEmpty ∧ d.rd (Reg.KS_ATTR n) = 0 ∧ d.sec.running = d0.sec.running ∧ d.fld Fld.KS_STATUS_CODE = E_OK) ∧
      Does (.ksLock p n) s (fun d => OtherKeys n d0 d ∧
        if (d0.keySlot n).valid = false then d.keySlot n = d0.keySlot n ∧ d.fld Fld.KS_STATUS_CODE = E_KEYUSE
        else if reserved then d.keySlot n = d0.keySlot n ∧ d.fld Fld.KS_STATUS_CODE = E_PERM
        else (d.keySlot n).locked = true ∧ (d.keySlot n).valid = true ∧ (d.keySlot n).key = (d0.keySlot n).key ∧
          d.fld Fld.KS_STATUS_CODE = E_OK)) ∧
    (256 * d0.tns < d0.sec.remaskDue → Does .remaskVisit s (fun d => d = { d0 with out := [] })) ∧
    (d0.keysRun = true → d0.flag Fld.KS_STATUS_DRBG_OK = true → d0.sec.remaskDue ≤ 256 * d0.tns → Does .remaskVisit s (fun d =>
      d.sec.remaskDue = d0.sec.remaskDue +
        1000000 * (if d0.fld Fld.KS_REMASK_PERIOD = 0 then 10 else d0.fld Fld.KS_REMASK_PERIOD) ∧
      (∀ m, (d.keySlot m).key = (d0.keySlot m).key ∧ (d.keySlot m).attr = (d0.keySlot m).attr) ∧
      OtherKeys d0.sec.remaskPos d0 d ∧ d.sec.remaskPos = (d0.sec.remaskPos + 1) % 256 ∧
      (if d0.sec.remaskPos = 255 then Bumped Fld.KS_REMASK_SWEEPS d0 d
       else d.fld Fld.KS_REMASK_SWEEPS = d0.fld Fld.KS_REMASK_SWEEPS))) ∧
    (∀ c : TamperCause,
      (d0.tamperWatched c = true → d0.diePowered = true → Does (.tamperEvent c) s (fun d =>
        d.keySlot 0 = d0.keySlot 0 ∧ (∀ m, m ≠ 0 → d.keySlot m = keyEmpty) ∧ d.sec.ckptBody = none ∧
        (∀ r ∈ d.sec.running, (∃ n, r.slot = some n ∧ n ≠ 0) ∨ r.keyOut ≠ none ∨ (r.job.desc.take 1) = [0x0F] →
          r.result = [] ∧ ∃ r0 ∈ d0.sec.running, r0.job = r.job ∧ r.code = lowestCode [r0.code, E_KEYUSE]) ∧
        d.flag Fld.KS_STATUS_TAMPER = true ∧ Bumped Fld.KS_TAMPER_EVENTS d0 d ∧ d.fld Fld.KS_TAMPER_CAUSE = tamperCode c ∧
        Bumped Fld.TB_CAL_TAMP_INFO_CNT d0 d ∧ (d0.fld Fld.TB_CAL_TAMP_INFO_CNT = 0 → d.fld Fld.TB_CAL_TAMP_INFO_CAUSE = tamperCode c) ∧
        Raised 352 d0 d ∧ d.mode = d0.mode)) ∧
      (d0.tamperWatched c = true → d0.diePowered = false → Does (.tamperEvent c) s (fun d =>
        d.sec = d0.sec ∧ d.faultQ = d0.faultQ ∧ Bumped Fld.TB_CAL_TAMP_INFO_CNT d0 d)) ∧
      (d0.tamperWatched c = false → Does (.tamperEvent c) s (fun d => d = { d0 with out := [] }))) ∧
    (d0.keysRun = true → d0.sec.rederive = true → d0.flag Fld.SYS_STATUS_HALT = false → Does .rederive s (fun d =>
      (d.keySlot 254).key = kdf Config.rootKey (ascii "RLN-IDK") d0.sec.deviceId 32 ∧
      (d.keySlot 255).key = kdf Config.rootKey (ascii "RLN-REC") d0.sec.deviceId 64 ∧
      (∀ g, d0.sec.ownerDigest = some g → (d.keySlot 1).key = kdf Config.rootKey (ascii "RLN-OTK") g 32) ∧
      (∀ m, m ≠ 1 → m ≠ 254 → m ≠ 255 → d.keySlot m = d0.keySlot m) ∧ d.sec.rederive = false)) ∧
    (d0.flag Fld.KS_STATUS_DRBG_OK = true →
      Does .drbgHealthFail s (fun d => d.flag Fld.KS_STATUS_DRBG_OK = false ∧ Bumped Fld.KS_DRBG_HEALTHFAIL d0 d ∧ Raised 353 d0 d ∧
        ∀ m, d.keySlot m = d0.keySlot m) ∧
      (2 ^ 20 ≤ d0.sec.drbgReqs → Does .drbgReseed s (fun d => d.sec.drbgReqs = 0 ∧ Bumped Fld.KS_DRBG_RESEEDS d0 d))) ∧
    (d0.keysRun = true → d0.flag Fld.KS_STATUS_DRBG_OK = false → d0.sec.drbgFailAt + 10000000 ≤ d0.tns → Does .drbgResume s (fun d =>
      d.flag Fld.KS_STATUS_DRBG_OK = true ∧ Bumped Fld.KS_DRBG_RESEEDS d0 d)) ∧
    (∀ (i : Fin 20) (r : RunJob), d0.sec.running[i.val]? = some r →
      (r.record.isSome = true → Does (.cipherJobDone i) s (fun d => d = { d0 with out := [] })) ∧
      (∀ t attr key, r.record = none → r.keyOut = some (t, attr, key) → r.code = E_OK → d0.sec.done.length < 32 → d0.sec.doneLost = 0 →
        Does (.cipherJobDone i) s (fun d => OtherKeys t d0 d ∧ ∃ e, d.sec.done = d0.sec.done ++ [e] ∧
          if (d0.keySlot t).locked = true then
            d.keySlot t = d0.keySlot t ∧ e.w0 = BitVec.ofNat 32 (2 ^ 31 + E_PERM * 2 ^ 16 + r.job.tag)
          else (d.keySlot t).key = key ∧ (d.keySlot t).attr = attr ∧ e.w0 = BitVec.ofNat 32 (2 ^ 31 + r.job.tag))) ∧
      (r.record = none → r.keyOut = none → d0.sec.done.length < 32 → d0.sec.doneLost = 0 → Does (.cipherJobDone i) s (fun d =>
        ∃ e, d.sec.done = d0.sec.done ++ [e] ∧ e.w0 = BitVec.ofNat 32 (2 ^ 31 + r.code * 2 ^ 16 + r.job.tag) ∧
          e.w1 = BitVec.ofNat 32 (r.job.op * 2 ^ 24) ∧ e.result = if r.code = E_OK then r.result else [])) ∧
      (r.record = none → 32 ≤ d0.sec.done.length → Does (.cipherJobDone i) s (fun d =>
        d.sec.done = d0.sec.done ∧ Bumped Fld.CPH_DONE_OVF_COUNT d0 d))) ∧
    (∀ p, d0.pathOpen p Reg.CPH_DONE_W0 = true → Does (.cphDoneRead p) s (fun d =>
      d.sec.done = d0.sec.done.drop 1 ∧ d.out = [.data p Reg.CPH_DONE_W0 ((d0.sec.done.head?.map (fun e => e.w0.toNat)).getD 0)])) ∧
    (d0.keysRun = true → d0.sec.cphMs < d0.frc.toNat / 1000000 → Does .cphLoadUpdate s (fun d =>
      let busy := fun c => match Tab.get (fun _ => (none, 0)) d0.sec.coreBusy c with
        | (some t, n) => n + (d0.tns - d0.frc.toNat % 1000000 - t)
        | (none, n) => n
      d.fld Fld.CPH_LOAD_CORE0 = min (busy 0 / 1000) 1000 ∧ d.fld Fld.CPH_LOAD_CORE1 = min (busy 1 / 1000) 1000 ∧
      OtherRegs [Fld.CPH_LOAD_CORE0.addr] d0 d ∧ d.sec.cphMs = d0.frc.toNat / 1000000))

/-- REC_APPEND, RECORDER_WRITE, REC_EXPORT_SELECT (R407 to R410, R412, R414). When a generation of the control sectors is written is the
model's choice (log entry 192). -/
def Obligations.RecorderAppend : Prop :=
  ∀ (s : State),
    let d0 := s.dev
    (∀ p, let len := d0.fld Fld.REC_APPEND_HDR_LEN
      let cls := d0.fld Fld.REC_APPEND_HDR_CLASS
      let allowed := ∃ c ∈ d0.sec.classes, c.1 ≤ cls ∧ cls ≤ c.2.1 ∧ c.2.2.2 = true
      let data := ((List.range 8).map (fun k => leBytes 4 (d0.rd (Reg.REC_APPEND_D k)).toNat)).flatten
      let code := fun (n : Nat) (d : Dev) => d.fld Fld.REC_STATUS_CODE = n
      d0.writeCode p Reg.REC_CTRL 1 = E_OK →
      (32 < len → Does (.recAppend p) s (fun d => code E_LEN d ∧ d.sec = d0.sec)) ∧
      (len ≤ 32 → ¬allowed → Does (.recAppend p) s (fun d => code E_PERM d ∧ d.sec = d0.sec)) ∧
      (len ≤ 32 → allowed → d0.recorderRuns = true →
        (d0.flag Fld.REC_STATUS_FULL = true → Does (.recAppend p) s (fun d =>
          code E_PERM d ∧ d.sec = d0.sec ∧ Bumped Fld.REC_REFUSED_FULL d0 d ∧ (356, 1) ∈ d.faultQ.queue)) ∧
        (d0.flag Fld.REC_STATUS_FULL = false → d0.flag Fld.REC_STATUS_RESERVE = false → 64 ≤ d0.sec.fifo.length →
          Does (.recAppend p) s (fun d => code E_PERM d ∧ d.sec.fifo = d0.sec.fifo ∧ d.sec.recLoss = true ∧
            Bumped Fld.REC_REFUSED_FIFO d0 d ∧ (358, 1) ∈ d.faultQ.queue)) ∧
        (d0.flag Fld.REC_STATUS_FULL = false → d0.flag Fld.REC_STATUS_RESERVE = false → d0.sec.fifo.length < 64 →
          d0.flag Fld.SYS_STATUS_HALT = false → Does (.recAppend p) s (fun d => code E_OK d ∧
            ∃ r, d.sec.fifo = d0.sec.fifo ++ [r] ∧ r.cls = cls ∧ r.payload = data.take len ∧ r.flags / 4 % 2 = 1)))) ∧
    (∀ r rs, d0.sec.fifo = r :: rs → d0.recorderRuns = true → d0.sec.recLostNote = 0 → d0.recNext + 1 < 2 ^ 64 →
      let new := d0.sec.dataOpen = false ∨ ∀ x, d0.sec.sectors.getLast? = some x → 63 ≤ x.records.length
      let bs := recBytes d0.recNext d0.sec.recLoss r
      (new → d0.freeSectors < 2 ∨ d0.sec.ckptBody ≠ none → Does .recorderWrite s (fun d => d = { d0 with out := [] })) ∧
      (¬new ∨ (2 ≤ d0.freeSectors ∧ d0.sec.ckptBody = none) → Does .recorderWrite s (fun d =>
        (∀ q, d0.sec.expSel = some q → d.flag Fld.REC_EXP_STATUS_VALID = d.sec.sectors.any (fun x => x.sseq = q)) ∧
        (∃ x, Tab.get (fun _ => none) d.sec.ctls (d0.sec.ctlGen % 2) = some x ∧ x.gen = d0.sec.ctlGen ∧ x.head = d.sec.chain ∧
          x.nextSeq = d0.recNext + 1) ∧ d.sec.ctlGen = d0.sec.ctlGen + 1 ∧
        d.sec.fifo = rs ∧ d.recNext = d0.recNext + 1 ∧ d.sec.chain = beBytes 32 (Config.shake256 (d0.chainHead ++ bs) 32) ∧
        d.sec.dataOpen = true ∧ d.sec.recLoss = false ∧ d.sec.sinceCkpt = d0.sec.sinceCkpt + 1 ∧
        ((d0.recNext + 1) % 256 = 0 → d.sec.ckptWant ≠ none) ∧
        (new → d.sec.sectors.getLast? = some ⟨false, d0.sec.nextSseq, d0.recNext, d0.recNext, [bs], [], []⟩ ∧
          d.sec.nextSseq = d0.sec.nextSseq + 1) ∧
        (¬new → ∀ x, d0.sec.sectors.getLast? = some x →
          d.sec.sectors = d0.sec.sectors.dropLast ++ [{ x with last := d0.recNext, records := x.records ++ [bs] }] ∧
          d.sec.nextSseq = d0.sec.nextSseq)))) ∧
    (∀ p lo, let n := lo.toNat + (d0.latch p).staged.toNat * 2 ^ 32
      d0.writeCode p Reg.REC_EXP_SSEQ_LO lo.toNat = E_OK → Does (.recExportSelect p lo) s (fun d =>
        d.sec.sectors = d0.sec.sectors ∧ d.pair Fld.REC_EXP_SSEQ_LO_SSEQ Fld.REC_EXP_SSEQ_HI_SSEQ = n ∧
        match d0.sec.sectors.find? (fun x => x.sseq = n) with
        | some x => d.flag Fld.REC_EXP_STATUS_VALID = true ∧ d.fld Fld.REC_EXP_STATUS_CODE = E_OK ∧
          ∀ off, d.exportWord off = BitVec.ofNat 32 (leNat ((x.plain.drop off).take 4))
        | none => d.flag Fld.REC_EXP_STATUS_VALID = false ∧ d.fld Fld.REC_EXP_STATUS_CODE = E_PERM ∧ ∀ off, d.exportWord off = 0))

/-- CHECKPOINT, CKPT_REQUEST, CKPT_AGE_EXPIRY, CKPT_RETRY, CHECK_SECTOR_WRITTEN, REC_ACK (R395, R404, R411, R413, R414). The code of a
device key that cannot be unwrapped is the model's (log entry 213). -/
def Obligations.RecorderCheckpoints : Prop :=
  ∀ (s : State),
    let d0 := s.dev
    (∀ want, let reason := if d0.freeSectors = 1 then 3 else want
      d0.sec.ckptWant = some want → d0.recorderRuns = true → d0.freeSectors ≠ 0 → (reason ≠ 3 → d0.sec.sinceCkpt ≠ 0) →
      d0.pqBusy = false →
      (d0.flag Fld.KS_STATUS_DRBG_OK = true → d0.sec.chain.length = 32 → Does .checkpoint s (fun d =>
        ∃ body, d.sec.ckptBody = some (body, d0.recNext - 1) ∧ body.take 40 = leBytes 8 (d0.recNext - 1) ++ d0.sec.chain ∧
          body.getD 47 0 = BitVec.ofNat 8 reason ∧ body.length = 64 ∧ d.flag Fld.REC_STATUS_CKPT_BUSY = true ∧ d.sec.sinceCkpt = 0 ∧
          d.sec.ckptWant = none)) ∧
      (d0.flag Fld.KS_STATUS_DRBG_OK = false → Does .checkpoint s (fun d =>
        d.sec.ckptRetry = some (d0.tns + 10000000, reason) ∧ d.sec.ckptBody = none ∧ d.sec.ckptWant = none ∧
        d.flag Fld.REC_STATUS_CKPT_BUSY = false))) ∧
    (∀ p, d0.writeCode p Reg.REC_CTRL 2 = E_OK → d0.recorderRuns = true → Does (.ckptRequest p) s (fun d =>
      if d0.sec.sinceCkpt = 0 then d.fld Fld.REC_STATUS_CODE = E_PERM ∧ d.sec = d0.sec
      else d.fld Fld.REC_STATUS_CODE = E_OK ∧ d.sec.ckptWant = some (d0.sec.ckptWant.getD 1))) ∧
    (∀ t, d0.sec.uncovered = some t → d0.recorderRuns = true → d0.sec.ckptWant = none → d0.sec.ckptBody = none →
      d0.sec.ckptRetry = none → Does .ckptAgeExpiry s (fun d =>
        d.sec.ckptWant = if d0.sec.ckptMax ≠ 0 ∧ t + 1000000000 * d0.sec.ckptMax ≤ d0.tns then some 4 else none)) ∧
    (∀ t reason, d0.sec.ckptRetry = some (t, reason) → d0.recorderRuns = true → Does .ckptRetry s (fun d =>
      if t ≤ d0.tns then d.sec.ckptRetry = none ∧ d.sec.ckptWant = some (d0.sec.ckptWant.getD reason) else d.sec = d0.sec)) ∧
    (∀ body last, d0.sec.ckptBody = some (body, last) → d0.recorderRuns = true → body.length = 64 → last < 2 ^ 64 →
      let fails := fun (d : Dev) => d.sec.sectors = d0.sec.sectors ∧ d.sec.sinceCkpt = d0.sec.sinceCkpt + 1 ∧
        d.sec.ckptRetry = some (d0.tns + 10000000, (body.getD 47 0).toNat)
      (d0.deviceKey.1 ≠ E_OK → Does .checkSectorWritten s (fun d => fails d ∧ d.sec.ckptBody = none ∧
        d.flag Fld.REC_STATUS_CKPT_BUSY = false ∧ d.fld Fld.PQ_STATUS_CODE = d0.deviceKey.1 % 16)) ∧
      (d0.deviceKey.1 = E_OK → Does .checkSectorWritten s (fun d => ∃ i r, 1 ≤ i ∧ i ≤ 1000 ∧ d.fld Fld.PQ_ITER = i ∧ d.sec.ckptBody = none ∧
        d.flag Fld.REC_STATUS_CKPT_BUSY = false ∧
        if i = 1000 then (359, 1) ∈ d.faultQ.queue ∧ fails d
        else
          let body' := body.take 52 ++ leBytes 8 d0.sec.nextSseq ++ body.drop 60
          d.sec.sectors.getLast? = some ⟨true, d0.sec.nextSseq, last, last, [], body',
            beBytes 3309 (Config.mldsaSign d0.deviceKey.2 (ascii "RLNC" ++ d0.sec.deviceId ++ body') [] r)⟩ ∧
          d.sec.nextSseq = d0.sec.nextSseq + 1 ∧ d.sec.dataOpen = false ∧ d.recCkpt = last ∧
          (body.getD 47 0 = 3 → d.freeSectors < 9 → d.flag Fld.REC_STATUS_FULL = true)))) ∧
    (∀ p, let seq := d0.pair Fld.REC_ACK_SEQ_LO_SEQ Fld.REC_ACK_SEQ_HI_SEQ
      let pk := Tab.bytes d0.sec.ackWin 0 1952
      let sig := Tab.bytes d0.sec.ackWin 1952 3309
      let authentic := d0.sec.ownerDigest = some (shake256 pk 32) ∧
        Config.mldsaVerify pk (ascii "RLNA" ++ d0.sec.deviceId ++ leBytes 8 seq ++ d0.ackNonce) [] sig = true
      d0.writeCode p Reg.REC_CTRL 4 = E_OK → d0.recorderRuns = true → Does (.recAck p) s (fun d =>
        (¬authentic → d.fld Fld.REC_STATUS_CODE = E_AUTH ∧ d.recAcked = d0.recAcked ∧ (360, 1) ∈ d.faultQ.queue) ∧
        (authentic → d0.recCkpt < seq ∨ seq ≤ d0.recAcked →
          d.fld Fld.REC_STATUS_CODE = E_PERM ∧ d.recAcked = d0.recAcked ∧ (360, 1) ∈ d.faultQ.queue) ∧
        (authentic → seq ≤ d0.recCkpt → d0.recAcked < seq → d.fld Fld.REC_STATUS_CODE = E_OK ∧ d.recAcked = seq)))

/-- FAULT_EVENT, FAULT_WINDOW_CLOSE, SEVERE_CLEAR, FAULT_INJECT, HALF_RESET_START, HALF_RESET_END (R422 to R424, R435, R436, R441, R442).
How real and injected events come into one cycle, and how long a mismatch lasts, are log entries 217 and 195. -/
def Obligations.FaultCounting : Prop :=
  ∀ (s : State),
    let d0 := s.dev
    let count := fun (d : Dev) n => d.fld (Fld.FLT_SRC_STATE_COUNT n)
    (∀ (n : Fin 512) (k : Fin 256), let x := d0.src n.val
      let open? := d0.srcState n.val = 1 ∧ ¬(x.openAt + 1000000 * x.w ≤ d0.frc.toNat)
      let limit := if open? then x.n else d0.fld (Fld.FLT_SRC_LIMIT_N n.val)
      let total := min ((if open? then count d0 n.val else 0) + k.val) 65535
      sourceListed n.val = true → n ≠ 1 → n ≠ 3 → n ≠ 4 → k ≠ 0 → k.val ≤ d0.raised n.val → d0.reactive = true →
      d0.flag (Fld.FLT_SRC_ARM_EN n.val) = true → d0.fld (Fld.FLT_SRC_ARM_ARMING n.val) = 0 →
      (d0.srcState n.val = 1 ∨ (d0.srcState n.val = 0 ∧ count d0 n.val = 0) → Does (.faultEvent [(n, k)]) s (fun d =>
        count d n.val = total ∧ d.srcState n.val = (if limit ≤ total then 2 else 1) ∧
        (¬open? → (d.src n.val).openAt = d0.frc.toNat ∧ (d.src n.val).w = d0.fld (Fld.FLT_SRC_LIMIT_W n.val) ∧ (d.src n.val).n = limit) ∧
        d.fld (Fld.FLT_SRC_REAL_COUNT n.val) = min (d0.fld (Fld.FLT_SRC_REAL_COUNT n.val) + k.val) (2 ^ 32 - 1) ∧
        d.mode = d0.mode ∧ d.flt.errEnd = d0.flt.errEnd ∧ d.hq = d0.hq ∧
        d.rd Reg.FLT_HOLD_LO = d0.rd Reg.FLT_HOLD_LO ∧ d.rd Reg.FLT_HOLD_HI = d0.rd Reg.FLT_HOLD_HI)) ∧
      (d0.srcState n.val = 2 → Does (.faultEvent [(n, k)]) s (fun d =>
        count d n.val = min (count d0 n.val + k.val) 65535 ∧ d.srcState n.val = 2 ∧ d.raised n.val = d0.raised n.val - k.val ∧
        d.fld (Fld.FLT_SRC_REAL_COUNT n.val) = min (d0.fld (Fld.FLT_SRC_REAL_COUNT n.val) + k.val) (2 ^ 32 - 1) ∧
        d.flt = d0.flt ∧ d.hq = d0.hq ∧ d.sec = d0.sec ∧ d.mgmt = d0.mgmt ∧ d.mode = d0.mode))) ∧
    (∀ n : Fin 512, d0.reactive = true → d0.srcState n.val = 1 → Does (.faultWindowClose n) s (fun d =>
      if (d0.src n.val).openAt + 1000000 * (d0.src n.val).w ≤ d0.frc.toNat then
        d.srcState n.val = 0 ∧ count d n.val = 0 ∧ d.flag (Fld.FLT_SRC_STATE_INJ n.val) = false ∧ OtherRegs [Reg.FLT_SRC_STATE n.val] d0 d
      else d = { d0 with out := [] })) ∧
    (∀ p (k : Fin 16) (v : Word), d0.writeCode p (Reg.FLT_SEVERE k.val) v.toNat = E_OK → Does (.severeClear p k v) s (fun d =>
      ∀ n, n < 512 →
        if (p = .host ∨ p = .mgmt) ∧ n / 32 = k.val ∧ v.getLsbD (n % 32) = true ∧ d0.srcState n = 2 then
          d.srcState n = 0 ∧ count d n = 0 ∧ (d.rd (Reg.FLT_SEVERE k.val)).getLsbD (n % 32) = false
        else d.srcState n = d0.srcState n ∧ count d n = count d0 n ∧ d.src n = d0.src n)) ∧
    (∀ p (n : Fin 512) (k : Fin 256), let inj := Fld.FLT_SRC_INJ_COUNT n.val
      d0.writeCode p Reg.FLT_INJ (0x7C000000 + 256 * n.val + k.val) = E_OK →
      (d0.mode ≠ .factory → Does (.faultInject p n k []) s (fun d => d.flt = d0.flt ∧ OtherRegs [Reg.MGT_STATUS] d0 d)) ∧
      (d0.mode = .factory → sourceListed n.val = true → k ≠ 0 → d0.flag Fld.FLT_INJ_COUNTS_EN = false →
        Does (.faultInject p n k []) s (fun d => d.fld inj = min (d0.fld inj + k.val) (2 ^ 32 - 1) ∧ d.flt = d0.flt ∧
          OtherRegs [inj.addr, Reg.MGT_STATUS] d0 d)) ∧
      (d0.mode = .factory → sourceListed n.val = true → k ≠ 0 → d0.flag Fld.FLT_INJ_COUNTS_EN = true →
        d0.flag (Fld.FLT_SRC_ARM_EN n.val) = true → d0.srcState n.val = 0 → count d0 n.val = 0 → Does (.faultInject p n k []) s (fun d =>
          d.fld inj = min (d0.fld inj + k.val) (2 ^ 32 - 1) ∧
          d.fld (Fld.FLT_SRC_REAL_COUNT n.val) = d0.fld (Fld.FLT_SRC_REAL_COUNT n.val) ∧
          count d n.val = k.val ∧ d.flag (Fld.FLT_SRC_STATE_INJ n.val) = true ∧
          d.srcState n.val = if d0.fld (Fld.FLT_SRC_LIMIT_N n.val) ≤ k.val then 2 else 1)) ∧
      (∀ r : Fin 256, n ≠ 1 → n ≠ 3 → n ≠ 4 → r ≠ 0 → r.val ≤ d0.raised n.val →
        d0.mode = .factory → sourceListed n.val = true → k ≠ 0 → d0.flag Fld.FLT_INJ_COUNTS_EN = true →
        d0.flag (Fld.FLT_SRC_ARM_EN n.val) = true → d0.srcState n.val = 0 → count d0 n.val = 0 →
        Does (.faultInject p n k [(n, r)]) s (fun d =>
          d.fld inj = min (d0.fld inj + k.val) (2 ^ 32 - 1) ∧
          d.fld (Fld.FLT_SRC_REAL_COUNT n.val) = min (d0.fld (Fld.FLT_SRC_REAL_COUNT n.val) + r.val) (2 ^ 32 - 1) ∧
          count d n.val = r.val + k.val ∧ d.flag (Fld.FLT_SRC_STATE_INJ n.val) = true ∧
          d.srcState n.val = if d0.fld (Fld.FLT_SRC_LIMIT_N n.val) ≤ r.val + k.val then 2 else 1))) ∧
    (∀ g : Fin 16,
      (d0.logicRuns = true → d0.halfReset g.val = false → Does (.halfResetStart g) s (fun d =>
        d.halfReset g.val = true ∧ Bumped (Fld.FLT_XGRP_HALF g.val) d0 d ∧ Raised (32 + g.val) d0 d ∧
        (∀ h, h ≠ g.val → d.halfReset h = d0.halfReset h) ∧ (g = 0 → d.hq.stalled = [] ∧ d.hq.outPosted = []) ∧
        (∀ o, 3 ≤ g.val → g.val ≤ 14 → d0.cutOutput (g.val - 3) = some o → Bumped (Fld.ETH_FCS_COUNT (g.val - 3)) d0 d ∧
          Bumped (Fld.FLT_XGRP_DISC g.val) d0 d ∧ (d.swPort o).tx.map (fun x => x.broken) = some true))) ∧
      (d0.halfReset g.val = false → Does (.halfResetEnd g) s (fun d => d = { d0 with out := [] })) ∧
      (d0.halfReset g.val = true → Does (.halfResetEnd g) s (fun d =>
        let v := (d0.crossing g.val).latest
        d.halfReset g.val = false ∧ (∀ h, h ≠ g.val → d.halfReset h = d0.halfReset h) ∧ (d.crossing g.val).taken = v ∧
        ((g = 0 ∧ d0.logicRuns = false) ∨ g = 15 → OtherRegs [] d0 d ∧ d.faultQ.queue = d0.faultQ.queue) ∧
        (g = 0 → d0.logicRuns = true → d.flag Fld.BRG_STATUS_LINK = v.testBit 0 ∧ d.flag Fld.BRG_STATUS_BME = v.testBit 1 ∧
          d.hq.mps = v / 2 ^ 8 % 2 ^ 16 ∧ d.hq.mrrs = v / 2 ^ 24 % 2 ^ 24) ∧
        (g = 1 ∨ g = 2 → d0.ringRuns = true → d0.laneUsed (g.val - 1) = true → d.flag (laneFld (g.val - 1)) = decide (v = 1)) ∧
        (3 ≤ g.val → g.val ≤ 14 → d0.swRuns = true → (d0.swCfg (g.val - 3)).isSome = true → d.swLink (g.val - 3) = decide (v ≠ 0)))))

/-- FAULT_EVENT, FORCE_SAFE, SAFE_EXIT, HOLD_CLEAR, ERR_HOLD_WRITE, ERRMIN_EXPIRY (R425 to R433, R443). -/
def Obligations.FaultReactions : Prop :=
  ∀ (s : State),
    let d0 := s.dev
    let holdBit := fun (d : Dev) i => if i < 32 then (d.rd Reg.FLT_HOLD_LO).getLsbD i else (d.rd Reg.FLT_HOLD_HI).getLsbD (i - 32)
    (∀ (n : Fin 512) (k : Fin 256), let armed := d0.fld (Fld.FLT_SRC_ARM_ARMING n.val)
      let set := d0.holdset (d0.fld (Fld.FLT_SRC_ARM_HOLDSET n.val))
      let pat := d0.fld (Fld.FLT_SRC_ARM_PATTERN n.val)
      sourceListed n.val = true → n ≠ 1 → n ≠ 3 → n ≠ 4 → k ≠ 0 → k.val ≤ d0.raised n.val → d0.mode = .run →
      d0.flag (Fld.FLT_SRC_ARM_EN n.val) = true → d0.srcState n.val = 0 → d0.fld (Fld.FLT_SRC_STATE_COUNT n.val) = 0 →
      d0.flag (Fld.FLT_SRC_STATE_INJ n.val) = false → d0.fld (Fld.FLT_SRC_LIMIT_N n.val) ≤ k.val →
      (armed = 1 → d0.hq.sysQ < 64 → d0.enabled d0.hq.sysQ = true → Does (.faultEvent [(n, k)]) s (fun d => d.mode = .run ∧
        ∃ r : Rec, (d.queue d0.hq.sysQ).waiting = (d0.queue d0.hq.sysQ).waiting ++ [r] ∧ r.kind = 0x11 ∧ r.infoA = n.val ∧
          r.payload = leBytes 4 1 ++ leBytes 4 k.val)) ∧
      (armed = 2 → d0.mgmt.notices.length < 32 → Does (.faultEvent [(n, k)]) s (fun d => d.mode = .run ∧
        ∃ x : Notice, d.mgmt.notices = d0.mgmt.notices ++ [x] ∧ x.kind = 1 ∧ x.source = n.val ∧ x.arg = k.val ∧ x.inj = false)) ∧
      (armed = 8 → Does (.faultEvent [(n, k)]) s (fun d => d.mode = .run ∧ d.flag Fld.FLT_STATUS_ERR_N = true ∧
        d.flt.errEnd = some (d0.tns + 1000000 * d0.fld Fld.FLT_ERRMIN) ∧ ∀ i, i < 47 → holdBit d i = holdBit d0 i)) ∧
      (armed = 32 → Does (.faultEvent [(n, k)]) s (fun d => d.mode = .run ∧
        ∀ i, i < 47 → holdBit d i = (holdBit d0 i || set.testBit i))) ∧
      (armed = 16 → Does (.faultEvent [(n, k)]) s (fun d => d.mode = .safe ∧ d.flag Fld.FLT_STATUS_SAFE_ACT = true ∧
        d.fld Fld.FLT_STATUS_PATTERN = pat ∧ Bumped Fld.FLT_STATUS_SAFECNT d0 d ∧ (d.src n.val).safeFired = true ∧
        (∀ i, i < 32 → (d.rd Reg.DIO_OUT).getLsbD i =
          if (d0.pattern pat).dioMask.testBit i then (d0.pattern pat).dioVal.testBit i else (d0.rd Reg.DIO_OUT).getLsbD i)))) ∧
    (∀ p (pat : Fin 8), d0.writeCode p Reg.FLT_CTRL (0x7C000002 + 4 * pat.val) = E_OK → Does (.forceSafe p pat) s (fun d =>
      let higher := ¬(d0.mode = .safe ∧ d0.flag Fld.FLT_STATUS_SAFE_ACT = true ∧ pat.val ≤ d0.fld Fld.FLT_STATUS_PATTERN)
      if d0.inService = true ∧ (p = .host ∨ p = .mgmt) then
        d.mode = .safe ∧ d.fld Fld.FLT_STATUS_CODE = E_OK ∧ Bumped Fld.FLT_STATUS_SAFECNT d0 d ∧ (18, 1) ∈ d.faultQ.queue ∧
        (higher → d.fld Fld.FLT_STATUS_PATTERN = pat.val ∧ d.flag Fld.FLT_STATUS_SAFE_ACT = true) ∧
        (¬higher → d.fld Fld.FLT_STATUS_PATTERN = d0.fld Fld.FLT_STATUS_PATTERN)
      else d.fld Fld.FLT_STATUS_CODE = E_PERM ∧ d.mode = d0.mode)) ∧
    (∀ p, let may := d0.mode = .safe ∧ (p = .host ∨ p = .mgmt) ∧ ∀ n, (d0.src n).safeFired = true → d0.severe n = false
      d0.writeCode p Reg.FLT_CTRL 0x7C000001 = E_OK → Does (.safeExit p) s (fun d =>
        (may → d.mode = (if d0.sys.fromFactory = true then .factory else if d0.rd Reg.SYS_LOSS ≠ 0 then .degraded else .run) ∧
          d.fld Fld.FLT_STATUS_CODE = E_OK ∧ d.flag Fld.FLT_STATUS_SAFE_ACT = false ∧ d.fld Fld.FLT_STATUS_PATTERN = 0 ∧
          d.rd Reg.DIO_OUT = d0.rd Reg.DIO_OUT ∧ ∀ i, holdBit d i = holdBit d0 i) ∧
        (¬may → d.fld Fld.FLT_STATUS_CODE = E_PERM ∧ d.mode = d0.mode))) ∧
    (∀ p high (v : Word), d0.writeCode p (if high then Reg.FLT_HOLD_HI else Reg.FLT_HOLD_LO) v.toNat = E_OK →
      Does (.holdClear p high v) s (fun d => ∀ i, i < 47 →
        holdBit d i = (holdBit d0 i && !(decide (p = .host ∨ p = .mgmt) && decide (high = decide (32 ≤ i)) && v.getLsbD (i % 32))))) ∧
    (∀ p hold, d0.writeCode p Reg.FLT_ERR_HOLD (b2n hold) = E_OK → Does (.errHoldWrite p hold) s (fun d =>
      d.flag Fld.FLT_ERR_HOLD = hold ∧ d.flag Fld.FLT_STATUS_ERR_N = (d0.reactive && (d0.flt.errEnd.isSome || hold)) ∧
      d.flt = d0.flt ∧ OtherRegs [Reg.FLT_ERR_HOLD, Reg.FLT_STATUS, Reg.MGT_STATUS] d0 d)) ∧
    (∀ t, d0.flt.errEnd = some t → Does .errminExpiry s (fun d =>
      if t ≤ d0.tns then d.flt.errEnd = none ∧ d.flag Fld.FLT_STATUS_ERR_N = (d0.reactive && d0.flag Fld.FLT_ERR_HOLD) ∧
        d.flag Fld.FLT_STATUS_ERRMIN = false ∧ OtherRegs [Reg.FLT_STATUS] d0 d ∧
        d.out = (if d.flag Fld.FLT_STATUS_ERR_N = d0.flag Fld.FLT_STATUS_ERR_N then []
          else [.pin .errN (if d.flag Fld.FLT_STATUS_ERR_N then .asserted else .hiZ)])
      else d = { d0 with out := [] }))

/-- APPLY, IMAGE_APPLY_DONE (R33 to R41). That an APPLY during a check is ignored is the model's choice (log entry 194). -/
def Obligations.ImageApply : Prop :=
  ∀ (s : State),
    let d0 := s.dev
    let status := fun (d : Dev) (state stage sec code detail : Nat) =>
      d.fld Fld.IMG_STATUS_STATE = state ∧ d.fld Fld.IMG_STATUS_STAGE = stage % 16 ∧ d.fld Fld.IMG_STATUS_SECTION = sec % 256 ∧
      d.fld Fld.IMG_STATUS_CODE = code % 256 ∧ d.fld Fld.IMG_DETAIL = detail % 2 ^ 32
    (∀ p (w : Word), let src := if p = .mgmt then 2 else 1
      w.toNat / 2 ^ 24 = 0x5C → w.getLsbD 0 = true → w.getLsbD 1 = false → d0.writeCode p Reg.IMG_CTRL w.toNat = E_OK →
      (d0.mode = .configure → d0.img.check = none → Does (.apply p w) s (fun d =>
        d.img.check = some src ∧ d.fld Fld.IMG_STATUS_SOURCE = src ∧ status d 1 0 0 E_OK 0 ∧ d.mode = .configure ∧
        OtherRegs [Reg.IMG_STATUS, Reg.IMG_DETAIL, Reg.MGT_STATUS] d0 d)) ∧
      (d0.mode ≠ .configure ∨ d0.img.check ≠ none → Does (.apply p w) s (fun d =>
        d.img = d0.img ∧ OtherRegs [Reg.MGT_STATUS] d0 d))) ∧
    (∀ src stored, let g := if src = 0 then d0.regionImage else d0.stagedImage
      let v := d0.checkImage false (src = 0 && d0.img.torn) g
      d0.img.check = some src → d0.mode = .configure → d0.flag Fld.SYS_STATUS_HALT = false →
      (v.code ≠ 0 → Does (.imageApplyDone stored) s (fun d => d.img.check = none ∧ status d 4 v.stage v.section_ v.code v.detail ∧
        d.mode = .configure ∧ d.store = d0.store ∧ d.eng = d0.eng ∧ d.settings = d0.settings ∧ d.img.region = d0.img.region)) ∧
      (v.code = 0 → src ≠ 0 → stored = false → Does (.imageApplyDone stored) s (fun d => d.img.check = none ∧ status d 4 7 0 E_AUTH 0 ∧
        d.mode = .configure ∧ d.store = d0.store ∧ d.eng = d0.eng ∧ d.settings = d0.settings ∧ d.img.torn = true)) ∧
      (v.code = 0 → src = 0 ∨ stored = true → Does (.imageApplyDone stored) s (fun d => d.img.check = none ∧
        (∀ k, Tab.get (fun _ => 0) d.img.region k =
          if src = 0 then Tab.get (fun _ => 0) d0.img.region k
          else if k < imgTotal g then Tab.get (fun _ => 0) d0.sys.staged k else 0) ∧
        let checked := Dev.sigChecked v { d0 with out := [], img := { d0.img with check := none } }
        let held := if src = 0 then checked else { checked.storeRegion with img := { checked.storeRegion.img with torn := false } }
        match (applyFrom g (applyOrder (pinsAhead g)) held.configReset).1 with
        | some (sec, code, detail) => status d 4 8 sec code detail ∧ d.mode = .configure ∧
            d.fld Fld.IMG_SEQ_FLOOR = d0.fld Fld.IMG_SEQ_FLOOR ∧ d.settings = d0.settings
        | none => status d 3 8 0 E_OK 0 ∧ d.mode = (if d0.flag Fld.SYS_STATUS_FACTORY_PATH = true then .factory else .run) ∧
            d.fld Fld.IMG_SEQ = leNat (g 0x10 4) ∧ d.fld Fld.IMG_SEQ_FLOOR = max (d0.fld Fld.IMG_SEQ_FLOOR) (leNat (g 0x10 4)) ∧
            (∀ k, k < 16 → d.rd (Reg.IMG_DIGEST k) =
              BitVec.ofNat 32 (leNat (((beBytes 64 (Config.shake256 (g 0 (leNat (g 0xC 4))) 64)).drop (4 * k)).take 4))) ∧
            d.img.buildId = leNat (g 0x18 8) ∧ d.rd Reg.SYS_LOSS = 0 ∧ (d0.img.settingsDigest = imgDigest g → d.settings = d0.settings))))

/-- PART_STAGE_WRITE, PART_SUBMIT, PARTIAL_ADD, PARTIAL_REMOVE, PARTIAL_REMOVE_UNDEFINE, PARTIAL_REFUSED (R43 to R47, R307, R452). -/
def Obligations.PartialImages : Prop :=
  ∀ (s : State),
    let d0 := s.dev
    let busy := fun (d : Dev) => d.flag Fld.IMG_PART_STATUS_BUSY
    let locked := fun (d : Dev) => d.flag Fld.IMG_PART_STATUS_WR_LOCKED
    let bit? := fun (d : Dev) n => if n < 32 then (d.rd Reg.IMG_PART_NODES_LO).getLsbD n else (d.rd Reg.IMG_PART_NODES_HI).getLsbD (n - 32)
    let ends := fun (d : Dev) (op node : Nat) => d.img.partCheck = none ∧ busy d = false ∧ d.fld Fld.IMG_PART_STATUS_CODE = E_OK ∧
      d.fld Fld.IMG_PART_STATUS_STAGE = 8 ∧ d.fld Fld.IMG_PART_STATUS_OP = op ∧ d.fld Fld.IMG_PART_STATUS_NODE = node ∧
      Bumped Fld.IMG_PART_STATUS_COUNT d0 d
    (∀ p (a : BitVec 40) (v : Word), 0x180000 ≤ a.toNat → a.toNat < 0x1A0000 → a.toNat % 4 = 0 → d0.writeCode p a.toNat v.toNat = E_OK →
      Does (.partStageWrite p a v) s (fun d => if busy d0 = true then locked d = true ∧ d.img = d0.img
        else ∀ k, Tab.get (fun _ => 0) d.img.part k =
          if a.toNat ≤ k + 0x180000 ∧ k + 0x180000 < a.toNat + 4 then BitVec.ofNat 8 (v.toNat / 256 ^ (k + 0x180000 - a.toNat))
          else Tab.get (fun _ => 0) d0.img.part k)) ∧
    (∀ p (w : Word), w.toNat / 2 ^ 24 = 0x5C → w.getLsbD 0 = false → w.getLsbD 1 = true → d0.writeCode p Reg.IMG_CTRL w.toNat = E_OK →
      Does (.partSubmit p w) s (fun d => d.store = d0.store ∧ d.mode = d0.mode ∧
        if busy d0 = true then locked d = true ∧ d.img = d0.img
        else if d0.mode ≠ .run ∧ d0.mode ≠ .degraded then d.fld Fld.IMG_PART_STATUS_CODE = E_PERM ∧ d.img = d0.img
        else busy d = true ∧ ∃ v op node, d.img.partCheck = some (v, op, node) ∧
          let c := d0.checkImage true false (fun off n => Tab.bytes d0.img.part off n)
          (c.code ≠ E_OK → v = c) ∧ (c.code = E_OK → v.stage = 8 ∧ v.code = d0.segmentCode))) ∧
    (∀ v node, 1 ≤ node → node ≤ 62 → d0.mode = .run ∨ d0.mode = .degraded →
      (d0.img.partCheck = some (v, 1, node) → v.code = E_OK →
        let made := (ofKind 1 (chunks 16 d0.partSegment.2.2.1 (d0.partSegment.2.2.2.drop 8))).map (fun x => bits x 24 8)
        Does .partialAdd s (fun d => ends d 1 node ∧ bit? d node = true ∧ (∀ n ∈ made, (d.slot n).isDefined = true) ∧
          ∀ n, n ∉ made → d.slot n = d0.slot n)) ∧
      (d0.img.partCheck = some (v, 2, node) → v.code = E_OK →
        let slots := (Tab.get (fun _ => (([], [], []) : List Nat × List Nat × List Nat)) d0.img.added node).1
        Does .partialRemove s (fun d => d.isMember node = false ∧ d.img.removing = some node ∧ d.img.partCheck = none ∧
          busy d = busy d0 ∧ ∀ n ∈ slots, (d.slot n).routePtr = 0)) ∧
      (d0.img.removing = some node → d0.img.partCheck = none →
        let slots := (Tab.get (fun _ => (([], [], []) : List Nat × List Nat × List Nat)) d0.img.added node).1
        ∀ rivals : List StoreReq, Does (.partialRemoveUndefine rivals) s (fun d => ends d 2 node ∧ bit? d node = false ∧ d.img.removing = none ∧
          ∀ n, d.slot n = if n ∈ slots then slotUndefined else d0.slot n))) ∧
    (∀ v op node, d0.img.partCheck = some (v, op, node) → v.code ≠ E_OK → Does .partialRefused s (fun d =>
      d.img.partCheck = none ∧ busy d = false ∧ d.fld Fld.IMG_PART_STATUS_CODE = v.code % 256 ∧ d.store = d0.store ∧ d.drv = d0.drv ∧
      (16, 1) ∈ d.faultQ.queue ∧ d.flag Fld.SYS_LOSS_PARTIAL = true ∧ node ∈ d.img.lossNodes ∧
      d.mode = if d0.mode = .run ∧ d0.flag Fld.SYS_LOSS_PARTIAL = false then .degraded else d0.mode))

/-- LDR_ENTER, LDR_VERIFY, VERIFY_DONE, LDR_ACTIVATE, ACTIVATE_DONE, LDR_REBOOT, CONFIRM_DEADLINE, OWNER_DIGEST, TOKEN_NONCE, FACTORY_TOKEN
(R473 to R475, R480 to R484). That ACTIVATE_DONE carries how far the writing has come is the model's form of it (log entry 123). -/
def Obligations.LoaderStages : Prop :=
  ∀ (s : State),
    let d0 := s.dev
    let journal := fun (d : Dev) => d.fld Fld.LDR_STATE_JOURNAL
    let stage := fun (d : Dev) => d.fld Fld.LDR_STATE_STAGE
    let code := fun (d : Dev) => d.fld Fld.LDR_STATE_CODE
    let refused := fun (d : Dev) => code d = E_PERM ∧ d.mode = d0.mode ∧ stage d = stage d0 ∧ journal d = journal d0 ∧
      d.mgmt.verifying = d0.mgmt.verifying ∧ d.mgmt.activating = d0.mgmt.activating
    let stopped := fun (d : Dev) (cause : Nat) =>
      (d.mode = .held ∧ d.fld Fld.SYS_MODE_CAUSE = cause) ∨ (d.mode = .limp ∧ d.anyLimp = true)
    (∀ p, let master := p = .host ∨ p = .mgmt
      let cause := if p = .mgmt then 5 else 4
      let enter := master ∧ (d0.mode = .configure ∨ d0.mode = .run ∨ d0.mode = .degraded ∨ d0.mode = .factory)
      let verify := master ∧ d0.mode = .loader ∧ stage d0 = 1 ∧ d0.mgmt.verifying = false
      let activate := master ∧ d0.mode = .loader ∧ stage d0 = 2
      let reboot := master ∧ d0.mode = .loader
      (d0.writeCode p Reg.LDR_CTRL 0x7C000001 = E_OK → Does (.ldrEnter p) s (fun d =>
        if enter then stopped d cause ∧ journal d = 1 else refused d)) ∧
      (d0.writeCode p Reg.LDR_CTRL 0x7C000002 = E_OK → Does (.ldrVerify p) s (fun d =>
        if verify then code d = E_OK ∧ d.mgmt.verifying = true ∧ stage d = 1 else refused d)) ∧
      (d0.writeCode p Reg.LDR_CTRL 0x7C000003 = E_OK → Does (.ldrActivate p) s (fun d =>
        if activate then code d = E_OK ∧ stage d = 3 ∧ journal d = 2 ∧ d.fld Fld.LDR_PROGRESS_SECTORS = 0 ∧
          d.mgmt.activating = some (decide (p = .mgmt)) ∧ d.mgmt.journalDigest = d0.mgmt.verified else refused d)) ∧
      (d0.writeCode p Reg.LDR_CTRL 0x7C000004 = E_OK → Does (.ldrReboot p) s (fun d =>
        if reboot then stopped d cause ∧ journal d = journal d0 else refused d))) ∧
    (d0.mode = .loader → d0.mgmt.verifying = true →
      let g := d0.stagedImage
      let n := leNat (g 0xC 4)
      let len := d0.fld Fld.LDR_LEN
      let passes := 5325 ≤ len ∧ len ≤ 7864320 ∧ leNat (g 0 4) = 0x4B4E4954 ∧ leNat (g 4 2) = 1 ∧ leNat (g 6 2) = 64 ∧
        leNat (g 8 2) = 0x9640 ∧ leNat (g 0xA 2) = 0 ∧ leNat (g 0x18 40) = 0 ∧ n + 3309 = len ∧
        beBytes 32 (Config.shake256 (g (n - 1952) 1952) 32) = Config.firmwareKeyDigest ∧
        Config.mldsaVerify (g (n - 1952) 1952) (imgDigest g) [] (g n 3309) = true ∧
        d0.fld Fld.LDR_ROLLBACK_COUNTER ≤ leNat (g 0x10 4)
      Does .verifyDone s (fun d => d.mgmt.verifying = false ∧ d.mode = .loader ∧
        (passes → code d = E_OK ∧ stage d = 2 ∧ d.fld Fld.LDR_IMG_ROLLBACK = leNat (g 0x10 4) ∧ d.mgmt.verified = imgDigest g) ∧
        (¬passes → code d ≠ E_OK ∧ stage d = stage d0 ∧ Raised 26 d0 d))) ∧
    (∀ mgmt, d0.mgmt.activating = some mgmt →
      let progress := fun (d : Dev) => d.fld Fld.LDR_PROGRESS_SECTORS
      (∀ k : Fin 1921, let m := k.val / 64 * 64
        Does (.activateDone (some k)) s (fun d => if progress d0 < m ∧ 4096 * m < d0.mgmt.journalLen then
          progress d = m ∧ d.mgmt.activating = some mgmt ∧ OtherRegs [Fld.LDR_PROGRESS_SECTORS.addr] d0 d ∧ d.mode = d0.mode ∧
          ∀ a, Tab.get (fun _ => 0) d.mgmt.firmware a =
            if a < 4096 * m then Tab.get (fun _ => 0) d0.sys.staged a else Tab.get (fun _ => 0) d0.mgmt.firmware a
          else d = { d0 with out := [] })) ∧
      (d0.mode = .loader → Does (.activateDone none) s (fun d =>
        let region := Tab.drop (fun k => decide (d0.mgmt.journalLen ≤ k)) d0.sys.staged
        d.mgmt.activating = none ∧ progress d = (d0.mgmt.journalLen + 4095) / 4096 % 2 ^ 11 ∧ d.mgmt.firmware = region ∧
        if imgDigest (fun off n => Tab.bytes region off n) = d0.mgmt.journalDigest then
          stopped d (if mgmt then 5 else 4) ∧ journal d = 3 ∧ d.fld Fld.LDR_STATE_FAILS = 0 ∧ d.sec.fwDigest = d0.mgmt.journalDigest
        else d.mode = .loader ∧ stage d = 2 ∧ code d = E_AUTH ∧ (26, 1) ∈ d.faultQ.queue ∧ journal d = journal d0))) ∧
    Does .confirmDeadline s (fun d =>
      if d0.logicRuns = true ∧ journal d0 = 3 ∧ d0.sys.confirmMissed = false ∧ d0.sys.romStart + 30000000000 < d0.tns then
        d.sys.confirmMissed = true ∧ d.fld Fld.LDR_STATE_FAILS = min 3 (d0.fld Fld.LDR_STATE_FAILS + 1) ∧ (26, 1) ∈ d.faultQ.queue ∧
        journal d = 3
      else d = { d0 with out := [] }) ∧
    (∀ r : MgmtReq, d0.mgmt.executing = some r → d0.portUp = true →
      let answers := fun (code : Nat) (payload : List Byte) (d : Dev) =>
        d.mgmt.executing = none ∧ d.mgmt.response = some (respFrame r.seq r.cmd code payload)
      (r.cmd = 0x40 → r.payload.length = 32 → d0.mode = .loader ∨ d0.mode = .configure → d0.flag Fld.SYS_STATUS_HALT = false →
        Does .ownerDigest s (fun d =>
          if d0.sec.ownerDigest ≠ none ∨ r.payload = List.replicate 32 0xFF then
            answers E_PERM [] d ∧ d.sec = d0.sec
          else answers E_OK [] d ∧ d.sec.ownerDigest = some r.payload ∧ OtherKeys 1 d0 d ∧ d.sec.rederive = d0.sec.rederive ∧
            (d.keySlot 1).key = kdf Config.rootKey (ascii "RLN-OTK") r.payload 32)) ∧
      (r.cmd = 0x41 → r.payload = [] → Does .tokenNonce s (fun d => d.mgmt.tokenNonce = d0.mgmt.tokenNonce ∧
        if d0.mode = .loader ∧ d0.mgmt.ldrCause = 0x000A then answers E_OK (d0.mgmt.tokenNonce.getD []) d else answers E_PERM [] d)) ∧
      (r.cmd = 0x42 → d0.mode = .loader → d0.mgmt.ldrCause = 0x000A → Does .factoryToken s (fun d =>
        let code := if d0.tokenCode r.payload ≠ E_OK then d0.tokenCode r.payload
          else if Config.mldsaVerify Config.factoryKey (ascii "RLNF" ++ r.payload.take 96) [] (r.payload.drop 96) = true then E_OK else E_AUTH
        if code = E_OK then answers E_OK [] d ∧ d.sys.startup = some 0x000B
        else answers code [] d ∧ Raised 27 d0 d ∧ d.sys.startup = d0.sys.startup ∧
          ∃ n, n.length = 32 ∧ d.mgmt.tokenNonce = some n)))

/-- MGMT_REQUEST, MGMT_FETCH, MGMT_SYNC_ERROR, MGMT_TRUNCATED (R465 to R469). That a truncated frame's mismatch ends within its command is
the model's (log entry 121). -/
def Obligations.ManagementFrames : Prop :=
  ∀ (s : State),
    let d0 := s.dev
    let idle := fun (d : Dev) => d.mgmt.executing = d0.mgmt.executing
    let resp := if d0.mgmt.executing.isSome then 1 else if d0.mgmt.response.isSome then 2 else 0
    let status : Byte := BitVec.ofNat 8 ((if d0.mgmt.notices = [] then 0 else 128) +
      (if d0.fld Fld.MGT_STATUS_HOLDER = 2 then 64 else 0) + resp)
    let trunc := fun (d : Dev) => Bumped Fld.MGT_ERR_TRUNC d0 d ∧ Bumped (Fld.FLT_XGRP_HALF 15) d0 d ∧
      d.faultQ.queue = d0.faultQ.queue ++ [(47, 1)] ∧ d.mgmt = d0.mgmt ∧ d.halfReset 15 = false
    let sync := fun (d : Dev) => Bumped Fld.MGT_ERR_SYNC d0 d ∧ Raised 24 d0 d ∧ d.mgmt = d0.mgmt
    let fetched := fun (n : Nat) (d : Dev) =>
      let body := if resp = 2 then d0.mgmt.response.getD [] else []
      d.out = [.miso (status :: (body ++ List.replicate n 0).take n)] ∧ idle d ∧ OtherRegs [] d0 d ∧
      d.mgmt.response = if resp = 2 ∧ body.length ≤ n then none else d0.mgmt.response
    d0.portUp = true → d0.halfReset 15 = false →
    (∀ f : List Byte, let len := beNat (bytesAt f 4 2)
      let seq := beNat (bytesAt f 1 2)
      let cmd := (f.getD 3 0).toNat
      let whole := f.getD 0 0 = 0xC5 ∧ 8 + len ≤ f.length
      let crcOk := frameCrc (f.take (6 + len)) = beNat (bytesAt f (6 + len) 2)
      let nak := fun (code : Nat) (d : Dev) => d.mgmt.response = some (respFrame seq 0xFF code []) ∧ idle d
      (f ≠ [] → f.getD 0 0 ≠ 0x96 → Does (.mgmtRequest f) s (fun d => d.out = [.miso (status :: List.replicate (f.length - 1) 0)])) ∧
      (f.getD 0 0 = 0x96 → Does (.mgmtRequest f) s (fetched (f.length - 1))) ∧
      (f ≠ [] → f.getD 0 0 ≠ 0xC5 → f.getD 0 0 ≠ 0x96 → Does (.mgmtRequest f) s sync) ∧
      (f.getD 0 0 = 0xC5 → f.length < 8 + len → Does (.mgmtRequest f) s trunc) ∧
      (whole → d0.mgmt.executing ≠ none → Does (.mgmtRequest f) s (fun d => Bumped Fld.MGT_ERR_OVERRUN d0 d ∧ d.mgmt = d0.mgmt)) ∧
      (whole → d0.mgmt.executing = none →
        (4104 < len → Does (.mgmtRequest f) s (fun d => nak E_LEN d ∧ d.faultQ = d0.faultQ)) ∧
        (len ≤ 4104 → ¬crcOk → Does (.mgmtRequest f) s (fun d => nak E_AUTH d ∧ Bumped Fld.MGT_ERR_CRC d0 d ∧ Raised 24 d0 d)) ∧
        (len ≤ 4104 → crcOk → d0.mgmt.lastReq = some (f.take (8 + len)) → Does (.mgmtRequest f) s (fun d =>
          idle d ∧ d.mgmt.response = some d0.mgmt.lastResp ∧ OtherRegs [] d0 d)) ∧
        (len ≤ 4104 → crcOk → d0.mgmt.lastReq ≠ some (f.take (8 + len)) → Does (.mgmtRequest f) s (fun d =>
          d.mgmt.lastReq = some (f.take (8 + len)) ∧ OtherRegs [] d0 d ∧
          if cmd ∈ [0, 1, 2, 3, 4, 5, 6, 7, 0x10, 0x11, 0x20, 0x21, 0x30, 0x31, 0x40, 0x41, 0x42] then
            d.mgmt.executing = some ⟨seq, cmd, bytesAt f 6 len⟩ ∧ d.mgmt.response = none
          else d.mgmt.executing = none ∧ d.mgmt.response = some (respFrame seq cmd E_VERSION []))))) ∧
    (∀ count : BitVec 16, let zeros := fun (d : Dev) => d.out = [.miso (status :: List.replicate (count.toNat - 1) 0)]
      count ≠ 0 →
      Does (.mgmtFetch count) s (fetched (count.toNat - 1)) ∧
      (∀ b : Byte, b ≠ 0xC5 → b ≠ 0x96 → Does (.mgmtSyncError b count) s (fun d => sync d ∧ zeros d)) ∧
      Does (.mgmtTruncated count) s (fun d => trunc d ∧ zeros d))

/-- MGMT_NOP, MGMT_STATUS, NOTICE_FETCH, CAL_READ, MGMT_WAKE, MGMT_RESET, MGMT_FORCE_SAFE, MGMT_LEASE_TAKE, MGMT_LEASE_RELEASE,
HOST_LEASE_TAKE, HOST_LEASE_RELEASE (R469, R471, R476, R477). How two TAKE requests of one cycle reach the queue is log entry 214. -/
def Obligations.ManagementCommands : Prop :=
  ∀ (s : State),
    let d0 := s.dev
    let holder := fun (d : Dev) => d.fld Fld.MGT_STATUS_HOLDER
    let silent := fun (m : Nat) => let t := d0.fld (if m = 1 then Fld.MGT_LEASE_CFG_HOST_SILENCE else Fld.MGT_LEASE_CFG_MGMT_SILENCE)
      t ≠ 0 ∧ (if m = 1 then d0.mgmt.hostSeen else d0.mgmt.lastValid) + 1000000 * t ≤ d0.tns
    (∀ r : MgmtReq, d0.mgmt.executing = some r → d0.portUp = true →
      let answers := fun (code : Nat) (payload : List Byte) (d : Dev) =>
        d.mgmt.executing = none ∧ d.mgmt.response = some (respFrame r.seq r.cmd code payload)
      let op := (r.payload.getD 0 0).toNat
      (r.cmd = 0 → Does .mgmtNop s (fun d => OtherRegs [] d0 d ∧ if r.payload = [] then answers E_OK [] d else answers E_LEN [] d)) ∧
      (r.cmd = 1 → r.payload = [] → Does .mgmtStatus s (fun d => OtherRegs [] d0 d ∧ answers E_OK
        (leBytes 1 (modeCode d0.mode) ++ leBytes 1 (d0.fld Fld.SYS_MODE_PREV) ++ beBytes 2 (d0.fld Fld.SYS_MODE_CAUSE) ++
          beBytes 2 d0.sys.detail ++ beBytes 4 (d0.rd Reg.SYS_WAKE).toNat ++ leBytes 1 (holder d0) ++
          leBytes 1 d0.mgmt.notices.length ++ beBytes 4 (d0.rd Reg.LDR_STATE).toNat) d)) ∧
      (r.cmd = 2 → r.payload.length = 1 → Does .noticeFetch s (fun d =>
        if 1 ≤ op ∧ op ≤ 32 then answers E_OK ((d0.mgmt.notices.take op).map Notice.bytes).flatten d ∧
          d.mgmt.notices = d0.mgmt.notices.drop op ∧ d.fld Fld.MGT_STATUS_NOTICES = (d0.mgmt.notices.length - op) % 64
        else answers E_LEN [] d ∧ d.mgmt.notices = d0.mgmt.notices)) ∧
      (r.cmd = 3 → r.payload = [] → Does .calRead s (fun d => OtherRegs [] d0 d ∧ ∃ st : Byte, answers E_OK
        (beBytes 5 (d0.pair Fld.TB_CAL_SEC_LO_SEC Fld.TB_CAL_SEC_HI_SEC) ++ beBytes 2 (d0.fld Fld.TB_CAL_SUB) ++ [st]) d)) ∧
      (r.cmd = 4 → r.payload = [] → d0.sys.woken = false → Does .mgmtWake s (fun d => d.mode = d0.mode ∧
        if d0.mode = .doze ∨ d0.mode = .sleep then answers E_OK [] d ∧ d.sys.woken = true ∧
          d.flag Fld.SYS_WAKE_WOKE = true ∧ d.fld Fld.SYS_WAKE_KIND = 6 else answers E_PERM [] d ∧ d.sys.woken = false)) ∧
      (r.cmd = 5 → r.payload = [] → Does .mgmtReset s (fun d =>
        if d0.mode ≠ .held ∧ d0.mode ≠ .limp then answers E_OK [] d ∧
          ((d.mode = .held ∧ d.fld Fld.SYS_MODE_CAUSE = 5) ∨ (d.mode = .limp ∧ d.anyLimp = true))
        else answers E_PERM [] d ∧ d.mode = d0.mode)) ∧
      (r.cmd = 6 → r.payload.length = 1 → op < 8 → Does .mgmtForceSafe s (fun d =>
        if d0.inService = true then answers E_OK [] d ∧ d.mode = .safe ∧ Bumped Fld.FLT_STATUS_SAFECNT d0 d ∧ (18, 1) ∈ d.faultQ.queue
        else answers E_PERM [] d ∧ d.mode = d0.mode)) ∧
      (r.cmd = 7 → r.payload = [1] → Does .mgmtLeaseTake s (fun d =>
        if holder d0 = 0 ∨ holder d0 = 2 ∨ (holder d0 = 1 ∧ silent 1) ∨ (holder d0 = 3 ∧ silent 3) then
          answers E_OK [2] d ∧ holder d = 2 ∧ (holder d0 ≠ 2 → Raised 25 d0 d)
        else answers E_PERM [] d ∧ holder d = holder d0 ∧ d.faultQ = d0.faultQ)) ∧
      (r.cmd = 7 → r.payload = [2] → Does .mgmtLeaseRelease s (fun d =>
        if holder d0 = 2 then answers E_OK [0] d ∧ holder d = 0 else answers E_PERM [] d ∧ holder d = holder d0))) ∧
    (d0.writeCode .host Reg.MGT_LEASE 0x7C000001 = E_OK → d0.mgmt.hostSeen ≤ d0.tns → Does (.hostLeaseTake false) s (fun d =>
      if holder d0 = 0 ∨ holder d0 = 1 ∨ (2 ≤ holder d0 ∧ silent 2) then holder d = 1 ∧ d.fld Fld.MGT_STATUS_CODE = E_OK
      else holder d = holder d0 ∧ d.fld Fld.MGT_STATUS_CODE = E_PERM)) ∧
    (∀ seq, d0.mgmt.executing = some ⟨seq, 7, [1]⟩ → d0.portUp = true → d0.writeCode .host Reg.MGT_LEASE 0x7C000001 = E_OK →
      holder d0 = 0 → ¬silent 2 → Does (.hostLeaseTake true) s (fun d => holder d = 2 ∧ d.fld Fld.MGT_STATUS_CODE = E_PERM ∧
        d.mgmt.response = some (respFrame seq 7 E_OK [2]))) ∧
    (d0.writeCode .host Reg.MGT_LEASE 0x7C000002 = E_OK → Does .hostLeaseRelease s (fun d =>
      if holder d0 = 1 then holder d = 0 ∧ d.fld Fld.MGT_STATUS_CODE = E_OK
      else holder d = holder d0 ∧ d.fld Fld.MGT_STATUS_CODE = E_PERM))

/-- BLOCK_READ, BLOCK_WRITE, REC_EXPORT, MGMT_ATTEST, OTP_READ, OTP_PROG (R405, R412, R470, R472). The rival writes of a store cycle come
with the command (log entry 15); that ATTEST waits for the ML-DSA engine is log entry 212, its codes log entry 213. -/
def Obligations.ManagementAccess : Prop :=
  ∀ (s : State) (r : MgmtReq),
    let d0 := s.dev
    let answers := fun (code : Nat) (payload : List Byte) (d : Dev) =>
      d.mgmt.executing = none ∧ d.mgmt.response = some (respFrame r.seq r.cmd code payload)
    let addr := beNat (bytesAt r.payload 0 5)
    let node := addr / 2 ^ 34 % 64
    let space := addr / 2 ^ 30 % 16
    let off := addr % 2 ^ 30
    let service := (d0.inService || d0.mode = .configure) && !d0.flag Fld.SYS_STATUS_HALT
    d0.mgmt.executing = some r → d0.portUp = true →
    (r.cmd = 0x10 → r.payload.length = 8 → d0.mgmt.ringResult = none → (∀ x ∈ d0.drv.reads, x.by_ ≠ .mgmt) → node = 0 →
      let n := beNat (bytesAt r.payload 6 2)
      let codes := [if (r.payload.getD 5 0) = 0 then E_OK else E_VERSION, if blockSizeOk false addr n then E_OK else E_SIZE,
        d0.blockTargetCode false addr n]
      Does .blockRead s (fun d => if lowestCode codes ≠ 0 then answers (lowestCode codes) [] d ∧ OtherRegs [] d0 d
        else answers E_OK (Dev.node0Read .mgmt space off n { d0 with out := [] }).1 d)) ∧
    (r.cmd = 0x11 → 8 ≤ r.payload.length → node = 0 →
      let bs := r.payload.drop 8
      let codes := [if beNat (bytesAt r.payload 5 3) = 0 then E_OK else E_VERSION, if blockSizeOk true addr bs.length then E_OK else E_SIZE,
        d0.blockTargetCode true addr bs.length]
      let held := d0.fld Fld.MGT_STATUS_HOLDER = 0 ∨ d0.fld Fld.MGT_STATUS_HOLDER = 2
      ∀ rivals : List StoreReq,
      (lowestCode codes ≠ 0 ∧ lowestCode codes ≠ E_PERM → Does (.blockWrite rivals) s (fun d =>
        (∃ c, c ≠ 0 ∧ answers c [] d) ∧ OtherRegs [] d0 d ∧ d.store = d0.store ∧ d.sys = d0.sys ∧ d.settings = d0.settings)) ∧
      (lowestCode codes = 0 → space = 2 → Does (.blockWrite rivals) s (fun d => answers E_OK [] d ∧
        ∀ k, Tab.get (fun _ => 0) d.sys.staged k =
          if off ≤ k ∧ k < off + bs.length then bs.getD (k - off) 0 else Tab.get (fun _ => 0) d0.sys.staged k)) ∧
      (space = 1 → ¬held → Does (.blockWrite rivals) s (fun d => (∃ c, c ≠ 0 ∧ answers c [] d) ∧ d.store = d0.store)) ∧
      (lowestCode codes = 0 → space = 1 → held →
        let n : Fin 131072 := Fin.ofNat 131072 (off / 16)
        let w : Tagged := ⟨BitVec.ofNat 32 (leNat (bs.take 8)), BitVec.ofNat 8 (leNat (bs.take 8) / 2 ^ 32)⟩
        Does (.blockWrite rivals) s (fun d => OtherSlots n.val d0 d ∧ d.fld Fld.MGT_STATUS_HOLDER = 2 ∧
          if d0.storeAdmits .mgmt n.val = true then answers E_OK [] d ∧ SlotTakes n (⟨.mgmt, n, w, none⟩ :: onSlot n rivals) d0 d
          else answers E_PERM [] d ∧ d.slot n.val = d0.slot n.val))) ∧
    (r.cmd = 0x20 → r.payload.length = 8 → Does .recExport s (fun d => OtherRegs [] d0 d ∧
      match d0.sec.sectors.find? (fun x => x.sseq = beNat (bytesAt r.payload 0 8)) with
      | some x => if service = true then answers E_OK x.plain d else answers E_PERM [] d
      | none => answers E_PERM [] d)) ∧
    (r.cmd = 0x21 → r.payload.length = 32 → Does .mgmtAttest s (fun d =>
      if service = false ∨ d0.flag Fld.KS_STATUS_DRBG_OK = false then answers E_PERM [] d
      else if d0.pqTaken = true then d = { d0 with out := [] }
      else if d0.deviceKey.1 ≠ E_OK then answers d0.deviceKey.1 [] d
      else ∃ i g, 1 ≤ i ∧ i ≤ 1000 ∧ d.fld Fld.PQ_ITER = i ∧
        if i = 1000 then answers E_TIMEOUT [] d ∧ (359, 1) ∈ d.faultQ.queue
        else answers E_OK (d0.attestBody r.payload ++ beBytes 3309
          (Config.mldsaSign d0.deviceKey.2 (ascii "RLNT" ++ d0.attestBody r.payload) [] g)) d)) ∧
    (let k := (r.payload.getD 0 0).toNat
      let otp := (d0.mode = .run ∨ d0.mode = .degraded ∨ d0.mode = .factory) ∧ d0.hasLoads = true
      k < 2 →
      (r.cmd = 0x30 → r.payload.length = 1 → Does .otpRead s (fun d => OtherRegs [] d0 d ∧
        (otp → answers E_OK ((List.range 13).map (fun w => leBytes 4 (d0.otpRead k w))).flatten d) ∧ (¬otp → answers E_PERM [] d))) ∧
      (r.cmd = 0x31 → r.payload.length = 8 → beNat (bytesAt r.payload 2 2) = 0 →
        let w := (r.payload.getD 1 0).toNat
        let v := beNat (bytesAt r.payload 4 4)
        let bad := fun (d : Dev) => d.loads.otpBad.contains (13 * k + w)
        otpFits w v = true →
        (otp → d0.otpMayProg k w = true → Does .otpProg s (fun d => ∃ read : Word, 13 * k + w ∈ d.loads.otpDone ∧
          Tab.get (fun _ => 0) d.loads.otp (13 * k + w) = read ∧
          (∀ i, i ≠ 13 * k + w → Tab.get (fun _ => 0) d.loads.otp i = Tab.get (fun _ => 0) d0.loads.otp i) ∧
          if read.toNat = v then answers E_OK [] d ∧ bad d = bad d0 else answers E_AUTH [] d ∧ bad d = true)) ∧
        (¬otp ∨ d0.otpMayProg k w = false → Does .otpProg s (fun d => answers E_PERM [] d ∧ d.loads = d0.loads))))

/-- TD_LOAD, TD_RATE, TD_ADJ, LOCK_SET, LOCK_CLR, GPTP_FRAME_RECEIVE, SYNC_LOSS, SYNC_INTERVAL_TIMER (R131 to R137, R142, R143, R214).
The master's time that a Sync or its Follow_Up carries comes with the command, and so does the delay of a link (log entry 46). -/
def Obligations.TimeDomains : Prop :=
  ∀ (s : State) (p : Path) (k : Fin 2),
    let d0 := s.dev
    let f := d0.frc.toNat
    let t := d0.tdTime k f
    let secs := d0.tdShadow (Reg.TB_TD_OFS_SEC_LO k) + d0.tdShadow (Reg.TB_TD_OFS_SEC_HI k) * 2 ^ 32
    let ns := d0.tdShadow (Reg.TB_TD_OFS_NS k)
    let anchor := d0.tdShadow (Reg.TB_TD_ANCHOR_LO k) + d0.tdShadow (Reg.TB_TD_ANCHOR_HI k) * 2 ^ 32
    let rate := (BitVec.ofNat 40 (d0.tdShadow (Reg.TB_TD_RATE_LO k) + d0.tdShadow (Reg.TB_TD_RATE_HI k) * 2 ^ 32)).toInt
    let rateGood := -1099511628 ≤ rate ∧ rate ≤ 1099511628
    let adj := (d0.rd (Reg.TB_TD_ADJ k)).toInt
    let ofs : Int := ((secs * 1000000000 + ns : Nat) : Int) * 65536
    let master := p = .host ∨ p = .mgmt
    let servoHost := d0.flag (Fld.TB_TD_STATUS_SERVO k) = true
    let open_ := ¬(¬servoHost ∧ master) ∧ ¬(d0.flag Fld.SYS_STATUS_HALT = true ∧ p = .supervisor)
    let follows := d0.flag Fld.TB_SYS_STATUS_SET = true ∧ d0.sysSrc = k.val + 1
    let near := fun (exact : Int) => follows → -(2 ^ 39 - 1) ≤ d0.residAt f + (exact - t) / 65536 ∧ d0.residAt f + (exact - t) / 65536 ≤ 2 ^ 39 - 1
    let code := fun (d : Dev) => d.fld (Fld.TB_TD_STATUS_CODE k)
    let other := fun (d : Dev) => ∀ (j : Fin 2), j ≠ k → ∀ g, d.tdTime j g = d0.tdTime j g
    let refused := fun (d : Dev) => code d = E_PERM ∧ (∀ (j : Fin 2) g, d.tdTime j g = d0.tdTime j g) ∧ d.time = d0.time
    let locked := fun (d : Dev) => d.locked k
    let cfg := fun (d : Dev) => d.tdCfg k
    (d0.inService = true →
      (d0.writeCode p (Reg.TB_TD_CTRL k) 0x7C000001 = E_OK → Does (.tdLoad p k) s (fun d =>
        let exact := ofs + tdAdvance (frcDiff f anchor) rate
        if ns ≤ 999999999 ∧ rateGood ∧ 0 ≤ exact ∧ open_ ∧ near exact then
          code d = E_OK ∧ other d ∧ (∀ g, d.tdTime k g = (ofs + tdAdvance (frcDiff g anchor) rate) % tdRange) ∧
          (follows → exact < tdRange → 0 ≤ d.sysTime f - d0.sysTime f ∧ d.sysTime f - d0.sysTime f < 65536)
        else refused d)) ∧
      (d0.writeCode p (Reg.TB_TD_CTRL k) 0x7C000002 = E_OK → Does (.tdRate p k) s (fun d =>
        if rateGood ∧ open_ ∧ near t then
          code d = E_OK ∧ other d ∧ (∀ g, d.tdTime k g = (t + tdAdvance (frcDiff g f) rate) % tdRange) ∧ d.tdTime k f = t ∧
          d.residAt f = d0.residAt f
        else refused d)) ∧
      (d0.writeCode p (Reg.TB_TD_CTRL k) 0x7C000003 = E_OK → Does (.tdAdj p k) s (fun d =>
        if 0 ≤ t + adj * 65536 ∧ open_ ∧ near (t + adj * 65536) then
          code d = E_OK ∧ other d ∧ (∀ g, d.tdTime k g = (d0.tdTime k g + adj * 65536) % tdRange) ∧
          (follows → d.residAt f = d0.residAt f + adj ∧ (t + adj * 65536 < tdRange → d.sysTime f = d0.sysTime f)) ∧
          (adj < 0 → ∀ n x, Tab.get (fun _ => none) d0.can.ctls n = some x → Tab.get (fun _ => none) d.can.ctls n =
            some (if x.ref = k.val + 1 then { x with landed := some ((t + adj * 65536) / 65536) } else x))
        else refused d))) ∧
    (d0.writeCode p (Reg.TB_TD_CTRL k) 0x7C000004 = E_OK → Does (.lockSet p k) s (fun d =>
      locked d = (locked d0 || (d0.inService && decide (p ≠ .supervisor) && d0.flag (Fld.TB_TD_STATUS_SERVO k))) ∧
      (d0.inService = true → p ≠ .supervisor → servoHost → d0.flag Fld.TB_SYS_STATUS_PENDING = true →
        d0.flag Fld.TB_SYS_STATUS_SET = false → d0.sysSrc = k.val + 1 →
        d.flag Fld.TB_SYS_STATUS_SET = true ∧ d.flag Fld.TB_SYS_STATUS_PENDING = false ∧ d.sysTime f = t))) ∧
    (d0.writeCode p (Reg.TB_TD_CTRL k) 0x7C000008 = E_OK → Does (.lockClr p k) s (fun d =>
      let takes := d0.inService = true ∧ p ≠ .supervisor ∧ servoHost
      let delta := (d0.tdTime (1 - k.val) f - d0.sysTime f) / 65536
      (takes → locked d = false) ∧ (¬takes → locked d = locked d0 ∧ d.sysSrc = d0.sysSrc) ∧
      (d0.time.auto = false → d.sysSrc = d0.sysSrc) ∧
      (takes → d0.time.auto = true → locked d0 = true → follows → d0.locked (1 - k.val) = true → -(2 ^ 39 - 1) ≤ delta → delta ≤ 2 ^ 39 - 1 →
        d.sysSrc = 2 - k.val ∧ 0 ≤ d.sysTime f - d0.sysTime f ∧ d.sysTime f - d0.sysTime f < 65536))) ∧
    (∀ (port : Fin 12) (n : Fin 128), d0.inService = true → (cfg d0).present = true → d0.fld (Fld.TB_TD_STATUS_DOMNUM k) = n.val →
      (cfg d0).portMask.testBit port.val = true → (∀ (j : Fin 2), j ≠ k → d0.fld (Fld.TB_TD_STATUS_DOMNUM j) ≠ n.val) →
      let c := cfg d0
      let missed := fun (d : Dev) => d.fld (Fld.TB_TD_STATUS_MISSED k)
      let lat := Tab.get (fun _ => ((0, 0, 0) : Nat × Nat × Int)) d0.time.ports port
      let stamp := (((f : Int) * 65536 - lat.1 - lat.2.2) / 65536).toNat
      let small := fun (at' : Nat) (m : Int) =>
        let r := d0.tdTime k at' / 65536 - m - (Tab.get (fun _ => (0 : Nat)) d0.time.linkDelay port : Nat)
        some (c.small.getD true && decide (-1000 < r ∧ r < 1000))
      let quiet := fun (d : Dev) => locked d = locked d0 ∧ d.faultQ = d0.faultQ ∧ ∀ (j : Fin 2) g, d.tdTime j g = d0.tdTime j g
      (d0.flag (Fld.ETH_STATUS_HELD port) = false →
        (∀ m : Int,
          Does (.gptpFrameReceive port n (.sync m)) s (fun d =>
            cfg d = { c with gotSync := true, lost := false, half := none, small := small stamp m } ∧ missed d = 0 ∧ quiet d) ∧
          Does (.gptpFrameReceive port n (.followUp m)) s (fun d => missed d = missed d0 ∧ quiet d ∧
            cfg d = match c.half with
              | some (q, g) => if q = port.val then { c with half := none, small := small g m } else c
              | none => c)) ∧
        Does (.gptpFrameReceive port n .twoStepSync) s (fun d =>
          cfg d = { c with gotSync := true, lost := false, half := some (port.val, stamp) } ∧ missed d = 0 ∧ quiet d) ∧
        (∀ v : BitVec 208, Does (.gptpFrameReceive port n (.announce v)) s (fun d => missed d = missed d0 ∧ quiet d ∧
          cfg d = { c with heard := Tab.set (fun _ => (0, 0)) c.heard port.val (v.toNat, d0.tns) })) ∧
        (∀ delay : BitVec 32, Does (.gptpFrameReceive port n (.peerDelay delay)) s (fun d => d.regs = d0.regs ∧ d.time.cfg = d0.time.cfg ∧
          ∀ j, Tab.get (fun _ => 0) d.time.linkDelay j = if j = port.val then delay.toNat else Tab.get (fun _ => 0) d0.time.linkDelay j)) ∧
        Does (.gptpFrameReceive port n .other) s (fun d => d = { d0 with out := [] })) ∧
      (d0.flag (Fld.ETH_STATUS_HELD port) = true → ∀ msg, Does (.gptpFrameReceive port n msg) s (fun d => d = { d0 with out := [] }))) ∧
    Does (.syncLoss k) s (fun d =>
      if d0.inService = true ∧ (cfg d0).present = true ∧ (cfg d0).lost = false ∧ (cfg d0).syncLoss ≤ d0.fld (Fld.TB_TD_STATUS_MISSED k) then
        locked d = false ∧ (cfg d).lost = true ∧ (cfg d).good = 0 ∧ Raised (98 + k.val) d0 d ∧ ∀ (j : Fin 2) g, d.tdTime j g = d0.tdTime j g
      else d = { d0 with out := [] }) ∧
    Does (.syncIntervalTimer k) s (fun d =>
      let c := cfg d0
      if d0.inService = true ∧ c.present = true ∧ c.due ≤ d0.tns then
        let good := if c.gotSync = true ∧ c.small = some true then min (c.good + 1) 8 else 0
        let supervises := d0.flag (Fld.TB_TD_STATUS_SERVO k) = false ∧ d0.flag Fld.SYS_STATUS_HALT = false
        let held := fun (j : Nat) => d0.flag (Fld.ETH_STATUS_HELD j)
        let ports := (d0.gptpPorts k).filter (fun j => !held j)
        let num := d0.fld (Fld.TB_TD_STATUS_DOMNUM k)
        (∀ j ∈ d0.gptpPorts k, j < 12 ∧ c.portMask.testBit j = true ∧ (d0.swCfg j).isSome = true ∧ d0.swLink j = true) ∧
        (¬supervises → d.out = []) ∧
        (supervises → d.out = if ports = [] then []
          else [.gptpAnnounce k num (maskOf ports) c.prio1 c.prio2 c.gmCapable, .gptpSync k num (maskOf ports)]) ∧
        cfg d = { c with
          gotSync := false, half := none, small := none, good := good, due := c.due + c.interval
          followUps := if supervises then c.followUps ++ ports else c.followUps
          waits := if supervises then c.waits ++ (d0.gptpPorts k).filter held else c.waits } ∧
        locked d = (locked d0 || decide (good = 8 ∧ supervises)) ∧
        (if c.gotSync = true then d.fld (Fld.TB_TD_STATUS_MISSED k) = d0.fld (Fld.TB_TD_STATUS_MISSED k)
         else Bumped (Fld.TB_TD_STATUS_MISSED k) d0 d)
      else d = { d0 with out := [] })

/-- SYS_SELECT, SYS_SELECT_EFFECT, SYS_RESTART, SLEW_END, TX_TIMESTAMP, TSQ_READ, SNAPSHOT, PPS_EDGE, CAPTURE_EDGE, CAPTURE_READ (R129,
R130, R138 to R150). That a lost capture has a number is the model's choice (log entry 204). -/
def Obligations.SystemTimeAndStamps : Prop :=
  ∀ (s : State) (p : Path),
    let d0 := s.dev
    let f := d0.frc.toNat
    let set := fun (d : Dev) => d.flag Fld.TB_SYS_STATUS_SET
    let pending := fun (d : Dev) => d.flag Fld.TB_SYS_STATUS_PENDING
    let code := fun (d : Dev) => d.fld Fld.TB_SYS_STATUS_CODE
    let same := fun (d : Dev) => d = { d0 with out := [] }
    let joined := fun (d : Dev) => 0 ≤ d.sysTime f - d0.sysTime f ∧ d.sysTime f - d0.sysTime f < 65536
    let entry := fun (w0 : Nat) (ts : Int) (x : TsFifo) (e : TsEntry) =>
      e.w0 = BitVec.ofNat 32 (2 ^ 31 + (if x.lost = 0 then 0 else 2 ^ 30) + w0) ∧
      e.w1 = BitVec.ofNat 32 (x.lost * 65536 + (ts % 2 ^ 80).toNat % 65536) ∧
      e.w2 = BitVec.ofNat 32 ((ts % 2 ^ 80).toNat / 65536) ∧ e.w3 = BitVec.ofNat 32 ((ts % 2 ^ 80).toNat / 65536 / 2 ^ 32)
    let reads := fun (a : Nat) (x : TsFifo) (y : TsFifo) (d : Dev) => match x.entries with
      | [] => d.out = [.data p a 0] ∧ y = x
      | e :: es => d.out = [.data p a e.w0.toNat] ∧ y = { x with entries := es } ∧ d.latchedWord p (a + 4) = e.w1 ∧
          d.latchedWord p (a + 8) = e.w2 ∧ d.latchedWord p (a + 12) = e.w3
    (d0.inService = true →
      (∀ sel : Fin 4, d0.writeCode p Reg.TB_SYS_CTRL (0x7C000008 + sel.val) = E_OK → Does (.sysSelect p sel) s (fun d =>
        (∀ (j : Fin 2) g, d.tdTime j g = d0.tdTime j g) ∧
        if sel = 3 then code d = E_PERM ∧ d.sysSrc = d0.sysSrc ∧ d.time = d0.time
        else if set d0 = false then
          code d = E_OK ∧ d.sysSrc = sel.val ∧ (sel = 0 → set d = false ∧ pending d = false) ∧
          (sel ≠ 0 → set d = d0.locked (sel.val - 1) ∧ pending d = !d0.locked (sel.val - 1) ∧
            (d0.locked (sel.val - 1) = true → d.sysTime f = d0.tdTime (sel.val - 1) f))
        else if sel = 0 then
          code d = E_OK ∧ d.sysSrc = 0 ∧ set d = true ∧ ∀ g, d.sysTime g = d0.sysTime f +
            tdAdvance (frcDiff g f) (if d0.sysSrc = 0 then d0.time.hold.2.2 else d0.tdRate (d0.sysSrc - 1))
        else
          let delta := (d0.tdTime (sel.val - 1) f - d0.sysTime f) / 65536
          if -(2 ^ 39 - 1) ≤ delta ∧ delta ≤ 2 ^ 39 - 1 then code d = E_OK ∧ d.sysSrc = sel.val ∧ d.residAt f = delta ∧ joined d
          else code d = E_PERM ∧ d.sysSrc = d0.sysSrc ∧ d.time = d0.time)) ∧
      (d0.writeCode p Reg.TB_SYS_CTRL 0x7C000004 = E_OK → d0.sysSrc ≤ 2 → Does (.sysRestart p) s (fun d =>
        d.residAt f = 0 ∧ Bumped Fld.TB_SYS_STATUS_STEPS d0 d ∧ (100, 1) ∈ d.faultQ.queue ∧ d.sysSrc = d0.sysSrc ∧
        set d = (decide (d0.sysSrc ≠ 0) && d0.locked (d0.sysSrc - 1)) ∧
        pending d = (decide (d0.sysSrc ≠ 0) && !d0.locked (d0.sysSrc - 1)) ∧
        (set d = true → d.sysTime f = d0.tdTime (d0.sysSrc - 1) f) ∧ (set d = false → ∀ g, d.sysTime g = 0))) ∧
      (set d0 = false → d0.sysSrc = 1 ∨ d0.sysSrc = 2 → Does .sysSelectEffect s (fun d =>
        if pending d0 = true ∧ d0.locked (d0.sysSrc - 1) = true then
          set d = true ∧ pending d = false ∧ d.residAt f = 0 ∧ d.sysTime f = d0.tdTime (d0.sysSrc - 1) f
        else set d = false ∧ pending d = pending d0))) ∧
    Does .slewEnd s (fun d =>
      if d0.flag Fld.TB_SYS_STATUS_SLEWING = true ∧ d0.residAt f = 0 then
        d.flag Fld.TB_SYS_STATUS_SLEWING = false ∧ d.time.resid = 0 ∧ d.sysTime f = d0.sysTime f
      else same d) ∧
    (∀ (port : Fin 12) host (queue : Fin 64) (tag : BitVec 16),
      let asked := host = false ∨ (d0.flag (Fld.TB_TSQ_STATUS_CONSUMER port) = true ∧ d0.tsAsked port queue tag.toNat = true)
      let x := d0.tsq port
      let lat := (Tab.get (fun _ => ((0, 0, 0) : Nat × Nat × Int)) d0.time.ports port).2.1
      Does (.txTimestamp port host queue tag) s (fun d =>
        if d0.inService = true ∧ asked then
          (∀ j : Fin 12, j ≠ port → d.tsq j = d0.tsq j) ∧
          (∀ q : Fin 2, let sent := (d0.tdCfg q).followUps
            host = false → d0.flag Fld.SYS_STATUS_HALT = false → port.val ∈ sent → (q = 1 → port.val ∉ (d0.tdCfg 0).followUps) →
            (d.tdCfg q).followUps = sent.erase port.val ∧ Emit.gptpFollowUp q (d0.fld (Fld.TB_TD_STATUS_DOMNUM q)) port
              (d0.tdTime q (((f : Int) * 65536 + (lat : Int)) / 65536).toNat / 65536) ∈ d.out) ∧
          (if 32 ≤ x.entries.length then
            (d.tsq port).entries = x.entries ∧ (d.tsq port).lost = min (x.lost + 1) 65535 ∧ Bumped (Fld.TB_TSQ_OVF_COUNT port) d0 d ∧
            Raised 96 d0 d
          else ∃ e, entry ((if host then 2 ^ 29 else 0) + queue.val * 2 ^ 23 + tag.toNat) ((f : Int) * 65536 + (lat : Int)) x e ∧
            d.tsq port = ⟨x.entries ++ [e], 0⟩ ∧ d.fld (Fld.TB_TSQ_STATUS_FILL port) = x.entries.length + 1)
        else same d)) ∧
    (∀ port : Fin 12, d0.pathOpen p (Reg.TB_TSQ_W0 port) = true → Does (.tsqRead p port) s (fun d =>
      if p = (if d0.flag (Fld.TB_TSQ_STATUS_CONSUMER port) = true then .host else .supervisor) then
        reads (Reg.TB_TSQ_W0 port) (d0.tsq port) (d.tsq port) d
      else d.out = [.data p (Reg.TB_TSQ_W0 port) 0] ∧ d.time = d0.time)) ∧
    (d0.writeCode p Reg.TB_SNAP 1 = E_OK → Does (.snapshot p) s (fun d => d.regs = d0.regs ∧ d.time = d0.time ∧
      d.latchedWord p Reg.TB_SNAP_FRC_LO = BitVec.ofNat 32 f ∧ d.latchedWord p Reg.TB_SNAP_FRC_HI = BitVec.ofNat 32 (f / 2 ^ 32) ∧
      ∀ k : Fin 3, let time := if k.val < 2 then d0.tdTime k f else d0.sysTime f
        let valid := if k.val < 2 then d0.locked k else set d0
        let ns := (time % tdRange).toNat / 65536
        d.latchedWord p (Reg.TB_SNAP_SEC_LO k) = BitVec.ofNat 32 (ns / 1000000000) ∧
        d.latchedWord p (Reg.TB_SNAP_SEC_HI k) = BitVec.ofNat 32 ((if valid = true then 2 ^ 31 else 0) + ns / 1000000000 / 2 ^ 32) ∧
        d.latchedWord p (Reg.TB_SNAP_NS k) = BitVec.ofNat 32 (ns % 1000000000) ∧
        d.latchedWord p (Reg.TB_SNAP_FRAC k) = BitVec.ofNat 32 ((time % tdRange).toNat % 65536))) ∧
    (∀ k : Fin 4, let per : Int := d0.fld (Fld.TB_PPS_PERIOD k)
      let now := d0.ppsTime k f
      let phase : Int := d0.fld (Fld.TB_PPS_PHASE k)
      let edge := now - (now - phase) % per
      Does (.ppsEdge k) s (fun d =>
        if d0.inService = true ∧ d0.flag (Fld.TB_PPS_CTRL_EN k) = true ∧ per ≠ 0 ∧ now - edge ≤ 1 ∧ d0.ppsWas k edge = false ∧
            (d0.fld (Fld.TB_PPS_CTRL_SRC k) = 3 → set d0 = true) then
          d.out = (if d0.pinBound 8 k then [.pps k (!d0.flag (Fld.TB_PPS_CTRL_POL k))] else []) ∧ (edge - phase) % per = 0 ∧
          Tab.get (fun _ => none) d.time.ppsOn k = some (d0.tns + d0.fld (Fld.TB_PPS_WIDTH k)) ∧ d.regs = d0.regs ∧
          (∀ e, (e - phase) % per = 0 → (d.ppsWas k e = true ↔ d0.ppsWas k e = true ∨ e = edge)) ∧
          ∀ j : Fin 4, j ≠ k → ∀ e, d.ppsWas j e = d0.ppsWas j e
        else same d)) ∧
    (∀ (i : Fin 8) rising (delay : BitVec 16),
      let c := Tab.get (fun _ => ((0, 0, false) : Nat × Nat × Bool)) d0.time.capCfg i
      let num := fun (d : Dev) => Tab.get (fun _ => 0) d.time.capNum i
      let x := d0.capFifo i
      Does (.captureEdge i rising delay) s (fun d =>
        if d0.inService = true ∧ d0.pinBound 9 i = true ∧ c.1.testBit (if rising then 0 else 1) = true ∧ filterNs c.2.1 ≤ delay.toNat then
          num d = (num d0 + 1) % 65536 ∧
          (if 8 ≤ x.entries.length then
            (d.capFifo i).entries = x.entries ∧ (d.capFifo i).lost = min (x.lost + 1) 65535 ∧ Bumped (Fld.TB_CAP_OVF_COUNT i) d0 d ∧
            Raised 97 d0 d
          else ∃ e, entry ((if rising then 65536 else 0) + num d0) (((f : Int) - (delay.toNat : Int)) * 65536) x e ∧
            d.capFifo i = ⟨x.entries ++ [e], 0⟩ ∧ d.fld (Fld.TB_CAP_STATUS_FILL i) = x.entries.length + 1)
        else same d)) ∧
    (∀ i : Fin 8, d0.pathOpen p (Reg.TB_CAP_W0 i) = true → Does (.captureRead p i) s (fun d =>
      if p = (if (Tab.get (fun _ => ((0, 0, false) : Nat × Nat × Bool)) d0.time.capCfg i).2.2 = true then .host else .supervisor) then
        reads (Reg.TB_CAP_W0 i) (d0.capFifo i) (d.capFifo i) d
      else d.out = [.data p (Reg.TB_CAP_W0 i) 0] ∧ d.time = d0.time))

/-- CAL_WRITE, CAL_LOAD, TAMP_CLR, CALENDAR_ALARM, OSC_STOP, BACKUP_SUPPLY_LOSS (R151, R153, R155 to R157, R460). -/
def Obligations.Calendar : Prop :=
  ∀ (s : State) (p : Path),
    let d0 := s.dev
    let busy := fun (d : Dev) => d.flag Fld.TB_CAL_STATUS_WBUSY
    let same := fun (d : Dev) => d = { d0 with out := [] }
    let tamp := [Reg.TB_CAL_TAMP_FIRST_LO, Reg.TB_CAL_TAMP_FIRST_HI, Reg.TB_CAL_TAMP_FIRST_SUB, Reg.TB_CAL_TAMP_LAST_LO,
      Reg.TB_CAL_TAMP_LAST_HI, Reg.TB_CAL_TAMP_LAST_SUB, Reg.TB_CAL_TAMP_INFO]
    (d0.writeCode p Reg.TB_CAL_CTRL 0x7C000001 = E_OK → Does (.calWrite p) s (fun d =>
      if (d0.mode = .run ∨ d0.mode = .degraded ∨ d0.mode = .safe) ∧ busy d0 = false then
        busy d = true ∧ OtherRegs [Reg.TB_CAL_STATUS, Reg.MGT_STATUS] d0 d ∧ d.time = d0.time
      else OtherRegs [Reg.MGT_STATUS] d0 d ∧ d.time = d0.time)) ∧
    Does .calLoad s (fun d =>
      if busy d0 = true ∧ d0.calEdge = true ∧ d0.time.calTaken = false then
        d.calSec = d0.pair Fld.TB_CAL_SET_LO_SET Fld.TB_CAL_SET_HI_SET ∧ d.fld Fld.TB_CAL_SUB = d0.fld Fld.TB_CAL_SET_SUB_SET ∧
        Bumped Fld.TB_CAL_STATUS_SETCNT d0 d ∧ busy d = false ∧ d.time = { d0.time with calTaken := true }
      else same d) ∧
    (d0.writeCode p Reg.TB_CAL_CTRL 0x7C000002 = E_OK → Does (.tampClr p) s (fun d =>
      if d0.time.tampPending = false ∧ busy d0 = false then
        (∀ a ∈ tamp, d.rd a = 0) ∧ OtherRegs (Reg.MGT_STATUS :: tamp) d0 d
      else OtherRegs [Reg.MGT_STATUS] d0 d)) ∧
    Does .calendarAlarm s (fun d =>
      if d0.flag Fld.TB_CAL_ALARM_HI_ALARM_EN = true ∧ d0.calSec = d0.pair Fld.TB_CAL_ALARM_LO_ALARM Fld.TB_CAL_ALARM_HI_ALARM then
        d.flag Fld.TB_CAL_STATUS_ALARM = true ∧ d.mode = d0.mode ∧ OtherRegs [Reg.TB_CAL_STATUS, Reg.SYS_WAKE] d0 d ∧
        (if (d0.mode = .doze ∨ d0.mode = .sleep) ∧ d0.sys.woken = false then
          d.sys.woken = true ∧ d.flag Fld.SYS_WAKE_WOKE = true ∧ d.fld Fld.SYS_WAKE_KIND = 4
        else d.sys = d0.sys ∧ d.rd Reg.SYS_WAKE = d0.rd Reg.SYS_WAKE)
      else same d) ∧
    Does .oscStop s (fun d => d.flag Fld.TB_CAL_STATUS_OSC_STOP = true ∧ Raised 101 d0 d ∧ d.time.oscRuns = false ∧
      OtherRegs [Reg.TB_CAL_STATUS] d0 d) ∧
    Does .backupSupplyLoss s (fun d =>
      if d0.sys.vbat = false then
        d.calSec = 0 ∧ d.fld Fld.TB_CAL_SUB = 0 ∧ d.rd Reg.TB_CAL_STATUS = 0 ∧ (∀ a ∈ tamp, d.rd a = 0) ∧ d.time.bkupLost = true ∧ d.time.calNs = 0 ∧ d.time.tampPending = false ∧
        d.faultQ = d0.faultQ ∧ ∀ a, a < Reg.TB_CAL_SEC_LO ∨ Reg.TB_CAL_TAMP_INFO < a → d.rd a = d0.rd a
      else same d)

/-- CAL_READ_LATCH (R152): the word of TB_CAL_SEC_LO goes out, TB_CAL_SEC_HI and TB_CAL_SUB of the same tick are what the path reads
next, however the calendar has moved on, and no other path's latches change. -/
def Obligations.CalendarReadLatch : Prop :=
  ∀ (s : State) (p : Path),
    let d0 := s.dev
    d0.pathOpen p Reg.TB_CAL_SEC_LO = true → Does (.calReadLatch p) s (fun d =>
      d.out = [.data p Reg.TB_CAL_SEC_LO (d0.fld Fld.TB_CAL_SEC_LO_SEC)] ∧ d.regs = d0.regs ∧
      (∀ regs : Tab Word, ((Dev.regRead p Reg.TB_CAL_SEC_HI { d with regs := regs }).1).toNat = d0.fld Fld.TB_CAL_SEC_HI_SEC) ∧
      (∀ regs : Tab Word, bits ((Dev.regRead p Reg.TB_CAL_SUB { d with regs := regs }).1).toNat 14 0 = d0.fld Fld.TB_CAL_SUB) ∧
      ∀ q, q ≠ p → d.latch q = d0.latch q ∧ ∀ a, d.latchedWord q a = d0.latchedWord q a)

/-- POWER_ON, POWER_OFF, VBAT_VALID, VBAT_UNDERVOLTAGE, VBAT_WARNING, RST_N_ASSERT, RST_N_RELEASE, ROM_CHECK_DONE, CONFIGURE_ENTRY,
SYS_RESET, LOCKSTEP_MISMATCH (R127, R157, R384, R448 to R450, R454 to R458, R464, R475, R482). That ROM keeps the cause HELD was entered
with is the model's reading (log entry 4). That a power-up under reverse battery waits, and how REFCLK25 is found, are log entries 221 and
209. -/
def Obligations.PowerAndReset : Prop :=
  ∀ (s : State),
    let d0 := s.dev
    let same := fun (d : Dev) => d = { d0 with out := [] }
    let cause := fun (d : Dev) => d.fld Fld.SYS_MODE_CAUSE
    let count := fun (d : Dev) => d.fld Fld.SYS_BOOTCNT_COUNT
    let journal := fun (d : Dev) => d.fld Fld.LDR_STATE_JOURNAL
    let down := d0.mode = .off ∨ d0.mode = .held ∨ d0.mode = .limp
    let kept := fun (d : Dev) => (∀ a, Reg.TB_CAL_SEC_LO ≤ a → a ≤ Reg.TB_CAL_TAMP_INFO → a < Reg.TB_CAL_SET_LO ∨ Reg.TB_CAL_SET_SUB < a →
        a ≠ Reg.TB_CAL_STATUS → d.rd a = d0.rd a) ∧ (d.rd Reg.TB_CAL_STATUS).toNat % 2 ^ 31 = (d0.rd Reg.TB_CAL_STATUS).toNat % 2 ^ 31 ∧
      d.settings = d0.settings ∧
      d.sec.sectors = d0.sec.sectors ∧ d.sec.chain = d0.sec.chain ∧ d.sec.ownerDigest = d0.sec.ownerDigest ∧
      d.rd Reg.IMG_SEQ_FLOOR = d0.rd Reg.IMG_SEQ_FLOOR ∧ d.rd Reg.LDR_ROLLBACK = d0.rd Reg.LDR_ROLLBACK ∧ journal d = journal d0 ∧
      (d0.img.check = none → d.img.region = d0.img.region)
    let reset := fun (c : Nat) (d : Dev) =>
      d.mode = (if d0.anyLimp = true then .limp else .held) ∧ cause d = (if d0.anyLimp = true then 0x18 else c) ∧ d.frc = 0 ∧
      d.store = storeReset ∧ d.can = canReset ∧ d.sw = swReset ∧ d.drv = drvReset ∧ d.latches = [] ∧ d.sec.slots = [] ∧ d.sec.jobs = [] ∧
      (∀ h, d.halfReset h = false) ∧ d.rd Reg.TB_CAL_SET_LO = 0 ∧ d.rd Reg.TB_CAL_SET_HI = 0 ∧ d.rd Reg.TB_CAL_SET_SUB = 0 ∧
      d.flag Fld.TB_CAL_STATUS_WBUSY = false ∧ kept d
    let starts := fun (d : Dev) => d.mode = .rom ∧ d.frc = 0 ∧ count d = (count d0 + 1) % 2 ^ 32 ∧ cause d = cause d0 ∧
      d.fld Fld.SYS_MODE_PREV = modeCode d0.mode ∧ d.sys.detail = d0.sys.detail ∧ (d0.mode = .held → d.fld Fld.MGT_STATUS_HOLDER = 0) ∧
      d.sys.romStart = d0.tns ∧ d.sys.confirmMissed = false ∧ kept d
    (d0.loads.reverse = true → Does .powerOn s same) ∧
    (d0.mode = .off → d0.sys.vbat = false → d0.loads.reverse = false → Does .powerOn s (fun d => d.mode = .held ∧ cause d = 1 ∧ d.sys.vbat = true ∧
      d.time.bkupLost = false ∧ (d0.time.bkupLost = false → d.faultQ = d0.faultQ) ∧
      (d0.time.bkupLost = true → d.flag Fld.TB_CAL_STATUS_BKUP_LOST = true ∧ (102, 1) ∈ d.faultQ.queue ∧ (352, 1) ∈ d.faultQ.queue ∧
        Bumped Fld.TB_CAL_TAMP_INFO_CNT d0 d))) ∧
    (d0.sys.vbat = true →
      Does .powerOn s same ∧
      (¬down → Does .powerOff s (fun d => d.mode = (if d0.anyLimp = true then .limp else .off) ∧ d.sys.vbat = false ∧
        d.sys.vbatValid = false ∧ d.mgmt.notices = [] ∧ d.mgmt.response = none ∧ d.mgmt.executing = none ∧ d.rd Reg.SYS_WAKE = 0 ∧
        d.frc = 0 ∧ kept d)) ∧
      (d0.mode = .held → Does .powerOff s (fun d => d.mode = (if d0.anyLimp = true then .limp else .off) ∧ d.sys.vbat = false)) ∧
      (∀ en ref, Does (.vbatValid en ref) s (fun d => d.sys.vbatValid = true ∧ d.sys.factoryPin = en ∧ d.sys.refclkPin = ref ∧
        if (d0.mode = .held ∨ d0.mode = .limp) ∧ d0.sys.rstn = true then starts d ∧ d.sys.factoryEn = en ∧ d.sys.refclk = ref
        else d.mode = d0.mode ∧ d.regs = d0.regs)) ∧
      Does .vbatUndervoltage s (fun d => d.sys.vbatValid = false ∧ if down then d.mode = d0.mode ∧ d.regs = d0.regs else reset 3 d) ∧
      Does .vbatWarning s (fun d => if d0.logicRuns = true then Raised 0 d0 d ∧ OtherRegs [] d0 d ∧ d.mode = d0.mode else same d)) ∧
    Does .rstNAssert s (fun d => d.sys.rstn = false ∧ if down then d.mode = d0.mode ∧ d.regs = d0.regs else reset 2 d) ∧
    (∀ en ref, Does (.rstNRelease en ref) s (fun d => d.sys.rstn = true ∧ d.sys.factoryPin = en ∧ d.sys.refclkPin = ref ∧
      if (d0.mode = .held ∨ d0.mode = .limp) ∧ d0.sys.vbatValid = true then starts d ∧ d.sys.factoryEn = en ∧ d.sys.refclk = ref
      else d.mode = d0.mode ∧ d.regs = d0.regs)) ∧
    (∀ p raced, d0.writeCode p Reg.SYS_CTRL 0x7C000001 = E_OK → Does (.sysReset p raced) s (fun d =>
      if (p = .host ∨ p = .mgmt) ∧ raced = false ∧ d0.sys.entry = .none then reset (if p = .mgmt then 5 else 4) d
      else d.fld Fld.SYS_STATUS_CODE = E_PERM ∧ d.mode = d0.mode ∧ OtherRegs [Reg.SYS_STATUS, Reg.MGT_STATUS] d0 d)) ∧
    (∀ bad : Option (BitVec 16), d0.mode = .rom → d0.sys.startup = none → Does (.romCheckDone bad) s (fun d =>
      let loads := fun (c : Nat) => d.mode = .loader ∧ cause d = c ∧ d.fld Fld.LDR_STATE_STAGE = 1 ∧ d.mgmt.ldrCause = c ∧ d.sys.startup = none
      if journal d0 = 1 then loads 8 ∧ journal d = 0
      else if journal d0 = 2 then loads 8 ∧ journal d = 2
      else if journal d0 = 3 ∧ d0.fld Fld.LDR_STATE_FAILS = 3 then loads 9 ∧ journal d = 3
      else match bad with
        | some stage => loads 7 ∧ d.sys.detail = stage.toNat
        | none =>
          if d0.sys.factoryEn = true then loads 0xA ∧ (∃ n, d.mgmt.tokenNonce = some n ∧ n.length = 32) ∧ d.flag Fld.KS_STATUS_DRBG_OK = true
          else d.mode = .rom ∧ d.sys.startup = some 6 ∧ OtherRegs [] d0 d)) ∧
    (∀ c, c < 65536 → d0.sys.startup = some c →
      Does .configureEntry s (fun d =>
        if (d0.mode = .rom ∨ d0.mode = .loader) ∧ d0.flag Fld.SYS_STATUS_HALT = false then
          d.mode = .configure ∧ cause d = c ∧ d.sys.startup = none ∧
          d.flag Fld.KS_STATUS_DRBG_OK = (decide (d0.mode = .rom) || d0.flag Fld.KS_STATUS_DRBG_OK) ∧
          (d.keySlot 0).key = Config.rootKey ∧ (d.keySlot 254).key = kdf Config.rootKey (ascii "RLN-IDK") d0.sec.deviceId 32 ∧
          d.img.region = d0.img.region ∧ d.img.check = (if d0.img.region = [] then none else some 0) ∧
          d.fld Fld.IMG_STATUS_STATE = (if d0.img.region = [] then 0 else 1) ∧ d.img.partCheck = none ∧
          d.flag Fld.SYS_STATUS_FACTORY_PATH = (d0.flag Fld.SYS_STATUS_FACTORY_PATH || decide (c = 0xB))
        else same d)) ∧
    Does .lockstepMismatch s (fun d =>
      if d0.logicRuns = true then d.flag Fld.SYS_STATUS_HALT = true ∧ Raised 2 d0 d ∧ OtherRegs [Reg.SYS_STATUS] d0 d ∧ d.mode = d0.mode
      else same d)

/-- SYS_DOZE, DOZE_ENTRY_DONE, SYS_SLEEP, SLEEP_POWER_DOWN, SYS_RECONFIG, SYS_WAKE, DOZE_RETURN, SLEEP_WAKE, HOST_ABSENT, HOST_ALIVE,
PARTIAL_LOSS_CLEAR (R331, R395, R417, R450 to R453, R459 to R461). The conditions HOST_ABSENT tests are the model's reading of R453 (log
entry 126). That another transition falls into the same cycle comes with the command (log entry 207). -/
def Obligations.ServiceModes : Prop :=
  ∀ (s : State) (p : Path),
    let d0 := s.dev
    let same := fun (d : Dev) => d = { d0 with out := [] }
    let cause := fun (d : Dev) => d.fld Fld.SYS_MODE_CAUSE
    let code := fun (d : Dev) => d.fld Fld.SYS_STATUS_CODE
    let loss := fun (d : Dev) => d.rd Reg.SYS_LOSS
    let master := p = .host ∨ p = .mgmt
    let may := master ∧ d0.sys.entry = .none ∧ (d0.mode = .run ∨ d0.mode = .degraded) ∧ d0.flag Fld.SYS_STATUS_HALT = false
    let refused := fun (d : Dev) => code d = E_PERM ∧ d.mode = d0.mode ∧ d.sys = d0.sys ∧ OtherRegs [Reg.SYS_STATUS, Reg.MGT_STATUS] d0 d
    let left := fun (m : Mode) (c : Nat) (d : Dev) => d.mode = m ∧ cause d = c ∧ code d = E_OK ∧ d.img.partCheck = none ∧
      d.sec.jobs = [] ∧ ∀ q : Fin 64, d.enabled q = false
    let entering := fun (e : Entry) (d : Dev) => d.sys.entry = e ∧ d.sys.woken = false ∧ d.sys.entryAt = d0.tns ∧
      d.flag Fld.SYS_STATUS_ENTRY = true ∧ d.locked 0 = false ∧ d.locked 1 = false
    let gone := (∃ t, d0.sys.linkDownAt = some t ∧ t + 1000000 * d0.fld Fld.SYS_HOSTCFG_GRACE ≤ d0.tns) ∨
      (d0.fld Fld.SYS_HOSTCFG_TIMEOUT ≠ 0 ∧ d0.sys.aliveAt + 1000000 * d0.fld Fld.SYS_HOSTCFG_TIMEOUT < d0.tns)
    let returned := fun (d : Dev) => cause d = 0x17 ∧ d.sys.woken = false ∧ d.sys.entry = .none ∧
      d.mode = (if loss d = 0 then .run else .degraded) ∧ d.flag Fld.SYS_LOSS_RING_OPEN = false ∧
      (d.flag Fld.SYS_LOSS_HOST_ABSENT = true ↔ gone) ∧ d.locked 0 = false ∧ d.locked 1 = false ∧
      (d0.time.sysSel ≤ 2 → d.flag Fld.TB_SYS_STATUS_SET = false) ∧
      ∀ k : Fin 2, ∀ g : Nat, g < 2 ^ 63 → d.tdTime k g = (g : Int) * 65536
    let awake := fun (d : Dev) => d.frc = 0 ∧ d.store = storeReset ∧ d.sec.sectors = d0.sec.sectors ∧ d.sys.woken = false ∧
      if d0.sys.vbatValid = true ∧ d0.sys.rstn = true then d.mode = .rom ∧ d.fld Fld.SYS_BOOTCNT_COUNT = (d0.fld Fld.SYS_BOOTCNT_COUNT + 1) % 2 ^ 32
      else d.mode = (if d0.anyLimp = true then .limp else .held)
    (d0.writeCode p Reg.SYS_CTRL 0x7C000002 = E_OK → Does (.sysDoze p true) s refused) ∧
    (d0.writeCode p Reg.SYS_CTRL 0x7C000003 = E_OK → Does (.sysSleep p true) s refused) ∧
    (d0.writeCode p Reg.SYS_CTRL 0x7C000004 = E_OK → Does (.sysReconfig p true) s refused) ∧
    (d0.writeCode p Reg.SYS_CTRL 0x7C000005 = E_OK → Does (.sysWake p true) s refused) ∧
    (d0.writeCode p Reg.SYS_CTRL 0x7C000002 = E_OK → Does (.sysDoze p false) s (fun d =>
      (may → left .doze 0x15 d ∧ entering .doze d) ∧ (¬may → refused d))) ∧
    (d0.writeCode p Reg.SYS_CTRL 0x7C000003 = E_OK → Does (.sysSleep p false) s (fun d =>
      (may → left .sleep 0x16 d ∧ entering .sleep d ∧ d.flag Fld.BRG_STATUS_LINK = false) ∧ (¬may → refused d))) ∧
    (d0.writeCode p Reg.SYS_CTRL 0x7C000004 = E_OK → Does (.sysReconfig p false) s (fun d =>
      (may → left .configure 0x0D d ∧ (d.keySlot 0).key = Config.rootKey ∧ d.img.region = d0.img.region ∧
        d.img.check = (if d0.img.region = [] then none else some 0) ∧ .pinsOff ∈ d.out ∧ d.time.ppsOn = [] ∧ d.flag Fld.FLT_STATUS_ERR_N = false ∧
        ∀ n, 1 ≤ n → n ≤ 62 → (d0.roster n).isSome = true → d.isMember n = false) ∧ (¬may → refused d))) ∧
    (d0.writeCode p Reg.SYS_CTRL 0x7C000005 = E_OK → Does (.sysWake p false) s (fun d =>
      if p = .host ∧ d0.mode = .doze ∧ d0.sys.entry = .none then code d = E_OK ∧ d.sys.woken = true ∧ d.mode = .doze ∧
        (d0.sys.woken = false → d.flag Fld.SYS_WAKE_WOKE = true ∧ d.fld Fld.SYS_WAKE_KIND = 5)
      else refused d)) ∧
    (d0.mode = .doze → (∀ n, (d0.src n).withheld = false) →
      (d0.sys.entry = .doze → Does .dozeEntryDone s (fun d =>
        (d0.sys.woken = true → returned d) ∧
        (d0.sys.woken = false → d.mode = .doze ∧ d.sys.entry = .none ∧ d.flag Fld.SYS_STATUS_ENTRY = false ∧ OtherRegs [Reg.SYS_STATUS] d0 d))) ∧
      (d0.sys.entry = .none → d0.sys.woken = true → Does .dozeReturn s returned) ∧
      (d0.sys.woken = false → Does .dozeReturn s same)) ∧
    (d0.mode = .sleep →
      (d0.sys.entry = .sleep →
        let done := d0.sec.ckptWant = none ∧ d0.sec.ckptBody = none ∧ d0.sec.ckptRetry = none
        Does .sleepPowerDown s (fun d =>
          (¬done ∧ d0.tns < d0.sys.entryAt + 100000000 → same d) ∧
          (done ∨ d0.sys.entryAt + 100000000 ≤ d0.tns →
            (d0.sys.woken = false → d.mode = .sleep ∧ d.sys.entry = .none ∧ d.sys.woken = false ∧ d.frc = 0 ∧ d.store = storeReset) ∧
            (d0.sys.woken = true → awake d)))) ∧
      (d0.sys.entry = .none → d0.sys.woken = true → Does .sleepWake s awake) ∧
      (d0.sys.woken = false → Does .sleepWake s same)) ∧
    Does .hostAbsent s (fun d =>
      if d0.inService = true ∧ d0.flag Fld.SYS_LOSS_HOST_ABSENT = false ∧ gone then
        d.flag Fld.SYS_LOSS_HOST_ABSENT = true ∧ (17, 1) ∈ d.faultQ.queue ∧
        d.mode = (if d0.mode = .run then .degraded else d0.mode) ∧ (d0.mode = .run → cause d = 0x0F)
      else same d) ∧
    (d0.writeCode p Reg.SYS_HOST_ALIVE 0 = E_OK → Does (.hostAlive p) s (fun d => d.sys.aliveAt = d0.tns ∧
      if d0.mayMaster = true then d.flag Fld.SYS_LOSS_HOST_ABSENT = false ∧
        d.mode = (if d0.mode = .degraded ∧ loss d0 ≠ 0 ∧ loss d = 0 then .run else d0.mode)
      else loss d = loss d0 ∧ d.mode = d0.mode)) ∧
    (d0.writeCode p Reg.SYS_LOSS 4 = E_OK → Does (.partialLossClear p) s (fun d =>
      (master → d.img.lossNodes = [] ∧ d.flag Fld.SYS_LOSS_PARTIAL = false ∧
        d.mode = (if d0.mode = .degraded ∧ loss d0 ≠ 0 ∧ loss d = 0 then .run else d0.mode)) ∧
      (¬master → d.img = d0.img ∧ loss d = loss d0 ∧ d.mode = d0.mode)))

/-- A step runs the command at the front of the queue; with no command waiting the part's clock ticks (log entry 7); State.reset holds
what the spec gives for reset (R6, R7, R9, R127, R450) and is canonical. The supplies and pins at reset are log entry 14. -/
def Obligations.StepAndReset : Prop :=
  (∀ (c : Instr) (s : State), step (s.push c) = exec c s ∧ (∀ t, exec c s = .next t → t.pending = s.pending)) ∧
  (∀ s : State, s.pending = [] → ∃ d, step s = .next ⟨d, []⟩ ∧ d.tns = s.dev.tns + 1 ∧
    (s.dev.inService = true → d.frc = s.dev.frc + 1 ∧ d.mode = s.dev.mode)) ∧
  (let d := State.reset.dev
   State.reset.pending = [] ∧ d.Canonical ∧ d.mode = .held ∧ d.frc = 0 ∧ (d.rd Reg.SYS_ID).toNat / 2 ^ 16 = 0x9640 ∧
   (∀ p, d.latch p = ⟨0, 0⟩) ∧ (∀ n, d.slot n = slotUndefined) ∧ (∀ n, d.keySlot n = keyEmpty) ∧
   (∀ a, a ≠ Reg.SYS_ID → d.rd a = regReset a) ∧ (∀ q : Fin 64, d.enabled q = false) ∧ d.faultQ = ⟨[], []⟩)

/-- The headline: from every state whose register file, settings, slots and keys stand in canonical form, a step goes on, keeps the
form, takes exactly the command at the front of the queue, and changes no part of the device that the command does not name. -/
def Obligations.StepKeepsInvariant : Prop :=
  ∀ s : State, s.dev.Canonical → ∃ t, step s = .next t ∧ t.dev.Canonical ∧ t.pending = s.pending.drop 1 ∧
    ∀ c, s.pending.head? = some c → Kept (touches c) s.dev t.dev
end

