-- ==== Sys2Proof/Laws/Tab.lean ====
section
/-! SUPPORT. The laws of the sparse tables: what a table reads after a write, and that every operation keeps the canonical form. -/

namespace Sys2Proof.Machine

/-! ### Reading -/

theorem Tab.get_without {α : Type} (d : Nat → α) {a b : Nat} (h : b ≠ a) : ∀ t : Tab α, Tab.get d (t.without a) b = Tab.get d t b
  | [] => rfl
  | (k, v) :: t => by
    have ih := Tab.get_without d h t
    unfold Tab.without at *
    simp only [List.filter_cons]
    by_cases hk : k = a
    · subst hk
      simp [Tab.get, h, ih]
    · simp [Tab.get, hk, ih]

theorem Tab.get_without_self {α : Type} (d : Nat → α) (a : Nat) : ∀ t : Tab α, Tab.get d (t.without a) a = d a
  | [] => rfl
  | (k, v) :: t => by
    have ih := Tab.get_without_self d a t
    unfold Tab.without at *
    simp only [List.filter_cons]
    by_cases hk : k = a
    · simp [hk, ih]
    · have : a ≠ k := fun e => hk e.symm
      simp [Tab.get, hk, this, ih]

/-- Reading back what was written. -/
theorem Tab.get_set {α : Type} [DecidableEq α] (d : Nat → α) (a : Nat) (v : α) : ∀ t : Tab α, Tab.get d (Tab.set d t a v) a = v
  | [] => by
    by_cases h : v = d a <;> simp [Tab.set, Tab.get, h]
  | (k, w) :: t => by
    have ih := Tab.get_set d a v t
    unfold Tab.set
    split
    · exact ih
    · rename_i hk
      split
      · split
        · rename_i hv
          simp [Tab.get, hk, Tab.get_without_self, hv]
        · simp [Tab.get]
      · simp [Tab.get, hk, ih]

/-- Reading elsewhere after a write. -/
theorem Tab.get_set_ne {α : Type} [DecidableEq α] (d : Nat → α) {a b : Nat} (v : α) (h : b ≠ a) : ∀ t : Tab α,
    Tab.get d (Tab.set d t a v) b = Tab.get d t b
  | [] => by
    by_cases hv : v = d a <;> simp [Tab.set, Tab.get, hv, h]
  | (k, w) :: t => by
    have ih := Tab.get_set_ne d v h t
    unfold Tab.set
    split
    · rename_i hk
      subst hk
      simp [Tab.get, h, ih]
    · split
      · split <;> simp [Tab.get, h, Tab.get_without d h]
      · simp [Tab.get, ih]

/-- Reading after keys are cleared. -/
theorem Tab.get_drop {α : Type} (d : Nat → α) (p : Nat → Bool) (a : Nat) : ∀ t : Tab α,
    Tab.get d (Tab.drop p t) a = if p a then d a else Tab.get d t a
  | [] => by simp [Tab.drop, Tab.get]
  | (k, v) :: t => by
    have ih := Tab.get_drop d p a t
    unfold Tab.drop at *
    simp only [List.filter_cons]
    by_cases hk : p k = true
    · simp only [hk, Bool.not_true, Bool.false_eq_true, if_false, ih, Tab.get]
      by_cases ha : a = k
      · subst ha; simp [hk]
      · simp [ha]
    · simp only [hk, Bool.not_false, if_true, Tab.get, ih]
      by_cases ha : a = k
      · subst ha; simp [hk]
      · simp [ha]

/-! ### The canonical form -/

theorem Tab.above_mono {α : Type} {a b : Nat} (h : a ≤ b) : ∀ {t : Tab α}, Tab.above b t = true → Tab.above a t = true
  | [], _ => by simp [Tab.above]
  | (k, _) :: t, ht => by
    simp only [Tab.above, Bool.and_eq_true, decide_eq_true_eq] at *
    exact ⟨by omega, Tab.above_mono h ht.2⟩

theorem Tab.above_filter {α : Type} {b : Nat} (p : Nat × α → Bool) : ∀ {t : Tab α}, Tab.above b t = true →
    Tab.above b (t.filter p) = true
  | [], _ => by simp [Tab.above]
  | (k, w) :: t, ht => by
    simp only [Tab.above, Bool.and_eq_true, decide_eq_true_eq] at ht
    simp only [List.filter_cons]
    split
    · simp [Tab.above, ht.1, Tab.above_filter p ht.2]
    · exact Tab.above_filter p ht.2

theorem Tab.above_set {α : Type} [DecidableEq α] (d : Nat → α) {b a : Nat} (v : α) (hb : b < a) : ∀ {t : Tab α},
    Tab.above b t = true → Tab.above b (Tab.set d t a v) = true
  | [], _ => by
    simp only [Tab.set]; split <;> simp [Tab.above, hb]
  | (k, w) :: t, ht => by
    simp only [Tab.above, Bool.and_eq_true, decide_eq_true_eq] at ht
    have hw : Tab.above b (Tab.without t a) = true := Tab.above_filter _ ht.2
    unfold Tab.set
    split
    · exact Tab.above_set d v hb ht.2
    · split
      · split <;> simp [Tab.above, ht.1, hw, hb]
      · simp [Tab.above, ht.1, Tab.above_set d v hb ht.2]

theorem Tab.wf_filter {α : Type} [DecidableEq α] (d : Nat → α) (p : Nat × α → Bool) : ∀ {t : Tab α}, Tab.wf d t = true →
    Tab.wf d (t.filter p) = true
  | [], _ => by simp [Tab.wf]
  | (k, w) :: t, ht => by
    simp only [Tab.wf, Bool.and_eq_true, decide_eq_true_eq] at ht
    simp only [List.filter_cons]
    split
    · simp [Tab.wf, ht.1.1, Tab.above_filter p ht.1.2, Tab.wf_filter d p ht.2]
    · exact Tab.wf_filter d p ht.2

/-- A write keeps the canonical form. -/
theorem Tab.wf_set {α : Type} [DecidableEq α] (d : Nat → α) (a : Nat) (v : α) : ∀ {t : Tab α}, Tab.wf d t = true →
    Tab.wf d (Tab.set d t a v) = true
  | [], _ => by
    by_cases hv : v = d a <;> simp [Tab.set, Tab.wf, Tab.above, hv]
  | (k, w) :: t, ht => by
    simp only [Tab.wf, Bool.and_eq_true, decide_eq_true_eq] at ht
    have ha : Tab.above k (Tab.without t a) = true := Tab.above_filter _ ht.1.2
    have hw : Tab.wf d (Tab.without t a) = true := Tab.wf_filter d _ ht.2
    unfold Tab.set
    split
    · exact Tab.wf_set d a v ht.2
    · split
      · rename_i hlt
        split
        · simp [Tab.wf, ht.1.1, ha, hw]
        · rename_i hv
          simp [Tab.wf, Tab.above, ht.1.1, ha, hw, hv, hlt, Tab.above_mono (Nat.le_of_lt hlt) ha]
      · have hlt : k < a := by omega
        simp [Tab.wf, ht.1.1, Tab.above_set d v hlt ht.1.2, Tab.wf_set d a v ht.2]

theorem Tab.wf_drop {α : Type} [DecidableEq α] (d : Nat → α) (p : Nat → Bool) {t : Tab α} (h : Tab.wf d t = true) :
    Tab.wf d (Tab.drop p t) = true := Tab.wf_filter d _ h

theorem Tab.wf_dropRange {α : Type} [DecidableEq α] (d : Nat → α) (a n : Nat) {t : Tab α} (h : Tab.wf d t = true) :
    Tab.wf d (t.dropRange a n) = true := Tab.wf_filter d _ h

end Sys2Proof.Machine
end

