-- ==== Sys2Proof/Laws/Kept.lean ====
section
/-! SUPPORT. What the primitive changes of the part keep (`Kept`): one lemma for each field of the device, for the table operations and
for the named operations of Machine/Ops.lean that take a function. -/

set_option Elab.async false

namespace Sys2Proof.Machine

/-- The parts of `a` are parts of `M`. -/
def Sub (a M : Nat) : Prop := a &&& M = a

theorem Sub.rfl {a : Nat} : Sub a a := Nat.and_self a

theorem Sub.mono {a b M : Nat} (hb : Sub b M) (h : Nat.beq (Nat.land a b) a = true) : Sub a M := by
  have h : a &&& b = a := Nat.eq_of_beq_eq_true h
  unfold Sub at *
  rw [← h, Nat.and_assoc, hb]

theorem Sub.bit {a M : Nat} (h : Sub a M) (i : Nat) (hi : a.testBit i = true) : M.testBit i = false → False := by
  intro hm
  have : (a &&& M).testBit i = true := by rw [h]; exact hi
  simp [hm] at this

/-! ### The relation -/

theorem Kept.refl (M : Nat) (d : Dev) : Kept M d d := by
  constructor <;> first | exact fun h => h | exact fun _ => rfl | exact rfl | exact Or.inl rfl

theorem Kept.trans {M : Nat} {a b c : Dev} (h : Kept M a b) (k : Kept M b c) : Kept M a c where
  regs m := (k.regs m).trans (h.regs m)
  settings m := (k.settings m).trans (h.settings m)
  latches m := (k.latches m).trans (h.latches m)
  mode m := (k.mode m).trans (h.mode m)
  frc m := (k.frc m).trans (h.frc m)
  store m := (k.store m).trans (h.store m)
  eng m := (k.eng m).trans (h.eng m)
  time m := (k.time m).trans (h.time m)
  phase m := (k.phase m).trans (h.phase m)
  hq m := (k.hq m).trans (h.hq m)
  sec m := (k.sec m).trans (h.sec m)
  flt m := (k.flt m).trans (h.flt m)
  sys m := (k.sys m).trans (h.sys m)
  img m := (k.img m).trans (h.img m)
  mgmt m := (k.mgmt m).trans (h.mgmt m)
  loads m := (k.loads m).trans (h.loads m)
  can m := (k.can m).trans (h.can m)
  sw m := (k.sw m).trans (h.sw m)
  drv m := (k.drv m).trans (h.drv m)
  latched m := (k.latched m).trans (h.latched m)
  faultQ m := (k.faultQ m).trans (h.faultQ m)
  tns := k.tns.trans h.tns
  counter := by
    rcases k.counter with e | e
    · rw [e]; exact h.counter
    · exact Or.inr e
  canonical c := k.canonical (h.canonical c)

/-- A change confined to some parts is confined to more. -/
theorem Kept.mono {M N : Nat} {a b : Dev} (h : Kept M a b) (hs : Sub M N) : Kept N a b := by
  have w : ∀ i, N.testBit i = false → M.testBit i = false := by
    intro i hi
    cases hm : M.testBit i with
    | false => rfl
    | true => exact (hs.bit i hm hi).elim
  exact {
    regs := fun m => h.regs (w 0 m)
    settings := fun m => h.settings (w 1 m)
    latches := fun m => h.latches (w 2 m)
    mode := fun m => h.mode (w 3 m)
    frc := fun m => h.frc (w 4 m)
    store := fun m => h.store (w 5 m)
    eng := fun m => h.eng (w 6 m)
    time := fun m => h.time (w 7 m)
    phase := fun m => h.phase (w 8 m)
    hq := fun m => h.hq (w 9 m)
    sec := fun m => h.sec (w 10 m)
    flt := fun m => h.flt (w 11 m)
    sys := fun m => h.sys (w 12 m)
    img := fun m => h.img (w 13 m)
    mgmt := fun m => h.mgmt (w 14 m)
    loads := fun m => h.loads (w 15 m)
    can := fun m => h.can (w 16 m)
    sw := fun m => h.sw (w 17 m)
    drv := fun m => h.drv (w 18 m)
    latched := fun m => h.latched (w 19 m)
    faultQ := fun m => h.faultQ (w 20 m)
    tns := h.tns, counter := h.counter, canonical := h.canonical }

/-! ### One field replaced -/

/-- The field `regs` replaced. -/
def Dev.setRegs (x : Tab Word) (d : Dev) : Dev := { d with regs := x }

theorem Dev.mk_regs (d : Dev) (x : Tab Word) : { d with regs := x } = d.setRegs x := rfl

theorem Kept.set_regs {M : Nat} {d0 d : Dev} {x : Tab Word} (hM : Sub 1 M) (hx : d.Canonical → Tab.wf regReset x = true)
    (h : Kept M d0 d) : Kept M d0 (d.setRegs x) where
  regs m := (hM.bit 0 (by decide) m).elim
  settings m := h.settings m
  latches m := h.latches m
  mode m := h.mode m
  frc m := h.frc m
  store m := h.store m
  eng m := h.eng m
  time m := h.time m
  phase m := h.phase m
  hq m := h.hq m
  sec m := h.sec m
  flt m := h.flt m
  sys m := h.sys m
  img m := h.img m
  mgmt m := h.mgmt m
  loads m := h.loads m
  can m := h.can m
  sw m := h.sw m
  drv m := h.drv m
  latched m := h.latched m
  faultQ m := h.faultQ m
  tns := h.tns
  counter := h.counter
  canonical c := ⟨hx (h.canonical c), (h.canonical c).settings, (h.canonical c).slots, (h.canonical c).keys⟩

/-- The field `settings` replaced. -/
def Dev.setSettings (x : Tab Word) (d : Dev) : Dev := { d with settings := x }

theorem Dev.mk_settings (d : Dev) (x : Tab Word) : { d with settings := x } = d.setSettings x := rfl

theorem Kept.set_settings {M : Nat} {d0 d : Dev} {x : Tab Word} (hM : Sub 2 M) (hx : d.Canonical → Tab.wf regReset x = true)
    (h : Kept M d0 d) : Kept M d0 (d.setSettings x) where
  regs m := h.regs m
  settings m := (hM.bit 1 (by decide) m).elim
  latches m := h.latches m
  mode m := h.mode m
  frc m := h.frc m
  store m := h.store m
  eng m := h.eng m
  time m := h.time m
  phase m := h.phase m
  hq m := h.hq m
  sec m := h.sec m
  flt m := h.flt m
  sys m := h.sys m
  img m := h.img m
  mgmt m := h.mgmt m
  loads m := h.loads m
  can m := h.can m
  sw m := h.sw m
  drv m := h.drv m
  latched m := h.latched m
  faultQ m := h.faultQ m
  tns := h.tns
  counter := h.counter
  canonical c := ⟨(h.canonical c).regs, hx (h.canonical c), (h.canonical c).slots, (h.canonical c).keys⟩

/-- The field `latches` replaced. -/
def Dev.setLatches (x : Tab Latch) (d : Dev) : Dev := { d with latches := x }

theorem Dev.mk_latches (d : Dev) (x : Tab Latch) : { d with latches := x } = d.setLatches x := rfl

theorem Kept.set_latches {M : Nat} {d0 d : Dev} {x : Tab Latch} (hM : Sub 4 M) 
    (h : Kept M d0 d) : Kept M d0 (d.setLatches x) where
  regs m := h.regs m
  settings m := h.settings m
  latches m := (hM.bit 2 (by decide) m).elim
  mode m := h.mode m
  frc m := h.frc m
  store m := h.store m
  eng m := h.eng m
  time m := h.time m
  phase m := h.phase m
  hq m := h.hq m
  sec m := h.sec m
  flt m := h.flt m
  sys m := h.sys m
  img m := h.img m
  mgmt m := h.mgmt m
  loads m := h.loads m
  can m := h.can m
  sw m := h.sw m
  drv m := h.drv m
  latched m := h.latched m
  faultQ m := h.faultQ m
  tns := h.tns
  counter := h.counter
  canonical c := ⟨(h.canonical c).regs, (h.canonical c).settings, (h.canonical c).slots, (h.canonical c).keys⟩

/-- The field `mode` replaced. -/
def Dev.setMode (x : Mode) (d : Dev) : Dev := { d with mode := x }

theorem Dev.mk_mode (d : Dev) (x : Mode) : { d with mode := x } = d.setMode x := rfl

theorem Kept.set_mode {M : Nat} {d0 d : Dev} {x : Mode} (hM : Sub 8 M) 
    (h : Kept M d0 d) : Kept M d0 (d.setMode x) where
  regs m := h.regs m
  settings m := h.settings m
  latches m := h.latches m
  mode m := (hM.bit 3 (by decide) m).elim
  frc m := h.frc m
  store m := h.store m
  eng m := h.eng m
  time m := h.time m
  phase m := h.phase m
  hq m := h.hq m
  sec m := h.sec m
  flt m := h.flt m
  sys m := h.sys m
  img m := h.img m
  mgmt m := h.mgmt m
  loads m := h.loads m
  can m := h.can m
  sw m := h.sw m
  drv m := h.drv m
  latched m := h.latched m
  faultQ m := h.faultQ m
  tns := h.tns
  counter := h.counter
  canonical c := ⟨(h.canonical c).regs, (h.canonical c).settings, (h.canonical c).slots, (h.canonical c).keys⟩

/-- The field `frc` replaced. -/
def Dev.setFrc (x : BitVec 64) (d : Dev) : Dev := { d with frc := x }

theorem Dev.mk_frc (d : Dev) (x : BitVec 64) : { d with frc := x } = d.setFrc x := rfl

theorem Kept.set_frc {M : Nat} {d0 d : Dev} {x : BitVec 64} (hM : Sub 16 M) (hx : x = d0.frc ∨ x = 0)
    (h : Kept M d0 d) : Kept M d0 (d.setFrc x) where
  regs m := h.regs m
  settings m := h.settings m
  latches m := h.latches m
  mode m := h.mode m
  frc m := (hM.bit 4 (by decide) m).elim
  store m := h.store m
  eng m := h.eng m
  time m := h.time m
  phase m := h.phase m
  hq m := h.hq m
  sec m := h.sec m
  flt m := h.flt m
  sys m := h.sys m
  img m := h.img m
  mgmt m := h.mgmt m
  loads m := h.loads m
  can m := h.can m
  sw m := h.sw m
  drv m := h.drv m
  latched m := h.latched m
  faultQ m := h.faultQ m
  tns := h.tns
  counter := hx
  canonical c := ⟨(h.canonical c).regs, (h.canonical c).settings, (h.canonical c).slots, (h.canonical c).keys⟩

/-- The field `store` replaced. -/
def Dev.setStore (x : StoreSt) (d : Dev) : Dev := { d with store := x }

theorem Dev.mk_store (d : Dev) (x : StoreSt) : { d with store := x } = d.setStore x := rfl

theorem Kept.set_store {M : Nat} {d0 d : Dev} {x : StoreSt} (hM : Sub 32 M) (hx : d.Canonical → Tab.wf (fun _ => slotUndefined) x.slots = true)
    (h : Kept M d0 d) : Kept M d0 (d.setStore x) where
  regs m := h.regs m
  settings m := h.settings m
  latches m := h.latches m
  mode m := h.mode m
  frc m := h.frc m
  store m := (hM.bit 5 (by decide) m).elim
  eng m := h.eng m
  time m := h.time m
  phase m := h.phase m
  hq m := h.hq m
  sec m := h.sec m
  flt m := h.flt m
  sys m := h.sys m
  img m := h.img m
  mgmt m := h.mgmt m
  loads m := h.loads m
  can m := h.can m
  sw m := h.sw m
  drv m := h.drv m
  latched m := h.latched m
  faultQ m := h.faultQ m
  tns := h.tns
  counter := h.counter
  canonical c := ⟨(h.canonical c).regs, (h.canonical c).settings, hx (h.canonical c), (h.canonical c).keys⟩

/-- The field `eng` replaced. -/
def Dev.setEng (x : EngSt) (d : Dev) : Dev := { d with eng := x }

theorem Dev.mk_eng (d : Dev) (x : EngSt) : { d with eng := x } = d.setEng x := rfl

theorem Kept.set_eng {M : Nat} {d0 d : Dev} {x : EngSt} (hM : Sub 64 M) 
    (h : Kept M d0 d) : Kept M d0 (d.setEng x) where
  regs m := h.regs m
  settings m := h.settings m
  latches m := h.latches m
  mode m := h.mode m
  frc m := h.frc m
  store m := h.store m
  eng m := (hM.bit 6 (by decide) m).elim
  time m := h.time m
  phase m := h.phase m
  hq m := h.hq m
  sec m := h.sec m
  flt m := h.flt m
  sys m := h.sys m
  img m := h.img m
  mgmt m := h.mgmt m
  loads m := h.loads m
  can m := h.can m
  sw m := h.sw m
  drv m := h.drv m
  latched m := h.latched m
  faultQ m := h.faultQ m
  tns := h.tns
  counter := h.counter
  canonical c := ⟨(h.canonical c).regs, (h.canonical c).settings, (h.canonical c).slots, (h.canonical c).keys⟩

/-- The field `time` replaced. -/
def Dev.setTime (x : TimeSt) (d : Dev) : Dev := { d with time := x }

theorem Dev.mk_time (d : Dev) (x : TimeSt) : { d with time := x } = d.setTime x := rfl

theorem Kept.set_time {M : Nat} {d0 d : Dev} {x : TimeSt} (hM : Sub 128 M) 
    (h : Kept M d0 d) : Kept M d0 (d.setTime x) where
  regs m := h.regs m
  settings m := h.settings m
  latches m := h.latches m
  mode m := h.mode m
  frc m := h.frc m
  store m := h.store m
  eng m := h.eng m
  time m := (hM.bit 7 (by decide) m).elim
  phase m := h.phase m
  hq m := h.hq m
  sec m := h.sec m
  flt m := h.flt m
  sys m := h.sys m
  img m := h.img m
  mgmt m := h.mgmt m
  loads m := h.loads m
  can m := h.can m
  sw m := h.sw m
  drv m := h.drv m
  latched m := h.latched m
  faultQ m := h.faultQ m
  tns := h.tns
  counter := h.counter
  canonical c := ⟨(h.canonical c).regs, (h.canonical c).settings, (h.canonical c).slots, (h.canonical c).keys⟩

/-- The field `phase` replaced. -/
def Dev.setPhase (x : PhaseSt) (d : Dev) : Dev := { d with phase := x }

theorem Dev.mk_phase (d : Dev) (x : PhaseSt) : { d with phase := x } = d.setPhase x := rfl

theorem Kept.set_phase {M : Nat} {d0 d : Dev} {x : PhaseSt} (hM : Sub 256 M) 
    (h : Kept M d0 d) : Kept M d0 (d.setPhase x) where
  regs m := h.regs m
  settings m := h.settings m
  latches m := h.latches m
  mode m := h.mode m
  frc m := h.frc m
  store m := h.store m
  eng m := h.eng m
  time m := h.time m
  phase m := (hM.bit 8 (by decide) m).elim
  hq m := h.hq m
  sec m := h.sec m
  flt m := h.flt m
  sys m := h.sys m
  img m := h.img m
  mgmt m := h.mgmt m
  loads m := h.loads m
  can m := h.can m
  sw m := h.sw m
  drv m := h.drv m
  latched m := h.latched m
  faultQ m := h.faultQ m
  tns := h.tns
  counter := h.counter
  canonical c := ⟨(h.canonical c).regs, (h.canonical c).settings, (h.canonical c).slots, (h.canonical c).keys⟩

/-- The field `hq` replaced. -/
def Dev.setHq (x : HqSt) (d : Dev) : Dev := { d with hq := x }

theorem Dev.mk_hq (d : Dev) (x : HqSt) : { d with hq := x } = d.setHq x := rfl

theorem Kept.set_hq {M : Nat} {d0 d : Dev} {x : HqSt} (hM : Sub 512 M) 
    (h : Kept M d0 d) : Kept M d0 (d.setHq x) where
  regs m := h.regs m
  settings m := h.settings m
  latches m := h.latches m
  mode m := h.mode m
  frc m := h.frc m
  store m := h.store m
  eng m := h.eng m
  time m := h.time m
  phase m := h.phase m
  hq m := (hM.bit 9 (by decide) m).elim
  sec m := h.sec m
  flt m := h.flt m
  sys m := h.sys m
  img m := h.img m
  mgmt m := h.mgmt m
  loads m := h.loads m
  can m := h.can m
  sw m := h.sw m
  drv m := h.drv m
  latched m := h.latched m
  faultQ m := h.faultQ m
  tns := h.tns
  counter := h.counter
  canonical c := ⟨(h.canonical c).regs, (h.canonical c).settings, (h.canonical c).slots, (h.canonical c).keys⟩

/-- The field `sec` replaced. -/
def Dev.setSec (x : SecSt) (d : Dev) : Dev := { d with sec := x }

theorem Dev.mk_sec (d : Dev) (x : SecSt) : { d with sec := x } = d.setSec x := rfl

theorem Kept.set_sec {M : Nat} {d0 d : Dev} {x : SecSt} (hM : Sub 1024 M) (hx : d.Canonical → Tab.wf (fun _ => keyEmpty) x.slots = true)
    (h : Kept M d0 d) : Kept M d0 (d.setSec x) where
  regs m := h.regs m
  settings m := h.settings m
  latches m := h.latches m
  mode m := h.mode m
  frc m := h.frc m
  store m := h.store m
  eng m := h.eng m
  time m := h.time m
  phase m := h.phase m
  hq m := h.hq m
  sec m := (hM.bit 10 (by decide) m).elim
  flt m := h.flt m
  sys m := h.sys m
  img m := h.img m
  mgmt m := h.mgmt m
  loads m := h.loads m
  can m := h.can m
  sw m := h.sw m
  drv m := h.drv m
  latched m := h.latched m
  faultQ m := h.faultQ m
  tns := h.tns
  counter := h.counter
  canonical c := ⟨(h.canonical c).regs, (h.canonical c).settings, (h.canonical c).slots, hx (h.canonical c)⟩

/-- The field `flt` replaced. -/
def Dev.setFlt (x : FltSt) (d : Dev) : Dev := { d with flt := x }

theorem Dev.mk_flt (d : Dev) (x : FltSt) : { d with flt := x } = d.setFlt x := rfl

theorem Kept.set_flt {M : Nat} {d0 d : Dev} {x : FltSt} (hM : Sub 2048 M) 
    (h : Kept M d0 d) : Kept M d0 (d.setFlt x) where
  regs m := h.regs m
  settings m := h.settings m
  latches m := h.latches m
  mode m := h.mode m
  frc m := h.frc m
  store m := h.store m
  eng m := h.eng m
  time m := h.time m
  phase m := h.phase m
  hq m := h.hq m
  sec m := h.sec m
  flt m := (hM.bit 11 (by decide) m).elim
  sys m := h.sys m
  img m := h.img m
  mgmt m := h.mgmt m
  loads m := h.loads m
  can m := h.can m
  sw m := h.sw m
  drv m := h.drv m
  latched m := h.latched m
  faultQ m := h.faultQ m
  tns := h.tns
  counter := h.counter
  canonical c := ⟨(h.canonical c).regs, (h.canonical c).settings, (h.canonical c).slots, (h.canonical c).keys⟩

/-- The field `sys` replaced. -/
def Dev.setSys (x : ModeSt) (d : Dev) : Dev := { d with sys := x }

theorem Dev.mk_sys (d : Dev) (x : ModeSt) : { d with sys := x } = d.setSys x := rfl

theorem Kept.set_sys {M : Nat} {d0 d : Dev} {x : ModeSt} (hM : Sub 4096 M) 
    (h : Kept M d0 d) : Kept M d0 (d.setSys x) where
  regs m := h.regs m
  settings m := h.settings m
  latches m := h.latches m
  mode m := h.mode m
  frc m := h.frc m
  store m := h.store m
  eng m := h.eng m
  time m := h.time m
  phase m := h.phase m
  hq m := h.hq m
  sec m := h.sec m
  flt m := h.flt m
  sys m := (hM.bit 12 (by decide) m).elim
  img m := h.img m
  mgmt m := h.mgmt m
  loads m := h.loads m
  can m := h.can m
  sw m := h.sw m
  drv m := h.drv m
  latched m := h.latched m
  faultQ m := h.faultQ m
  tns := h.tns
  counter := h.counter
  canonical c := ⟨(h.canonical c).regs, (h.canonical c).settings, (h.canonical c).slots, (h.canonical c).keys⟩

/-- The field `img` replaced. -/
def Dev.setImg (x : ImgSt) (d : Dev) : Dev := { d with img := x }

theorem Dev.mk_img (d : Dev) (x : ImgSt) : { d with img := x } = d.setImg x := rfl

theorem Kept.set_img {M : Nat} {d0 d : Dev} {x : ImgSt} (hM : Sub 8192 M) 
    (h : Kept M d0 d) : Kept M d0 (d.setImg x) where
  regs m := h.regs m
  settings m := h.settings m
  latches m := h.latches m
  mode m := h.mode m
  frc m := h.frc m
  store m := h.store m
  eng m := h.eng m
  time m := h.time m
  phase m := h.phase m
  hq m := h.hq m
  sec m := h.sec m
  flt m := h.flt m
  sys m := h.sys m
  img m := (hM.bit 13 (by decide) m).elim
  mgmt m := h.mgmt m
  loads m := h.loads m
  can m := h.can m
  sw m := h.sw m
  drv m := h.drv m
  latched m := h.latched m
  faultQ m := h.faultQ m
  tns := h.tns
  counter := h.counter
  canonical c := ⟨(h.canonical c).regs, (h.canonical c).settings, (h.canonical c).slots, (h.canonical c).keys⟩

/-- The field `mgmt` replaced. -/
def Dev.setMgmt (x : MgmtSt) (d : Dev) : Dev := { d with mgmt := x }

theorem Dev.mk_mgmt (d : Dev) (x : MgmtSt) : { d with mgmt := x } = d.setMgmt x := rfl

theorem Kept.set_mgmt {M : Nat} {d0 d : Dev} {x : MgmtSt} (hM : Sub 16384 M) 
    (h : Kept M d0 d) : Kept M d0 (d.setMgmt x) where
  regs m := h.regs m
  settings m := h.settings m
  latches m := h.latches m
  mode m := h.mode m
  frc m := h.frc m
  store m := h.store m
  eng m := h.eng m
  time m := h.time m
  phase m := h.phase m
  hq m := h.hq m
  sec m := h.sec m
  flt m := h.flt m
  sys m := h.sys m
  img m := h.img m
  mgmt m := (hM.bit 14 (by decide) m).elim
  loads m := h.loads m
  can m := h.can m
  sw m := h.sw m
  drv m := h.drv m
  latched m := h.latched m
  faultQ m := h.faultQ m
  tns := h.tns
  counter := h.counter
  canonical c := ⟨(h.canonical c).regs, (h.canonical c).settings, (h.canonical c).slots, (h.canonical c).keys⟩

/-- The field `loads` replaced. -/
def Dev.setLoads (x : LoadSt) (d : Dev) : Dev := { d with loads := x }

theorem Dev.mk_loads (d : Dev) (x : LoadSt) : { d with loads := x } = d.setLoads x := rfl

theorem Kept.set_loads {M : Nat} {d0 d : Dev} {x : LoadSt} (hM : Sub 32768 M) 
    (h : Kept M d0 d) : Kept M d0 (d.setLoads x) where
  regs m := h.regs m
  settings m := h.settings m
  latches m := h.latches m
  mode m := h.mode m
  frc m := h.frc m
  store m := h.store m
  eng m := h.eng m
  time m := h.time m
  phase m := h.phase m
  hq m := h.hq m
  sec m := h.sec m
  flt m := h.flt m
  sys m := h.sys m
  img m := h.img m
  mgmt m := h.mgmt m
  loads m := (hM.bit 15 (by decide) m).elim
  can m := h.can m
  sw m := h.sw m
  drv m := h.drv m
  latched m := h.latched m
  faultQ m := h.faultQ m
  tns := h.tns
  counter := h.counter
  canonical c := ⟨(h.canonical c).regs, (h.canonical c).settings, (h.canonical c).slots, (h.canonical c).keys⟩

/-- The field `can` replaced. -/
def Dev.setCan (x : CanSt) (d : Dev) : Dev := { d with can := x }

theorem Dev.mk_can (d : Dev) (x : CanSt) : { d with can := x } = d.setCan x := rfl

theorem Kept.set_can {M : Nat} {d0 d : Dev} {x : CanSt} (hM : Sub 65536 M) 
    (h : Kept M d0 d) : Kept M d0 (d.setCan x) where
  regs m := h.regs m
  settings m := h.settings m
  latches m := h.latches m
  mode m := h.mode m
  frc m := h.frc m
  store m := h.store m
  eng m := h.eng m
  time m := h.time m
  phase m := h.phase m
  hq m := h.hq m
  sec m := h.sec m
  flt m := h.flt m
  sys m := h.sys m
  img m := h.img m
  mgmt m := h.mgmt m
  loads m := h.loads m
  can m := (hM.bit 16 (by decide) m).elim
  sw m := h.sw m
  drv m := h.drv m
  latched m := h.latched m
  faultQ m := h.faultQ m
  tns := h.tns
  counter := h.counter
  canonical c := ⟨(h.canonical c).regs, (h.canonical c).settings, (h.canonical c).slots, (h.canonical c).keys⟩

/-- The field `sw` replaced. -/
def Dev.setSw (x : SwSt) (d : Dev) : Dev := { d with sw := x }

theorem Dev.mk_sw (d : Dev) (x : SwSt) : { d with sw := x } = d.setSw x := rfl

theorem Kept.set_sw {M : Nat} {d0 d : Dev} {x : SwSt} (hM : Sub 131072 M) 
    (h : Kept M d0 d) : Kept M d0 (d.setSw x) where
  regs m := h.regs m
  settings m := h.settings m
  latches m := h.latches m
  mode m := h.mode m
  frc m := h.frc m
  store m := h.store m
  eng m := h.eng m
  time m := h.time m
  phase m := h.phase m
  hq m := h.hq m
  sec m := h.sec m
  flt m := h.flt m
  sys m := h.sys m
  img m := h.img m
  mgmt m := h.mgmt m
  loads m := h.loads m
  can m := h.can m
  sw m := (hM.bit 17 (by decide) m).elim
  drv m := h.drv m
  latched m := h.latched m
  faultQ m := h.faultQ m
  tns := h.tns
  counter := h.counter
  canonical c := ⟨(h.canonical c).regs, (h.canonical c).settings, (h.canonical c).slots, (h.canonical c).keys⟩

/-- The field `drv` replaced. -/
def Dev.setDrv (x : RingSt) (d : Dev) : Dev := { d with drv := x }

theorem Dev.mk_drv (d : Dev) (x : RingSt) : { d with drv := x } = d.setDrv x := rfl

theorem Kept.set_drv {M : Nat} {d0 d : Dev} {x : RingSt} (hM : Sub 262144 M) 
    (h : Kept M d0 d) : Kept M d0 (d.setDrv x) where
  regs m := h.regs m
  settings m := h.settings m
  latches m := h.latches m
  mode m := h.mode m
  frc m := h.frc m
  store m := h.store m
  eng m := h.eng m
  time m := h.time m
  phase m := h.phase m
  hq m := h.hq m
  sec m := h.sec m
  flt m := h.flt m
  sys m := h.sys m
  img m := h.img m
  mgmt m := h.mgmt m
  loads m := h.loads m
  can m := h.can m
  sw m := h.sw m
  drv m := (hM.bit 18 (by decide) m).elim
  latched m := h.latched m
  faultQ m := h.faultQ m
  tns := h.tns
  counter := h.counter
  canonical c := ⟨(h.canonical c).regs, (h.canonical c).settings, (h.canonical c).slots, (h.canonical c).keys⟩

/-- The field `latched` replaced. -/
def Dev.setLatched (x : Tab Word) (d : Dev) : Dev := { d with latched := x }

theorem Dev.mk_latched (d : Dev) (x : Tab Word) : { d with latched := x } = d.setLatched x := rfl

theorem Kept.set_latched {M : Nat} {d0 d : Dev} {x : Tab Word} (hM : Sub 524288 M) 
    (h : Kept M d0 d) : Kept M d0 (d.setLatched x) where
  regs m := h.regs m
  settings m := h.settings m
  latches m := h.latches m
  mode m := h.mode m
  frc m := h.frc m
  store m := h.store m
  eng m := h.eng m
  time m := h.time m
  phase m := h.phase m
  hq m := h.hq m
  sec m := h.sec m
  flt m := h.flt m
  sys m := h.sys m
  img m := h.img m
  mgmt m := h.mgmt m
  loads m := h.loads m
  can m := h.can m
  sw m := h.sw m
  drv m := h.drv m
  latched m := (hM.bit 19 (by decide) m).elim
  faultQ m := h.faultQ m
  tns := h.tns
  counter := h.counter
  canonical c := ⟨(h.canonical c).regs, (h.canonical c).settings, (h.canonical c).slots, (h.canonical c).keys⟩

/-- The field `faultQ` replaced. -/
def Dev.setFaultQ (x : FaultQ) (d : Dev) : Dev := { d with faultQ := x }

theorem Dev.mk_faultQ (d : Dev) (x : FaultQ) : { d with faultQ := x } = d.setFaultQ x := rfl

theorem Kept.set_faultQ {M : Nat} {d0 d : Dev} {x : FaultQ} (hM : Sub 1048576 M) 
    (h : Kept M d0 d) : Kept M d0 (d.setFaultQ x) where
  regs m := h.regs m
  settings m := h.settings m
  latches m := h.latches m
  mode m := h.mode m
  frc m := h.frc m
  store m := h.store m
  eng m := h.eng m
  time m := h.time m
  phase m := h.phase m
  hq m := h.hq m
  sec m := h.sec m
  flt m := h.flt m
  sys m := h.sys m
  img m := h.img m
  mgmt m := h.mgmt m
  loads m := h.loads m
  can m := h.can m
  sw m := h.sw m
  drv m := h.drv m
  latched m := h.latched m
  faultQ m := (hM.bit 20 (by decide) m).elim
  tns := h.tns
  counter := h.counter
  canonical c := ⟨(h.canonical c).regs, (h.canonical c).settings, (h.canonical c).slots, (h.canonical c).keys⟩

/-- The field `out` replaced. -/
def Dev.setOut (x : List Emit) (d : Dev) : Dev := { d with out := x }

theorem Dev.mk_out (d : Dev) (x : List Emit) : { d with out := x } = d.setOut x := rfl

theorem Kept.set_out {M : Nat} {d0 d : Dev} {x : List Emit} (h : Kept M d0 d) : Kept M d0 (d.setOut x) where
  regs m := h.regs m
  settings m := h.settings m
  latches m := h.latches m
  mode m := h.mode m
  frc m := h.frc m
  store m := h.store m
  eng m := h.eng m
  time m := h.time m
  phase m := h.phase m
  hq m := h.hq m
  sec m := h.sec m
  flt m := h.flt m
  sys m := h.sys m
  img m := h.img m
  mgmt m := h.mgmt m
  loads m := h.loads m
  can m := h.can m
  sw m := h.sw m
  drv m := h.drv m
  latched m := h.latched m
  faultQ m := h.faultQ m
  tns := h.tns
  counter := h.counter
  canonical c := ⟨(h.canonical c).regs, (h.canonical c).settings, (h.canonical c).slots, (h.canonical c).keys⟩

/-- The field `fresh` replaced. -/
def Dev.setFresh (x : Nat) (d : Dev) : Dev := { d with fresh := x }

theorem Dev.mk_fresh (d : Dev) (x : Nat) : { d with fresh := x } = d.setFresh x := rfl

theorem Kept.set_fresh {M : Nat} {d0 d : Dev} {x : Nat} (h : Kept M d0 d) : Kept M d0 (d.setFresh x) where
  regs m := h.regs m
  settings m := h.settings m
  latches m := h.latches m
  mode m := h.mode m
  frc m := h.frc m
  store m := h.store m
  eng m := h.eng m
  time m := h.time m
  phase m := h.phase m
  hq m := h.hq m
  sec m := h.sec m
  flt m := h.flt m
  sys m := h.sys m
  img m := h.img m
  mgmt m := h.mgmt m
  loads m := h.loads m
  can m := h.can m
  sw m := h.sw m
  drv m := h.drv m
  latched m := h.latched m
  faultQ m := h.faultQ m
  tns := h.tns
  counter := h.counter
  canonical c := ⟨(h.canonical c).regs, (h.canonical c).settings, (h.canonical c).slots, (h.canonical c).keys⟩

/-- The settings of an earlier device put back. -/
theorem Kept.restore_settings {M : Nat} {d0 d e : Dev} (h : Kept M d0 e) (k : Kept M d0 d) : Kept M d0 (e.setSettings d.settings) where
  regs := h.regs
  settings := k.settings
  latches := h.latches
  mode := h.mode
  frc := h.frc
  store := h.store
  eng := h.eng
  time := h.time
  phase := h.phase
  hq := h.hq
  sec := h.sec
  flt := h.flt
  sys := h.sys
  img := h.img
  mgmt := h.mgmt
  loads := h.loads
  can := h.can
  sw := h.sw
  drv := h.drv
  latched := h.latched
  faultQ := h.faultQ
  tns := h.tns
  counter := h.counter
  canonical c := ⟨(h.canonical c).regs, (k.canonical c).settings, (h.canonical c).slots, (h.canonical c).keys⟩

/-! ### Operations that take a function -/

/-- Either way of a choice keeps the parts. -/
theorem Kept.ite {M : Nat} {d0 x y : Dev} {c : Prop} [Decidable c] (hx : Kept M d0 x) (hy : Kept M d0 y) :
    Kept M d0 (if c then x else y) := by
  split
  · exact hx
  · exact hy

theorem Kept.onlyIf {M : Nat} {d0 d : Dev} {c : Bool} {f : Dev → Dev} (hf : ∀ e, Kept M d0 e → Kept M d0 (f e)) (h : Kept M d0 d) :
    Kept M d0 (d.onlyIf c f) := by
  unfold Dev.onlyIf; split
  · exact hf _ h
  · exact h

theorem Kept.foldl {α : Type} {M : Nat} {d0 : Dev} (f : Dev → α → Dev) (hf : ∀ x e, Kept M d0 e → Kept M d0 (f e x)) :
    ∀ (xs : List α) (d : Dev), Kept M d0 d → Kept M d0 (xs.foldl f d)
  | [], _, h => h
  | x :: xs, _, h => Kept.foldl f hf xs _ (hf x _ h)

theorem Kept.each {α : Type} {M : Nat} {d0 d : Dev} {xs : List α} {f : α → Dev → Dev}
    (hf : ∀ x e, Kept M d0 e → Kept M d0 (f x e)) (h : Kept M d0 d) : Kept M d0 (d.each xs f) :=
  Kept.foldl _ hf xs d h

/-- The second component of a pair that is known. -/
theorem Kept.snd {α : Type} {M : Nat} {d0 : Dev} {p : α × Dev} {a : α} {e : Dev} (he : p = (a, e)) (h : Kept M d0 p.2) :
    Kept M d0 e := by subst he; exact h

/-! ### Results of other shapes -/

/-- A result with a device as its second component. -/
def KeptP {α : Type} (M : Nat) (d0 : Dev) (p : α × Dev) : Prop := Kept M d0 p.2

theorem KeptP.mk {α : Type} {M : Nat} {d0 e : Dev} {a : α} (h : Kept M d0 e) : KeptP M d0 (a, e) := h

theorem KeptP.snd {α : Type} {M : Nat} {d0 : Dev} {p : α × Dev} (h : KeptP M d0 p) : Kept M d0 p.2 := h

theorem KeptP.of_eq {α : Type} {M : Nat} {d0 e : Dev} {p : α × Dev} {a : α} (he : p = (a, e)) (h : KeptP M d0 p) : Kept M d0 e := by
  subst he; exact h

theorem KeptP.foldl {α β : Type} {M : Nat} {d0 : Dev} (f : α × Dev → β → α × Dev) (hf : ∀ x p, KeptP M d0 p → KeptP M d0 (f p x)) :
    ∀ (xs : List β) (p : α × Dev), KeptP M d0 p → KeptP M d0 (xs.foldl f p)
  | [], _, h => h
  | x :: xs, _, h => KeptP.foldl f hf xs _ (hf x _ h)

/-- A result with a device as its third component. -/
def KeptPP {α β : Type} (M : Nat) (d0 : Dev) (p : α × β × Dev) : Prop := Kept M d0 p.2.2

theorem KeptPP.mk {α β : Type} {M : Nat} {d0 e : Dev} {a : α} {b : β} (h : Kept M d0 e) : KeptPP M d0 (a, b, e) := h

theorem KeptPP.snd {α β : Type} {M : Nat} {d0 : Dev} {p : α × β × Dev} (h : KeptPP M d0 p) : Kept M d0 p.2.2 := h

theorem KeptPP.of_eq {α β : Type} {M : Nat} {d0 e : Dev} {p : α × β × Dev} {a : α} {b : β} (he : p = (a, b, e))
    (h : KeptPP M d0 p) : Kept M d0 e := by
  subst he; exact h

/-- An optional device. -/
def KeptO (M : Nat) (d0 : Dev) (o : Option Dev) : Prop := ∀ e, o = some e → Kept M d0 e

theorem KeptO.none {M : Nat} {d0 : Dev} : KeptO M d0 none := fun _ h => nomatch h

theorem KeptO.some {M : Nat} {d0 e : Dev} (h : Kept M d0 e) : KeptO M d0 (some e) := fun _ k => by cases k; exact h

theorem KeptO.of_eq {M : Nat} {d0 e : Dev} {o : Option Dev} (he : o = Option.some e) (h : KeptO M d0 o) : Kept M d0 e := h e he

theorem KeptO.getD {M : Nat} {d0 e : Dev} {o : Option Dev} (h : KeptO M d0 o) (k : Kept M d0 e) : Kept M d0 (o.getD e) := by
  cases o with
  | none => exact k
  | some x => exact h x rfl

/-- A device or an error. -/
def KeptE {ε : Type} (M : Nat) (d0 : Dev) (o : Except ε Dev) : Prop := ∀ e, o = .ok e → Kept M d0 e

theorem KeptE.error {ε : Type} {M : Nat} {d0 : Dev} {x : ε} : KeptE M d0 (.error x) := fun _ h => nomatch h

theorem KeptE.ok {ε : Type} {M : Nat} {d0 e : Dev} (h : Kept M d0 e) : KeptE (ε := ε) M d0 (.ok e) := fun _ k => by cases k; exact h

theorem KeptE.of_eq {ε : Type} {M : Nat} {d0 e : Dev} {o : Except ε Dev} (he : o = .ok e) (h : KeptE M d0 o) : Kept M d0 e := h e he

theorem KeptE.bind {ε α : Type} {M : Nat} {d0 : Dev} {x : Except ε α} {f : α → Except ε Dev} (h : ∀ a, KeptE M d0 (f a)) :
    KeptE M d0 (x.bind f) := by
  cases x with
  | error e => exact KeptE.error
  | ok a => exact h a

theorem KeptE.bindD {ε : Type} {M : Nat} {d0 : Dev} {x : Except ε Dev} {f : Dev → Except ε Dev} (hx : KeptE M d0 x)
    (h : ∀ a, Kept M d0 a → KeptE M d0 (f a)) : KeptE M d0 (x.bind f) := by
  cases x with
  | error e => exact KeptE.error
  | ok a => exact h a (hx a rfl)

/-- A command's outcome: a next state with the same queue, whose device is as `Kept` says. -/
def KeptX (M : Nat) (s : State) (o : Out) : Prop := ∃ e, o = .next ⟨e, s.pending⟩ ∧ Kept M s.dev e

theorem KeptX.mono {M N : Nat} {s : State} {o : Out} (h : KeptX M s o) (hs : Sub M N) : KeptX N s o :=
  let ⟨e, he, hk⟩ := h
  ⟨e, he, hk.mono hs⟩

theorem KeptX.run {M : Nat} {s : State} {f : Dev → Dev} (hf : ∀ e, Kept M s.dev e → Kept M s.dev (f e)) : KeptX M s (run f s) :=
  ⟨_, rfl, hf _ (Kept.set_out (Kept.refl M s.dev))⟩

/-! ### Several fields replaced -/

theorem Dev.mk_frc_sys (d : Dev) (x0 : BitVec 64) (x1 : ModeSt) :
    { d with frc := x0, sys := x1 } = ((d.setFrc x0).setSys x1) := rfl

theorem Dev.mk_hq_sec (d : Dev) (x0 : HqSt) (x1 : SecSt) :
    { d with hq := x0, sec := x1 } = ((d.setHq x0).setSec x1) := rfl

theorem Dev.mk_img_sw (d : Dev) (x0 : ImgSt) (x1 : SwSt) :
    { d with img := x0, sw := x1 } = ((d.setImg x0).setSw x1) := rfl

theorem Dev.mk_mode_sys (d : Dev) (x0 : Mode) (x1 : ModeSt) :
    { d with mode := x0, sys := x1 } = ((d.setMode x0).setSys x1) := rfl

theorem Dev.mk_regs_flt (d : Dev) (x0 : Tab Word) (x1 : FltSt) :
    { d with regs := x0, flt := x1 } = ((d.setRegs x0).setFlt x1) := rfl

theorem Dev.mk_sec_mgmt (d : Dev) (x0 : SecSt) (x1 : MgmtSt) :
    { d with sec := x0, mgmt := x1 } = ((d.setSec x0).setMgmt x1) := rfl

theorem Dev.mk_store_drv (d : Dev) (x0 : StoreSt) (x1 : RingSt) :
    { d with store := x0, drv := x1 } = ((d.setStore x0).setDrv x1) := rfl

theorem Dev.mk_store_img (d : Dev) (x0 : StoreSt) (x1 : ImgSt) :
    { d with store := x0, img := x1 } = ((d.setStore x0).setImg x1) := rfl

theorem Dev.mk_sys_mgmt (d : Dev) (x0 : ModeSt) (x1 : MgmtSt) :
    { d with sys := x0, mgmt := x1 } = ((d.setSys x0).setMgmt x1) := rfl

theorem Dev.mk_time_sec (d : Dev) (x0 : TimeSt) (x1 : SecSt) :
    { d with time := x0, sec := x1 } = ((d.setTime x0).setSec x1) := rfl

theorem Dev.mk_regs_hq_drv (d : Dev) (x0 : Tab Word) (x1 : HqSt) (x2 : RingSt) :
    { d with regs := x0, hq := x1, drv := x2 } = (((d.setRegs x0).setHq x1).setDrv x2) := rfl

theorem Dev.mk_settings_img_mgmt (d : Dev) (x0 : Tab Word) (x1 : ImgSt) (x2 : MgmtSt) :
    { d with settings := x0, img := x1, mgmt := x2 } = (((d.setSettings x0).setImg x1).setMgmt x2) := rfl

theorem Dev.mk_store_img_drv (d : Dev) (x0 : StoreSt) (x1 : ImgSt) (x2 : RingSt) :
    { d with store := x0, img := x1, drv := x2 } = (((d.setStore x0).setImg x1).setDrv x2) := rfl

theorem Kept.lit_can {M : Nat} {d0 d : Dev} {x0 : CanSt} (h0 : Sub 65536 M)
    (h : Kept M d0 d) : Kept M d0 { d with can := x0 } where
  regs m := h.regs m
  settings m := h.settings m
  latches m := h.latches m
  mode m := h.mode m
  frc m := h.frc m
  store m := h.store m
  eng m := h.eng m
  time m := h.time m
  phase m := h.phase m
  hq m := h.hq m
  sec m := h.sec m
  flt m := h.flt m
  sys m := h.sys m
  img m := h.img m
  mgmt m := h.mgmt m
  loads m := h.loads m
  can m := (h0.bit 16 (by decide) m).elim
  sw m := h.sw m
  drv m := h.drv m
  latched m := h.latched m
  faultQ m := h.faultQ m
  tns := h.tns
  counter := h.counter
  canonical c := ⟨(h.canonical c).regs, (h.canonical c).settings, (h.canonical c).slots, (h.canonical c).keys⟩

theorem Kept.lit_drv {M : Nat} {d0 d : Dev} {x0 : RingSt} (h0 : Sub 262144 M)
    (h : Kept M d0 d) : Kept M d0 { d with drv := x0 } where
  regs m := h.regs m
  settings m := h.settings m
  latches m := h.latches m
  mode m := h.mode m
  frc m := h.frc m
  store m := h.store m
  eng m := h.eng m
  time m := h.time m
  phase m := h.phase m
  hq m := h.hq m
  sec m := h.sec m
  flt m := h.flt m
  sys m := h.sys m
  img m := h.img m
  mgmt m := h.mgmt m
  loads m := h.loads m
  can m := h.can m
  sw m := h.sw m
  drv m := (h0.bit 18 (by decide) m).elim
  latched m := h.latched m
  faultQ m := h.faultQ m
  tns := h.tns
  counter := h.counter
  canonical c := ⟨(h.canonical c).regs, (h.canonical c).settings, (h.canonical c).slots, (h.canonical c).keys⟩

theorem Kept.lit_eng {M : Nat} {d0 d : Dev} {x0 : EngSt} (h0 : Sub 64 M)
    (h : Kept M d0 d) : Kept M d0 { d with eng := x0 } where
  regs m := h.regs m
  settings m := h.settings m
  latches m := h.latches m
  mode m := h.mode m
  frc m := h.frc m
  store m := h.store m
  eng m := (h0.bit 6 (by decide) m).elim
  time m := h.time m
  phase m := h.phase m
  hq m := h.hq m
  sec m := h.sec m
  flt m := h.flt m
  sys m := h.sys m
  img m := h.img m
  mgmt m := h.mgmt m
  loads m := h.loads m
  can m := h.can m
  sw m := h.sw m
  drv m := h.drv m
  latched m := h.latched m
  faultQ m := h.faultQ m
  tns := h.tns
  counter := h.counter
  canonical c := ⟨(h.canonical c).regs, (h.canonical c).settings, (h.canonical c).slots, (h.canonical c).keys⟩

theorem Kept.lit_faultQ {M : Nat} {d0 d : Dev} {x0 : FaultQ} (h0 : Sub 1048576 M)
    (h : Kept M d0 d) : Kept M d0 { d with faultQ := x0 } where
  regs m := h.regs m
  settings m := h.settings m
  latches m := h.latches m
  mode m := h.mode m
  frc m := h.frc m
  store m := h.store m
  eng m := h.eng m
  time m := h.time m
  phase m := h.phase m
  hq m := h.hq m
  sec m := h.sec m
  flt m := h.flt m
  sys m := h.sys m
  img m := h.img m
  mgmt m := h.mgmt m
  loads m := h.loads m
  can m := h.can m
  sw m := h.sw m
  drv m := h.drv m
  latched m := h.latched m
  faultQ m := (h0.bit 20 (by decide) m).elim
  tns := h.tns
  counter := h.counter
  canonical c := ⟨(h.canonical c).regs, (h.canonical c).settings, (h.canonical c).slots, (h.canonical c).keys⟩

theorem Kept.lit_flt {M : Nat} {d0 d : Dev} {x0 : FltSt} (h0 : Sub 2048 M)
    (h : Kept M d0 d) : Kept M d0 { d with flt := x0 } where
  regs m := h.regs m
  settings m := h.settings m
  latches m := h.latches m
  mode m := h.mode m
  frc m := h.frc m
  store m := h.store m
  eng m := h.eng m
  time m := h.time m
  phase m := h.phase m
  hq m := h.hq m
  sec m := h.sec m
  flt m := (h0.bit 11 (by decide) m).elim
  sys m := h.sys m
  img m := h.img m
  mgmt m := h.mgmt m
  loads m := h.loads m
  can m := h.can m
  sw m := h.sw m
  drv m := h.drv m
  latched m := h.latched m
  faultQ m := h.faultQ m
  tns := h.tns
  counter := h.counter
  canonical c := ⟨(h.canonical c).regs, (h.canonical c).settings, (h.canonical c).slots, (h.canonical c).keys⟩

theorem Kept.lit_fresh {M : Nat} {d0 d : Dev} {x0 : Nat}
    (h : Kept M d0 d) : Kept M d0 { d with fresh := x0 } where
  regs m := h.regs m
  settings m := h.settings m
  latches m := h.latches m
  mode m := h.mode m
  frc m := h.frc m
  store m := h.store m
  eng m := h.eng m
  time m := h.time m
  phase m := h.phase m
  hq m := h.hq m
  sec m := h.sec m
  flt m := h.flt m
  sys m := h.sys m
  img m := h.img m
  mgmt m := h.mgmt m
  loads m := h.loads m
  can m := h.can m
  sw m := h.sw m
  drv m := h.drv m
  latched m := h.latched m
  faultQ m := h.faultQ m
  tns := h.tns
  counter := h.counter
  canonical c := ⟨(h.canonical c).regs, (h.canonical c).settings, (h.canonical c).slots, (h.canonical c).keys⟩

theorem Kept.lit_hq {M : Nat} {d0 d : Dev} {x0 : HqSt} (h0 : Sub 512 M)
    (h : Kept M d0 d) : Kept M d0 { d with hq := x0 } where
  regs m := h.regs m
  settings m := h.settings m
  latches m := h.latches m
  mode m := h.mode m
  frc m := h.frc m
  store m := h.store m
  eng m := h.eng m
  time m := h.time m
  phase m := h.phase m
  hq m := (h0.bit 9 (by decide) m).elim
  sec m := h.sec m
  flt m := h.flt m
  sys m := h.sys m
  img m := h.img m
  mgmt m := h.mgmt m
  loads m := h.loads m
  can m := h.can m
  sw m := h.sw m
  drv m := h.drv m
  latched m := h.latched m
  faultQ m := h.faultQ m
  tns := h.tns
  counter := h.counter
  canonical c := ⟨(h.canonical c).regs, (h.canonical c).settings, (h.canonical c).slots, (h.canonical c).keys⟩

theorem Kept.lit_img {M : Nat} {d0 d : Dev} {x0 : ImgSt} (h0 : Sub 8192 M)
    (h : Kept M d0 d) : Kept M d0 { d with img := x0 } where
  regs m := h.regs m
  settings m := h.settings m
  latches m := h.latches m
  mode m := h.mode m
  frc m := h.frc m
  store m := h.store m
  eng m := h.eng m
  time m := h.time m
  phase m := h.phase m
  hq m := h.hq m
  sec m := h.sec m
  flt m := h.flt m
  sys m := h.sys m
  img m := (h0.bit 13 (by decide) m).elim
  mgmt m := h.mgmt m
  loads m := h.loads m
  can m := h.can m
  sw m := h.sw m
  drv m := h.drv m
  latched m := h.latched m
  faultQ m := h.faultQ m
  tns := h.tns
  counter := h.counter
  canonical c := ⟨(h.canonical c).regs, (h.canonical c).settings, (h.canonical c).slots, (h.canonical c).keys⟩

theorem Kept.lit_latched {M : Nat} {d0 d : Dev} {x0 : Tab Word} (h0 : Sub 524288 M)
    (h : Kept M d0 d) : Kept M d0 { d with latched := x0 } where
  regs m := h.regs m
  settings m := h.settings m
  latches m := h.latches m
  mode m := h.mode m
  frc m := h.frc m
  store m := h.store m
  eng m := h.eng m
  time m := h.time m
  phase m := h.phase m
  hq m := h.hq m
  sec m := h.sec m
  flt m := h.flt m
  sys m := h.sys m
  img m := h.img m
  mgmt m := h.mgmt m
  loads m := h.loads m
  can m := h.can m
  sw m := h.sw m
  drv m := h.drv m
  latched m := (h0.bit 19 (by decide) m).elim
  faultQ m := h.faultQ m
  tns := h.tns
  counter := h.counter
  canonical c := ⟨(h.canonical c).regs, (h.canonical c).settings, (h.canonical c).slots, (h.canonical c).keys⟩

theorem Kept.lit_latches {M : Nat} {d0 d : Dev} {x0 : Tab Latch} (h0 : Sub 4 M)
    (h : Kept M d0 d) : Kept M d0 { d with latches := x0 } where
  regs m := h.regs m
  settings m := h.settings m
  latches m := (h0.bit 2 (by decide) m).elim
  mode m := h.mode m
  frc m := h.frc m
  store m := h.store m
  eng m := h.eng m
  time m := h.time m
  phase m := h.phase m
  hq m := h.hq m
  sec m := h.sec m
  flt m := h.flt m
  sys m := h.sys m
  img m := h.img m
  mgmt m := h.mgmt m
  loads m := h.loads m
  can m := h.can m
  sw m := h.sw m
  drv m := h.drv m
  latched m := h.latched m
  faultQ m := h.faultQ m
  tns := h.tns
  counter := h.counter
  canonical c := ⟨(h.canonical c).regs, (h.canonical c).settings, (h.canonical c).slots, (h.canonical c).keys⟩

theorem Kept.lit_loads {M : Nat} {d0 d : Dev} {x0 : LoadSt} (h0 : Sub 32768 M)
    (h : Kept M d0 d) : Kept M d0 { d with loads := x0 } where
  regs m := h.regs m
  settings m := h.settings m
  latches m := h.latches m
  mode m := h.mode m
  frc m := h.frc m
  store m := h.store m
  eng m := h.eng m
  time m := h.time m
  phase m := h.phase m
  hq m := h.hq m
  sec m := h.sec m
  flt m := h.flt m
  sys m := h.sys m
  img m := h.img m
  mgmt m := h.mgmt m
  loads m := (h0.bit 15 (by decide) m).elim
  can m := h.can m
  sw m := h.sw m
  drv m := h.drv m
  latched m := h.latched m
  faultQ m := h.faultQ m
  tns := h.tns
  counter := h.counter
  canonical c := ⟨(h.canonical c).regs, (h.canonical c).settings, (h.canonical c).slots, (h.canonical c).keys⟩

theorem Kept.lit_mgmt {M : Nat} {d0 d : Dev} {x0 : MgmtSt} (h0 : Sub 16384 M)
    (h : Kept M d0 d) : Kept M d0 { d with mgmt := x0 } where
  regs m := h.regs m
  settings m := h.settings m
  latches m := h.latches m
  mode m := h.mode m
  frc m := h.frc m
  store m := h.store m
  eng m := h.eng m
  time m := h.time m
  phase m := h.phase m
  hq m := h.hq m
  sec m := h.sec m
  flt m := h.flt m
  sys m := h.sys m
  img m := h.img m
  mgmt m := (h0.bit 14 (by decide) m).elim
  loads m := h.loads m
  can m := h.can m
  sw m := h.sw m
  drv m := h.drv m
  latched m := h.latched m
  faultQ m := h.faultQ m
  tns := h.tns
  counter := h.counter
  canonical c := ⟨(h.canonical c).regs, (h.canonical c).settings, (h.canonical c).slots, (h.canonical c).keys⟩

theorem Kept.lit_mode {M : Nat} {d0 d : Dev} {x0 : Mode} (h0 : Sub 8 M)
    (h : Kept M d0 d) : Kept M d0 { d with mode := x0 } where
  regs m := h.regs m
  settings m := h.settings m
  latches m := h.latches m
  mode m := (h0.bit 3 (by decide) m).elim
  frc m := h.frc m
  store m := h.store m
  eng m := h.eng m
  time m := h.time m
  phase m := h.phase m
  hq m := h.hq m
  sec m := h.sec m
  flt m := h.flt m
  sys m := h.sys m
  img m := h.img m
  mgmt m := h.mgmt m
  loads m := h.loads m
  can m := h.can m
  sw m := h.sw m
  drv m := h.drv m
  latched m := h.latched m
  faultQ m := h.faultQ m
  tns := h.tns
  counter := h.counter
  canonical c := ⟨(h.canonical c).regs, (h.canonical c).settings, (h.canonical c).slots, (h.canonical c).keys⟩

theorem Kept.lit_out {M : Nat} {d0 d : Dev} {x0 : List Emit}
    (h : Kept M d0 d) : Kept M d0 { d with out := x0 } where
  regs m := h.regs m
  settings m := h.settings m
  latches m := h.latches m
  mode m := h.mode m
  frc m := h.frc m
  store m := h.store m
  eng m := h.eng m
  time m := h.time m
  phase m := h.phase m
  hq m := h.hq m
  sec m := h.sec m
  flt m := h.flt m
  sys m := h.sys m
  img m := h.img m
  mgmt m := h.mgmt m
  loads m := h.loads m
  can m := h.can m
  sw m := h.sw m
  drv m := h.drv m
  latched m := h.latched m
  faultQ m := h.faultQ m
  tns := h.tns
  counter := h.counter
  canonical c := ⟨(h.canonical c).regs, (h.canonical c).settings, (h.canonical c).slots, (h.canonical c).keys⟩

theorem Kept.lit_phase {M : Nat} {d0 d : Dev} {x0 : PhaseSt} (h0 : Sub 256 M)
    (h : Kept M d0 d) : Kept M d0 { d with phase := x0 } where
  regs m := h.regs m
  settings m := h.settings m
  latches m := h.latches m
  mode m := h.mode m
  frc m := h.frc m
  store m := h.store m
  eng m := h.eng m
  time m := h.time m
  phase m := (h0.bit 8 (by decide) m).elim
  hq m := h.hq m
  sec m := h.sec m
  flt m := h.flt m
  sys m := h.sys m
  img m := h.img m
  mgmt m := h.mgmt m
  loads m := h.loads m
  can m := h.can m
  sw m := h.sw m
  drv m := h.drv m
  latched m := h.latched m
  faultQ m := h.faultQ m
  tns := h.tns
  counter := h.counter
  canonical c := ⟨(h.canonical c).regs, (h.canonical c).settings, (h.canonical c).slots, (h.canonical c).keys⟩

theorem Kept.lit_regs {M : Nat} {d0 d : Dev} {x0 : Tab Word} (h0 : Sub 1 M) (c0 : d.Canonical → Tab.wf regReset x0 = true)
    (h : Kept M d0 d) : Kept M d0 { d with regs := x0 } where
  regs m := (h0.bit 0 (by decide) m).elim
  settings m := h.settings m
  latches m := h.latches m
  mode m := h.mode m
  frc m := h.frc m
  store m := h.store m
  eng m := h.eng m
  time m := h.time m
  phase m := h.phase m
  hq m := h.hq m
  sec m := h.sec m
  flt m := h.flt m
  sys m := h.sys m
  img m := h.img m
  mgmt m := h.mgmt m
  loads m := h.loads m
  can m := h.can m
  sw m := h.sw m
  drv m := h.drv m
  latched m := h.latched m
  faultQ m := h.faultQ m
  tns := h.tns
  counter := h.counter
  canonical c := ⟨c0 (h.canonical c), (h.canonical c).settings, (h.canonical c).slots, (h.canonical c).keys⟩

theorem Kept.lit_sec {M : Nat} {d0 d : Dev} {x0 : SecSt} (h0 : Sub 1024 M) (c0 : d.Canonical → Tab.wf (fun _ => keyEmpty) x0.slots = true)
    (h : Kept M d0 d) : Kept M d0 { d with sec := x0 } where
  regs m := h.regs m
  settings m := h.settings m
  latches m := h.latches m
  mode m := h.mode m
  frc m := h.frc m
  store m := h.store m
  eng m := h.eng m
  time m := h.time m
  phase m := h.phase m
  hq m := h.hq m
  sec m := (h0.bit 10 (by decide) m).elim
  flt m := h.flt m
  sys m := h.sys m
  img m := h.img m
  mgmt m := h.mgmt m
  loads m := h.loads m
  can m := h.can m
  sw m := h.sw m
  drv m := h.drv m
  latched m := h.latched m
  faultQ m := h.faultQ m
  tns := h.tns
  counter := h.counter
  canonical c := ⟨(h.canonical c).regs, (h.canonical c).settings, (h.canonical c).slots, c0 (h.canonical c)⟩

theorem Kept.lit_settings {M : Nat} {d0 d : Dev} {x0 : Tab Word} (h0 : Sub 2 M) (c0 : d.Canonical → Tab.wf regReset x0 = true)
    (h : Kept M d0 d) : Kept M d0 { d with settings := x0 } where
  regs m := h.regs m
  settings m := (h0.bit 1 (by decide) m).elim
  latches m := h.latches m
  mode m := h.mode m
  frc m := h.frc m
  store m := h.store m
  eng m := h.eng m
  time m := h.time m
  phase m := h.phase m
  hq m := h.hq m
  sec m := h.sec m
  flt m := h.flt m
  sys m := h.sys m
  img m := h.img m
  mgmt m := h.mgmt m
  loads m := h.loads m
  can m := h.can m
  sw m := h.sw m
  drv m := h.drv m
  latched m := h.latched m
  faultQ m := h.faultQ m
  tns := h.tns
  counter := h.counter
  canonical c := ⟨(h.canonical c).regs, c0 (h.canonical c), (h.canonical c).slots, (h.canonical c).keys⟩

theorem Kept.lit_store {M : Nat} {d0 d : Dev} {x0 : StoreSt} (h0 : Sub 32 M) (c0 : d.Canonical → Tab.wf (fun _ => slotUndefined) x0.slots = true)
    (h : Kept M d0 d) : Kept M d0 { d with store := x0 } where
  regs m := h.regs m
  settings m := h.settings m
  latches m := h.latches m
  mode m := h.mode m
  frc m := h.frc m
  store m := (h0.bit 5 (by decide) m).elim
  eng m := h.eng m
  time m := h.time m
  phase m := h.phase m
  hq m := h.hq m
  sec m := h.sec m
  flt m := h.flt m
  sys m := h.sys m
  img m := h.img m
  mgmt m := h.mgmt m
  loads m := h.loads m
  can m := h.can m
  sw m := h.sw m
  drv m := h.drv m
  latched m := h.latched m
  faultQ m := h.faultQ m
  tns := h.tns
  counter := h.counter
  canonical c := ⟨(h.canonical c).regs, (h.canonical c).settings, c0 (h.canonical c), (h.canonical c).keys⟩

theorem Kept.lit_sw {M : Nat} {d0 d : Dev} {x0 : SwSt} (h0 : Sub 131072 M)
    (h : Kept M d0 d) : Kept M d0 { d with sw := x0 } where
  regs m := h.regs m
  settings m := h.settings m
  latches m := h.latches m
  mode m := h.mode m
  frc m := h.frc m
  store m := h.store m
  eng m := h.eng m
  time m := h.time m
  phase m := h.phase m
  hq m := h.hq m
  sec m := h.sec m
  flt m := h.flt m
  sys m := h.sys m
  img m := h.img m
  mgmt m := h.mgmt m
  loads m := h.loads m
  can m := h.can m
  sw m := (h0.bit 17 (by decide) m).elim
  drv m := h.drv m
  latched m := h.latched m
  faultQ m := h.faultQ m
  tns := h.tns
  counter := h.counter
  canonical c := ⟨(h.canonical c).regs, (h.canonical c).settings, (h.canonical c).slots, (h.canonical c).keys⟩

theorem Kept.lit_sys {M : Nat} {d0 d : Dev} {x0 : ModeSt} (h0 : Sub 4096 M)
    (h : Kept M d0 d) : Kept M d0 { d with sys := x0 } where
  regs m := h.regs m
  settings m := h.settings m
  latches m := h.latches m
  mode m := h.mode m
  frc m := h.frc m
  store m := h.store m
  eng m := h.eng m
  time m := h.time m
  phase m := h.phase m
  hq m := h.hq m
  sec m := h.sec m
  flt m := h.flt m
  sys m := (h0.bit 12 (by decide) m).elim
  img m := h.img m
  mgmt m := h.mgmt m
  loads m := h.loads m
  can m := h.can m
  sw m := h.sw m
  drv m := h.drv m
  latched m := h.latched m
  faultQ m := h.faultQ m
  tns := h.tns
  counter := h.counter
  canonical c := ⟨(h.canonical c).regs, (h.canonical c).settings, (h.canonical c).slots, (h.canonical c).keys⟩

theorem Kept.lit_time {M : Nat} {d0 d : Dev} {x0 : TimeSt} (h0 : Sub 128 M)
    (h : Kept M d0 d) : Kept M d0 { d with time := x0 } where
  regs m := h.regs m
  settings m := h.settings m
  latches m := h.latches m
  mode m := h.mode m
  frc m := h.frc m
  store m := h.store m
  eng m := h.eng m
  time m := (h0.bit 7 (by decide) m).elim
  phase m := h.phase m
  hq m := h.hq m
  sec m := h.sec m
  flt m := h.flt m
  sys m := h.sys m
  img m := h.img m
  mgmt m := h.mgmt m
  loads m := h.loads m
  can m := h.can m
  sw m := h.sw m
  drv m := h.drv m
  latched m := h.latched m
  faultQ m := h.faultQ m
  tns := h.tns
  counter := h.counter
  canonical c := ⟨(h.canonical c).regs, (h.canonical c).settings, (h.canonical c).slots, (h.canonical c).keys⟩

theorem Kept.lit_frc_sys {M : Nat} {d0 d : Dev} {x0 : BitVec 64} {x1 : ModeSt} (h0 : Sub 16 M) (c0 : x0 = d0.frc ∨ x0 = 0) (h1 : Sub 4096 M)
    (h : Kept M d0 d) : Kept M d0 { d with frc := x0, sys := x1 } where
  regs m := h.regs m
  settings m := h.settings m
  latches m := h.latches m
  mode m := h.mode m
  frc m := (h0.bit 4 (by decide) m).elim
  store m := h.store m
  eng m := h.eng m
  time m := h.time m
  phase m := h.phase m
  hq m := h.hq m
  sec m := h.sec m
  flt m := h.flt m
  sys m := (h1.bit 12 (by decide) m).elim
  img m := h.img m
  mgmt m := h.mgmt m
  loads m := h.loads m
  can m := h.can m
  sw m := h.sw m
  drv m := h.drv m
  latched m := h.latched m
  faultQ m := h.faultQ m
  tns := h.tns
  counter := c0
  canonical c := ⟨(h.canonical c).regs, (h.canonical c).settings, (h.canonical c).slots, (h.canonical c).keys⟩

theorem Kept.lit_hq_sec {M : Nat} {d0 d : Dev} {x0 : HqSt} {x1 : SecSt} (h0 : Sub 512 M) (h1 : Sub 1024 M) (c1 : d.Canonical → Tab.wf (fun _ => keyEmpty) x1.slots = true)
    (h : Kept M d0 d) : Kept M d0 { d with hq := x0, sec := x1 } where
  regs m := h.regs m
  settings m := h.settings m
  latches m := h.latches m
  mode m := h.mode m
  frc m := h.frc m
  store m := h.store m
  eng m := h.eng m
  time m := h.time m
  phase m := h.phase m
  hq m := (h0.bit 9 (by decide) m).elim
  sec m := (h1.bit 10 (by decide) m).elim
  flt m := h.flt m
  sys m := h.sys m
  img m := h.img m
  mgmt m := h.mgmt m
  loads m := h.loads m
  can m := h.can m
  sw m := h.sw m
  drv m := h.drv m
  latched m := h.latched m
  faultQ m := h.faultQ m
  tns := h.tns
  counter := h.counter
  canonical c := ⟨(h.canonical c).regs, (h.canonical c).settings, (h.canonical c).slots, c1 (h.canonical c)⟩

theorem Kept.lit_img_sw {M : Nat} {d0 d : Dev} {x0 : ImgSt} {x1 : SwSt} (h0 : Sub 8192 M) (h1 : Sub 131072 M)
    (h : Kept M d0 d) : Kept M d0 { d with img := x0, sw := x1 } where
  regs m := h.regs m
  settings m := h.settings m
  latches m := h.latches m
  mode m := h.mode m
  frc m := h.frc m
  store m := h.store m
  eng m := h.eng m
  time m := h.time m
  phase m := h.phase m
  hq m := h.hq m
  sec m := h.sec m
  flt m := h.flt m
  sys m := h.sys m
  img m := (h0.bit 13 (by decide) m).elim
  mgmt m := h.mgmt m
  loads m := h.loads m
  can m := h.can m
  sw m := (h1.bit 17 (by decide) m).elim
  drv m := h.drv m
  latched m := h.latched m
  faultQ m := h.faultQ m
  tns := h.tns
  counter := h.counter
  canonical c := ⟨(h.canonical c).regs, (h.canonical c).settings, (h.canonical c).slots, (h.canonical c).keys⟩

theorem Kept.lit_mode_sys {M : Nat} {d0 d : Dev} {x0 : Mode} {x1 : ModeSt} (h0 : Sub 8 M) (h1 : Sub 4096 M)
    (h : Kept M d0 d) : Kept M d0 { d with mode := x0, sys := x1 } where
  regs m := h.regs m
  settings m := h.settings m
  latches m := h.latches m
  mode m := (h0.bit 3 (by decide) m).elim
  frc m := h.frc m
  store m := h.store m
  eng m := h.eng m
  time m := h.time m
  phase m := h.phase m
  hq m := h.hq m
  sec m := h.sec m
  flt m := h.flt m
  sys m := (h1.bit 12 (by decide) m).elim
  img m := h.img m
  mgmt m := h.mgmt m
  loads m := h.loads m
  can m := h.can m
  sw m := h.sw m
  drv m := h.drv m
  latched m := h.latched m
  faultQ m := h.faultQ m
  tns := h.tns
  counter := h.counter
  canonical c := ⟨(h.canonical c).regs, (h.canonical c).settings, (h.canonical c).slots, (h.canonical c).keys⟩

theorem Kept.lit_regs_flt {M : Nat} {d0 d : Dev} {x0 : Tab Word} {x1 : FltSt} (h0 : Sub 1 M) (c0 : d.Canonical → Tab.wf regReset x0 = true) (h1 : Sub 2048 M)
    (h : Kept M d0 d) : Kept M d0 { d with regs := x0, flt := x1 } where
  regs m := (h0.bit 0 (by decide) m).elim
  settings m := h.settings m
  latches m := h.latches m
  mode m := h.mode m
  frc m := h.frc m
  store m := h.store m
  eng m := h.eng m
  time m := h.time m
  phase m := h.phase m
  hq m := h.hq m
  sec m := h.sec m
  flt m := (h1.bit 11 (by decide) m).elim
  sys m := h.sys m
  img m := h.img m
  mgmt m := h.mgmt m
  loads m := h.loads m
  can m := h.can m
  sw m := h.sw m
  drv m := h.drv m
  latched m := h.latched m
  faultQ m := h.faultQ m
  tns := h.tns
  counter := h.counter
  canonical c := ⟨c0 (h.canonical c), (h.canonical c).settings, (h.canonical c).slots, (h.canonical c).keys⟩

theorem Kept.lit_sec_mgmt {M : Nat} {d0 d : Dev} {x0 : SecSt} {x1 : MgmtSt} (h0 : Sub 1024 M) (c0 : d.Canonical → Tab.wf (fun _ => keyEmpty) x0.slots = true) (h1 : Sub 16384 M)
    (h : Kept M d0 d) : Kept M d0 { d with sec := x0, mgmt := x1 } where
  regs m := h.regs m
  settings m := h.settings m
  latches m := h.latches m
  mode m := h.mode m
  frc m := h.frc m
  store m := h.store m
  eng m := h.eng m
  time m := h.time m
  phase m := h.phase m
  hq m := h.hq m
  sec m := (h0.bit 10 (by decide) m).elim
  flt m := h.flt m
  sys m := h.sys m
  img m := h.img m
  mgmt m := (h1.bit 14 (by decide) m).elim
  loads m := h.loads m
  can m := h.can m
  sw m := h.sw m
  drv m := h.drv m
  latched m := h.latched m
  faultQ m := h.faultQ m
  tns := h.tns
  counter := h.counter
  canonical c := ⟨(h.canonical c).regs, (h.canonical c).settings, (h.canonical c).slots, c0 (h.canonical c)⟩

theorem Kept.lit_store_drv {M : Nat} {d0 d : Dev} {x0 : StoreSt} {x1 : RingSt} (h0 : Sub 32 M) (c0 : d.Canonical → Tab.wf (fun _ => slotUndefined) x0.slots = true) (h1 : Sub 262144 M)
    (h : Kept M d0 d) : Kept M d0 { d with store := x0, drv := x1 } where
  regs m := h.regs m
  settings m := h.settings m
  latches m := h.latches m
  mode m := h.mode m
  frc m := h.frc m
  store m := (h0.bit 5 (by decide) m).elim
  eng m := h.eng m
  time m := h.time m
  phase m := h.phase m
  hq m := h.hq m
  sec m := h.sec m
  flt m := h.flt m
  sys m := h.sys m
  img m := h.img m
  mgmt m := h.mgmt m
  loads m := h.loads m
  can m := h.can m
  sw m := h.sw m
  drv m := (h1.bit 18 (by decide) m).elim
  latched m := h.latched m
  faultQ m := h.faultQ m
  tns := h.tns
  counter := h.counter
  canonical c := ⟨(h.canonical c).regs, (h.canonical c).settings, c0 (h.canonical c), (h.canonical c).keys⟩

theorem Kept.lit_store_img {M : Nat} {d0 d : Dev} {x0 : StoreSt} {x1 : ImgSt} (h0 : Sub 32 M) (c0 : d.Canonical → Tab.wf (fun _ => slotUndefined) x0.slots = true) (h1 : Sub 8192 M)
    (h : Kept M d0 d) : Kept M d0 { d with store := x0, img := x1 } where
  regs m := h.regs m
  settings m := h.settings m
  latches m := h.latches m
  mode m := h.mode m
  frc m := h.frc m
  store m := (h0.bit 5 (by decide) m).elim
  eng m := h.eng m
  time m := h.time m
  phase m := h.phase m
  hq m := h.hq m
  sec m := h.sec m
  flt m := h.flt m
  sys m := h.sys m
  img m := (h1.bit 13 (by decide) m).elim
  mgmt m := h.mgmt m
  loads m := h.loads m
  can m := h.can m
  sw m := h.sw m
  drv m := h.drv m
  latched m := h.latched m
  faultQ m := h.faultQ m
  tns := h.tns
  counter := h.counter
  canonical c := ⟨(h.canonical c).regs, (h.canonical c).settings, c0 (h.canonical c), (h.canonical c).keys⟩

theorem Kept.lit_sys_mgmt {M : Nat} {d0 d : Dev} {x0 : ModeSt} {x1 : MgmtSt} (h0 : Sub 4096 M) (h1 : Sub 16384 M)
    (h : Kept M d0 d) : Kept M d0 { d with sys := x0, mgmt := x1 } where
  regs m := h.regs m
  settings m := h.settings m
  latches m := h.latches m
  mode m := h.mode m
  frc m := h.frc m
  store m := h.store m
  eng m := h.eng m
  time m := h.time m
  phase m := h.phase m
  hq m := h.hq m
  sec m := h.sec m
  flt m := h.flt m
  sys m := (h0.bit 12 (by decide) m).elim
  img m := h.img m
  mgmt m := (h1.bit 14 (by decide) m).elim
  loads m := h.loads m
  can m := h.can m
  sw m := h.sw m
  drv m := h.drv m
  latched m := h.latched m
  faultQ m := h.faultQ m
  tns := h.tns
  counter := h.counter
  canonical c := ⟨(h.canonical c).regs, (h.canonical c).settings, (h.canonical c).slots, (h.canonical c).keys⟩

theorem Kept.lit_time_sec {M : Nat} {d0 d : Dev} {x0 : TimeSt} {x1 : SecSt} (h0 : Sub 128 M) (h1 : Sub 1024 M) (c1 : d.Canonical → Tab.wf (fun _ => keyEmpty) x1.slots = true)
    (h : Kept M d0 d) : Kept M d0 { d with time := x0, sec := x1 } where
  regs m := h.regs m
  settings m := h.settings m
  latches m := h.latches m
  mode m := h.mode m
  frc m := h.frc m
  store m := h.store m
  eng m := h.eng m
  time m := (h0.bit 7 (by decide) m).elim
  phase m := h.phase m
  hq m := h.hq m
  sec m := (h1.bit 10 (by decide) m).elim
  flt m := h.flt m
  sys m := h.sys m
  img m := h.img m
  mgmt m := h.mgmt m
  loads m := h.loads m
  can m := h.can m
  sw m := h.sw m
  drv m := h.drv m
  latched m := h.latched m
  faultQ m := h.faultQ m
  tns := h.tns
  counter := h.counter
  canonical c := ⟨(h.canonical c).regs, (h.canonical c).settings, (h.canonical c).slots, c1 (h.canonical c)⟩

theorem Kept.lit_regs_hq_drv {M : Nat} {d0 d : Dev} {x0 : Tab Word} {x1 : HqSt} {x2 : RingSt} (h0 : Sub 1 M) (c0 : d.Canonical → Tab.wf regReset x0 = true) (h1 : Sub 512 M) (h2 : Sub 262144 M)
    (h : Kept M d0 d) : Kept M d0 { d with regs := x0, hq := x1, drv := x2 } where
  regs m := (h0.bit 0 (by decide) m).elim
  settings m := h.settings m
  latches m := h.latches m
  mode m := h.mode m
  frc m := h.frc m
  store m := h.store m
  eng m := h.eng m
  time m := h.time m
  phase m := h.phase m
  hq m := (h1.bit 9 (by decide) m).elim
  sec m := h.sec m
  flt m := h.flt m
  sys m := h.sys m
  img m := h.img m
  mgmt m := h.mgmt m
  loads m := h.loads m
  can m := h.can m
  sw m := h.sw m
  drv m := (h2.bit 18 (by decide) m).elim
  latched m := h.latched m
  faultQ m := h.faultQ m
  tns := h.tns
  counter := h.counter
  canonical c := ⟨c0 (h.canonical c), (h.canonical c).settings, (h.canonical c).slots, (h.canonical c).keys⟩

theorem Kept.lit_settings_img_mgmt {M : Nat} {d0 d : Dev} {x0 : Tab Word} {x1 : ImgSt} {x2 : MgmtSt} (h0 : Sub 2 M) (c0 : d.Canonical → Tab.wf regReset x0 = true) (h1 : Sub 8192 M) (h2 : Sub 16384 M)
    (h : Kept M d0 d) : Kept M d0 { d with settings := x0, img := x1, mgmt := x2 } where
  regs m := h.regs m
  settings m := (h0.bit 1 (by decide) m).elim
  latches m := h.latches m
  mode m := h.mode m
  frc m := h.frc m
  store m := h.store m
  eng m := h.eng m
  time m := h.time m
  phase m := h.phase m
  hq m := h.hq m
  sec m := h.sec m
  flt m := h.flt m
  sys m := h.sys m
  img m := (h1.bit 13 (by decide) m).elim
  mgmt m := (h2.bit 14 (by decide) m).elim
  loads m := h.loads m
  can m := h.can m
  sw m := h.sw m
  drv m := h.drv m
  latched m := h.latched m
  faultQ m := h.faultQ m
  tns := h.tns
  counter := h.counter
  canonical c := ⟨(h.canonical c).regs, c0 (h.canonical c), (h.canonical c).slots, (h.canonical c).keys⟩

theorem Kept.lit_store_img_drv {M : Nat} {d0 d : Dev} {x0 : StoreSt} {x1 : ImgSt} {x2 : RingSt} (h0 : Sub 32 M) (c0 : d.Canonical → Tab.wf (fun _ => slotUndefined) x0.slots = true) (h1 : Sub 8192 M) (h2 : Sub 262144 M)
    (h : Kept M d0 d) : Kept M d0 { d with store := x0, img := x1, drv := x2 } where
  regs m := h.regs m
  settings m := h.settings m
  latches m := h.latches m
  mode m := h.mode m
  frc m := h.frc m
  store m := (h0.bit 5 (by decide) m).elim
  eng m := h.eng m
  time m := h.time m
  phase m := h.phase m
  hq m := h.hq m
  sec m := h.sec m
  flt m := h.flt m
  sys m := h.sys m
  img m := (h1.bit 13 (by decide) m).elim
  mgmt m := h.mgmt m
  loads m := h.loads m
  can m := h.can m
  sw m := h.sw m
  drv m := (h2.bit 18 (by decide) m).elim
  latched m := h.latched m
  faultQ m := h.faultQ m
  tns := h.tns
  counter := h.counter
  canonical c := ⟨(h.canonical c).regs, (h.canonical c).settings, c0 (h.canonical c), (h.canonical c).keys⟩

theorem Kept.lit_regs_store_eng_time_phase_hq_sec_flt_img_loads_can_sw_drv {M : Nat} {d0 d : Dev} {x0 : Tab Word} {x1 : StoreSt} {x2 : EngSt} {x3 : TimeSt} {x4 : PhaseSt} {x5 : HqSt} {x6 : SecSt} {x7 : FltSt} {x8 : ImgSt} {x9 : LoadSt} {x10 : CanSt} {x11 : SwSt} {x12 : RingSt} (h0 : Sub 1 M) (c0 : d.Canonical → Tab.wf regReset x0 = true) (h1 : Sub 32 M) (c1 : d.Canonical → Tab.wf (fun _ => slotUndefined) x1.slots = true) (h2 : Sub 64 M) (h3 : Sub 128 M) (h4 : Sub 256 M) (h5 : Sub 512 M) (h6 : Sub 1024 M) (c6 : d.Canonical → Tab.wf (fun _ => keyEmpty) x6.slots = true) (h7 : Sub 2048 M) (h8 : Sub 8192 M) (h9 : Sub 32768 M) (h10 : Sub 65536 M) (h11 : Sub 131072 M) (h12 : Sub 262144 M)
    (h : Kept M d0 d) : Kept M d0 { d with regs := x0, store := x1, eng := x2, time := x3, phase := x4, hq := x5, sec := x6, flt := x7, img := x8, loads := x9, can := x10, sw := x11, drv := x12 } where
  regs m := (h0.bit 0 (by decide) m).elim
  settings m := h.settings m
  latches m := h.latches m
  mode m := h.mode m
  frc m := h.frc m
  store m := (h1.bit 5 (by decide) m).elim
  eng m := (h2.bit 6 (by decide) m).elim
  time m := (h3.bit 7 (by decide) m).elim
  phase m := (h4.bit 8 (by decide) m).elim
  hq m := (h5.bit 9 (by decide) m).elim
  sec m := (h6.bit 10 (by decide) m).elim
  flt m := (h7.bit 11 (by decide) m).elim
  sys m := h.sys m
  img m := (h8.bit 13 (by decide) m).elim
  mgmt m := h.mgmt m
  loads m := (h9.bit 15 (by decide) m).elim
  can m := (h10.bit 16 (by decide) m).elim
  sw m := (h11.bit 17 (by decide) m).elim
  drv m := (h12.bit 18 (by decide) m).elim
  latched m := h.latched m
  faultQ m := h.faultQ m
  tns := h.tns
  counter := h.counter
  canonical c := ⟨c0 (h.canonical c), (h.canonical c).settings, c1 (h.canonical c), c6 (h.canonical c)⟩

theorem Kept.lit_latches_frc_store_eng_time_phase_hq_sec_flt_sys_img_mgmt_loads_can_sw_drv_latched_faultQ {M : Nat} {d0 d : Dev} {x0 : Tab Latch} {x1 : BitVec 64} {x2 : StoreSt} {x3 : EngSt} {x4 : TimeSt} {x5 : PhaseSt} {x6 : HqSt} {x7 : SecSt} {x8 : FltSt} {x9 : ModeSt} {x10 : ImgSt} {x11 : MgmtSt} {x12 : LoadSt} {x13 : CanSt} {x14 : SwSt} {x15 : RingSt} {x16 : Tab Word} {x17 : FaultQ} (h0 : Sub 4 M) (h1 : Sub 16 M) (c1 : x1 = d0.frc ∨ x1 = 0) (h2 : Sub 32 M) (c2 : d.Canonical → Tab.wf (fun _ => slotUndefined) x2.slots = true) (h3 : Sub 64 M) (h4 : Sub 128 M) (h5 : Sub 256 M) (h6 : Sub 512 M) (h7 : Sub 1024 M) (c7 : d.Canonical → Tab.wf (fun _ => keyEmpty) x7.slots = true) (h8 : Sub 2048 M) (h9 : Sub 4096 M) (h10 : Sub 8192 M) (h11 : Sub 16384 M) (h12 : Sub 32768 M) (h13 : Sub 65536 M) (h14 : Sub 131072 M) (h15 : Sub 262144 M) (h16 : Sub 524288 M) (h17 : Sub 1048576 M)
    (h : Kept M d0 d) : Kept M d0 { d with latches := x0, frc := x1, store := x2, eng := x3, time := x4, phase := x5, hq := x6, sec := x7, flt := x8, sys := x9, img := x10, mgmt := x11, loads := x12, can := x13, sw := x14, drv := x15, latched := x16, faultQ := x17 } where
  regs m := h.regs m
  settings m := h.settings m
  latches m := (h0.bit 2 (by decide) m).elim
  mode m := h.mode m
  frc m := (h1.bit 4 (by decide) m).elim
  store m := (h2.bit 5 (by decide) m).elim
  eng m := (h3.bit 6 (by decide) m).elim
  time m := (h4.bit 7 (by decide) m).elim
  phase m := (h5.bit 8 (by decide) m).elim
  hq m := (h6.bit 9 (by decide) m).elim
  sec m := (h7.bit 10 (by decide) m).elim
  flt m := (h8.bit 11 (by decide) m).elim
  sys m := (h9.bit 12 (by decide) m).elim
  img m := (h10.bit 13 (by decide) m).elim
  mgmt m := (h11.bit 14 (by decide) m).elim
  loads m := (h12.bit 15 (by decide) m).elim
  can m := (h13.bit 16 (by decide) m).elim
  sw m := (h14.bit 17 (by decide) m).elim
  drv m := (h15.bit 18 (by decide) m).elim
  latched m := (h16.bit 19 (by decide) m).elim
  faultQ m := (h17.bit 20 (by decide) m).elim
  tns := h.tns
  counter := c1
  canonical c := ⟨(h.canonical c).regs, (h.canonical c).settings, c2 (h.canonical c), c7 (h.canonical c)⟩

theorem Kept.lit_latches_frc_store_eng_time_phase_hq_sec_flt_sys_img_mgmt_loads_can_sw_drv_latched_faultQ_out {M : Nat} {d0 d : Dev} {x0 : Tab Latch} {x1 : BitVec 64} {x2 : StoreSt} {x3 : EngSt} {x4 : TimeSt} {x5 : PhaseSt} {x6 : HqSt} {x7 : SecSt} {x8 : FltSt} {x9 : ModeSt} {x10 : ImgSt} {x11 : MgmtSt} {x12 : LoadSt} {x13 : CanSt} {x14 : SwSt} {x15 : RingSt} {x16 : Tab Word} {x17 : FaultQ} {x18 : List Emit} (h0 : Sub 4 M) (h1 : Sub 16 M) (c1 : x1 = d0.frc ∨ x1 = 0) (h2 : Sub 32 M) (c2 : d.Canonical → Tab.wf (fun _ => slotUndefined) x2.slots = true) (h3 : Sub 64 M) (h4 : Sub 128 M) (h5 : Sub 256 M) (h6 : Sub 512 M) (h7 : Sub 1024 M) (c7 : d.Canonical → Tab.wf (fun _ => keyEmpty) x7.slots = true) (h8 : Sub 2048 M) (h9 : Sub 4096 M) (h10 : Sub 8192 M) (h11 : Sub 16384 M) (h12 : Sub 32768 M) (h13 : Sub 65536 M) (h14 : Sub 131072 M) (h15 : Sub 262144 M) (h16 : Sub 524288 M) (h17 : Sub 1048576 M)
    (h : Kept M d0 d) : Kept M d0 { d with latches := x0, frc := x1, store := x2, eng := x3, time := x4, phase := x5, hq := x6, sec := x7, flt := x8, sys := x9, img := x10, mgmt := x11, loads := x12, can := x13, sw := x14, drv := x15, latched := x16, faultQ := x17, out := x18 } where
  regs m := h.regs m
  settings m := h.settings m
  latches m := (h0.bit 2 (by decide) m).elim
  mode m := h.mode m
  frc m := (h1.bit 4 (by decide) m).elim
  store m := (h2.bit 5 (by decide) m).elim
  eng m := (h3.bit 6 (by decide) m).elim
  time m := (h4.bit 7 (by decide) m).elim
  phase m := (h5.bit 8 (by decide) m).elim
  hq m := (h6.bit 9 (by decide) m).elim
  sec m := (h7.bit 10 (by decide) m).elim
  flt m := (h8.bit 11 (by decide) m).elim
  sys m := (h9.bit 12 (by decide) m).elim
  img m := (h10.bit 13 (by decide) m).elim
  mgmt m := (h11.bit 14 (by decide) m).elim
  loads m := (h12.bit 15 (by decide) m).elim
  can m := (h13.bit 16 (by decide) m).elim
  sw m := (h14.bit 17 (by decide) m).elim
  drv m := (h15.bit 18 (by decide) m).elim
  latched m := (h16.bit 19 (by decide) m).elim
  faultQ m := (h17.bit 20 (by decide) m).elim
  tns := h.tns
  counter := c1
  canonical c := ⟨(h.canonical c).regs, (h.canonical c).settings, c2 (h.canonical c), c7 (h.canonical c)⟩

theorem Kept.lit_regs_sys_mgmt {M : Nat} {d0 d : Dev} {x0 : Tab Word} {x1 : ModeSt} {x2 : MgmtSt} (h0 : Sub 1 M) (c0 : d.Canonical → Tab.wf regReset x0 = true) (h1 : Sub 4096 M) (h2 : Sub 16384 M)
    (h : Kept M d0 d) : Kept M d0 { d with regs := x0, sys := x1, mgmt := x2 } where
  regs m := (h0.bit 0 (by decide) m).elim
  settings m := h.settings m
  latches m := h.latches m
  mode m := h.mode m
  frc m := h.frc m
  store m := h.store m
  eng m := h.eng m
  time m := h.time m
  phase m := h.phase m
  hq m := h.hq m
  sec m := h.sec m
  flt m := h.flt m
  sys m := (h1.bit 12 (by decide) m).elim
  img m := h.img m
  mgmt m := (h2.bit 14 (by decide) m).elim
  loads m := h.loads m
  can m := h.can m
  sw m := h.sw m
  drv m := h.drv m
  latched m := h.latched m
  faultQ m := h.faultQ m
  tns := h.tns
  counter := h.counter
  canonical c := ⟨c0 (h.canonical c), (h.canonical c).settings, (h.canonical c).slots, (h.canonical c).keys⟩

theorem Kept.lit_flt_faultQ {M : Nat} {d0 d : Dev} {x0 : FltSt} {x1 : FaultQ} (h0 : Sub 2048 M) (h1 : Sub 1048576 M)
    (h : Kept M d0 d) : Kept M d0 { d with flt := x0, faultQ := x1 } where
  regs m := h.regs m
  settings m := h.settings m
  latches m := h.latches m
  mode m := h.mode m
  frc m := h.frc m
  store m := h.store m
  eng m := h.eng m
  time m := h.time m
  phase m := h.phase m
  hq m := h.hq m
  sec m := h.sec m
  flt m := (h0.bit 11 (by decide) m).elim
  sys m := h.sys m
  img m := h.img m
  mgmt m := h.mgmt m
  loads m := h.loads m
  can m := h.can m
  sw m := h.sw m
  drv m := h.drv m
  latched m := h.latched m
  faultQ m := (h1.bit 20 (by decide) m).elim
  tns := h.tns
  counter := h.counter
  canonical c := ⟨(h.canonical c).regs, (h.canonical c).settings, (h.canonical c).slots, (h.canonical c).keys⟩

end Sys2Proof.Machine
end

