-- ==== Sys2Proof/Laws/KeptOperands.lean ====
section
/-! SUPPORT. What the operations and commands of Machine/Operands.lean keep (`Kept`): the parts each changes, and the canonical form. -/

set_option Elab.async false

namespace Sys2Proof.Machine

theorem Dev.putDmem_kept {M : Nat} {d0 d : Dev} {a1 : _} {a2 : _} {a3 : _} (hM : Sub 64 M) (h : Kept M d0 d) :
    Kept M d0 (Dev.putDmem a1 a2 a3 d) := by
  unfold Dev.putDmem
  repeat' first
    | with_reducible assumption
    | split
    | dsimp only
    | intro _
    | with_reducible refine Kept.lit_eng ((hM).mono (by decide)) ?_

theorem Dev.putAsm_kept {M : Nat} {d0 d : Dev} {a1 : _} {a2 : _} {a3 : _} {a4 : _} (hM : Sub 64 M) (h : Kept M d0 d) :
    Kept M d0 (Dev.putAsm a1 a2 a3 a4 d) := by
  unfold Dev.putAsm
  repeat' first
    | with_reducible assumption
    | split
    | dsimp only
    | intro _
    | with_reducible refine Kept.lit_eng ((hM).mono (by decide)) ?_

end Sys2Proof.Machine
end

