-- ==== Sys2Proof/Laws/KeptOps.lean ====
section
/-! SUPPORT. What the operations and commands of Machine/Ops.lean keep (`Kept`): the parts each changes, and the canonical form. -/

set_option Elab.async false

namespace Sys2Proof.Machine

theorem Dev.wr_kept {M : Nat} {d0 d : Dev} {a1 : _} {a2 : _}  (hM : Sub 1 M) (h : Kept M d0 d) :
    Kept M d0 (Dev.wr a1 a2 d) := Kept.set_regs hM (fun c => Tab.wf_set _ _ _ c.regs) h

theorem Dev.put_kept {M : Nat} {d0 d : Dev} {a1 : _} {a2 : _} (hM : Sub 1 M) (h : Kept M d0 d) :
    Kept M d0 (Dev.put a1 a2 d) := by
  unfold Dev.put
  repeat' first
    | with_reducible assumption
    | with_reducible refine Dev.wr_kept ((hM).mono (by decide)) ?_
    | split
    | dsimp only
    | intro _

theorem Dev.putFlag_kept {M : Nat} {d0 d : Dev} {a1 : _} {a2 : _} (hM : Sub 1 M) (h : Kept M d0 d) :
    Kept M d0 (Dev.putFlag a1 a2 d) := by
  unfold Dev.putFlag
  repeat' first
    | with_reducible assumption
    | with_reducible refine Dev.put_kept ((hM).mono (by decide)) ?_
    | split
    | dsimp only
    | intro _

theorem Dev.count_kept {M : Nat} {d0 d : Dev} {a1 : _} {a2 : _} (hM : Sub 1 M) (h : Kept M d0 d) :
    Kept M d0 (Dev.count a1 a2 d) := by
  unfold Dev.count
  repeat' first
    | with_reducible assumption
    | with_reducible refine Dev.put_kept ((hM).mono (by decide)) ?_
    | split
    | dsimp only
    | intro _

theorem Dev.bump_kept {M : Nat} {d0 d : Dev} {a1 : _} (hM : Sub 1 M) (h : Kept M d0 d) :
    Kept M d0 (Dev.bump a1 d) := by
  unfold Dev.bump
  repeat' first
    | with_reducible assumption
    | with_reducible refine Dev.count_kept ((hM).mono (by decide)) ?_
    | split
    | dsimp only
    | intro _

theorem Dev.peak_kept {M : Nat} {d0 d : Dev} {a1 : _} {a2 : _} (hM : Sub 1 M) (h : Kept M d0 d) :
    Kept M d0 (Dev.peak a1 a2 d) := by
  unfold Dev.peak
  repeat' first
    | with_reducible assumption
    | with_reducible refine Dev.put_kept ((hM).mono (by decide)) ?_
    | split
    | dsimp only
    | intro _

theorem Dev.putPair_kept {M : Nat} {d0 d : Dev} {a1 : _} {a2 : _} {a3 : _} (hM : Sub 1 M) (h : Kept M d0 d) :
    Kept M d0 (Dev.putPair a1 a2 a3 d) := by
  unfold Dev.putPair
  repeat' first
    | with_reducible assumption
    | with_reducible refine Dev.put_kept ((hM).mono (by decide)) ?_
    | split
    | dsimp only
    | intro _

theorem Dev.storeSetting_kept {M : Nat} {d0 d : Dev} {a1 : _}  (hM : Sub 2 M) (h : Kept M d0 d) :
    Kept M d0 (Dev.storeSetting a1 d) := Kept.set_settings hM (fun c => Tab.wf_set _ _ _ c.settings) h

theorem Dev.setLatch_kept {M : Nat} {d0 d : Dev} {a1 : _} {a2 : _} (hM : Sub 4 M) (h : Kept M d0 d) :
    Kept M d0 (Dev.setLatch a1 a2 d) := by
  unfold Dev.setLatch
  repeat' first
    | with_reducible assumption
    | split
    | dsimp only
    | intro _
    | with_reducible refine Kept.lit_latches ((hM).mono (by decide)) ?_

theorem Dev.latchRead_kept {M : Nat} {d0 d : Dev} {a1 : _} {a2 : _} (hM : Sub 4 M) (h : Kept M d0 d) :
    Kept M d0 (Dev.latchRead a1 a2 d) := by
  unfold Dev.latchRead
  repeat' first
    | with_reducible assumption
    | with_reducible refine Dev.setLatch_kept ((hM).mono (by decide)) ?_
    | split
    | dsimp only
    | intro _

theorem Dev.emit_kept {M : Nat} {d0 d : Dev} {a1 : _} (hM : Sub 0 M) (h : Kept M d0 d) :
    Kept M d0 (Dev.emit a1 d) := by
  unfold Dev.emit
  repeat' first
    | with_reducible assumption
    | split
    | dsimp only
    | intro _
    | with_reducible refine Kept.lit_out ?_

theorem Dev.onCrossing_kept {M : Nat} {d0 d : Dev} {a1 : _} {a2 : _} (hM : Sub 2048 M) (h : Kept M d0 d) :
    Kept M d0 (Dev.onCrossing a1 a2 d) := by
  unfold Dev.onCrossing
  repeat' first
    | with_reducible assumption
    | split
    | dsimp only
    | intro _
    | with_reducible refine Kept.lit_flt ((hM).mono (by decide)) ?_

theorem Dev.crossSettle_kept {M : Nat} {d0 d : Dev} {a1 : _} (hM : Sub 2048 M) (h : Kept M d0 d) :
    Kept M d0 (Dev.crossSettle a1 d) := by
  unfold Dev.crossSettle
  repeat' first
    | with_reducible assumption
    | with_reducible refine Kept.onlyIf ?_ ?_
    | with_reducible refine Dev.onCrossing_kept ((hM).mono (by decide)) ?_
    | split
    | dsimp only
    | intro _

theorem Dev.crossWrite_kept {M : Nat} {d0 d : Dev} {a1 : _} {a2 : _} (hM : Sub 2048 M) (h : Kept M d0 d) :
    Kept M d0 (Dev.crossWrite a1 a2 d) := by
  unfold Dev.crossWrite
  repeat' first
    | with_reducible assumption
    | with_reducible refine Dev.crossSettle_kept ((hM).mono (by decide)) ?_
    | with_reducible refine Dev.onCrossing_kept ((hM).mono (by decide)) ?_
    | split
    | dsimp only
    | intro _

theorem Dev.refuseSetting_kept {M : Nat} {d0 d : Dev} {a1 : _} {a2 : _} (hM : Sub 0 M) (h : Kept M d0 d) :
    Kept M d0 (Dev.refuseSetting a1 a2 d) := by
  unfold Dev.refuseSetting
  repeat' first
    | with_reducible assumption
    | with_reducible refine Dev.emit_kept ((hM).mono (by decide)) ?_
    | split
    | dsimp only
    | intro _

theorem Dev.eventsPass_kept {M : Nat} {d0 d : Dev} {a1 : _} {a2 : _} (hM : Sub 1048576 M) (h : Kept M d0 d) :
    Kept M d0 (Dev.eventsPass a1 a2 d) := by
  unfold Dev.eventsPass
  repeat' first
    | with_reducible assumption
    | split
    | dsimp only
    | intro _
    | with_reducible refine Kept.lit_faultQ ((hM).mono (by decide)) ?_

theorem Dev.raiseN_kept {M : Nat} {d0 d : Dev} {a1 : _} {a2 : _} (hM : Sub 1048577 M) (h : Kept M d0 d) :
    Kept M d0 (Dev.raiseN a1 a2 d) := by
  unfold Dev.raiseN
  repeat' first
    | with_reducible assumption
    | with_reducible refine Dev.count_kept ((hM).mono (by decide)) ?_
    | with_reducible refine Dev.eventsPass_kept ((hM).mono (by decide)) ?_
    | split
    | dsimp only
    | intro _

theorem Dev.raise_kept {M : Nat} {d0 d : Dev} {a1 : _} (hM : Sub 1048577 M) (h : Kept M d0 d) :
    Kept M d0 (Dev.raise a1 d) := by
  unfold Dev.raise
  repeat' first
    | with_reducible assumption
    | with_reducible refine Dev.raiseN_kept ((hM).mono (by decide)) ?_
    | split
    | dsimp only
    | intro _

theorem Dev.halfResetStart_kept {M : Nat} {d0 d : Dev} {a1 : _} {a2 : _} (hM : Sub 1050625 M) (h : Kept M d0 d) :
    Kept M d0 (Dev.halfResetStart a1 a2 d) := by
  unfold Dev.halfResetStart
  repeat' first
    | with_reducible assumption
    | with_reducible refine Dev.raise_kept ((hM).mono (by decide)) ?_
    | with_reducible refine Dev.bump_kept ((hM).mono (by decide)) ?_
    | split
    | dsimp only
    | intro _
    | with_reducible refine Kept.lit_flt ((hM).mono (by decide)) ?_

theorem Dev.halfResetEnd_kept {M : Nat} {d0 d : Dev} {a1 : _} (hM : Sub 1050624 M) (h : Kept M d0 d) :
    Kept M d0 (Dev.halfResetEnd a1 d) := by
  unfold Dev.halfResetEnd
  repeat' first
    | with_reducible assumption
    | with_reducible refine Dev.crossSettle_kept ((hM).mono (by decide)) ?_
    | with_reducible refine Dev.onCrossing_kept ((hM).mono (by decide)) ?_
    | split
    | dsimp only
    | intro _
    | with_reducible refine Kept.lit_flt_faultQ ((hM).mono (by decide)) ((hM).mono (by decide)) ?_

theorem Dev.retrained_kept {M : Nat} {d0 d : Dev} {a1 : _} (hM : Sub 1050624 M) (h : Kept M d0 d) :
    Kept M d0 (Dev.retrained a1 d) := by
  unfold Dev.retrained
  repeat' first
    | with_reducible assumption
    | with_reducible refine Dev.halfResetEnd_kept ((hM).mono (by decide)) ?_
    | split
    | dsimp only
    | intro _

theorem Dev.draw_kept {M : Nat} {d0 d : Dev} (hM : Sub 0 M) (h : Kept M d0 d) :
    KeptP M d0 (Dev.draw d) := by
  unfold Dev.draw
  repeat' first
    | with_reducible assumption
    | split
    | dsimp only
    | intro _
    | with_reducible refine Kept.lit_fresh ?_
    | with_reducible refine KeptP.mk ?_

end Sys2Proof.Machine
end

