-- ==== Sys2Proof/Laws/KeptStore.lean ====
section
/-! SUPPORT. What the operations and commands of Machine/Store.lean keep (`Kept`): the parts each changes, and the canonical form. -/

set_option Elab.async false

namespace Sys2Proof.Machine

theorem Dev.putSlot_kept {M : Nat} {d0 d : Dev} {a1 : _} {a2 : _}  (hM : Sub 32 M) (h : Kept M d0 d) :
    Kept M d0 (Dev.putSlot a1 a2 d) := Kept.set_store hM (fun c => Tab.wf_set _ _ _ c.slots) h

theorem Dev.putGone_kept {M : Nat} {d0 d : Dev} {a1 : _} {a2 : _} (hM : Sub 32 M) (h : Kept M d0 d) :
    Kept M d0 (Dev.putGone a1 a2 d) := by
  unfold Dev.putGone
  repeat' first
    | with_reducible assumption
    | exact fun c => (Dev.Canonical.slots c : _)
    | exact fun c => (Dev.Canonical.keys c)
    | exact fun c => (Dev.Canonical.regs c)
    | exact fun c => Tab.wf_drop _ _ (Dev.Canonical.slots c)
    | exact fun c => Tab.wf_set _ _ _ (Dev.Canonical.slots c)
    | exact fun c => Tab.wf_set _ _ _ (Dev.Canonical.keys c)
    | exact fun c => Tab.wf_set _ _ _ (Dev.Canonical.regs c)
    | exact fun c => Tab.wf_drop _ _ (Dev.Canonical.regs c)
    | exact fun c => Tab.wf_set _ _ _ (Dev.Canonical.settings c)
    | exact fun _ => rfl
    | split
    | dsimp only
    | intro _
    | with_reducible refine Kept.lit_store ((hM).mono (by decide)) ?_ ?_

theorem Dev.fireRoutes_kept {M : Nat} {d0 d : Dev} {a1 : _} {a2 : _} {a3 : _} (hM : Sub 32 M) (h : Kept M d0 d) :
    Kept M d0 (Dev.fireRoutes a1 a2 a3 d) := by
  unfold Dev.fireRoutes
  repeat' first
    | with_reducible assumption
    | exact fun c => (Dev.Canonical.slots c : _)
    | exact fun c => (Dev.Canonical.keys c)
    | exact fun c => (Dev.Canonical.regs c)
    | exact fun c => Tab.wf_drop _ _ (Dev.Canonical.slots c)
    | exact fun c => Tab.wf_set _ _ _ (Dev.Canonical.slots c)
    | exact fun c => Tab.wf_set _ _ _ (Dev.Canonical.keys c)
    | exact fun c => Tab.wf_set _ _ _ (Dev.Canonical.regs c)
    | exact fun c => Tab.wf_drop _ _ (Dev.Canonical.regs c)
    | exact fun c => Tab.wf_set _ _ _ (Dev.Canonical.settings c)
    | exact fun _ => rfl
    | split
    | dsimp only
    | intro _
    | with_reducible refine Kept.lit_store ((hM).mono (by decide)) ?_ ?_

theorem Dev.storeRefuse_kept {M : Nat} {d0 d : Dev} {a1 : _} {a2 : _} (hM : Sub 1 M) (h : Kept M d0 d) :
    Kept M d0 (Dev.storeRefuse a1 a2 d) := by
  unfold Dev.storeRefuse
  repeat' first
    | with_reducible assumption
    | with_reducible refine Dev.put_kept ((hM).mono (by decide)) ?_
    | with_reducible refine Dev.bump_kept ((hM).mono (by decide)) ?_
    | split
    | dsimp only
    | intro _

theorem Dev.noteGoneWrite_kept {M : Nat} {d0 d : Dev} {a1 : _} (hM : Sub 32 M) (h : Kept M d0 d) :
    Kept M d0 (Dev.noteGoneWrite a1 d) := by
  unfold Dev.noteGoneWrite
  repeat' first
    | with_reducible assumption
    | with_reducible refine Dev.putGone_kept ((hM).mono (by decide)) ?_
    | split
    | dsimp only
    | intro _

theorem Dev.storeAccept_kept {M : Nat} {d0 d : Dev} {a1 : _} (hM : Sub 32 M) (h : Kept M d0 d) :
    Kept M d0 (Dev.storeAccept a1 d) := by
  unfold Dev.storeAccept
  repeat' first
    | with_reducible assumption
    | with_reducible refine Dev.fireRoutes_kept ((hM).mono (by decide)) ?_
    | with_reducible refine Dev.noteGoneWrite_kept ((hM).mono (by decide)) ?_
    | with_reducible refine Dev.putSlot_kept ((hM).mono (by decide)) ?_
    | split
    | dsimp only
    | intro _

theorem Dev.storeCycle_kept {M : Nat} {d0 d : Dev} {a1 : _} (hM : Sub 33 M) (h : Kept M d0 d) :
    Kept M d0 (Dev.storeCycle a1 d) := by
  unfold Dev.storeCycle
  repeat' first
    | with_reducible assumption
    | with_reducible refine Kept.each ?_ ?_
    | with_reducible refine Dev.storeRefuse_kept ((hM).mono (by decide)) ?_
    | with_reducible refine Dev.storeAccept_kept ((hM).mono (by decide)) ?_
    | with_reducible refine Dev.count_kept ((hM).mono (by decide)) ?_
    | split
    | dsimp only
    | intro _

theorem Dev.storeWrite_kept {M : Nat} {d0 d : Dev} {a1 : _} {a2 : _} (hM : Sub 33 M) (h : Kept M d0 d) :
    Kept M d0 (Dev.storeWrite a1 a2 d) := by
  unfold Dev.storeWrite
  repeat' first
    | with_reducible assumption
    | with_reducible refine Dev.storeCycle_kept ((hM).mono (by decide)) ?_
    | split
    | dsimp only
    | intro _

theorem Dev.storeMark_kept {M : Nat} {d0 d : Dev} {a1 : _} (hM : Sub 33 M) (h : Kept M d0 d) :
    Kept M d0 (Dev.storeMark a1 d) := by
  unfold Dev.storeMark
  repeat' first
    | with_reducible assumption
    | with_reducible refine Dev.fireRoutes_kept ((hM).mono (by decide)) ?_
    | with_reducible refine Dev.bump_kept ((hM).mono (by decide)) ?_
    | with_reducible refine Dev.putSlot_kept ((hM).mono (by decide)) ?_
    | split
    | dsimp only
    | intro _

theorem Dev.scanVisit_kept {M : Nat} {d0 d : Dev} {a1 : _} {a2 : _} (hM : Sub 33 M) (h : Kept M d0 d) :
    Kept M d0 (Dev.scanVisit a1 a2 d) := by
  unfold Dev.scanVisit
  repeat' first
    | with_reducible assumption
    | with_reducible refine Dev.storeCycle_kept ((hM).mono (by decide)) ?_
    | with_reducible refine Dev.storeMark_kept ((hM).mono (by decide)) ?_
    | split
    | dsimp only
    | intro _

theorem Dev.invalidate_kept {M : Nat} {d0 d : Dev} {a1 : _} (hM : Sub 32 M) (h : Kept M d0 d) :
    Kept M d0 (Dev.invalidate a1 d) := by
  unfold Dev.invalidate
  repeat' first
    | with_reducible assumption
    | with_reducible refine Dev.putSlot_kept ((hM).mono (by decide)) ?_
    | split
    | dsimp only
    | intro _

theorem Dev.invalidateRange_kept {M : Nat} {d0 d : Dev} {a1 : _} {a2 : _} (hM : Sub 32 M) (h : Kept M d0 d) :
    Kept M d0 (Dev.invalidateRange a1 a2 d) := by
  unfold Dev.invalidateRange
  repeat' first
    | with_reducible assumption
    | with_reducible refine Kept.each ?_ ?_
    | with_reducible refine Dev.invalidate_kept ((hM).mono (by decide)) ?_
    | split
    | dsimp only
    | intro _

theorem Dev.undefineRange_kept {M : Nat} {d0 d : Dev} {a1 : _} {a2 : _}  (hM : Sub 32 M) (h : Kept M d0 d) :
    Kept M d0 (Dev.undefineRange a1 a2 d) := Kept.set_store hM (fun c => Tab.wf_dropRange _ _ _ c.slots) h

theorem Dev.putMarkPos_kept {M : Nat} {d0 d : Dev} {a1 : _} {a2 : _} (hM : Sub 32 M) (h : Kept M d0 d) :
    Kept M d0 (Dev.putMarkPos a1 a2 d) := by
  unfold Dev.putMarkPos
  repeat' first
    | with_reducible assumption
    | exact fun c => (Dev.Canonical.slots c : _)
    | exact fun c => (Dev.Canonical.keys c)
    | exact fun c => (Dev.Canonical.regs c)
    | exact fun c => Tab.wf_drop _ _ (Dev.Canonical.slots c)
    | exact fun c => Tab.wf_set _ _ _ (Dev.Canonical.slots c)
    | exact fun c => Tab.wf_set _ _ _ (Dev.Canonical.keys c)
    | exact fun c => Tab.wf_set _ _ _ (Dev.Canonical.regs c)
    | exact fun c => Tab.wf_drop _ _ (Dev.Canonical.regs c)
    | exact fun c => Tab.wf_set _ _ _ (Dev.Canonical.settings c)
    | exact fun _ => rfl
    | split
    | dsimp only
    | intro _
    | with_reducible refine Kept.lit_store ((hM).mono (by decide)) ?_ ?_

theorem Dev.markShow_kept {M : Nat} {d0 d : Dev} (hM : Sub 1 M) (h : Kept M d0 d) :
    Kept M d0 (Dev.markShow d) := by
  unfold Dev.markShow
  repeat' first
    | with_reducible assumption
    | with_reducible refine Dev.put_kept ((hM).mono (by decide)) ?_
    | with_reducible refine Dev.putFlag_kept ((hM).mono (by decide)) ?_
    | split
    | dsimp only
    | intro _

theorem Dev.nodeGone_kept {M : Nat} {d0 d : Dev} {a1 : _} (hM : Sub 33 M) (h : Kept M d0 d) :
    Kept M d0 (Dev.nodeGone a1 d) := by
  unfold Dev.nodeGone
  repeat' first
    | with_reducible assumption
    | with_reducible refine Dev.markShow_kept ((hM).mono (by decide)) ?_
    | with_reducible refine Dev.putMarkPos_kept ((hM).mono (by decide)) ?_
    | with_reducible refine Dev.putGone_kept ((hM).mono (by decide)) ?_
    | split
    | dsimp only
    | intro _

theorem Dev.invalidationWins_kept {M : Nat} {d0 d : Dev} {a1 : _} (hM : Sub 1 M) (h : Kept M d0 d) :
    Kept M d0 (Dev.invalidationWins a1 d) := by
  unfold Dev.invalidationWins
  repeat' first
    | with_reducible assumption
    | with_reducible refine Kept.each ?_ ?_
    | with_reducible refine Dev.count_kept ((hM).mono (by decide)) ?_
    | with_reducible refine Dev.storeRefuse_kept ((hM).mono (by decide)) ?_
    | split
    | dsimp only
    | intro _

theorem Dev.nodeRejoin_kept {M : Nat} {d0 d : Dev} {a1 : _} {a2 : _} (hM : Sub 33 M) (h : Kept M d0 d) :
    Kept M d0 (Dev.nodeRejoin a1 a2 d) := by
  unfold Dev.nodeRejoin
  repeat' first
    | with_reducible assumption
    | with_reducible refine Dev.invalidationWins_kept ((hM).mono (by decide)) ?_
    | with_reducible refine Dev.markShow_kept ((hM).mono (by decide)) ?_
    | with_reducible refine Dev.invalidateRange_kept ((hM).mono (by decide)) ?_
    | with_reducible refine Dev.putGone_kept ((hM).mono (by decide)) ?_
    | split
    | dsimp only
    | intro _

theorem Dev.markStep_kept {M : Nat} {d0 d : Dev} {a1 : _} (hM : Sub 33 M) (h : Kept M d0 d) :
    Kept M d0 (Dev.markStep a1 d) := by
  unfold Dev.markStep
  repeat' first
    | with_reducible assumption
    | with_reducible refine Dev.storeCycle_kept ((hM).mono (by decide)) ?_
    | with_reducible refine Dev.storeMark_kept ((hM).mono (by decide)) ?_
    | with_reducible refine Dev.markShow_kept ((hM).mono (by decide)) ?_
    | with_reducible refine Dev.putMarkPos_kept ((hM).mono (by decide)) ?_
    | split
    | dsimp only
    | intro _

theorem Dev.consume_kept {M : Nat} {d0 d : Dev} {a1 : _} {a2 : _} (hM : Sub 36 M) (h : Kept M d0 d) :
    KeptP M d0 (Dev.consume a1 a2 d) := by
  unfold Dev.consume
  repeat' first
    | with_reducible assumption
    | with_reducible refine Dev.putSlot_kept ((hM).mono (by decide)) ?_
    | with_reducible refine Dev.latchRead_kept ((hM).mono (by decide)) ?_
    | split
    | dsimp only
    | intro _
    | with_reducible refine KeptP.mk ?_

end Sys2Proof.Machine
end

