-- ==== Sys2Proof/Laws/KeptEngine.lean ====
section
/-! SUPPORT. What the operations and commands of Machine/Engine.lean keep (`Kept`): the parts each changes, and the canonical form. -/

set_option Elab.async false

namespace Sys2Proof.Machine

theorem Dev.putThread_kept {M : Nat} {d0 d : Dev} {a1 : _} {a2 : _} {a3 : _} (hM : Sub 64 M) (h : Kept M d0 d) :
    Kept M d0 (Dev.putThread a1 a2 a3 d) := by
  unfold Dev.putThread
  repeat' first
    | with_reducible assumption
    | split
    | dsimp only
    | intro _
    | with_reducible refine Kept.lit_eng ((hM).mono (by decide)) ?_

theorem Dev.onThread_kept {M : Nat} {d0 d : Dev} {a1 : _} {a2 : _} {a3 : _} (hM : Sub 64 M) (h : Kept M d0 d) :
    Kept M d0 (Dev.onThread a1 a2 a3 d) := by
  unfold Dev.onThread
  repeat' first
    | with_reducible assumption
    | with_reducible refine Dev.putThread_kept ((hM).mono (by decide)) ?_
    | split
    | dsimp only
    | intro _

theorem Dev.eventDrop_kept {M : Nat} {d0 d : Dev} {a1 : _} {a2 : _} {a3 : _} (hM : Sub 1048577 M) (h : Kept M d0 d) :
    Kept M d0 (Dev.eventDrop a1 a2 a3 d) := by
  unfold Dev.eventDrop
  repeat' first
    | with_reducible assumption
    | with_reducible refine Dev.raise_kept ((hM).mono (by decide)) ?_
    | with_reducible refine Dev.put_kept ((hM).mono (by decide)) ?_
    | with_reducible refine Dev.bump_kept ((hM).mono (by decide)) ?_
    | split
    | dsimp only
    | intro _

theorem Dev.postEvent_kept {M : Nat} {d0 d : Dev} {a1 : _} {a2 : _} {a3 : _} {a4 : _} {a5 : _} {a6 : _} (hM : Sub 1048641 M) (h : Kept M d0 d) :
    Kept M d0 (Dev.postEvent a1 a2 a3 a4 a5 a6 d) := by
  unfold Dev.postEvent
  repeat' first
    | with_reducible assumption
    | with_reducible refine Dev.eventDrop_kept ((hM).mono (by decide)) ?_
    | with_reducible refine Dev.bump_kept ((hM).mono (by decide)) ?_
    | with_reducible refine Dev.onThread_kept ((hM).mono (by decide)) ?_
    | split
    | dsimp only
    | intro _

theorem Dev.putRing_kept {M : Nat} {d0 d : Dev} {a1 : _} {a2 : _} (hM : Sub 64 M) (h : Kept M d0 d) :
    Kept M d0 (Dev.putRing a1 a2 d) := by
  unfold Dev.putRing
  repeat' first
    | with_reducible assumption
    | split
    | dsimp only
    | intro _
    | with_reducible refine Kept.lit_eng ((hM).mono (by decide)) ?_

theorem Dev.ringStore_kept {M : Nat} {d0 d : Dev} {a1 : _} {a2 : _} {a3 : _} {a4 : _} {a5 : _} {a6 : _} {a7 : _} (hM : Sub 64 M) (h : Kept M d0 d) :
    Kept M d0 (Dev.ringStore a1 a2 a3 a4 a5 a6 a7 d) := by
  unfold Dev.ringStore
  repeat' first
    | with_reducible assumption
    | with_reducible refine Dev.putDmem_kept ((hM).mono (by decide)) ?_
    | with_reducible refine Dev.putRing_kept ((hM).mono (by decide)) ?_
    | split
    | dsimp only
    | intro _

theorem Dev.ringRelease_kept {M : Nat} {d0 d : Dev} {a1 : _} (hM : Sub 64 M) (h : Kept M d0 d) :
    Kept M d0 (Dev.ringRelease a1 d) := by
  unfold Dev.ringRelease
  repeat' first
    | with_reducible assumption
    | with_reducible refine Dev.putRing_kept ((hM).mono (by decide)) ?_
    | split
    | dsimp only
    | intro _

theorem Dev.putAsmTmpl_kept {M : Nat} {d0 d : Dev} {a1 : _} {a2 : _} {a3 : _} (hM : Sub 64 M) (h : Kept M d0 d) :
    Kept M d0 (Dev.putAsmTmpl a1 a2 a3 d) := by
  unfold Dev.putAsmTmpl
  repeat' first
    | with_reducible assumption
    | split
    | dsimp only
    | intro _
    | with_reducible refine Kept.lit_eng ((hM).mono (by decide)) ?_

theorem Dev.closeHandle_kept {M : Nat} {d0 d : Dev} {a1 : _} {a2 : _} {a3 : _} (hM : Sub 64 M) (h : Kept M d0 d) :
    Kept M d0 (Dev.closeHandle a1 a2 a3 d) := by
  unfold Dev.closeHandle
  repeat' first
    | with_reducible assumption
    | with_reducible refine Dev.onThread_kept ((hM).mono (by decide)) ?_
    | with_reducible refine Dev.putAsmTmpl_kept ((hM).mono (by decide)) ?_
    | split
    | dsimp only
    | intro _

theorem Dev.closeHandles_kept {M : Nat} {d0 d : Dev} {a1 : _} {a2 : _} (hM : Sub 64 M) (h : Kept M d0 d) :
    Kept M d0 (Dev.closeHandles a1 a2 d) := by
  unfold Dev.closeHandles
  repeat' first
    | with_reducible assumption
    | with_reducible refine Kept.each ?_ ?_
    | with_reducible refine Dev.closeHandle_kept ((hM).mono (by decide)) ?_
    | split
    | dsimp only
    | intro _

theorem Dev.openHandle_kept {M : Nat} {d0 d : Dev} {a1 : _} {a2 : _} {a3 : _} {a4 : _} {a5 : _} (hM : Sub 64 M) (h : Kept M d0 d) :
    Kept M d0 (Dev.openHandle a1 a2 a3 a4 a5 d) := by
  unfold Dev.openHandle
  repeat' first
    | with_reducible assumption
    | with_reducible refine Dev.onThread_kept ((hM).mono (by decide)) ?_
    | with_reducible refine Dev.putAsm_kept ((hM).mono (by decide)) ?_
    | with_reducible refine Dev.putAsmTmpl_kept ((hM).mono (by decide)) ?_
    | split
    | dsimp only
    | intro _

theorem Dev.coreMark_kept {M : Nat} {d0 d : Dev} (hM : Sub 1024 M) (h : Kept M d0 d) :
    Kept M d0 (Dev.coreMark d) := by
  unfold Dev.coreMark
  repeat' first
    | with_reducible assumption
    | exact fun c => (Dev.Canonical.slots c : _)
    | exact fun c => (Dev.Canonical.keys c)
    | exact fun c => (Dev.Canonical.regs c)
    | exact fun c => Tab.wf_drop _ _ (Dev.Canonical.slots c)
    | exact fun c => Tab.wf_set _ _ _ (Dev.Canonical.slots c)
    | exact fun c => Tab.wf_set _ _ _ (Dev.Canonical.keys c)
    | exact fun c => Tab.wf_set _ _ _ (Dev.Canonical.regs c)
    | exact fun c => Tab.wf_drop _ _ (Dev.Canonical.regs c)
    | exact fun c => Tab.wf_set _ _ _ (Dev.Canonical.settings c)
    | exact fun _ => rfl
    | with_reducible refine Kept.each ?_ ?_
    | split
    | dsimp only
    | intro _
    | with_reducible refine Kept.lit_sec ((hM).mono (by decide)) ?_ ?_

theorem Dev.coresAnew_kept {M : Nat} {d0 d : Dev} (hM : Sub 1024 M) (h : Kept M d0 d) :
    Kept M d0 (Dev.coresAnew d) := by
  unfold Dev.coresAnew
  repeat' first
    | with_reducible assumption
    | exact fun c => (Dev.Canonical.slots c : _)
    | exact fun c => (Dev.Canonical.keys c)
    | exact fun c => (Dev.Canonical.regs c)
    | exact fun c => Tab.wf_drop _ _ (Dev.Canonical.slots c)
    | exact fun c => Tab.wf_set _ _ _ (Dev.Canonical.slots c)
    | exact fun c => Tab.wf_set _ _ _ (Dev.Canonical.keys c)
    | exact fun c => Tab.wf_set _ _ _ (Dev.Canonical.regs c)
    | exact fun c => Tab.wf_drop _ _ (Dev.Canonical.regs c)
    | exact fun c => Tab.wf_set _ _ _ (Dev.Canonical.settings c)
    | exact fun _ => rfl
    | with_reducible refine Dev.coreMark_kept ((hM).mono (by decide)) ?_
    | split
    | dsimp only
    | intro _
    | with_reducible refine Kept.lit_sec ((hM).mono (by decide)) ?_ ?_

theorem Dev.dropQput_kept {M : Nat} {d0 d : Dev} {a1 : _} {a2 : _} (hM : Sub 512 M) (h : Kept M d0 d) :
    Kept M d0 (Dev.dropQput a1 a2 d) := by
  unfold Dev.dropQput
  repeat' first
    | with_reducible assumption
    | split
    | dsimp only
    | intro _
    | with_reducible refine Kept.lit_hq ((hM).mono (by decide)) ?_

theorem Dev.dropRing_kept {M : Nat} {d0 d : Dev} {a1 : _} {a2 : _} (hM : Sub 262144 M) (h : Kept M d0 d) :
    Kept M d0 (Dev.dropRing a1 a2 d) := by
  unfold Dev.dropRing
  repeat' first
    | with_reducible assumption
    | split
    | dsimp only
    | intro _
    | with_reducible refine Kept.lit_drv ((hM).mono (by decide)) ?_

theorem Dev.endEvent_kept {M : Nat} {d0 d : Dev} {a1 : _} {a2 : _} (hM : Sub 262720 M) (h : Kept M d0 d) :
    Kept M d0 (Dev.endEvent a1 a2 d) := by
  unfold Dev.endEvent
  repeat' first
    | with_reducible assumption
    | with_reducible refine Dev.ringRelease_kept ((hM).mono (by decide)) ?_
    | with_reducible refine Dev.onThread_kept ((hM).mono (by decide)) ?_
    | with_reducible refine Dev.dropRing_kept ((hM).mono (by decide)) ?_
    | with_reducible refine Dev.dropQput_kept ((hM).mono (by decide)) ?_
    | with_reducible refine Dev.closeHandles_kept ((hM).mono (by decide)) ?_
    | split
    | dsimp only
    | intro _

theorem Dev.trap_kept {M : Nat} {d0 d : Dev} {a1 : _} {a2 : _} {a3 : _} {a4 : _} {a5 : _} (hM : Sub 1311297 M) (h : Kept M d0 d) :
    Kept M d0 (Dev.trap a1 a2 a3 a4 a5 d) := by
  unfold Dev.trap
  repeat' first
    | with_reducible assumption
    | with_reducible refine Dev.bump_kept ((hM).mono (by decide)) ?_
    | with_reducible refine Dev.put_kept ((hM).mono (by decide)) ?_
    | with_reducible refine Dev.raise_kept ((hM).mono (by decide)) ?_
    | with_reducible refine Dev.onThread_kept ((hM).mono (by decide)) ?_
    | with_reducible refine Dev.endEvent_kept ((hM).mono (by decide)) ?_
    | split
    | dsimp only
    | intro _

theorem Dev.memError_kept {M : Nat} {d0 d : Dev} {a1 : _} (hM : Sub 1311297 M) (h : Kept M d0 d) :
    Kept M d0 (Dev.memError a1 d) := by
  unfold Dev.memError
  repeat' first
    | with_reducible assumption
    | with_reducible refine Dev.bump_kept ((hM).mono (by decide)) ?_
    | with_reducible refine Dev.trap_kept ((hM).mono (by decide)) ?_
    | with_reducible refine Dev.raise_kept ((hM).mono (by decide)) ?_
    | split
    | dsimp only
    | intro _

theorem Dev.overrun_kept {M : Nat} {d0 d : Dev} {a1 : _} {a2 : _} {a3 : _} (hM : Sub 1312321 M) (h : Kept M d0 d) :
    Kept M d0 (Dev.overrun a1 a2 a3 d) := by
  unfold Dev.overrun
  repeat' first
    | with_reducible assumption
    | with_reducible refine Dev.coreMark_kept ((hM).mono (by decide)) ?_
    | with_reducible refine Dev.endEvent_kept ((hM).mono (by decide)) ?_
    | with_reducible refine Dev.raise_kept ((hM).mono (by decide)) ?_
    | with_reducible refine Dev.bump_kept ((hM).mono (by decide)) ?_
    | with_reducible refine Dev.putFlag_kept ((hM).mono (by decide)) ?_
    | with_reducible refine Dev.put_kept ((hM).mono (by decide)) ?_
    | split
    | dsimp only
    | intro _

theorem Dev.beginEvent_kept {M : Nat} {d0 d : Dev} {a1 : _} {a2 : _} {a3 : _} (hM : Sub 68 M) (h : Kept M d0 d) :
    Kept M d0 (Dev.beginEvent a1 a2 a3 d) := by
  unfold Dev.beginEvent
  repeat' first
    | with_reducible assumption
    | with_reducible refine Dev.onThread_kept ((hM).mono (by decide)) ?_
    | with_reducible refine Dev.setLatch_kept ((hM).mono (by decide)) ?_
    | with_reducible refine Dev.closeHandles_kept ((hM).mono (by decide)) ?_
    | split
    | dsimp only
    | intro _

theorem Dev.eventStart_kept {M : Nat} {d0 d : Dev} {a1 : _} {a2 : _} (hM : Sub 68 M) (h : Kept M d0 d) :
    Kept M d0 (Dev.eventStart a1 a2 d) := by
  unfold Dev.eventStart
  repeat' first
    | with_reducible assumption
    | with_reducible refine Dev.beginEvent_kept ((hM).mono (by decide)) ?_
    | with_reducible refine Dev.onThread_kept ((hM).mono (by decide)) ?_
    | split
    | dsimp only
    | intro _

theorem Dev.issued_kept {M : Nat} {d0 d : Dev} {a1 : _} {a2 : _} (hM : Sub 64 M) (h : Kept M d0 d) :
    Kept M d0 (Dev.issued a1 a2 d) := by
  unfold Dev.issued
  repeat' first
    | with_reducible assumption
    | with_reducible refine Dev.onThread_kept ((hM).mono (by decide)) ?_
    | split
    | dsimp only
    | intro _
    | with_reducible refine Kept.lit_eng ((hM).mono (by decide)) ?_

theorem Dev.issue_kept {M : Nat} {d0 d : Dev} {a1 : _} {a2 : _} {a3 : _} {a4 : _} (h4 : ∀ y0 y1, Kept M d0 y1 → Kept M d0 (a4 y0 y1)) (hM : Sub 1311297 M) (h : Kept M d0 d) :
    Kept M d0 (Dev.issue a1 a2 a3 a4 d) := by
  unfold Dev.issue
  repeat' first
    | with_reducible assumption
    | with_reducible refine h4 _ _ ?_
    | with_reducible refine Dev.trap_kept ((hM).mono (by decide)) ?_
    | with_reducible refine Dev.issued_kept ((hM).mono (by decide)) ?_
    | split
    | dsimp only
    | intro _

theorem Dev.issueT_kept {M : Nat} {d0 d : Dev} {a1 : _} {a2 : _} {a3 : _} {a4 : _} (hM : Sub 1311297 M) (h : Kept M d0 d) :
    Kept M d0 (Dev.issueT a1 a2 a3 a4 d) := by
  unfold Dev.issueT
  repeat' first
    | with_reducible assumption
    | with_reducible refine Dev.issue_kept ?_ ((hM).mono (by decide)) ?_
    | with_reducible refine Dev.onThread_kept ((hM).mono (by decide)) ?_
    | split
    | dsimp only
    | intro _

theorem Dev.loadWait_kept {M : Nat} {d0 d : Dev} {a1 : _} {a2 : _} (hM : Sub 64 M) (h : Kept M d0 d) :
    Kept M d0 (Dev.loadWait a1 a2 d) := by
  unfold Dev.loadWait
  repeat' first
    | with_reducible assumption
    | with_reducible refine Dev.draw_kept ((hM).mono (by decide)) ?_
    | with_reducible refine Dev.onThread_kept ((hM).mono (by decide)) ?_
    | refine KeptP.of_eq (by assumption) ?_
    | with_reducible refine KeptP.snd ?_
    | split
    | dsimp only
    | intro _
    | with_reducible refine KeptP.mk ?_

theorem Dev.eventWrite_kept {M : Nat} {d0 d : Dev} {a1 : _} {a2 : _} {a3 : _} {a4 : _} {a5 : _} {a6 : _} (hM : Sub 33 M) (h : Kept M d0 d) :
    Kept M d0 (Dev.eventWrite a1 a2 a3 a4 a5 a6 d) := by
  unfold Dev.eventWrite
  repeat' first
    | with_reducible assumption
    | with_reducible refine Dev.storeCycle_kept ((hM).mono (by decide)) ?_
    | with_reducible refine Dev.storeRefuse_kept ((hM).mono (by decide)) ?_
    | with_reducible refine Dev.storeWrite_kept ((hM).mono (by decide)) ?_
    | split
    | dsimp only
    | intro _

end Sys2Proof.Machine
end

