-- ==== Sys2Proof/Laws/KeptEngineInstr.lean ====
section
/-! SUPPORT. What the operations and commands of Machine/EngineInstr.lean keep (`Kept`): the parts each changes, and the canonical form. -/

set_option Elab.async false

namespace Sys2Proof.Machine

theorem execNop_kept {a1 : _} {a2 : _} {s : State} : KeptX 1311297 s (execNop a1 a2 s) := by
  unfold execNop
  repeat' first
    | with_reducible assumption
    | with_reducible refine KeptX.run ?_
    | with_reducible refine Dev.issueT_kept ((Sub.rfl).mono (by decide)) ?_
    | split
    | dsimp only
    | intro _

theorem execMov_kept {a1 : _} {a2 : _} {a3 : _} {a4 : _} {s : State} : KeptX 1311297 s (execMov a1 a2 a3 a4 s) := by
  unfold execMov
  repeat' first
    | with_reducible assumption
    | with_reducible refine KeptX.run ?_
    | with_reducible refine Dev.issueT_kept ((Sub.rfl).mono (by decide)) ?_
    | split
    | dsimp only
    | intro _

theorem execMovi_kept {a1 : _} {a2 : _} {a3 : _} {a4 : _} {s : State} : KeptX 1311297 s (execMovi a1 a2 a3 a4 s) := by
  unfold execMovi
  repeat' first
    | with_reducible assumption
    | with_reducible refine KeptX.run ?_
    | with_reducible refine Dev.issueT_kept ((Sub.rfl).mono (by decide)) ?_
    | split
    | dsimp only
    | intro _

theorem execMovu_kept {a1 : _} {a2 : _} {a3 : _} {a4 : _} {s : State} : KeptX 1311297 s (execMovu a1 a2 a3 a4 s) := by
  unfold execMovu
  repeat' first
    | with_reducible assumption
    | with_reducible refine KeptX.run ?_
    | with_reducible refine Dev.issueT_kept ((Sub.rfl).mono (by decide)) ?_
    | split
    | dsimp only
    | intro _

theorem execAdd_kept {a1 : _} {a2 : _} {a3 : _} {a4 : _} {a5 : _} {s : State} : KeptX 1311297 s (execAdd a1 a2 a3 a4 a5 s) := by
  unfold execAdd
  repeat' first
    | with_reducible assumption
    | with_reducible refine KeptX.run ?_
    | with_reducible refine Dev.issueT_kept ((Sub.rfl).mono (by decide)) ?_
    | split
    | dsimp only
    | intro _

theorem execSub_kept {a1 : _} {a2 : _} {a3 : _} {a4 : _} {a5 : _} {s : State} : KeptX 1311297 s (execSub a1 a2 a3 a4 a5 s) := by
  unfold execSub
  repeat' first
    | with_reducible assumption
    | with_reducible refine KeptX.run ?_
    | with_reducible refine Dev.issueT_kept ((Sub.rfl).mono (by decide)) ?_
    | split
    | dsimp only
    | intro _

theorem execMul_kept {a1 : _} {a2 : _} {a3 : _} {a4 : _} {a5 : _} {s : State} : KeptX 1311297 s (execMul a1 a2 a3 a4 a5 s) := by
  unfold execMul
  repeat' first
    | with_reducible assumption
    | with_reducible refine KeptX.run ?_
    | with_reducible refine Dev.issueT_kept ((Sub.rfl).mono (by decide)) ?_
    | split
    | dsimp only
    | intro _

theorem execScale_kept {a1 : _} {a2 : _} {a3 : _} {a4 : _} {a5 : _} {a6 : _} {a7 : _} {a8 : _} {s : State} : KeptX 1311297 s (execScale a1 a2 a3 a4 a5 a6 a7 a8 s) := by
  unfold execScale
  repeat' first
    | with_reducible assumption
    | with_reducible refine KeptX.run ?_
    | with_reducible refine Dev.issueT_kept ((Sub.rfl).mono (by decide)) ?_
    | split
    | dsimp only
    | intro _

theorem execDivu_kept {a1 : _} {a2 : _} {a3 : _} {a4 : _} {a5 : _} {s : State} : KeptX 1311297 s (execDivu a1 a2 a3 a4 a5 s) := by
  unfold execDivu
  repeat' first
    | with_reducible assumption
    | with_reducible refine KeptX.run ?_
    | with_reducible refine Dev.issueT_kept ((Sub.rfl).mono (by decide)) ?_
    | split
    | dsimp only
    | intro _

theorem execAnd_kept {a1 : _} {a2 : _} {a3 : _} {a4 : _} {a5 : _} {s : State} : KeptX 1311297 s (execAnd a1 a2 a3 a4 a5 s) := by
  unfold execAnd
  repeat' first
    | with_reducible assumption
    | with_reducible refine KeptX.run ?_
    | with_reducible refine Dev.issueT_kept ((Sub.rfl).mono (by decide)) ?_
    | split
    | dsimp only
    | intro _

theorem execOr_kept {a1 : _} {a2 : _} {a3 : _} {a4 : _} {a5 : _} {s : State} : KeptX 1311297 s (execOr a1 a2 a3 a4 a5 s) := by
  unfold execOr
  repeat' first
    | with_reducible assumption
    | with_reducible refine KeptX.run ?_
    | with_reducible refine Dev.issueT_kept ((Sub.rfl).mono (by decide)) ?_
    | split
    | dsimp only
    | intro _

theorem execXor_kept {a1 : _} {a2 : _} {a3 : _} {a4 : _} {a5 : _} {s : State} : KeptX 1311297 s (execXor a1 a2 a3 a4 a5 s) := by
  unfold execXor
  repeat' first
    | with_reducible assumption
    | with_reducible refine KeptX.run ?_
    | with_reducible refine Dev.issueT_kept ((Sub.rfl).mono (by decide)) ?_
    | split
    | dsimp only
    | intro _

theorem execShl_kept {a1 : _} {a2 : _} {a3 : _} {a4 : _} {a5 : _} {s : State} : KeptX 1311297 s (execShl a1 a2 a3 a4 a5 s) := by
  unfold execShl
  repeat' first
    | with_reducible assumption
    | with_reducible refine KeptX.run ?_
    | with_reducible refine Dev.issueT_kept ((Sub.rfl).mono (by decide)) ?_
    | split
    | dsimp only
    | intro _

theorem execShr_kept {a1 : _} {a2 : _} {a3 : _} {a4 : _} {a5 : _} {s : State} : KeptX 1311297 s (execShr a1 a2 a3 a4 a5 s) := by
  unfold execShr
  repeat' first
    | with_reducible assumption
    | with_reducible refine KeptX.run ?_
    | with_reducible refine Dev.issueT_kept ((Sub.rfl).mono (by decide)) ?_
    | split
    | dsimp only
    | intro _

theorem execSar_kept {a1 : _} {a2 : _} {a3 : _} {a4 : _} {a5 : _} {s : State} : KeptX 1311297 s (execSar a1 a2 a3 a4 a5 s) := by
  unfold execSar
  repeat' first
    | with_reducible assumption
    | with_reducible refine KeptX.run ?_
    | with_reducible refine Dev.issueT_kept ((Sub.rfl).mono (by decide)) ?_
    | split
    | dsimp only
    | intro _

theorem execMin_kept {a1 : _} {a2 : _} {a3 : _} {a4 : _} {a5 : _} {a6 : _} {s : State} : KeptX 1311297 s (execMin a1 a2 a3 a4 a5 a6 s) := by
  unfold execMin
  repeat' first
    | with_reducible assumption
    | with_reducible refine KeptX.run ?_
    | with_reducible refine Dev.issueT_kept ((Sub.rfl).mono (by decide)) ?_
    | split
    | dsimp only
    | intro _

theorem execMax_kept {a1 : _} {a2 : _} {a3 : _} {a4 : _} {a5 : _} {a6 : _} {s : State} : KeptX 1311297 s (execMax a1 a2 a3 a4 a5 a6 s) := by
  unfold execMax
  repeat' first
    | with_reducible assumption
    | with_reducible refine KeptX.run ?_
    | with_reducible refine Dev.issueT_kept ((Sub.rfl).mono (by decide)) ?_
    | split
    | dsimp only
    | intro _

theorem execCmp_kept {a1 : _} {a2 : _} {a3 : _} {a4 : _} {s : State} : KeptX 1311297 s (execCmp a1 a2 a3 a4 s) := by
  unfold execCmp
  repeat' first
    | with_reducible assumption
    | with_reducible refine KeptX.run ?_
    | with_reducible refine Dev.issueT_kept ((Sub.rfl).mono (by decide)) ?_
    | split
    | dsimp only
    | intro _

theorem execSel_kept {a1 : _} {a2 : _} {a3 : _} {a4 : _} {a5 : _} {a6 : _} {s : State} : KeptX 1311297 s (execSel a1 a2 a3 a4 a5 a6 s) := by
  unfold execSel
  repeat' first
    | with_reducible assumption
    | with_reducible refine KeptX.run ?_
    | with_reducible refine Dev.issueT_kept ((Sub.rfl).mono (by decide)) ?_
    | split
    | dsimp only
    | intro _

theorem execTagdn_kept {a1 : _} {a2 : _} {a3 : _} {a4 : _} {a5 : _} {s : State} : KeptX 1311297 s (execTagdn a1 a2 a3 a4 a5 s) := by
  unfold execTagdn
  repeat' first
    | with_reducible assumption
    | with_reducible refine KeptX.run ?_
    | with_reducible refine Dev.issueT_kept ((Sub.rfl).mono (by decide)) ?_
    | split
    | dsimp only
    | intro _

theorem execTagrd_kept {a1 : _} {a2 : _} {a3 : _} {a4 : _} {s : State} : KeptX 1311297 s (execTagrd a1 a2 a3 a4 s) := by
  unfold execTagrd
  repeat' first
    | with_reducible assumption
    | with_reducible refine KeptX.run ?_
    | with_reducible refine Dev.issueT_kept ((Sub.rfl).mono (by decide)) ?_
    | split
    | dsimp only
    | intro _

theorem execExt_kept {a1 : _} {a2 : _} {a3 : _} {a4 : _} {a5 : _} {a6 : _} {s : State} : KeptX 1311297 s (execExt a1 a2 a3 a4 a5 a6 s) := by
  unfold execExt
  repeat' first
    | with_reducible assumption
    | with_reducible refine KeptX.run ?_
    | with_reducible refine Dev.issueT_kept ((Sub.rfl).mono (by decide)) ?_
    | split
    | dsimp only
    | intro _

theorem Dev.withSlot_kept {M : Nat} {d0 d : Dev} {a1 : _} {a2 : _} {a3 : _} {a4 : _} {a5 : _} {a6 : _} (h6 : ∀ y0 y1, Kept M d0 y1 → Kept M d0 (a6 y0 y1)) (hM : Sub 1311297 M) (h : Kept M d0 d) :
    Kept M d0 (Dev.withSlot a1 a2 a3 a4 a5 a6 d) := by
  unfold Dev.withSlot
  repeat' first
    | with_reducible assumption
    | with_reducible refine h6 _ _ ?_
    | with_reducible refine Dev.trap_kept ((hM).mono (by decide)) ?_
    | split
    | dsimp only
    | intro _

theorem execLds_kept {a1 : _} {a2 : _} {a3 : _} {a4 : _} {a5 : _} {s : State} : KeptX 1311297 s (execLds a1 a2 a3 a4 a5 s) := by
  unfold execLds
  repeat' first
    | with_reducible assumption
    | with_reducible refine KeptX.run ?_
    | with_reducible refine Dev.issue_kept ?_ ((Sub.rfl).mono (by decide)) ?_
    | with_reducible refine Dev.withSlot_kept ?_ ((Sub.rfl).mono (by decide)) ?_
    | with_reducible refine Dev.loadWait_kept ((Sub.rfl).mono (by decide)) ?_
    | with_reducible refine Dev.onThread_kept ((Sub.rfl).mono (by decide)) ?_
    | split
    | dsimp only
    | intro _

theorem execSts_kept {a1 : _} {a2 : _} {a3 : _} {a4 : _} {a5 : _} {a6 : _} {a7 : _} {s : State} : KeptX 1311329 s (execSts a1 a2 a3 a4 a5 a6 a7 s) := by
  unfold execSts
  repeat' first
    | with_reducible assumption
    | with_reducible refine KeptX.run ?_
    | with_reducible refine Dev.issue_kept ?_ ((Sub.rfl).mono (by decide)) ?_
    | with_reducible refine Dev.withSlot_kept ?_ ((Sub.rfl).mono (by decide)) ?_
    | with_reducible refine Dev.eventWrite_kept ((Sub.rfl).mono (by decide)) ?_
    | split
    | dsimp only
    | intro _

theorem execAge_kept {a1 : _} {a2 : _} {a3 : _} {a4 : _} {a5 : _} {s : State} : KeptX 1311297 s (execAge a1 a2 a3 a4 a5 s) := by
  unfold execAge
  repeat' first
    | with_reducible assumption
    | with_reducible refine KeptX.run ?_
    | with_reducible refine Dev.issue_kept ?_ ((Sub.rfl).mono (by decide)) ?_
    | with_reducible refine Dev.withSlot_kept ?_ ((Sub.rfl).mono (by decide)) ?_
    | with_reducible refine Dev.loadWait_kept ((Sub.rfl).mono (by decide)) ?_
    | with_reducible refine Dev.onThread_kept ((Sub.rfl).mono (by decide)) ?_
    | split
    | dsimp only
    | intro _

theorem Dev.withData_kept {M : Nat} {d0 d : Dev} {a1 : _} {a2 : _} {a3 : _} {a4 : _} {a5 : _} {a6 : _} (h6 : ∀ y0, Kept M d0 y0 → Kept M d0 (a6 y0)) (hM : Sub 1311297 M) (h : Kept M d0 d) :
    Kept M d0 (Dev.withData a1 a2 a3 a4 a5 a6 d) := by
  unfold Dev.withData
  repeat' first
    | with_reducible assumption
    | with_reducible refine h6 _ ?_
    | with_reducible refine Dev.trap_kept ((hM).mono (by decide)) ?_
    | split
    | dsimp only
    | intro _

theorem execLdw_kept {a1 : _} {a2 : _} {a3 : _} {a4 : _} {a5 : _} {s : State} : KeptX 1311297 s (execLdw a1 a2 a3 a4 a5 s) := by
  unfold execLdw
  repeat' first
    | with_reducible assumption
    | with_reducible refine KeptX.run ?_
    | with_reducible refine Dev.issue_kept ?_ ((Sub.rfl).mono (by decide)) ?_
    | with_reducible refine Dev.withData_kept ?_ ((Sub.rfl).mono (by decide)) ?_
    | with_reducible refine Dev.onThread_kept ((Sub.rfl).mono (by decide)) ?_
    | split
    | dsimp only
    | intro _

theorem execStw_kept {a1 : _} {a2 : _} {a3 : _} {a4 : _} {a5 : _} {s : State} : KeptX 1311297 s (execStw a1 a2 a3 a4 a5 s) := by
  unfold execStw
  repeat' first
    | with_reducible assumption
    | with_reducible refine KeptX.run ?_
    | with_reducible refine Dev.issue_kept ?_ ((Sub.rfl).mono (by decide)) ?_
    | with_reducible refine Dev.withData_kept ?_ ((Sub.rfl).mono (by decide)) ?_
    | with_reducible refine Dev.trap_kept ((Sub.rfl).mono (by decide)) ?_
    | with_reducible refine Dev.putDmem_kept ((Sub.rfl).mono (by decide)) ?_
    | split
    | dsimp only
    | intro _

theorem execLdt_kept {a1 : _} {a2 : _} {a3 : _} {a4 : _} {a5 : _} {s : State} : KeptX 1311297 s (execLdt a1 a2 a3 a4 a5 s) := by
  unfold execLdt
  repeat' first
    | with_reducible assumption
    | with_reducible refine KeptX.run ?_
    | with_reducible refine Dev.issue_kept ?_ ((Sub.rfl).mono (by decide)) ?_
    | with_reducible refine Dev.withData_kept ?_ ((Sub.rfl).mono (by decide)) ?_
    | with_reducible refine Dev.onThread_kept ((Sub.rfl).mono (by decide)) ?_
    | split
    | dsimp only
    | intro _

theorem execStt_kept {a1 : _} {a2 : _} {a3 : _} {a4 : _} {a5 : _} {s : State} : KeptX 1311297 s (execStt a1 a2 a3 a4 a5 s) := by
  unfold execStt
  repeat' first
    | with_reducible assumption
    | with_reducible refine KeptX.run ?_
    | with_reducible refine Dev.issue_kept ?_ ((Sub.rfl).mono (by decide)) ?_
    | with_reducible refine Dev.withData_kept ?_ ((Sub.rfl).mono (by decide)) ?_
    | with_reducible refine Dev.trap_kept ((Sub.rfl).mono (by decide)) ?_
    | with_reducible refine Dev.putDmem_kept ((Sub.rfl).mono (by decide)) ?_
    | split
    | dsimp only
    | intro _

theorem execLdh_kept {a1 : _} {a2 : _} {a3 : _} {a4 : _} {s : State} : KeptX 1311297 s (execLdh a1 a2 a3 a4 s) := by
  unfold execLdh
  repeat' first
    | with_reducible assumption
    | with_reducible refine KeptX.run ?_
    | with_reducible refine Dev.issueT_kept ((Sub.rfl).mono (by decide)) ?_
    | split
    | dsimp only
    | intro _

theorem execLkup_kept {a1 : _} {a2 : _} {a3 : _} {a4 : _} {a5 : _} {a6 : _} {s : State} : KeptX 1311297 s (execLkup a1 a2 a3 a4 a5 a6 s) := by
  unfold execLkup
  repeat' first
    | with_reducible assumption
    | with_reducible refine KeptX.run ?_
    | with_reducible refine Dev.issue_kept ?_ ((Sub.rfl).mono (by decide)) ?_
    | with_reducible refine Dev.onThread_kept ((Sub.rfl).mono (by decide)) ?_
    | split
    | dsimp only
    | intro _

theorem execUnpk_kept {a1 : _} {a2 : _} {a3 : _} {a4 : _} {a5 : _} {s : State} : KeptX 1311297 s (execUnpk a1 a2 a3 a4 a5 s) := by
  unfold execUnpk
  repeat' first
    | with_reducible assumption
    | with_reducible refine KeptX.run ?_
    | with_reducible refine Dev.issue_kept ?_ ((Sub.rfl).mono (by decide)) ?_
    | with_reducible refine Dev.trap_kept ((Sub.rfl).mono (by decide)) ?_
    | with_reducible refine Dev.onThread_kept ((Sub.rfl).mono (by decide)) ?_
    | with_reducible refine Dev.count_kept ((Sub.rfl).mono (by decide)) ?_
    | split
    | dsimp only
    | intro _

theorem Dev.unpackList_kept {M : Nat} {d0 d : Dev} {a1 : _} {a2 : _} {a3 : _} {a4 : _} {a5 : _} {a6 : _} {a7 : _} (hM : Sub 1311329 M) (h : Kept M d0 d) :
    Kept M d0 (Dev.unpackList a1 a2 a3 a4 a5 a6 a7 d) := by
  induction a6 generalizing d a1 a2 a3 a4 a5 a7 with
  | zero =>
    unfold Dev.unpackList
    repeat' first
      | with_reducible assumption
      | with_reducible refine Dev.trap_kept ((hM).mono (by decide)) ?_
      | with_reducible refine Dev.count_kept ((hM).mono (by decide)) ?_
      | with_reducible refine Dev.eventWrite_kept ((hM).mono (by decide)) ?_
      | split
      | dsimp only
      | intro _
  | succ n ih =>
    unfold Dev.unpackList
    repeat' first
      | with_reducible refine ih ?_
      | with_reducible assumption
      | with_reducible refine Dev.trap_kept ((hM).mono (by decide)) ?_
      | with_reducible refine Dev.count_kept ((hM).mono (by decide)) ?_
      | with_reducible refine Dev.eventWrite_kept ((hM).mono (by decide)) ?_
      | split
      | dsimp only
      | intro _

theorem execUnpks_kept {a1 : _} {a2 : _} {a3 : _} {a4 : _} {a5 : _} {s : State} : KeptX 1311329 s (execUnpks a1 a2 a3 a4 a5 s) := by
  unfold execUnpks
  repeat' first
    | with_reducible assumption
    | with_reducible refine KeptX.run ?_
    | with_reducible refine Dev.issue_kept ?_ ((Sub.rfl).mono (by decide)) ?_
    | with_reducible refine Dev.trap_kept ((Sub.rfl).mono (by decide)) ?_
    | with_reducible refine Dev.unpackList_kept ((Sub.rfl).mono (by decide)) ?_
    | split
    | dsimp only
    | intro _

theorem Dev.putAsmBit_kept {M : Nat} {d0 d : Dev} {a1 : _} {a2 : _} {a3 : _} {a4 : _} (hM : Sub 64 M) (h : Kept M d0 d) :
    Kept M d0 (Dev.putAsmBit a1 a2 a3 a4 d) := by
  unfold Dev.putAsmBit
  repeat' first
    | with_reducible assumption
    | with_reducible refine Dev.putAsm_kept ((hM).mono (by decide)) ?_
    | split
    | dsimp only
    | intro _

theorem Dev.packInto_kept {M : Nat} {d0 d : Dev} {a1 : _} {a2 : _} {a3 : _} {a4 : _} {a5 : _}  (hM : Sub 64 M) (h : Kept M d0 d) :
    KeptO M d0 (Dev.packInto a1 a2 a3 a4 a5 d) := by
  unfold Dev.packInto
  repeat' first
    | with_reducible assumption
    | with_reducible refine Kept.each ?_ ?_
    | with_reducible refine Dev.putAsmBit_kept ((hM).mono (by decide)) ?_
    | with_reducible exact KeptO.none
    | with_reducible refine KeptO.some ?_
    | split
    | dsimp only
    | intro _

theorem execPack_kept {a1 : _} {a2 : _} {a3 : _} {a4 : _} {a5 : _} {a6 : _} {s : State} : KeptX 1311297 s (execPack a1 a2 a3 a4 a5 a6 s) := by
  unfold execPack
  repeat' first
    | with_reducible assumption
    | with_reducible refine KeptX.run ?_
    | with_reducible refine Dev.issue_kept ?_ ((Sub.rfl).mono (by decide)) ?_
    | with_reducible refine Dev.trap_kept ((Sub.rfl).mono (by decide)) ?_
    | with_reducible refine Dev.packInto_kept ((Sub.rfl).mono (by decide)) ?_
    | refine KeptO.of_eq (by assumption) ?_
    | with_reducible refine KeptO.getD ?_ ?_
    | split
    | dsimp only
    | intro _

theorem Dev.packList_kept {M : Nat} {d0 d : Dev} {a1 : _} {a2 : _} {a3 : _} {a4 : _} {a5 : _} {a6 : _} {a7 : _} (hM : Sub 1311297 M) (h : Kept M d0 d) :
    Kept M d0 (Dev.packList a1 a2 a3 a4 a5 a6 a7 d) := by
  induction a6 generalizing d a1 a2 a3 a4 a5 a7 with
  | zero =>
    unfold Dev.packList
    repeat' first
      | with_reducible assumption
      | with_reducible refine Dev.loadWait_kept ((hM).mono (by decide)) ?_
      | with_reducible refine Dev.trap_kept ((hM).mono (by decide)) ?_
      | with_reducible refine Dev.packInto_kept ((hM).mono (by decide)) ?_
      | refine KeptO.of_eq (by assumption) ?_
      | with_reducible refine KeptO.getD ?_ ?_
      | split
      | dsimp only
      | intro _
  | succ n ih =>
    unfold Dev.packList
    repeat' first
      | with_reducible refine ih ?_
      | with_reducible assumption
      | with_reducible refine Dev.loadWait_kept ((hM).mono (by decide)) ?_
      | with_reducible refine Dev.trap_kept ((hM).mono (by decide)) ?_
      | with_reducible refine Dev.packInto_kept ((hM).mono (by decide)) ?_
      | refine KeptO.of_eq (by assumption) ?_
      | with_reducible refine KeptO.getD ?_ ?_
      | split
      | dsimp only
      | intro _

theorem execPacks_kept {a1 : _} {a2 : _} {a3 : _} {a4 : _} {a5 : _} {s : State} : KeptX 1311297 s (execPacks a1 a2 a3 a4 a5 s) := by
  unfold execPacks
  repeat' first
    | with_reducible assumption
    | with_reducible refine KeptX.run ?_
    | with_reducible refine Dev.issue_kept ?_ ((Sub.rfl).mono (by decide)) ?_
    | with_reducible refine Dev.trap_kept ((Sub.rfl).mono (by decide)) ?_
    | with_reducible refine Dev.packList_kept ((Sub.rfl).mono (by decide)) ?_
    | split
    | dsimp only
    | intro _

theorem execTxopen_kept {a1 : _} {a2 : _} {a3 : _} {a4 : _} {s : State} : KeptX 1311297 s (execTxopen a1 a2 a3 a4 s) := by
  unfold execTxopen
  repeat' first
    | with_reducible assumption
    | with_reducible refine KeptX.run ?_
    | with_reducible refine Dev.issue_kept ?_ ((Sub.rfl).mono (by decide)) ?_
    | with_reducible refine Dev.closeHandle_kept ((Sub.rfl).mono (by decide)) ?_
    | with_reducible refine Dev.openHandle_kept ((Sub.rfl).mono (by decide)) ?_
    | with_reducible refine Dev.onThread_kept ((Sub.rfl).mono (by decide)) ?_
    | split
    | dsimp only
    | intro _

theorem Dev.putLimiter_kept {M : Nat} {d0 d : Dev} {a1 : _} {a2 : _} {a3 : _} (hM : Sub 64 M) (h : Kept M d0 d) :
    Kept M d0 (Dev.putLimiter a1 a2 a3 d) := by
  unfold Dev.putLimiter
  repeat' first
    | with_reducible assumption
    | split
    | dsimp only
    | intro _
    | with_reducible refine Kept.lit_eng ((hM).mono (by decide)) ?_

theorem execRate_kept {a1 : _} {a2 : _} {a3 : _} {s : State} : KeptX 1311297 s (execRate a1 a2 a3 s) := by
  unfold execRate
  repeat' first
    | with_reducible assumption
    | with_reducible refine KeptX.run ?_
    | with_reducible refine Dev.issue_kept ?_ ((Sub.rfl).mono (by decide)) ?_
    | with_reducible refine Dev.onThread_kept ((Sub.rfl).mono (by decide)) ?_
    | with_reducible refine Dev.putLimiter_kept ((Sub.rfl).mono (by decide)) ?_
    | split
    | dsimp only
    | intro _

theorem execPost_kept {a1 : _} {a2 : _} {a3 : _} {a4 : _} {a5 : _} {s : State} : KeptX 1311297 s (execPost a1 a2 a3 a4 a5 s) := by
  unfold execPost
  repeat' first
    | with_reducible assumption
    | with_reducible refine KeptX.run ?_
    | with_reducible refine Dev.issue_kept ?_ ((Sub.rfl).mono (by decide)) ?_
    | with_reducible refine Dev.postEvent_kept ((Sub.rfl).mono (by decide)) ?_
    | split
    | dsimp only
    | intro _

theorem execArm_kept {a1 : _} {a2 : _} {a3 : _} {a4 : _} {a5 : _} {s : State} : KeptX 1311297 s (execArm a1 a2 a3 a4 a5 s) := by
  unfold execArm
  repeat' first
    | with_reducible assumption
    | with_reducible refine KeptX.run ?_
    | with_reducible refine Dev.issue_kept ?_ ((Sub.rfl).mono (by decide)) ?_
    | with_reducible refine Dev.onThread_kept ((Sub.rfl).mono (by decide)) ?_
    | split
    | dsimp only
    | intro _

theorem execBr_kept {a1 : _} {a2 : _} {a3 : _} {a4 : _} {s : State} : KeptX 1311297 s (execBr a1 a2 a3 a4 s) := by
  unfold execBr
  repeat' first
    | with_reducible assumption
    | with_reducible refine KeptX.run ?_
    | with_reducible refine Dev.issueT_kept ((Sub.rfl).mono (by decide)) ?_
    | split
    | dsimp only
    | intro _

theorem execCall_kept {a1 : _} {a2 : _} {a3 : _} {s : State} : KeptX 1311297 s (execCall a1 a2 a3 s) := by
  unfold execCall
  repeat' first
    | with_reducible assumption
    | with_reducible refine KeptX.run ?_
    | with_reducible refine Dev.issue_kept ?_ ((Sub.rfl).mono (by decide)) ?_
    | with_reducible refine Dev.trap_kept ((Sub.rfl).mono (by decide)) ?_
    | with_reducible refine Dev.onThread_kept ((Sub.rfl).mono (by decide)) ?_
    | split
    | dsimp only
    | intro _

theorem execRet_kept {a1 : _} {a2 : _} {s : State} : KeptX 1311297 s (execRet a1 a2 s) := by
  unfold execRet
  repeat' first
    | with_reducible assumption
    | with_reducible refine KeptX.run ?_
    | with_reducible refine Dev.issue_kept ?_ ((Sub.rfl).mono (by decide)) ?_
    | with_reducible refine Dev.onThread_kept ((Sub.rfl).mono (by decide)) ?_
    | with_reducible refine Dev.trap_kept ((Sub.rfl).mono (by decide)) ?_
    | split
    | dsimp only
    | intro _

theorem execJr_kept {a1 : _} {a2 : _} {a3 : _} {s : State} : KeptX 1311297 s (execJr a1 a2 a3 s) := by
  unfold execJr
  repeat' first
    | with_reducible assumption
    | with_reducible refine KeptX.run ?_
    | with_reducible refine Dev.issueT_kept ((Sub.rfl).mono (by decide)) ?_
    | split
    | dsimp only
    | intro _

theorem execYield_kept {a1 : _} {a2 : _} {s : State} : KeptX 1311297 s (execYield a1 a2 s) := by
  unfold execYield
  repeat' first
    | with_reducible assumption
    | with_reducible refine KeptX.run ?_
    | with_reducible refine Dev.issueT_kept ((Sub.rfl).mono (by decide)) ?_
    | split
    | dsimp only
    | intro _

theorem execDone_kept {a1 : _} {a2 : _} {s : State} : KeptX 1311297 s (execDone a1 a2 s) := by
  unfold execDone
  repeat' first
    | with_reducible assumption
    | with_reducible refine KeptX.run ?_
    | with_reducible refine Dev.issue_kept ?_ ((Sub.rfl).mono (by decide)) ?_
    | with_reducible refine Dev.endEvent_kept ((Sub.rfl).mono (by decide)) ?_
    | with_reducible refine Dev.bump_kept ((Sub.rfl).mono (by decide)) ?_
    | split
    | dsimp only
    | intro _

theorem execTrap_kept {a1 : _} {a2 : _} {a3 : _} {s : State} : KeptX 1311297 s (execTrap a1 a2 a3 s) := by
  unfold execTrap
  repeat' first
    | with_reducible assumption
    | with_reducible refine KeptX.run ?_
    | with_reducible refine Dev.issue_kept ?_ ((Sub.rfl).mono (by decide)) ?_
    | with_reducible refine Dev.trap_kept ((Sub.rfl).mono (by decide)) ?_
    | split
    | dsimp only
    | intro _

theorem execEventStart_kept {a1 : _} {a2 : _} {s : State} : KeptX 68 s (execEventStart a1 a2 s) := by
  unfold execEventStart
  repeat' first
    | with_reducible assumption
    | with_reducible refine KeptX.run ?_
    | with_reducible refine Dev.eventStart_kept ((Sub.rfl).mono (by decide)) ?_
    | split
    | dsimp only
    | intro _

theorem execThreadTimerExpiry_kept {a1 : _} {a2 : _} {s : State} : KeptX 1048641 s (execThreadTimerExpiry a1 a2 s) := by
  unfold execThreadTimerExpiry
  repeat' first
    | with_reducible assumption
    | with_reducible refine KeptX.run ?_
    | with_reducible refine Dev.postEvent_kept ((Sub.rfl).mono (by decide)) ?_
    | with_reducible refine Dev.onThread_kept ((Sub.rfl).mono (by decide)) ?_
    | split
    | dsimp only
    | intro _

theorem execRateTokenRefill_kept {a1 : _} {a2 : _} {s : State} : KeptX 64 s (execRateTokenRefill a1 a2 s) := by
  unfold execRateTokenRefill
  repeat' first
    | with_reducible assumption
    | with_reducible refine KeptX.run ?_
    | with_reducible refine Dev.putLimiter_kept ((Sub.rfl).mono (by decide)) ?_
    | split
    | dsimp only
    | intro _

theorem execTrailTimerExpiry_kept {a1 : _} {a2 : _} {s : State} : KeptX 1048641 s (execTrailTimerExpiry a1 a2 s) := by
  unfold execTrailTimerExpiry
  repeat' first
    | with_reducible assumption
    | with_reducible refine KeptX.run ?_
    | with_reducible refine Dev.postEvent_kept ((Sub.rfl).mono (by decide)) ?_
    | with_reducible refine Dev.putLimiter_kept ((Sub.rfl).mono (by decide)) ?_
    | split
    | dsimp only
    | intro _

theorem execSliceDemotion_kept {a1 : _} {a2 : _} {s : State} : KeptX 64 s (execSliceDemotion a1 a2 s) := by
  unfold execSliceDemotion
  repeat' first
    | with_reducible assumption
    | with_reducible refine KeptX.run ?_
    | with_reducible refine Dev.onThread_kept ((Sub.rfl).mono (by decide)) ?_
    | split
    | dsimp only
    | intro _

theorem execBudgetOverrun_kept {a1 : _} {a2 : _} {s : State} : KeptX 1312321 s (execBudgetOverrun a1 a2 s) := by
  unfold execBudgetOverrun
  repeat' first
    | with_reducible assumption
    | with_reducible refine KeptX.run ?_
    | with_reducible refine Kept.onlyIf ?_ ?_
    | with_reducible refine Dev.overrun_kept ((Sub.rfl).mono (by decide)) ?_
    | split
    | dsimp only
    | intro _

theorem execAssemblyBufferGrant_kept {a1 : _} {a2 : _} {s : State} : KeptX 64 s (execAssemblyBufferGrant a1 a2 s) := by
  unfold execAssemblyBufferGrant
  repeat' first
    | with_reducible assumption
    | with_reducible refine KeptX.run ?_
    | with_reducible refine Kept.onlyIf ?_ ?_
    | with_reducible refine Dev.onThread_kept ((Sub.rfl).mono (by decide)) ?_
    | with_reducible refine Dev.openHandle_kept ((Sub.rfl).mono (by decide)) ?_
    | split
    | dsimp only
    | intro _

theorem execEngLoadUpdate_kept {a1 : _} {s : State} : KeptX 65 s (execEngLoadUpdate a1 s) := by
  unfold execEngLoadUpdate
  repeat' first
    | with_reducible assumption
    | with_reducible refine KeptX.run ?_
    | with_reducible refine Dev.put_kept ((Sub.rfl).mono (by decide)) ?_
    | split
    | dsimp only
    | intro _
    | with_reducible refine Kept.lit_eng ((Sub.rfl).mono (by decide)) ?_

end Sys2Proof.Machine
end

