-- ==== Sys2Proof/Laws/State.lean ====
section
/-! SUPPORT. The small lemmas of the device record and of its registers: what a register operation leaves alone, what a field reads after
it, what a raised fault event and an output change. -/

namespace Sys2Proof.Machine

/-! ### Bits -/

theorem setBits_eq (v hi lo x : Nat) : setBits v hi lo x =
    (v / 2 ^ lo / 2 ^ (hi + 1 - lo) * 2 ^ (hi + 1 - lo) + x % 2 ^ (hi + 1 - lo)) * 2 ^ lo + v % 2 ^ lo := by
  unfold setBits bits
  generalize 2 ^ (hi + 1 - lo) = q
  generalize 2 ^ lo = p
  have h1 := Nat.div_add_mod v p
  have h2 := Nat.div_add_mod (v / p) q
  have e : v = (v / p / q * q + v / p % q) * p + v % p := by
    rw [Nat.mul_comm (v / p / q) q, h2, Nat.mul_comm]; exact h1.symm
  rw [Nat.add_mul] at e
  rw [Nat.add_mul]
  omega

/-- A bit of a field. -/
theorem testBit_bits (v hi lo i : Nat) : (bits v hi lo).testBit i = (decide (i < hi + 1 - lo) && v.testBit (lo + i)) := by
  simp [bits, Nat.testBit_mod_two_pow, Nat.testBit_div_two_pow, Nat.add_comm]

/-- A bit after a field is replaced. -/
theorem testBit_setBits (v hi lo x i : Nat) : (setBits v hi lo x).testBit i =
    if lo ≤ i ∧ i < lo + (hi + 1 - lo) then x.testBit (i - lo) else v.testBit i := by
  rw [setBits_eq, Nat.mul_comm _ (2 ^ lo), Nat.mul_comm _ (2 ^ (hi + 1 - lo))]
  rw [Nat.testBit_two_pow_mul_add _ (Nat.mod_lt _ (Nat.two_pow_pos lo))]
  split
  · rename_i h
    rw [Nat.testBit_mod_two_pow]
    have : ¬ (lo ≤ i ∧ i < lo + (hi + 1 - lo)) := by omega
    simp [h, this]
  · rename_i h
    rw [Nat.testBit_two_pow_mul_add _ (Nat.mod_lt _ (Nat.two_pow_pos (hi + 1 - lo)))]
    split
    · rename_i h2
      have : lo ≤ i ∧ i < lo + (hi + 1 - lo) := by omega
      simp [Nat.testBit_mod_two_pow, h2, this]
    · rename_i h2
      have : ¬ (lo ≤ i ∧ i < lo + (hi + 1 - lo)) := by omega
      simp only [this, if_false, Nat.testBit_div_two_pow]
      congr 1; omega

theorem setBits_lt {v hi lo x : Nat} (hv : v < 2 ^ 32) (h : hi < 32) : setBits v hi lo x < 2 ^ 32 := by
  apply Nat.lt_pow_two_of_testBit
  intro i hi32
  rw [testBit_setBits]
  split
  · omega
  · exact Nat.testBit_lt_two_pow (Nat.lt_of_lt_of_le hv (Nat.pow_le_pow_right (by omega) hi32))

/-- A field reads what was put into it, modulo its width. -/
theorem bits_setBits (v hi lo x : Nat) : bits (setBits v hi lo x) hi lo = x % 2 ^ (hi + 1 - lo) := by
  apply Nat.eq_of_testBit_eq
  intro i
  rw [testBit_bits, testBit_setBits, Nat.testBit_mod_two_pow]
  by_cases h : i < hi + 1 - lo
  · simp [h]
  · simp [h]

/-- A field apart from the one replaced reads as before. -/
theorem bits_setBits_apart (v hi lo x hi' lo' : Nat) (h : hi' < lo ∨ hi < lo') : bits (setBits v hi lo x) hi' lo' = bits v hi' lo' := by
  apply Nat.eq_of_testBit_eq
  intro i
  rw [testBit_bits, testBit_bits, testBit_setBits]
  by_cases g : i < hi' + 1 - lo'
  · have : ¬ (lo ≤ lo' + i ∧ lo' + i < lo + (hi + 1 - lo)) := by omega
    simp [this]
  · simp [g]

@[simp] theorem b2n_true : b2n true = 1 := rfl
@[simp] theorem b2n_false : b2n false = 0 := rfl
theorem b2n_lt (b : Bool) : b2n b < 2 := by cases b <;> decide

/-! ### Registers -/

/-- A register reads what was written. -/
@[simp] theorem Dev.rd_wr (d : Dev) (a : Nat) (w : Word) : (d.wr a w).rd a = w := Tab.get_set _ _ _ _

/-- The others read as before. -/
theorem Dev.rd_wr_ne (d : Dev) {a b : Nat} (w : Word) (h : b ≠ a) : (d.wr a w).rd b = d.rd b := Tab.get_set_ne _ _ h _

/-- The register of a field after it is put. -/
theorem Dev.rd_put (d : Dev) (x : Fld) (v : Nat) (h : x.hi < 32) :
    ((d.put x v).rd x.addr).toNat = setBits (d.rd x.addr).toNat x.hi x.lo v := by
  unfold Dev.put
  rw [Dev.rd_wr, BitVec.toNat_ofNat]
  exact Nat.mod_eq_of_lt (setBits_lt (d.rd x.addr).isLt h)

/-- Another register after a field is put. -/
theorem Dev.rd_put_ne (d : Dev) (x : Fld) (v : Nat) {a : Nat} (h : a ≠ x.addr) : (d.put x v).rd a = d.rd a :=
  Dev.rd_wr_ne d _ h

/-- A field reads what was put, modulo its width. -/
theorem Dev.fld_put (d : Dev) (x : Fld) (v : Nat) (h : x.hi < 32) : (d.put x v).fld x = v % 2 ^ x.width := by
  unfold Dev.fld
  rw [Dev.rd_put d x v h, bits_setBits]; rfl

/-- A field of another register. -/
theorem Dev.fld_put_ne (d : Dev) (x y : Fld) (v : Nat) (h : y.addr ≠ x.addr) : (d.put x v).fld y = d.fld y := by
  unfold Dev.fld
  rw [Dev.rd_put_ne d x v h]

/-- Another field of the same register. -/
theorem Dev.fld_put_apart (d : Dev) (x y : Fld) (v : Nat) (ha : y.addr = x.addr) (hx : x.hi < 32)
    (h : y.hi < x.lo ∨ x.hi < y.lo) : (d.put x v).fld y = d.fld y := by
  unfold Dev.fld
  rw [ha, Dev.rd_put d x v hx, bits_setBits_apart _ _ _ _ _ _ h]

/-- A flag reads what was put. -/
theorem Dev.flag_putFlag (d : Dev) (x : Fld) (b : Bool) (h : x.hi < 32) (hw : x.lo ≤ x.hi) : (d.putFlag x b).flag x = b := by
  unfold Dev.flag Dev.putFlag
  rw [Dev.fld_put d x _ h]
  have h1 : 2 ^ x.width = 2 * 2 ^ (x.hi - x.lo) := by
    rw [Fld.width, show x.hi + 1 - x.lo = (x.hi - x.lo) + 1 by omega, Nat.pow_succ, Nat.mul_comm]
  have h2 : 1 < 2 ^ x.width := by have := Nat.two_pow_pos (x.hi - x.lo); omega
  cases b
  · simp
  · simp [Nat.mod_eq_of_lt h2]

/-- A field is below two to its width. -/
theorem Dev.fld_lt (d : Dev) (x : Fld) : d.fld x < 2 ^ x.width := Nat.mod_lt _ (Nat.two_pow_pos _)

/-! ### What a register operation leaves alone -/

@[simp] theorem Dev.wr_settings (d : Dev) (a : Nat) (w : Word) : (d.wr a w).settings = d.settings := rfl
@[simp] theorem Dev.wr_latches (d : Dev) (a : Nat) (w : Word) : (d.wr a w).latches = d.latches := rfl
@[simp] theorem Dev.wr_mode (d : Dev) (a : Nat) (w : Word) : (d.wr a w).mode = d.mode := rfl
@[simp] theorem Dev.wr_frc (d : Dev) (a : Nat) (w : Word) : (d.wr a w).frc = d.frc := rfl
@[simp] theorem Dev.wr_tns (d : Dev) (a : Nat) (w : Word) : (d.wr a w).tns = d.tns := rfl
@[simp] theorem Dev.wr_store (d : Dev) (a : Nat) (w : Word) : (d.wr a w).store = d.store := rfl
@[simp] theorem Dev.wr_eng (d : Dev) (a : Nat) (w : Word) : (d.wr a w).eng = d.eng := rfl
@[simp] theorem Dev.wr_time (d : Dev) (a : Nat) (w : Word) : (d.wr a w).time = d.time := rfl
@[simp] theorem Dev.wr_phase (d : Dev) (a : Nat) (w : Word) : (d.wr a w).phase = d.phase := rfl
@[simp] theorem Dev.wr_hq (d : Dev) (a : Nat) (w : Word) : (d.wr a w).hq = d.hq := rfl
@[simp] theorem Dev.wr_sec (d : Dev) (a : Nat) (w : Word) : (d.wr a w).sec = d.sec := rfl
@[simp] theorem Dev.wr_flt (d : Dev) (a : Nat) (w : Word) : (d.wr a w).flt = d.flt := rfl
@[simp] theorem Dev.wr_sys (d : Dev) (a : Nat) (w : Word) : (d.wr a w).sys = d.sys := rfl
@[simp] theorem Dev.wr_img (d : Dev) (a : Nat) (w : Word) : (d.wr a w).img = d.img := rfl
@[simp] theorem Dev.wr_mgmt (d : Dev) (a : Nat) (w : Word) : (d.wr a w).mgmt = d.mgmt := rfl
@[simp] theorem Dev.wr_loads (d : Dev) (a : Nat) (w : Word) : (d.wr a w).loads = d.loads := rfl
@[simp] theorem Dev.wr_can (d : Dev) (a : Nat) (w : Word) : (d.wr a w).can = d.can := rfl
@[simp] theorem Dev.wr_sw (d : Dev) (a : Nat) (w : Word) : (d.wr a w).sw = d.sw := rfl
@[simp] theorem Dev.wr_drv (d : Dev) (a : Nat) (w : Word) : (d.wr a w).drv = d.drv := rfl
@[simp] theorem Dev.wr_latched (d : Dev) (a : Nat) (w : Word) : (d.wr a w).latched = d.latched := rfl
@[simp] theorem Dev.wr_faultQ (d : Dev) (a : Nat) (w : Word) : (d.wr a w).faultQ = d.faultQ := rfl
@[simp] theorem Dev.wr_out (d : Dev) (a : Nat) (w : Word) : (d.wr a w).out = d.out := rfl
@[simp] theorem Dev.wr_fresh (d : Dev) (a : Nat) (w : Word) : (d.wr a w).fresh = d.fresh := rfl
@[simp] theorem Dev.put_settings (d : Dev) (x : Fld) (v : Nat) : (d.put x v).settings = d.settings := rfl
@[simp] theorem Dev.put_latches (d : Dev) (x : Fld) (v : Nat) : (d.put x v).latches = d.latches := rfl
@[simp] theorem Dev.put_mode (d : Dev) (x : Fld) (v : Nat) : (d.put x v).mode = d.mode := rfl
@[simp] theorem Dev.put_frc (d : Dev) (x : Fld) (v : Nat) : (d.put x v).frc = d.frc := rfl
@[simp] theorem Dev.put_tns (d : Dev) (x : Fld) (v : Nat) : (d.put x v).tns = d.tns := rfl
@[simp] theorem Dev.put_store (d : Dev) (x : Fld) (v : Nat) : (d.put x v).store = d.store := rfl
@[simp] theorem Dev.put_eng (d : Dev) (x : Fld) (v : Nat) : (d.put x v).eng = d.eng := rfl
@[simp] theorem Dev.put_time (d : Dev) (x : Fld) (v : Nat) : (d.put x v).time = d.time := rfl
@[simp] theorem Dev.put_phase (d : Dev) (x : Fld) (v : Nat) : (d.put x v).phase = d.phase := rfl
@[simp] theorem Dev.put_hq (d : Dev) (x : Fld) (v : Nat) : (d.put x v).hq = d.hq := rfl
@[simp] theorem Dev.put_sec (d : Dev) (x : Fld) (v : Nat) : (d.put x v).sec = d.sec := rfl
@[simp] theorem Dev.put_flt (d : Dev) (x : Fld) (v : Nat) : (d.put x v).flt = d.flt := rfl
@[simp] theorem Dev.put_sys (d : Dev) (x : Fld) (v : Nat) : (d.put x v).sys = d.sys := rfl
@[simp] theorem Dev.put_img (d : Dev) (x : Fld) (v : Nat) : (d.put x v).img = d.img := rfl
@[simp] theorem Dev.put_mgmt (d : Dev) (x : Fld) (v : Nat) : (d.put x v).mgmt = d.mgmt := rfl
@[simp] theorem Dev.put_loads (d : Dev) (x : Fld) (v : Nat) : (d.put x v).loads = d.loads := rfl
@[simp] theorem Dev.put_can (d : Dev) (x : Fld) (v : Nat) : (d.put x v).can = d.can := rfl
@[simp] theorem Dev.put_sw (d : Dev) (x : Fld) (v : Nat) : (d.put x v).sw = d.sw := rfl
@[simp] theorem Dev.put_drv (d : Dev) (x : Fld) (v : Nat) : (d.put x v).drv = d.drv := rfl
@[simp] theorem Dev.put_latched (d : Dev) (x : Fld) (v : Nat) : (d.put x v).latched = d.latched := rfl
@[simp] theorem Dev.put_faultQ (d : Dev) (x : Fld) (v : Nat) : (d.put x v).faultQ = d.faultQ := rfl
@[simp] theorem Dev.put_out (d : Dev) (x : Fld) (v : Nat) : (d.put x v).out = d.out := rfl
@[simp] theorem Dev.put_fresh (d : Dev) (x : Fld) (v : Nat) : (d.put x v).fresh = d.fresh := rfl
@[simp] theorem Dev.putFlag_settings (d : Dev) (x : Fld) (b : Bool) : (d.putFlag x b).settings = d.settings := rfl
@[simp] theorem Dev.putFlag_latches (d : Dev) (x : Fld) (b : Bool) : (d.putFlag x b).latches = d.latches := rfl
@[simp] theorem Dev.putFlag_mode (d : Dev) (x : Fld) (b : Bool) : (d.putFlag x b).mode = d.mode := rfl
@[simp] theorem Dev.putFlag_frc (d : Dev) (x : Fld) (b : Bool) : (d.putFlag x b).frc = d.frc := rfl
@[simp] theorem Dev.putFlag_tns (d : Dev) (x : Fld) (b : Bool) : (d.putFlag x b).tns = d.tns := rfl
@[simp] theorem Dev.putFlag_store (d : Dev) (x : Fld) (b : Bool) : (d.putFlag x b).store = d.store := rfl
@[simp] theorem Dev.putFlag_eng (d : Dev) (x : Fld) (b : Bool) : (d.putFlag x b).eng = d.eng := rfl
@[simp] theorem Dev.putFlag_time (d : Dev) (x : Fld) (b : Bool) : (d.putFlag x b).time = d.time := rfl
@[simp] theorem Dev.putFlag_phase (d : Dev) (x : Fld) (b : Bool) : (d.putFlag x b).phase = d.phase := rfl
@[simp] theorem Dev.putFlag_hq (d : Dev) (x : Fld) (b : Bool) : (d.putFlag x b).hq = d.hq := rfl
@[simp] theorem Dev.putFlag_sec (d : Dev) (x : Fld) (b : Bool) : (d.putFlag x b).sec = d.sec := rfl
@[simp] theorem Dev.putFlag_flt (d : Dev) (x : Fld) (b : Bool) : (d.putFlag x b).flt = d.flt := rfl
@[simp] theorem Dev.putFlag_sys (d : Dev) (x : Fld) (b : Bool) : (d.putFlag x b).sys = d.sys := rfl
@[simp] theorem Dev.putFlag_img (d : Dev) (x : Fld) (b : Bool) : (d.putFlag x b).img = d.img := rfl
@[simp] theorem Dev.putFlag_mgmt (d : Dev) (x : Fld) (b : Bool) : (d.putFlag x b).mgmt = d.mgmt := rfl
@[simp] theorem Dev.putFlag_loads (d : Dev) (x : Fld) (b : Bool) : (d.putFlag x b).loads = d.loads := rfl
@[simp] theorem Dev.putFlag_can (d : Dev) (x : Fld) (b : Bool) : (d.putFlag x b).can = d.can := rfl
@[simp] theorem Dev.putFlag_sw (d : Dev) (x : Fld) (b : Bool) : (d.putFlag x b).sw = d.sw := rfl
@[simp] theorem Dev.putFlag_drv (d : Dev) (x : Fld) (b : Bool) : (d.putFlag x b).drv = d.drv := rfl
@[simp] theorem Dev.putFlag_latched (d : Dev) (x : Fld) (b : Bool) : (d.putFlag x b).latched = d.latched := rfl
@[simp] theorem Dev.putFlag_faultQ (d : Dev) (x : Fld) (b : Bool) : (d.putFlag x b).faultQ = d.faultQ := rfl
@[simp] theorem Dev.putFlag_out (d : Dev) (x : Fld) (b : Bool) : (d.putFlag x b).out = d.out := rfl
@[simp] theorem Dev.putFlag_fresh (d : Dev) (x : Fld) (b : Bool) : (d.putFlag x b).fresh = d.fresh := rfl
@[simp] theorem Dev.count_settings (d : Dev) (x : Fld) (n : Nat) : (d.count x n).settings = d.settings := rfl
@[simp] theorem Dev.count_latches (d : Dev) (x : Fld) (n : Nat) : (d.count x n).latches = d.latches := rfl
@[simp] theorem Dev.count_mode (d : Dev) (x : Fld) (n : Nat) : (d.count x n).mode = d.mode := rfl
@[simp] theorem Dev.count_frc (d : Dev) (x : Fld) (n : Nat) : (d.count x n).frc = d.frc := rfl
@[simp] theorem Dev.count_tns (d : Dev) (x : Fld) (n : Nat) : (d.count x n).tns = d.tns := rfl
@[simp] theorem Dev.count_store (d : Dev) (x : Fld) (n : Nat) : (d.count x n).store = d.store := rfl
@[simp] theorem Dev.count_eng (d : Dev) (x : Fld) (n : Nat) : (d.count x n).eng = d.eng := rfl
@[simp] theorem Dev.count_time (d : Dev) (x : Fld) (n : Nat) : (d.count x n).time = d.time := rfl
@[simp] theorem Dev.count_phase (d : Dev) (x : Fld) (n : Nat) : (d.count x n).phase = d.phase := rfl
@[simp] theorem Dev.count_hq (d : Dev) (x : Fld) (n : Nat) : (d.count x n).hq = d.hq := rfl
@[simp] theorem Dev.count_sec (d : Dev) (x : Fld) (n : Nat) : (d.count x n).sec = d.sec := rfl
@[simp] theorem Dev.count_flt (d : Dev) (x : Fld) (n : Nat) : (d.count x n).flt = d.flt := rfl
@[simp] theorem Dev.count_sys (d : Dev) (x : Fld) (n : Nat) : (d.count x n).sys = d.sys := rfl
@[simp] theorem Dev.count_img (d : Dev) (x : Fld) (n : Nat) : (d.count x n).img = d.img := rfl
@[simp] theorem Dev.count_mgmt (d : Dev) (x : Fld) (n : Nat) : (d.count x n).mgmt = d.mgmt := rfl
@[simp] theorem Dev.count_loads (d : Dev) (x : Fld) (n : Nat) : (d.count x n).loads = d.loads := rfl
@[simp] theorem Dev.count_can (d : Dev) (x : Fld) (n : Nat) : (d.count x n).can = d.can := rfl
@[simp] theorem Dev.count_sw (d : Dev) (x : Fld) (n : Nat) : (d.count x n).sw = d.sw := rfl
@[simp] theorem Dev.count_drv (d : Dev) (x : Fld) (n : Nat) : (d.count x n).drv = d.drv := rfl
@[simp] theorem Dev.count_latched (d : Dev) (x : Fld) (n : Nat) : (d.count x n).latched = d.latched := rfl
@[simp] theorem Dev.count_faultQ (d : Dev) (x : Fld) (n : Nat) : (d.count x n).faultQ = d.faultQ := rfl
@[simp] theorem Dev.count_out (d : Dev) (x : Fld) (n : Nat) : (d.count x n).out = d.out := rfl
@[simp] theorem Dev.count_fresh (d : Dev) (x : Fld) (n : Nat) : (d.count x n).fresh = d.fresh := rfl
@[simp] theorem Dev.bump_settings (d : Dev) (x : Fld) : (d.bump x).settings = d.settings := rfl
@[simp] theorem Dev.bump_latches (d : Dev) (x : Fld) : (d.bump x).latches = d.latches := rfl
@[simp] theorem Dev.bump_mode (d : Dev) (x : Fld) : (d.bump x).mode = d.mode := rfl
@[simp] theorem Dev.bump_frc (d : Dev) (x : Fld) : (d.bump x).frc = d.frc := rfl
@[simp] theorem Dev.bump_tns (d : Dev) (x : Fld) : (d.bump x).tns = d.tns := rfl
@[simp] theorem Dev.bump_store (d : Dev) (x : Fld) : (d.bump x).store = d.store := rfl
@[simp] theorem Dev.bump_eng (d : Dev) (x : Fld) : (d.bump x).eng = d.eng := rfl
@[simp] theorem Dev.bump_time (d : Dev) (x : Fld) : (d.bump x).time = d.time := rfl
@[simp] theorem Dev.bump_phase (d : Dev) (x : Fld) : (d.bump x).phase = d.phase := rfl
@[simp] theorem Dev.bump_hq (d : Dev) (x : Fld) : (d.bump x).hq = d.hq := rfl
@[simp] theorem Dev.bump_sec (d : Dev) (x : Fld) : (d.bump x).sec = d.sec := rfl
@[simp] theorem Dev.bump_flt (d : Dev) (x : Fld) : (d.bump x).flt = d.flt := rfl
@[simp] theorem Dev.bump_sys (d : Dev) (x : Fld) : (d.bump x).sys = d.sys := rfl
@[simp] theorem Dev.bump_img (d : Dev) (x : Fld) : (d.bump x).img = d.img := rfl
@[simp] theorem Dev.bump_mgmt (d : Dev) (x : Fld) : (d.bump x).mgmt = d.mgmt := rfl
@[simp] theorem Dev.bump_loads (d : Dev) (x : Fld) : (d.bump x).loads = d.loads := rfl
@[simp] theorem Dev.bump_can (d : Dev) (x : Fld) : (d.bump x).can = d.can := rfl
@[simp] theorem Dev.bump_sw (d : Dev) (x : Fld) : (d.bump x).sw = d.sw := rfl
@[simp] theorem Dev.bump_drv (d : Dev) (x : Fld) : (d.bump x).drv = d.drv := rfl
@[simp] theorem Dev.bump_latched (d : Dev) (x : Fld) : (d.bump x).latched = d.latched := rfl
@[simp] theorem Dev.bump_faultQ (d : Dev) (x : Fld) : (d.bump x).faultQ = d.faultQ := rfl
@[simp] theorem Dev.bump_out (d : Dev) (x : Fld) : (d.bump x).out = d.out := rfl
@[simp] theorem Dev.bump_fresh (d : Dev) (x : Fld) : (d.bump x).fresh = d.fresh := rfl
@[simp] theorem Dev.peak_settings (d : Dev) (x : Fld) (v : Nat) : (d.peak x v).settings = d.settings := rfl
@[simp] theorem Dev.peak_latches (d : Dev) (x : Fld) (v : Nat) : (d.peak x v).latches = d.latches := rfl
@[simp] theorem Dev.peak_mode (d : Dev) (x : Fld) (v : Nat) : (d.peak x v).mode = d.mode := rfl
@[simp] theorem Dev.peak_frc (d : Dev) (x : Fld) (v : Nat) : (d.peak x v).frc = d.frc := rfl
@[simp] theorem Dev.peak_tns (d : Dev) (x : Fld) (v : Nat) : (d.peak x v).tns = d.tns := rfl
@[simp] theorem Dev.peak_store (d : Dev) (x : Fld) (v : Nat) : (d.peak x v).store = d.store := rfl
@[simp] theorem Dev.peak_eng (d : Dev) (x : Fld) (v : Nat) : (d.peak x v).eng = d.eng := rfl
@[simp] theorem Dev.peak_time (d : Dev) (x : Fld) (v : Nat) : (d.peak x v).time = d.time := rfl
@[simp] theorem Dev.peak_phase (d : Dev) (x : Fld) (v : Nat) : (d.peak x v).phase = d.phase := rfl
@[simp] theorem Dev.peak_hq (d : Dev) (x : Fld) (v : Nat) : (d.peak x v).hq = d.hq := rfl
@[simp] theorem Dev.peak_sec (d : Dev) (x : Fld) (v : Nat) : (d.peak x v).sec = d.sec := rfl
@[simp] theorem Dev.peak_flt (d : Dev) (x : Fld) (v : Nat) : (d.peak x v).flt = d.flt := rfl
@[simp] theorem Dev.peak_sys (d : Dev) (x : Fld) (v : Nat) : (d.peak x v).sys = d.sys := rfl
@[simp] theorem Dev.peak_img (d : Dev) (x : Fld) (v : Nat) : (d.peak x v).img = d.img := rfl
@[simp] theorem Dev.peak_mgmt (d : Dev) (x : Fld) (v : Nat) : (d.peak x v).mgmt = d.mgmt := rfl
@[simp] theorem Dev.peak_loads (d : Dev) (x : Fld) (v : Nat) : (d.peak x v).loads = d.loads := rfl
@[simp] theorem Dev.peak_can (d : Dev) (x : Fld) (v : Nat) : (d.peak x v).can = d.can := rfl
@[simp] theorem Dev.peak_sw (d : Dev) (x : Fld) (v : Nat) : (d.peak x v).sw = d.sw := rfl
@[simp] theorem Dev.peak_drv (d : Dev) (x : Fld) (v : Nat) : (d.peak x v).drv = d.drv := rfl
@[simp] theorem Dev.peak_latched (d : Dev) (x : Fld) (v : Nat) : (d.peak x v).latched = d.latched := rfl
@[simp] theorem Dev.peak_faultQ (d : Dev) (x : Fld) (v : Nat) : (d.peak x v).faultQ = d.faultQ := rfl
@[simp] theorem Dev.peak_out (d : Dev) (x : Fld) (v : Nat) : (d.peak x v).out = d.out := rfl
@[simp] theorem Dev.peak_fresh (d : Dev) (x : Fld) (v : Nat) : (d.peak x v).fresh = d.fresh := rfl
@[simp] theorem Dev.putPair_settings (d : Dev) (x y : Fld) (v : Nat) : (d.putPair x y v).settings = d.settings := rfl
@[simp] theorem Dev.putPair_latches (d : Dev) (x y : Fld) (v : Nat) : (d.putPair x y v).latches = d.latches := rfl
@[simp] theorem Dev.putPair_mode (d : Dev) (x y : Fld) (v : Nat) : (d.putPair x y v).mode = d.mode := rfl
@[simp] theorem Dev.putPair_frc (d : Dev) (x y : Fld) (v : Nat) : (d.putPair x y v).frc = d.frc := rfl
@[simp] theorem Dev.putPair_tns (d : Dev) (x y : Fld) (v : Nat) : (d.putPair x y v).tns = d.tns := rfl
@[simp] theorem Dev.putPair_store (d : Dev) (x y : Fld) (v : Nat) : (d.putPair x y v).store = d.store := rfl
@[simp] theorem Dev.putPair_eng (d : Dev) (x y : Fld) (v : Nat) : (d.putPair x y v).eng = d.eng := rfl
@[simp] theorem Dev.putPair_time (d : Dev) (x y : Fld) (v : Nat) : (d.putPair x y v).time = d.time := rfl
@[simp] theorem Dev.putPair_phase (d : Dev) (x y : Fld) (v : Nat) : (d.putPair x y v).phase = d.phase := rfl
@[simp] theorem Dev.putPair_hq (d : Dev) (x y : Fld) (v : Nat) : (d.putPair x y v).hq = d.hq := rfl
@[simp] theorem Dev.putPair_sec (d : Dev) (x y : Fld) (v : Nat) : (d.putPair x y v).sec = d.sec := rfl
@[simp] theorem Dev.putPair_flt (d : Dev) (x y : Fld) (v : Nat) : (d.putPair x y v).flt = d.flt := rfl
@[simp] theorem Dev.putPair_sys (d : Dev) (x y : Fld) (v : Nat) : (d.putPair x y v).sys = d.sys := rfl
@[simp] theorem Dev.putPair_img (d : Dev) (x y : Fld) (v : Nat) : (d.putPair x y v).img = d.img := rfl
@[simp] theorem Dev.putPair_mgmt (d : Dev) (x y : Fld) (v : Nat) : (d.putPair x y v).mgmt = d.mgmt := rfl
@[simp] theorem Dev.putPair_loads (d : Dev) (x y : Fld) (v : Nat) : (d.putPair x y v).loads = d.loads := rfl
@[simp] theorem Dev.putPair_can (d : Dev) (x y : Fld) (v : Nat) : (d.putPair x y v).can = d.can := rfl
@[simp] theorem Dev.putPair_sw (d : Dev) (x y : Fld) (v : Nat) : (d.putPair x y v).sw = d.sw := rfl
@[simp] theorem Dev.putPair_drv (d : Dev) (x y : Fld) (v : Nat) : (d.putPair x y v).drv = d.drv := rfl
@[simp] theorem Dev.putPair_latched (d : Dev) (x y : Fld) (v : Nat) : (d.putPair x y v).latched = d.latched := rfl
@[simp] theorem Dev.putPair_faultQ (d : Dev) (x y : Fld) (v : Nat) : (d.putPair x y v).faultQ = d.faultQ := rfl
@[simp] theorem Dev.putPair_out (d : Dev) (x y : Fld) (v : Nat) : (d.putPair x y v).out = d.out := rfl
@[simp] theorem Dev.putPair_fresh (d : Dev) (x y : Fld) (v : Nat) : (d.putPair x y v).fresh = d.fresh := rfl

/-! ### What a raised event leaves alone -/

@[simp] theorem Dev.raise_settings (d : Dev) (n : Nat) : (d.raise n).settings = d.settings := by
  unfold Dev.raise Dev.raiseN
  split
  · rfl
  · split
    · split <;> rfl
    · rfl
@[simp] theorem Dev.raise_latches (d : Dev) (n : Nat) : (d.raise n).latches = d.latches := by
  unfold Dev.raise Dev.raiseN
  split
  · rfl
  · split
    · split <;> rfl
    · rfl
@[simp] theorem Dev.raise_mode (d : Dev) (n : Nat) : (d.raise n).mode = d.mode := by
  unfold Dev.raise Dev.raiseN
  split
  · rfl
  · split
    · split <;> rfl
    · rfl
@[simp] theorem Dev.raise_frc (d : Dev) (n : Nat) : (d.raise n).frc = d.frc := by
  unfold Dev.raise Dev.raiseN
  split
  · rfl
  · split
    · split <;> rfl
    · rfl
@[simp] theorem Dev.raise_tns (d : Dev) (n : Nat) : (d.raise n).tns = d.tns := by
  unfold Dev.raise Dev.raiseN
  split
  · rfl
  · split
    · split <;> rfl
    · rfl
@[simp] theorem Dev.raise_store (d : Dev) (n : Nat) : (d.raise n).store = d.store := by
  unfold Dev.raise Dev.raiseN
  split
  · rfl
  · split
    · split <;> rfl
    · rfl
@[simp] theorem Dev.raise_eng (d : Dev) (n : Nat) : (d.raise n).eng = d.eng := by
  unfold Dev.raise Dev.raiseN
  split
  · rfl
  · split
    · split <;> rfl
    · rfl
@[simp] theorem Dev.raise_time (d : Dev) (n : Nat) : (d.raise n).time = d.time := by
  unfold Dev.raise Dev.raiseN
  split
  · rfl
  · split
    · split <;> rfl
    · rfl
@[simp] theorem Dev.raise_phase (d : Dev) (n : Nat) : (d.raise n).phase = d.phase := by
  unfold Dev.raise Dev.raiseN
  split
  · rfl
  · split
    · split <;> rfl
    · rfl
@[simp] theorem Dev.raise_hq (d : Dev) (n : Nat) : (d.raise n).hq = d.hq := by
  unfold Dev.raise Dev.raiseN
  split
  · rfl
  · split
    · split <;> rfl
    · rfl
@[simp] theorem Dev.raise_sec (d : Dev) (n : Nat) : (d.raise n).sec = d.sec := by
  unfold Dev.raise Dev.raiseN
  split
  · rfl
  · split
    · split <;> rfl
    · rfl
@[simp] theorem Dev.raise_flt (d : Dev) (n : Nat) : (d.raise n).flt = d.flt := by
  unfold Dev.raise Dev.raiseN
  split
  · rfl
  · split
    · split <;> rfl
    · rfl
@[simp] theorem Dev.raise_sys (d : Dev) (n : Nat) : (d.raise n).sys = d.sys := by
  unfold Dev.raise Dev.raiseN
  split
  · rfl
  · split
    · split <;> rfl
    · rfl
@[simp] theorem Dev.raise_img (d : Dev) (n : Nat) : (d.raise n).img = d.img := by
  unfold Dev.raise Dev.raiseN
  split
  · rfl
  · split
    · split <;> rfl
    · rfl
@[simp] theorem Dev.raise_mgmt (d : Dev) (n : Nat) : (d.raise n).mgmt = d.mgmt := by
  unfold Dev.raise Dev.raiseN
  split
  · rfl
  · split
    · split <;> rfl
    · rfl
@[simp] theorem Dev.raise_loads (d : Dev) (n : Nat) : (d.raise n).loads = d.loads := by
  unfold Dev.raise Dev.raiseN
  split
  · rfl
  · split
    · split <;> rfl
    · rfl
@[simp] theorem Dev.raise_can (d : Dev) (n : Nat) : (d.raise n).can = d.can := by
  unfold Dev.raise Dev.raiseN
  split
  · rfl
  · split
    · split <;> rfl
    · rfl
@[simp] theorem Dev.raise_sw (d : Dev) (n : Nat) : (d.raise n).sw = d.sw := by
  unfold Dev.raise Dev.raiseN
  split
  · rfl
  · split
    · split <;> rfl
    · rfl
@[simp] theorem Dev.raise_drv (d : Dev) (n : Nat) : (d.raise n).drv = d.drv := by
  unfold Dev.raise Dev.raiseN
  split
  · rfl
  · split
    · split <;> rfl
    · rfl
@[simp] theorem Dev.raise_latched (d : Dev) (n : Nat) : (d.raise n).latched = d.latched := by
  unfold Dev.raise Dev.raiseN
  split
  · rfl
  · split
    · split <;> rfl
    · rfl
@[simp] theorem Dev.raise_out (d : Dev) (n : Nat) : (d.raise n).out = d.out := by
  unfold Dev.raise Dev.raiseN
  split
  · rfl
  · split
    · split <;> rfl
    · rfl
@[simp] theorem Dev.raise_fresh (d : Dev) (n : Nat) : (d.raise n).fresh = d.fresh := by
  unfold Dev.raise Dev.raiseN
  split
  · rfl
  · split
    · split <;> rfl
    · rfl

/-- The queue of the events that wait for Reeve, after `k` more have passed their crossing. -/
@[simp] theorem Dev.eventsPass_queue (d : Dev) (n k : Nat) : (d.eventsPass n k).faultQ.queue = d.faultQ.queue ++ [(n, k)] := rfl

/-- The event of a source that passes no crossing group waits for Reeve. -/
theorem Dev.raise_eq (d : Dev) (n : Nat) (h : xgroupOf n = none) : d.raise n = d.eventsPass n 1 := by
  simp [Dev.raise, Dev.raiseN, h]

/-- The event of a crossing group that passes. -/
theorem Dev.raise_group (d : Dev) (n g : Nat) (h : xgroupOf n = some g) (hr : d.halfReset g = false) :
    d.raise n = d.eventsPass n 1 := by
  simp [Dev.raise, Dev.raiseN, h, hr]

@[simp] theorem run_eq (f : Dev → Dev) (s : State) : run f s = .next ⟨f { s.dev with out := [] }, s.pending⟩ := rfl

/-- A step with a command in front runs it on the queue's rest. -/
theorem step_cons {s : State} {c : Instr} {cs : List Instr} (h : s.pending = c :: cs) : step s = exec c { s with pending := cs } := by
  unfold step; rw [h]

/-- A step on an empty queue is one tick. -/
theorem step_nil {s : State} (h : s.pending = []) : step s = run Dev.tick s := by
  unfold step; rw [h]

end Sys2Proof.Machine
end

