-- ==== Sys2Proof/Laws/Engine.lean ====
section
/-! SUPPORT. What the issue of an engine's instruction does: the law of `issue` where the thread may issue, of a thread's update, and of a
register write. -/

namespace Sys2Proof.Machine

/-- A command whose meaning is a change of the device does what the change does. -/
theorem Does.run {c : Instr} {s : State} {P : Dev → Prop} {f : Dev → Dev} (h : exec c s = Sys2Proof.Machine.run f s)
    (p : P (f { s.dev with out := [] })) : Does c s P := ⟨_, h, p⟩

/-- The device a command leaves keeps what the command's frame says. -/
theorem KeptX.dev {M : Nat} {s : State} {f : Dev → Dev} (h : KeptX M s (Sys2Proof.Machine.run f s)) :
    Kept M s.dev (f { s.dev with out := [] }) := by
  obtain ⟨e, he, k⟩ := h
  simp only [run_eq, Host.Outcome.next.injEq, State.mk.injEq, and_true] at he
  rw [he]; exact k

theorem Kept.out (M : Nat) (d : Dev) (x : List Emit) : Kept M d { d with out := x } := by
  constructor <;> first | exact fun h => h | exact fun _ => rfl | exact rfl | exact Or.inl rfl | exact fun c => ⟨c.regs, c.settings, c.slots, c.keys⟩

/-! ### Threads -/

@[simp] theorem Dev.thread_putThread (d : Dev) (e t : Nat) (th : Thread) : (d.putThread e t th).thread e t = th := Tab.get_set _ _ _ _

theorem Dev.threads_putThread_ne (d : Dev) (e t : Nat) (th : Thread) {i : Nat} (h : i ≠ 4 * e + t) :
    Tab.get (fun _ => threadIdle) (d.putThread e t th).eng.threads i = Tab.get (fun _ => threadIdle) d.eng.threads i :=
  Tab.get_set_ne _ _ h _

/-- An instruction a thread may issue runs after the counts have advanced. -/
theorem Dev.issue_of {d : Dev} {e : Fin 8} {t : Fin 4} {w : BitVec 40} (h : d.Issues e t w) (f : Nat → Dev → Dev) :
    d.issue e t w f = f (d.thread e.val t.val).pc (d.issued e.val t.val) := by
  obtain ⟨h1, h2, h3⟩ := h
  unfold Dev.issue
  simp [h1, Nat.not_le.mpr h2, h3]

theorem Dev.thread_issued (d : Dev) (e t : Nat) : (d.issued e t).thread e t = (d.thread e t).counted d.tns := Tab.get_set _ _ _ _

/-- Issuing changes the issuing thread and the scheduler's counts. -/
theorem Dev.issued_only (d : Dev) (e : Fin 8) (t : Fin 4) : ThreadOnly e t ((d.thread e.val t.val).counted d.tns) d (d.issued e.val t.val) :=
  ⟨Dev.thread_issued d e.val t.val, fun _ h => Tab.get_set_ne _ _ h _, rfl, Dev.issued_kept Sub.rfl (Kept.refl _ _)⟩

/-- A change of the thread after the issue. -/
theorem ThreadOnly.onThread {e : Fin 8} {t : Fin 4} {th : Thread} {d0 d : Dev} (h : ThreadOnly e t th d0 d) (f : Thread → Thread) :
    ThreadOnly e t (f th) d0 (d.onThread e.val t.val f) :=
  ⟨by unfold Dev.onThread; rw [Dev.thread_putThread, h.thread],
   fun i hi => (Dev.threads_putThread_ne _ _ _ _ hi).trans (h.others i hi), h.engine,
   Dev.onThread_kept Sub.rfl h.kept⟩

/-- The outputs of the command before do not matter. -/
theorem ThreadOnly.out {e : Fin 8} {t : Fin 4} {th : Thread} {d0 d : Dev} {x : List Emit} (h : ThreadOnly e t th { d0 with out := x } d) :
    ThreadOnly e t th d0 d := ⟨h.thread, h.others, h.engine, (Kept.out _ d0 x).trans h.kept⟩

/-- An instruction whose effect is on its thread. -/
theorem Does.issueT {c : Instr} {s : State} {e : Fin 8} {t : Fin 4} {w : BitVec 40} {f : Thread → Thread} {P : Dev → Prop}
    (hx : exec c s = Sys2Proof.Machine.run (Dev.issueT e t w f) s) (h : s.dev.Issues e t w)
    (hp : ∀ d, ThreadOnly e t (f ((s.dev.thread e.val t.val).counted s.dev.tns)) s.dev d → P d) : Does c s P := by
  refine Does.run hx (hp _ ?_)
  have h' : Dev.Issues { s.dev with out := [] } e t w := h
  unfold Dev.issueT
  rw [Dev.issue_of h']
  exact ThreadOnly.out (x := []) ((Dev.issued_only { s.dev with out := [] } e t).onThread f)

/-! ### Registers of a thread -/

@[simp] theorem Thread.reg_zero (th : Thread) : th.reg 0 = ⟨0, tagNeutral⟩ := rfl

theorem Thread.reg_setReg (th : Thread) {r : GReg} (w : Tagged) (h : r ≠ 0) : (th.setReg r w).reg r = w := by
  unfold Thread.setReg Thread.reg
  simp only [h, if_false]
  exact Tab.get_set _ _ _ _

theorem Thread.reg_setReg_ne (th : Thread) {r q : GReg} (w : Tagged) (h : q ≠ r) : (th.setReg r w).reg q = th.reg q := by
  unfold Thread.setReg
  split
  · rfl
  · unfold Thread.reg
    split
    · rfl
    · exact Tab.get_set_ne _ _ (fun e => h (Fin.ext e)) _

theorem Thread.setReg_eq (th : Thread) (r : GReg) (w : Tagged) : th.setReg r w = { th with g := (th.setReg r w).g } := by
  unfold Thread.setReg; split <;> rfl

@[simp] theorem Thread.reg_counted (th : Thread) (now : Nat) (r : GReg) : (th.counted now).reg r = th.reg r := rfl
@[simp] theorem Thread.opVal_counted (th : Thread) (now : Nat) (b : OpB) : (th.counted now).opVal b = th.opVal b := by cases b <;> rfl
@[simp] theorem Thread.opTag_counted (th : Thread) (now : Nat) (b : OpB) : (th.counted now).opTag b = th.opTag b := by cases b <;> rfl
@[simp] theorem Thread.scaleVal_counted (th : Thread) (now : Nat) (sg : Bool) (b : ScaleM) :
    (th.counted now).scaleVal sg b = th.scaleVal sg b := by cases b <;> rfl
@[simp] theorem Thread.scaleTag_counted (th : Thread) (now : Nat) (b : ScaleM) : (th.counted now).scaleTag b = th.scaleTag b := by
  cases b <;> rfl

/-- A register write, from the thread it leaves. -/
theorem ThreadOnly.writesReg {e : Fin 8} {t : Fin 4} {r : GReg} {w : Tagged} {P : Tagged → Prop} {d0 d : Dev}
    (h : ThreadOnly e t (((d0.thread e.val t.val).counted d0.tns).setReg r w) d0 d) (hp : P w) : WritesReg e t r P d0 d where
  value hr := by rw [h.thread, Thread.reg_setReg _ _ hr]; exact hp
  zero := Thread.reg_zero _
  regs q hq := by rw [h.thread, Thread.reg_setReg_ne _ _ hq]; rfl
  frame := by
    have := h.thread
    refine ⟨?_, h.others, h.engine, h.kept⟩
    rw [h.thread]
    exact Thread.setReg_eq _ _ _

end Sys2Proof.Machine
end

