-- ==== Sys2Proof/Laws/KeptReport.lean ====
section
/-! SUPPORT. What the operations and commands of Machine/Report.lean keep (`Kept`): the parts each changes, and the canonical form. -/

set_option Elab.async false

namespace Sys2Proof.Machine

theorem Dev.sendVector_kept {M : Nat} {d0 d : Dev} {a1 : _} (hM : Sub 1 M) (h : Kept M d0 d) :
    Kept M d0 (Dev.sendVector a1 d) := by
  unfold Dev.sendVector
  repeat' first
    | with_reducible assumption
    | with_reducible refine Dev.put_kept ((hM).mono (by decide)) ?_
    | with_reducible refine Dev.emit_kept ((hM).mono (by decide)) ?_
    | split
    | dsimp only
    | intro _

theorem Dev.putQueue_kept {M : Nat} {d0 d : Dev} {a1 : _} {a2 : _} (hM : Sub 512 M) (h : Kept M d0 d) :
    Kept M d0 (Dev.putQueue a1 a2 d) := by
  unfold Dev.putQueue
  repeat' first
    | with_reducible assumption
    | split
    | dsimp only
    | intro _
    | with_reducible refine Kept.lit_hq ((hM).mono (by decide)) ?_

theorem Dev.onQueue_kept {M : Nat} {d0 d : Dev} {a1 : _} {a2 : _} (hM : Sub 512 M) (h : Kept M d0 d) :
    Kept M d0 (Dev.onQueue a1 a2 d) := by
  unfold Dev.onQueue
  repeat' first
    | with_reducible assumption
    | with_reducible refine Dev.putQueue_kept ((hM).mono (by decide)) ?_
    | split
    | dsimp only
    | intro _

theorem Dev.queueCause_kept {M : Nat} {d0 d : Dev} {a1 : _} (hM : Sub 513 M) (h : Kept M d0 d) :
    Kept M d0 (Dev.queueCause a1 d) := by
  unfold Dev.queueCause
  repeat' first
    | with_reducible assumption
    | with_reducible refine Dev.onQueue_kept ((hM).mono (by decide)) ?_
    | with_reducible refine Dev.sendVector_kept ((hM).mono (by decide)) ?_
    | split
    | dsimp only
    | intro _

theorem Dev.offerRecord_kept {M : Nat} {d0 d : Dev} {a1 : _} {a2 : _} (hM : Sub 512 M) (h : Kept M d0 d) :
    Kept M d0 (Dev.offerRecord a1 a2 d) := by
  unfold Dev.offerRecord
  repeat' first
    | with_reducible assumption
    | with_reducible refine Dev.onQueue_kept ((hM).mono (by decide)) ?_
    | split
    | dsimp only
    | intro _

theorem Dev.sysRecord_kept {M : Nat} {d0 d : Dev} {a1 : _} {a2 : _} {a3 : _} {a4 : _} (hM : Sub 513 M) (h : Kept M d0 d) :
    Kept M d0 (Dev.sysRecord a1 a2 a3 a4 d) := by
  unfold Dev.sysRecord
  repeat' first
    | with_reducible assumption
    | with_reducible refine Dev.sendVector_kept ((hM).mono (by decide)) ?_
    | with_reducible refine Dev.offerRecord_kept ((hM).mono (by decide)) ?_
    | split
    | dsimp only
    | intro _

theorem Dev.recLost_kept {M : Nat} {d0 d : Dev} (hM : Sub 1049601 M) (h : Kept M d0 d) :
    Kept M d0 (Dev.recLost d) := by
  unfold Dev.recLost
  repeat' first
    | with_reducible assumption
    | exact fun c => (Dev.Canonical.slots c : _)
    | exact fun c => (Dev.Canonical.keys c)
    | exact fun c => (Dev.Canonical.regs c)
    | exact fun c => Tab.wf_drop _ _ (Dev.Canonical.slots c)
    | exact fun c => Tab.wf_set _ _ _ (Dev.Canonical.slots c)
    | exact fun c => Tab.wf_set _ _ _ (Dev.Canonical.keys c)
    | exact fun c => Tab.wf_set _ _ _ (Dev.Canonical.regs c)
    | exact fun c => Tab.wf_drop _ _ (Dev.Canonical.regs c)
    | exact fun c => Tab.wf_set _ _ _ (Dev.Canonical.settings c)
    | exact fun _ => rfl
    | with_reducible refine Dev.raise_kept ((hM).mono (by decide)) ?_
    | with_reducible refine Dev.bump_kept ((hM).mono (by decide)) ?_
    | split
    | dsimp only
    | intro _
    | with_reducible refine Kept.lit_sec ((hM).mono (by decide)) ?_ ?_

theorem Dev.recEnqueue_kept {M : Nat} {d0 d : Dev} {a1 : _} (hM : Sub 1049601 M) (h : Kept M d0 d) :
    Kept M d0 (Dev.recEnqueue a1 d) := by
  unfold Dev.recEnqueue
  repeat' first
    | with_reducible assumption
    | exact fun c => (Dev.Canonical.slots c : _)
    | exact fun c => (Dev.Canonical.keys c)
    | exact fun c => (Dev.Canonical.regs c)
    | exact fun c => Tab.wf_drop _ _ (Dev.Canonical.slots c)
    | exact fun c => Tab.wf_set _ _ _ (Dev.Canonical.slots c)
    | exact fun c => Tab.wf_set _ _ _ (Dev.Canonical.keys c)
    | exact fun c => Tab.wf_set _ _ _ (Dev.Canonical.regs c)
    | exact fun c => Tab.wf_drop _ _ (Dev.Canonical.regs c)
    | exact fun c => Tab.wf_set _ _ _ (Dev.Canonical.settings c)
    | exact fun _ => rfl
    | with_reducible refine Dev.raise_kept ((hM).mono (by decide)) ?_
    | with_reducible refine Dev.bump_kept ((hM).mono (by decide)) ?_
    | with_reducible refine Dev.recLost_kept ((hM).mono (by decide)) ?_
    | with_reducible refine Dev.put_kept ((hM).mono (by decide)) ?_
    | split
    | dsimp only
    | intro _
    | with_reducible refine Kept.lit_sec ((hM).mono (by decide)) ?_ ?_

theorem Dev.recAppend_kept {M : Nat} {d0 d : Dev} {a1 : _} {a2 : _} (hM : Sub 1049601 M) (h : Kept M d0 d) :
    Kept M d0 (Dev.recAppend a1 a2 d) := by
  unfold Dev.recAppend
  repeat' first
    | with_reducible assumption
    | exact fun c => (Dev.Canonical.slots c : _)
    | exact fun c => (Dev.Canonical.keys c)
    | exact fun c => (Dev.Canonical.regs c)
    | exact fun c => Tab.wf_drop _ _ (Dev.Canonical.slots c)
    | exact fun c => Tab.wf_set _ _ _ (Dev.Canonical.slots c)
    | exact fun c => Tab.wf_set _ _ _ (Dev.Canonical.keys c)
    | exact fun c => Tab.wf_set _ _ _ (Dev.Canonical.regs c)
    | exact fun c => Tab.wf_drop _ _ (Dev.Canonical.regs c)
    | exact fun c => Tab.wf_set _ _ _ (Dev.Canonical.settings c)
    | exact fun _ => rfl
    | with_reducible refine Dev.recEnqueue_kept ((hM).mono (by decide)) ?_
    | split
    | dsimp only
    | intro _
    | with_reducible refine Kept.lit_sec ((hM).mono (by decide)) ?_ ?_

theorem Dev.recAppendFree_kept {M : Nat} {d0 d : Dev} {a1 : _} {a2 : _} (hM : Sub 1049601 M) (h : Kept M d0 d) :
    Kept M d0 (Dev.recAppendFree a1 a2 d) := by
  unfold Dev.recAppendFree
  repeat' first
    | with_reducible assumption
    | with_reducible refine Dev.recAppend_kept ((hM).mono (by decide)) ?_
    | split
    | dsimp only
    | intro _

theorem Dev.showErr_kept {M : Nat} {d0 d : Dev} (hM : Sub 1 M) (h : Kept M d0 d) :
    Kept M d0 (Dev.showErr d) := by
  unfold Dev.showErr
  repeat' first
    | with_reducible assumption
    | with_reducible refine Kept.onlyIf ?_ ?_
    | with_reducible refine Dev.putFlag_kept ((hM).mono (by decide)) ?_
    | with_reducible refine Dev.emit_kept ((hM).mono (by decide)) ?_
    | split
    | dsimp only
    | intro _

theorem Dev.showIrq_kept {M : Nat} {d0 d : Dev} {a1 : _} (hM : Sub 0 M) (h : Kept M d0 d) :
    Kept M d0 (Dev.showIrq a1 d) := by
  unfold Dev.showIrq
  repeat' first
    | with_reducible assumption
    | with_reducible refine Dev.emit_kept ((hM).mono (by decide)) ?_
    | split
    | dsimp only
    | intro _

theorem Dev.notice_kept {M : Nat} {d0 d : Dev} {a1 : _} {a2 : _} {a3 : _} {a4 : _} {a5 : _} (hM : Sub 16385 M) (h : Kept M d0 d) :
    Kept M d0 (Dev.notice a1 a2 a3 a4 a5 d) := by
  unfold Dev.notice
  repeat' first
    | with_reducible assumption
    | with_reducible refine Dev.bump_kept ((hM).mono (by decide)) ?_
    | with_reducible refine Dev.showIrq_kept ((hM).mono (by decide)) ?_
    | with_reducible refine Dev.put_kept ((hM).mono (by decide)) ?_
    | split
    | dsimp only
    | intro _
    | with_reducible refine Kept.lit_mgmt ((hM).mono (by decide)) ?_

theorem Dev.bridgeLog_kept {M : Nat} {d0 d : Dev} {a1 : _} {a2 : _} {a3 : _} {a4 : _} {a5 : _} (hM : Sub 1049089 M) (h : Kept M d0 d) :
    Kept M d0 (Dev.bridgeLog a1 a2 a3 a4 a5 d) := by
  unfold Dev.bridgeLog
  repeat' first
    | with_reducible assumption
    | with_reducible refine Dev.raise_kept ((hM).mono (by decide)) ?_
    | with_reducible refine Dev.bump_kept ((hM).mono (by decide)) ?_
    | with_reducible refine Dev.sysRecord_kept ((hM).mono (by decide)) ?_
    | split
    | dsimp only
    | intro _
    | with_reducible refine Kept.lit_hq ((hM).mono (by decide)) ?_

theorem Dev.restoreRoutes_kept {M : Nat} {d0 d : Dev} (hM : Sub 8224 M) (h : Kept M d0 d) :
    Kept M d0 (Dev.restoreRoutes d) := by
  unfold Dev.restoreRoutes
  repeat' first
    | with_reducible assumption
    | exact fun c => (Dev.Canonical.slots c : _)
    | exact fun c => (Dev.Canonical.keys c)
    | exact fun c => (Dev.Canonical.regs c)
    | exact fun c => Tab.wf_drop _ _ (Dev.Canonical.slots c)
    | exact fun c => Tab.wf_set _ _ _ (Dev.Canonical.slots c)
    | exact fun c => Tab.wf_set _ _ _ (Dev.Canonical.keys c)
    | exact fun c => Tab.wf_set _ _ _ (Dev.Canonical.regs c)
    | exact fun c => Tab.wf_drop _ _ (Dev.Canonical.regs c)
    | exact fun c => Tab.wf_set _ _ _ (Dev.Canonical.settings c)
    | exact fun _ => rfl
    | with_reducible refine Kept.each ?_ ?_
    | with_reducible refine Kept.foldl _ ?_ _ _ ?_
    | with_reducible refine Dev.putSlot_kept ((hM).mono (by decide)) ?_
    | split
    | dsimp only
    | intro _
    | with_reducible refine Kept.lit_store ((hM).mono (by decide)) ?_ ?_
    | with_reducible refine Kept.lit_img ((hM).mono (by decide)) ?_
    | with_reducible refine Kept.lit_store_img ((hM).mono (by decide)) ?_ ((hM).mono (by decide)) ?_

theorem Dev.partialDiscard_kept {M : Nat} {d0 d : Dev} (hM : Sub 8225 M) (h : Kept M d0 d) :
    Kept M d0 (Dev.partialDiscard d) := by
  unfold Dev.partialDiscard
  repeat' first
    | with_reducible assumption
    | with_reducible refine Kept.onlyIf ?_ ?_
    | with_reducible refine Dev.restoreRoutes_kept ((hM).mono (by decide)) ?_
    | with_reducible refine Dev.putFlag_kept ((hM).mono (by decide)) ?_
    | split
    | dsimp only
    | intro _
    | with_reducible refine Kept.lit_img ((hM).mono (by decide)) ?_

theorem Dev.takeMode_kept {M : Nat} {d0 d : Dev} {a1 : _} (hM : Sub 9 M) (h : Kept M d0 d) :
    Kept M d0 (Dev.takeMode a1 d) := by
  unfold Dev.takeMode
  repeat' first
    | with_reducible assumption
    | with_reducible refine Kept.onlyIf ?_ ?_
    | with_reducible refine Dev.put_kept ((hM).mono (by decide)) ?_
    | with_reducible refine Dev.showErr_kept ((hM).mono (by decide)) ?_
    | split
    | dsimp only
    | intro _
    | with_reducible refine Kept.lit_mode ((hM).mono (by decide)) ?_

theorem Dev.transit_kept {M : Nat} {d0 d : Dev} {a1 : _} {a2 : _} {a3 : _} (hM : Sub 1070601 M) (h : Kept M d0 d) :
    Kept M d0 (Dev.transit a1 a2 a3 d) := by
  unfold Dev.transit
  repeat' first
    | with_reducible assumption
    | exact fun c => (Dev.Canonical.slots c : _)
    | exact fun c => (Dev.Canonical.keys c)
    | exact fun c => (Dev.Canonical.regs c)
    | exact fun c => Tab.wf_drop _ _ (Dev.Canonical.slots c)
    | exact fun c => Tab.wf_set _ _ _ (Dev.Canonical.slots c)
    | exact fun c => Tab.wf_set _ _ _ (Dev.Canonical.keys c)
    | exact fun c => Tab.wf_set _ _ _ (Dev.Canonical.regs c)
    | exact fun c => Tab.wf_drop _ _ (Dev.Canonical.regs c)
    | exact fun c => Tab.wf_set _ _ _ (Dev.Canonical.settings c)
    | exact fun _ => rfl
    | with_reducible refine Dev.sysRecord_kept ((hM).mono (by decide)) ?_
    | with_reducible refine Dev.recEnqueue_kept ((hM).mono (by decide)) ?_
    | with_reducible refine Dev.notice_kept ((hM).mono (by decide)) ?_
    | with_reducible refine Dev.takeMode_kept ((hM).mono (by decide)) ?_
    | with_reducible refine Dev.put_kept ((hM).mono (by decide)) ?_
    | split
    | dsimp only
    | intro _
    | with_reducible refine Kept.lit_sec ((hM).mono (by decide)) ?_ ?_
    | with_reducible refine Kept.lit_sys ((hM).mono (by decide)) ?_

theorem Dev.transitSilent_kept {M : Nat} {d0 d : Dev} {a1 : _} (hM : Sub 9 M) (h : Kept M d0 d) :
    Kept M d0 (Dev.transitSilent a1 d) := by
  unfold Dev.transitSilent
  repeat' first
    | with_reducible assumption
    | with_reducible refine Dev.takeMode_kept ((hM).mono (by decide)) ?_
    | split
    | dsimp only
    | intro _

theorem Dev.declareLoss_kept {M : Nat} {d0 d : Dev} {a1 : _} {a2 : _} {a3 : _} (hM : Sub 1070601 M) (h : Kept M d0 d) :
    Kept M d0 (Dev.declareLoss a1 a2 a3 d) := by
  unfold Dev.declareLoss
  repeat' first
    | with_reducible assumption
    | with_reducible refine Dev.putFlag_kept ((hM).mono (by decide)) ?_
    | with_reducible refine Dev.transit_kept ((hM).mono (by decide)) ?_
    | split
    | dsimp only
    | intro _

theorem Dev.clearLoss_kept {M : Nat} {d0 d : Dev} {a1 : _} (hM : Sub 1070601 M) (h : Kept M d0 d) :
    Kept M d0 (Dev.clearLoss a1 d) := by
  unfold Dev.clearLoss
  repeat' first
    | with_reducible assumption
    | with_reducible refine Dev.putFlag_kept ((hM).mono (by decide)) ?_
    | with_reducible refine Dev.transit_kept ((hM).mono (by decide)) ?_
    | split
    | dsimp only
    | intro _

theorem Dev.wake_kept {M : Nat} {d0 d : Dev} {a1 : _} {a2 : _} {a3 : _} (hM : Sub 4097 M) (h : Kept M d0 d) :
    Kept M d0 (Dev.wake a1 a2 a3 d) := by
  unfold Dev.wake
  repeat' first
    | with_reducible assumption
    | with_reducible refine Dev.put_kept ((hM).mono (by decide)) ?_
    | with_reducible refine Dev.putFlag_kept ((hM).mono (by decide)) ?_
    | split
    | dsimp only
    | intro _
    | with_reducible refine Kept.lit_sys ((hM).mono (by decide)) ?_

theorem Dev.putHolder_kept {M : Nat} {d0 d : Dev} {a1 : _} (hM : Sub 1048577 M) (h : Kept M d0 d) :
    Kept M d0 (Dev.putHolder a1 d) := by
  unfold Dev.putHolder
  repeat' first
    | with_reducible assumption
    | with_reducible refine Dev.put_kept ((hM).mono (by decide)) ?_
    | with_reducible refine Dev.raise_kept ((hM).mono (by decide)) ?_
    | split
    | dsimp only
    | intro _

theorem Dev.takeLease_kept {M : Nat} {d0 d : Dev} {a1 : _} {a2 : _} {a3 : _} (hM : Sub 1048577 M) (h : Kept M d0 d) :
    Kept M d0 (Dev.takeLease a1 a2 a3 d) := by
  unfold Dev.takeLease
  repeat' first
    | with_reducible assumption
    | with_reducible refine Dev.putHolder_kept ((hM).mono (by decide)) ?_
    | split
    | dsimp only
    | intro _

theorem Dev.refuseAccess_kept {M : Nat} {d0 d : Dev} {a1 : _} {a2 : _} {a3 : _} {a4 : _} {a5 : _} (hM : Sub 1049089 M) (h : Kept M d0 d) :
    Kept M d0 (Dev.refuseAccess a1 a2 a3 a4 a5 d) := by
  unfold Dev.refuseAccess
  repeat' first
    | with_reducible assumption
    | with_reducible refine Dev.emit_kept ((hM).mono (by decide)) ?_
    | with_reducible refine Dev.bridgeLog_kept ((hM).mono (by decide)) ?_
    | split
    | dsimp only
    | intro _

theorem Dev.seen_kept {M : Nat} {d0 d : Dev} {a1 : _} (hM : Sub 16384 M) (h : Kept M d0 d) :
    Kept M d0 (Dev.seen a1 d) := by
  unfold Dev.seen
  repeat' first
    | with_reducible assumption
    | split
    | dsimp only
    | intro _
    | with_reducible refine Kept.lit_mgmt ((hM).mono (by decide)) ?_

theorem Dev.writeBy_kept {M : Nat} {d0 d : Dev} {a1 : _} {a2 : _} (h2 : ∀ y0, Kept M d0 y0 → Kept M d0 (a2 y0)) (_ : Sub 0 M) (h : Kept M d0 d) :
    Kept M d0 (Dev.writeBy a1 a2 d) := by
  unfold Dev.writeBy
  split
  · exact Kept.restore_settings (h2 d h) h
  · exact h2 d h

theorem Dev.writeAs_kept {M : Nat} {d0 d : Dev} {a1 : _} {a2 : _} {a3 : _} {a4 : _} (h4 : ∀ y0, Kept M d0 y0 → Kept M d0 (a4 y0)) (hM : Sub 1065473 M) (h : Kept M d0 d) :
    Kept M d0 (Dev.writeAs a1 a2 a3 a4 d) := by
  unfold Dev.writeAs
  repeat' first
    | with_reducible assumption
    | with_reducible refine h4 _ ?_
    | with_reducible refine Dev.writeBy_kept ?_ ((hM).mono (by decide)) ?_
    | with_reducible refine Dev.takeLease_kept ((hM).mono (by decide)) ?_
    | with_reducible refine Dev.seen_kept ((hM).mono (by decide)) ?_
    | with_reducible refine Dev.refuseAccess_kept ((hM).mono (by decide)) ?_
    | split
    | dsimp only
    | intro _

theorem Dev.readAs_kept {M : Nat} {d0 d : Dev} {a1 : _} {a2 : _} {a3 : _} (h3 : ∀ y0, Kept M d0 y0 → KeptP M d0 (a3 y0)) (hM : Sub 1065473 M) (h : Kept M d0 d) :
    Kept M d0 (Dev.readAs a1 a2 a3 d) := by
  unfold Dev.readAs
  repeat' first
    | with_reducible assumption
    | with_reducible refine h3 _ ?_
    | with_reducible refine Dev.seen_kept ((hM).mono (by decide)) ?_
    | with_reducible refine Dev.emit_kept ((hM).mono (by decide)) ?_
    | with_reducible refine Dev.refuseAccess_kept ((hM).mono (by decide)) ?_
    | refine KeptP.of_eq (by assumption) ?_
    | with_reducible refine KeptP.snd ?_
    | split
    | dsimp only
    | intro _

theorem runWrite_kept {M : Nat} {a1 : _} {a2 : _} {a3 : _} {a4 : _} {s : State} (h4 : ∀ y0, Kept M s.dev y0 → Kept M s.dev (a4 y0)) (hM : Sub 1065473 M) : KeptX M s (runWrite a1 a2 a3 a4 s) := by
  unfold runWrite
  repeat' first
    | with_reducible assumption
    | with_reducible refine h4 _ ?_
    | with_reducible refine KeptX.run ?_
    | with_reducible refine Dev.writeAs_kept ?_ ((hM).mono (by decide)) ?_
    | split
    | dsimp only
    | intro _

theorem runRead_kept {M : Nat} {a1 : _} {a2 : _} {a3 : _} {s : State} (h3 : ∀ y0, Kept M s.dev y0 → Kept M s.dev (a3 y0)) (hM : Sub 1065473 M) : KeptX M s (runRead a1 a2 a3 s) := by
  unfold runRead
  repeat' first
    | with_reducible assumption
    | with_reducible refine h3 _ ?_
    | with_reducible refine KeptX.run ?_
    | with_reducible refine Dev.seen_kept ((hM).mono (by decide)) ?_
    | with_reducible refine Dev.refuseAccess_kept ((hM).mono (by decide)) ?_
    | split
    | dsimp only
    | intro _

end Sys2Proof.Machine
end

