-- ==== Sys2Proof/Laws/KeptCAN.lean ====
section
/-! SUPPORT. What the operations and commands of Machine/CAN.lean keep (`Kept`): the parts each changes, and the canonical form. -/

set_option Elab.async false

namespace Sys2Proof.Machine

theorem Dev.onCan_kept {M : Nat} {d0 d : Dev} {a1 : _} {a2 : _} (hM : Sub 65536 M) (h : Kept M d0 d) :
    Kept M d0 (Dev.onCan a1 a2 d) := by
  unfold Dev.onCan
  repeat' first
    | with_reducible assumption
    | split
    | dsimp only
    | intro _
    | with_reducible refine Kept.lit_can ((hM).mono (by decide)) ?_

theorem Dev.withCan_kept {M : Nat} {d0 d : Dev} {a1 : _} {a2 : _} (h2 : ∀ y0 y1, Kept M d0 y1 → Kept M d0 (a2 y0 y1)) (hM : Sub 0 M) (h : Kept M d0 d) :
    Kept M d0 (Dev.withCan a1 a2 d) := by
  unfold Dev.withCan
  repeat' first
    | with_reducible assumption
    | with_reducible refine h2 _ _ ?_
    | split
    | dsimp only
    | intro _

theorem Dev.putCanBuf_kept {M : Nat} {d0 d : Dev} {a1 : _} {a2 : _} {a3 : _} (hM : Sub 65536 M) (h : Kept M d0 d) :
    Kept M d0 (Dev.putCanBuf a1 a2 a3 d) := by
  unfold Dev.putCanBuf
  repeat' first
    | with_reducible assumption
    | split
    | dsimp only
    | intro _
    | with_reducible refine Kept.lit_can ((hM).mono (by decide)) ?_

theorem Dev.putBufState_kept {M : Nat} {d0 d : Dev} {a1 : _} {a2 : _} {a3 : _} (hM : Sub 1 M) (h : Kept M d0 d) :
    Kept M d0 (Dev.putBufState a1 a2 a3 d) := by
  unfold Dev.putBufState
  repeat' first
    | with_reducible assumption
    | with_reducible refine Dev.put_kept ((hM).mono (by decide)) ?_
    | with_reducible refine Dev.putFlag_kept ((hM).mono (by decide)) ?_
    | split
    | dsimp only
    | intro _

theorem Dev.putTiming_kept {M : Nat} {d0 d : Dev} {a1 : _} {a2 : _} {a3 : _} (hM : Sub 1 M) (h : Kept M d0 d) :
    Kept M d0 (Dev.putTiming a1 a2 a3 d) := by
  unfold Dev.putTiming
  repeat' first
    | with_reducible assumption
    | with_reducible refine Dev.wr_kept ((hM).mono (by decide)) ?_
    | with_reducible refine Dev.put_kept ((hM).mono (by decide)) ?_
    | split
    | dsimp only
    | intro _

theorem Dev.canModeOut_kept {M : Nat} {d0 d : Dev} {a1 : _} {a2 : _} {a3 : _} {a4 : _} (hM : Sub 0 M) (h : Kept M d0 d) :
    Kept M d0 (Dev.canModeOut a1 a2 a3 a4 d) := by
  unfold Dev.canModeOut
  repeat' first
    | with_reducible assumption
    | with_reducible refine Kept.onlyIf ?_ ?_
    | with_reducible refine Dev.emit_kept ((hM).mono (by decide)) ?_
    | split
    | dsimp only
    | intro _

theorem Dev.confine_kept {M : Nat} {d0 d : Dev} {a1 : _} {a2 : _} {a3 : _} (hM : Sub 1048577 M) (h : Kept M d0 d) :
    Kept M d0 (Dev.confine a1 a2 a3 d) := by
  unfold Dev.confine
  repeat' first
    | with_reducible assumption
    | with_reducible refine Dev.put_kept ((hM).mono (by decide)) ?_
    | with_reducible refine Dev.raise_kept ((hM).mono (by decide)) ?_
    | with_reducible refine Dev.bump_kept ((hM).mono (by decide)) ?_
    | split
    | dsimp only
    | intro _

theorem Dev.recGood_kept {M : Nat} {d0 d : Dev} {a1 : _} (hM : Sub 1048577 M) (h : Kept M d0 d) :
    Kept M d0 (Dev.recGood a1 d) := by
  unfold Dev.recGood
  repeat' first
    | with_reducible assumption
    | with_reducible refine Dev.confine_kept ((hM).mono (by decide)) ?_
    | with_reducible refine Dev.draw_kept ((hM).mono (by decide)) ?_
    | refine KeptP.of_eq (by assumption) ?_
    | with_reducible refine KeptP.snd ?_
    | split
    | dsimp only
    | intro _
    | with_reducible refine KeptP.mk ?_

theorem Dev.canTxFailed_kept {M : Nat} {d0 d : Dev} {a1 : _} (hM : Sub 65537 M) (h : Kept M d0 d) :
    Kept M d0 (Dev.canTxFailed a1 d) := by
  unfold Dev.canTxFailed
  repeat' first
    | with_reducible assumption
    | with_reducible refine Dev.withCan_kept ?_ ((hM).mono (by decide)) ?_
    | with_reducible refine Dev.putBufState_kept ((hM).mono (by decide)) ?_
    | with_reducible refine Dev.onCan_kept ((hM).mono (by decide)) ?_
    | split
    | dsimp only
    | intro _

theorem execCanBusError_kept {a1 : _} {a2 : _} {a3 : _} {a4 : _} {s : State} : KeptX 1114113 s (execCanBusError a1 a2 a3 a4 s) := by
  unfold execCanBusError
  repeat' first
    | with_reducible assumption
    | with_reducible refine KeptX.run ?_
    | with_reducible refine Kept.onlyIf ?_ ?_
    | with_reducible refine Dev.withCan_kept ?_ ((Sub.rfl).mono (by decide)) ?_
    | with_reducible refine Dev.bump_kept ((Sub.rfl).mono (by decide)) ?_
    | with_reducible refine Dev.put_kept ((Sub.rfl).mono (by decide)) ?_
    | with_reducible refine Dev.confine_kept ((Sub.rfl).mono (by decide)) ?_
    | with_reducible refine Dev.canTxFailed_kept ((Sub.rfl).mono (by decide)) ?_
    | with_reducible refine Dev.canModeOut_kept ((Sub.rfl).mono (by decide)) ?_
    | split
    | dsimp only
    | intro _

theorem Dev.enterBus_kept {M : Nat} {d0 d : Dev} {a1 : _} (hM : Sub 1 M) (h : Kept M d0 d) :
    Kept M d0 (Dev.enterBus a1 d) := by
  unfold Dev.enterBus
  repeat' first
    | with_reducible assumption
    | with_reducible refine Dev.put_kept ((hM).mono (by decide)) ?_
    | split
    | dsimp only
    | intro _

theorem execBusOffRecovery_kept {a1 : _} {a2 : _} {s : State} : KeptX 1048577 s (execBusOffRecovery a1 a2 s) := by
  unfold execBusOffRecovery
  repeat' first
    | with_reducible assumption
    | with_reducible refine KeptX.run ?_
    | with_reducible refine Kept.onlyIf ?_ ?_
    | with_reducible refine Dev.put_kept ((Sub.rfl).mono (by decide)) ?_
    | with_reducible refine Dev.enterBus_kept ((Sub.rfl).mono (by decide)) ?_
    | with_reducible refine Dev.confine_kept ((Sub.rfl).mono (by decide)) ?_
    | split
    | dsimp only
    | intro _

theorem execProtocolException_kept {a1 : _} {a2 : _} {a3 : _} {s : State} : KeptX 1048577 s (execProtocolException a1 a2 a3 s) := by
  unfold execProtocolException
  repeat' first
    | with_reducible assumption
    | with_reducible refine KeptX.run ?_
    | with_reducible refine Kept.onlyIf ?_ ?_
    | with_reducible refine Dev.withCan_kept ?_ ((Sub.rfl).mono (by decide)) ?_
    | with_reducible refine Dev.confine_kept ((Sub.rfl).mono (by decide)) ?_
    | with_reducible refine Dev.put_kept ((Sub.rfl).mono (by decide)) ?_
    | with_reducible refine Dev.bump_kept ((Sub.rfl).mono (by decide)) ?_
    | split
    | dsimp only
    | intro _

theorem execBusIntegration_kept {a1 : _} {s : State} : KeptX 1 s (execBusIntegration a1 s) := by
  unfold execBusIntegration
  repeat' first
    | with_reducible assumption
    | with_reducible refine KeptX.run ?_
    | with_reducible refine Kept.onlyIf ?_ ?_
    | with_reducible refine Dev.enterBus_kept ((Sub.rfl).mono (by decide)) ?_
    | split
    | dsimp only
    | intro _

theorem Dev.canCtrlWrite_kept {M : Nat} {d0 d : Dev} {a1 : _} {a2 : _} {a3 : _} (hM : Sub 3 M) (h : Kept M d0 d) :
    Kept M d0 (Dev.canCtrlWrite a1 a2 a3 d) := by
  unfold Dev.canCtrlWrite
  repeat' first
    | with_reducible assumption
    | with_reducible refine Dev.put_kept ((hM).mono (by decide)) ?_
    | with_reducible refine Dev.storeSetting_kept ((hM).mono (by decide)) ?_
    | with_reducible refine Dev.putFlag_kept ((hM).mono (by decide)) ?_
    | split
    | dsimp only
    | intro _

theorem execTimingSelWrite_kept {a1 : _} {a2 : _} {a3 : _} {s : State} : KeptX 1065475 s (execTimingSelWrite a1 a2 a3 s) := by
  unfold execTimingSelWrite
  repeat' first
    | with_reducible assumption
    | with_reducible refine runWrite_kept ?_ ((Sub.rfl).mono (by decide))
    | with_reducible refine Dev.canCtrlWrite_kept ((Sub.rfl).mono (by decide)) ?_
    | split
    | dsimp only
    | intro _

theorem execListenWrite_kept {a1 : _} {a2 : _} {a3 : _} {s : State} : KeptX 1065475 s (execListenWrite a1 a2 a3 s) := by
  unfold execListenWrite
  repeat' first
    | with_reducible assumption
    | with_reducible refine runWrite_kept ?_ ((Sub.rfl).mono (by decide))
    | with_reducible refine Dev.canCtrlWrite_kept ((Sub.rfl).mono (by decide)) ?_
    | split
    | dsimp only
    | intro _

theorem execTimingSwitch_kept {a1 : _} {s : State} : KeptX 1 s (execTimingSwitch a1 s) := by
  unfold execTimingSwitch
  repeat' first
    | with_reducible assumption
    | with_reducible refine KeptX.run ?_
    | with_reducible refine Kept.onlyIf ?_ ?_
    | with_reducible refine Dev.withCan_kept ?_ ((Sub.rfl).mono (by decide)) ?_
    | with_reducible refine Dev.put_kept ((Sub.rfl).mono (by decide)) ?_
    | with_reducible refine Dev.putTiming_kept ((Sub.rfl).mono (by decide)) ?_
    | split
    | dsimp only
    | intro _

theorem execListenEffect_kept {a1 : _} {s : State} : KeptX 1 s (execListenEffect a1 s) := by
  unfold execListenEffect
  repeat' first
    | with_reducible assumption
    | with_reducible refine KeptX.run ?_
    | with_reducible refine Kept.onlyIf ?_ ?_
    | with_reducible refine Dev.withCan_kept ?_ ((Sub.rfl).mono (by decide)) ?_
    | with_reducible refine Dev.enterBus_kept ((Sub.rfl).mono (by decide)) ?_
    | split
    | dsimp only
    | intro _

theorem Dev.canRecord_kept {M : Nat} {d0 d : Dev} {a1 : _} {a2 : _} {a3 : _} {a4 : _} {a5 : _} {a6 : _} {a7 : _} (hM : Sub 1114177 M) (h : Kept M d0 d) :
    KeptP M d0 (Dev.canRecord a1 a2 a3 a4 a5 a6 a7 d) := by
  unfold Dev.canRecord
  repeat' first
    | with_reducible assumption
    | with_reducible refine Dev.onCan_kept ((hM).mono (by decide)) ?_
    | with_reducible refine Dev.raise_kept ((hM).mono (by decide)) ?_
    | with_reducible refine Dev.put_kept ((hM).mono (by decide)) ?_
    | with_reducible refine Dev.bump_kept ((hM).mono (by decide)) ?_
    | with_reducible refine Dev.ringStore_kept ((hM).mono (by decide)) ?_
    | with_reducible refine Dev.peak_kept ((hM).mono (by decide)) ?_
    | split
    | dsimp only
    | intro _
    | with_reducible refine KeptP.mk ?_

theorem Dev.canDeliver_kept {M : Nat} {d0 d : Dev} {a1 : _} {a2 : _} {a3 : _} (hM : Sub 1114177 M) (h : Kept M d0 d) :
    Kept M d0 (Dev.canDeliver a1 a2 a3 d) := by
  unfold Dev.canDeliver
  repeat' first
    | with_reducible assumption
    | with_reducible refine Dev.canRecord_kept ((hM).mono (by decide)) ?_
    | refine KeptP.of_eq (by assumption) ?_
    | with_reducible refine KeptP.snd ?_
    | split
    | dsimp only
    | intro _
    | with_reducible refine KeptP.mk ?_

theorem execCanFrameReceive_kept {a1 : _} {a2 : _} {s : State} : KeptX 1114177 s (execCanFrameReceive a1 a2 s) := by
  unfold execCanFrameReceive
  repeat' first
    | with_reducible assumption
    | with_reducible refine KeptX.run ?_
    | with_reducible refine Kept.onlyIf ?_ ?_
    | with_reducible refine Dev.withCan_kept ?_ ((Sub.rfl).mono (by decide)) ?_
    | with_reducible refine Dev.canModeOut_kept ((Sub.rfl).mono (by decide)) ?_
    | with_reducible refine Dev.recGood_kept ((Sub.rfl).mono (by decide)) ?_
    | with_reducible refine Dev.canDeliver_kept ((Sub.rfl).mono (by decide)) ?_
    | with_reducible refine Dev.onCan_kept ((Sub.rfl).mono (by decide)) ?_
    | split
    | dsimp only
    | intro _

theorem Dev.canBufferStore_kept {M : Nat} {d0 d : Dev} {a1 : _} {a2 : _} {a3 : _} {a4 : _} {a5 : _} {a6 : _} {a7 : _} {a8 : _} (hM : Sub 65537 M) (h : Kept M d0 d) :
    KeptP M d0 (Dev.canBufferStore a1 a2 a3 a4 a5 a6 a7 a8 d) := by
  unfold Dev.canBufferStore
  repeat' first
    | with_reducible assumption
    | with_reducible refine Dev.putCanBuf_kept ((hM).mono (by decide)) ?_
    | with_reducible refine Dev.bump_kept ((hM).mono (by decide)) ?_
    | with_reducible refine Dev.onCan_kept ((hM).mono (by decide)) ?_
    | with_reducible refine Dev.putBufState_kept ((hM).mono (by decide)) ?_
    | split
    | dsimp only
    | intro _
    | with_reducible refine KeptP.mk ?_

theorem Dev.countHeld_kept {M : Nat} {d0 d : Dev} {a1 : _} {a2 : _} (hM : Sub 65537 M) (h : Kept M d0 d) :
    Kept M d0 (Dev.countHeld a1 a2 d) := by
  unfold Dev.countHeld
  repeat' first
    | with_reducible assumption
    | with_reducible refine Kept.each ?_ ?_
    | with_reducible refine Dev.putCanBuf_kept ((hM).mono (by decide)) ?_
    | with_reducible refine Dev.bump_kept ((hM).mono (by decide)) ?_
    | split
    | dsimp only
    | intro _

theorem execCanTxStart_kept {a1 : _} {s : State} : KeptX 65537 s (execCanTxStart a1 s) := by
  unfold execCanTxStart
  repeat' first
    | with_reducible assumption
    | with_reducible refine KeptX.run ?_
    | with_reducible refine Kept.onlyIf ?_ ?_
    | with_reducible refine Dev.withCan_kept ?_ ((Sub.rfl).mono (by decide)) ?_
    | with_reducible refine Dev.countHeld_kept ((Sub.rfl).mono (by decide)) ?_
    | with_reducible refine Dev.onCan_kept ((Sub.rfl).mono (by decide)) ?_
    | with_reducible refine Dev.putBufState_kept ((Sub.rfl).mono (by decide)) ?_
    | with_reducible refine Dev.emit_kept ((Sub.rfl).mono (by decide)) ?_
    | with_reducible refine Dev.canModeOut_kept ((Sub.rfl).mono (by decide)) ?_
    | split
    | dsimp only
    | intro _

theorem execCanTxSuccess_kept {a1 : _} {s : State} : KeptX 1114177 s (execCanTxSuccess a1 s) := by
  unfold execCanTxSuccess
  repeat' first
    | with_reducible assumption
    | with_reducible refine KeptX.run ?_
    | with_reducible refine Kept.onlyIf ?_ ?_
    | with_reducible refine Dev.withCan_kept ?_ ((Sub.rfl).mono (by decide)) ?_
    | with_reducible refine Dev.bump_kept ((Sub.rfl).mono (by decide)) ?_
    | with_reducible refine Dev.put_kept ((Sub.rfl).mono (by decide)) ?_
    | with_reducible refine Dev.confine_kept ((Sub.rfl).mono (by decide)) ?_
    | with_reducible refine Dev.onCan_kept ((Sub.rfl).mono (by decide)) ?_
    | with_reducible refine Dev.putBufState_kept ((Sub.rfl).mono (by decide)) ?_
    | with_reducible refine Dev.canDeliver_kept ((Sub.rfl).mono (by decide)) ?_
    | split
    | dsimp only
    | intro _

theorem execArbitrationLost_kept {a1 : _} {s : State} : KeptX 65537 s (execArbitrationLost a1 s) := by
  unfold execArbitrationLost
  repeat' first
    | with_reducible assumption
    | with_reducible refine KeptX.run ?_
    | with_reducible refine Kept.onlyIf ?_ ?_
    | with_reducible refine Dev.canTxFailed_kept ((Sub.rfl).mono (by decide)) ?_
    | split
    | dsimp only
    | intro _

theorem Dev.windowEnd_kept {M : Nat} {d0 d : Dev} {a1 : _} (hM : Sub 1114113 M) (h : Kept M d0 d) :
    Kept M d0 (Dev.windowEnd a1 d) := by
  unfold Dev.windowEnd
  repeat' first
    | with_reducible assumption
    | with_reducible refine Dev.withCan_kept ?_ ((hM).mono (by decide)) ?_
    | with_reducible refine Dev.put_kept ((hM).mono (by decide)) ?_
    | with_reducible refine Dev.onCan_kept ((hM).mono (by decide)) ?_
    | with_reducible refine Dev.bump_kept ((hM).mono (by decide)) ?_
    | with_reducible refine Dev.raiseN_kept ((hM).mono (by decide)) ?_
    | with_reducible refine Dev.count_kept ((hM).mono (by decide)) ?_
    | split
    | dsimp only
    | intro _

theorem Dev.cycleStart_kept {M : Nat} {d0 d : Dev} {a1 : _} {a2 : _} {a3 : _} {a4 : _} (hM : Sub 1114113 M) (h : Kept M d0 d) :
    Kept M d0 (Dev.cycleStart a1 a2 a3 a4 d) := by
  unfold Dev.cycleStart
  repeat' first
    | with_reducible assumption
    | with_reducible refine Dev.windowEnd_kept ((hM).mono (by decide)) ?_
    | with_reducible refine Dev.withCan_kept ?_ ((hM).mono (by decide)) ?_
    | with_reducible refine Dev.raiseN_kept ((hM).mono (by decide)) ?_
    | with_reducible refine Dev.count_kept ((hM).mono (by decide)) ?_
    | with_reducible refine Dev.onCan_kept ((hM).mono (by decide)) ?_
    | with_reducible refine Dev.putFlag_kept ((hM).mono (by decide)) ?_
    | with_reducible refine Dev.put_kept ((hM).mono (by decide)) ?_
    | split
    | dsimp only
    | intro _

theorem Dev.timeCycle_kept {M : Nat} {d0 d : Dev} {a1 : _} {a2 : _} (hM : Sub 1114113 M) (h : Kept M d0 d) :
    Kept M d0 (Dev.timeCycle a1 a2 d) := by
  unfold Dev.timeCycle
  repeat' first
    | with_reducible assumption
    | with_reducible refine Dev.cycleStart_kept ((hM).mono (by decide)) ?_
    | split
    | dsimp only
    | intro _

theorem execCycleStart_kept {a1 : _} {s : State} : KeptX 1114113 s (execCycleStart a1 s) := by
  unfold execCycleStart
  repeat' first
    | with_reducible assumption
    | with_reducible refine KeptX.run ?_
    | with_reducible refine Kept.onlyIf ?_ ?_
    | with_reducible refine Dev.withCan_kept ?_ ((Sub.rfl).mono (by decide)) ?_
    | with_reducible refine Dev.timeCycle_kept ((Sub.rfl).mono (by decide)) ?_
    | with_reducible refine Dev.cycleStart_kept ((Sub.rfl).mono (by decide)) ?_
    | with_reducible refine Dev.onCan_kept ((Sub.rfl).mono (by decide)) ?_
    | split
    | dsimp only
    | intro _

theorem execWindowStart_kept {a1 : _} {s : State} : KeptX 1114113 s (execWindowStart a1 s) := by
  unfold execWindowStart
  repeat' first
    | with_reducible assumption
    | with_reducible refine KeptX.run ?_
    | with_reducible refine Kept.onlyIf ?_ ?_
    | with_reducible refine Dev.withCan_kept ?_ ((Sub.rfl).mono (by decide)) ?_
    | with_reducible refine Dev.put_kept ((Sub.rfl).mono (by decide)) ?_
    | with_reducible refine Dev.onCan_kept ((Sub.rfl).mono (by decide)) ?_
    | with_reducible refine Dev.windowEnd_kept ((Sub.rfl).mono (by decide)) ?_
    | split
    | dsimp only
    | intro _

theorem execWindowEnd_kept {a1 : _} {s : State} : KeptX 1114113 s (execWindowEnd a1 s) := by
  unfold execWindowEnd
  repeat' first
    | with_reducible assumption
    | with_reducible refine KeptX.run ?_
    | with_reducible refine Kept.onlyIf ?_ ?_
    | with_reducible refine Dev.withCan_kept ?_ ((Sub.rfl).mono (by decide)) ?_
    | with_reducible refine Dev.windowEnd_kept ((Sub.rfl).mono (by decide)) ?_
    | split
    | dsimp only
    | intro _

theorem execRefTimeout_kept {a1 : _} {s : State} : KeptX 1114113 s (execRefTimeout a1 s) := by
  unfold execRefTimeout
  repeat' first
    | with_reducible assumption
    | with_reducible refine KeptX.run ?_
    | with_reducible refine Kept.onlyIf ?_ ?_
    | with_reducible refine Dev.withCan_kept ?_ ((Sub.rfl).mono (by decide)) ?_
    | with_reducible refine Dev.onCan_kept ((Sub.rfl).mono (by decide)) ?_
    | with_reducible refine Dev.windowEnd_kept ((Sub.rfl).mono (by decide)) ?_
    | with_reducible refine Dev.raise_kept ((Sub.rfl).mono (by decide)) ?_
    | with_reducible refine Dev.putFlag_kept ((Sub.rfl).mono (by decide)) ?_
    | split
    | dsimp only
    | intro _

theorem Dev.winDataWrite_kept {M : Nat} {d0 d : Dev} {a1 : _} {a2 : _}  (hM : Sub 65539 M) (h : Kept M d0 d) :
    Kept M d0 (Dev.winDataWrite a1 a2 d) := by
  unfold Dev.winDataWrite
  dsimp only
  repeat' first
    | exact Dev.put_kept (hM.mono (by decide)) h
    | split
  refine Kept.set_settings (hM.mono (by decide)) (fun c => ?_)
    (Dev.put_kept (hM.mono (by decide)) (Dev.onCan_kept (hM.mono (by decide)) h))
  exact Tab.wf_set _ _ _ c.settings

theorem execWinDataWrite_kept {a1 : _} {a2 : _} {a3 : _} {s : State} : KeptX 1131011 s (execWinDataWrite a1 a2 a3 s) := by
  unfold execWinDataWrite
  repeat' first
    | with_reducible assumption
    | with_reducible refine runWrite_kept ?_ ((Sub.rfl).mono (by decide))
    | with_reducible refine Dev.winDataWrite_kept ((Sub.rfl).mono (by decide)) ?_
    | split
    | dsimp only
    | intro _

theorem Dev.canCycleWrite_kept {M : Nat} {d0 d : Dev} {a1 : _} {a2 : _} (hM : Sub 3 M) (h : Kept M d0 d) :
    Kept M d0 (Dev.canCycleWrite a1 a2 d) := by
  unfold Dev.canCycleWrite
  repeat' first
    | with_reducible assumption
    | with_reducible refine Dev.put_kept ((hM).mono (by decide)) ?_
    | with_reducible refine Dev.storeSetting_kept ((hM).mono (by decide)) ?_
    | with_reducible refine Dev.wr_kept ((hM).mono (by decide)) ?_
    | split
    | dsimp only
    | intro _

theorem execCycleWrite_kept {a1 : _} {a2 : _} {a3 : _} {s : State} : KeptX 1065475 s (execCycleWrite a1 a2 a3 s) := by
  unfold execCycleWrite
  repeat' first
    | with_reducible assumption
    | with_reducible refine runWrite_kept ?_ ((Sub.rfl).mono (by decide))
    | with_reducible refine Dev.canCycleWrite_kept ((Sub.rfl).mono (by decide)) ?_
    | split
    | dsimp only
    | intro _

theorem Dev.canStep_kept {M : Nat} {d0 d : Dev} {a1 : _} (hM : Sub 65536 M) (h : Kept M d0 d) :
    Kept M d0 (Dev.canStep a1 d) := by
  unfold Dev.canStep
  repeat' first
    | with_reducible assumption
    | with_reducible refine Dev.withCan_kept ?_ ((hM).mono (by decide)) ?_
    | with_reducible refine Dev.onCan_kept ((hM).mono (by decide)) ?_
    | split
    | dsimp only
    | intro _

theorem execCanWakeMatch_kept {a1 : _} {a2 : _} {a3 : _} {a4 : _} {s : State} : KeptX 4097 s (execCanWakeMatch a1 a2 a3 a4 s) := by
  unfold execCanWakeMatch
  repeat' first
    | with_reducible assumption
    | with_reducible refine KeptX.run ?_
    | with_reducible refine Kept.onlyIf ?_ ?_
    | with_reducible refine Dev.put_kept ((Sub.rfl).mono (by decide)) ?_
    | with_reducible refine Dev.putFlag_kept ((Sub.rfl).mono (by decide)) ?_
    | with_reducible refine Dev.wake_kept ((Sub.rfl).mono (by decide)) ?_
    | split
    | dsimp only
    | intro _

theorem Dev.injectGo_kept {M : Nat} {d0 d : Dev} {a1 : _} (hM : Sub 1114177 M) (h : Kept M d0 d) :
    Kept M d0 (Dev.injectGo a1 d) := by
  unfold Dev.injectGo
  repeat' first
    | with_reducible assumption
    | with_reducible refine Dev.put_kept ((hM).mono (by decide)) ?_
    | with_reducible refine Dev.canRecord_kept ((hM).mono (by decide)) ?_
    | refine KeptP.of_eq (by assumption) ?_
    | with_reducible refine KeptP.snd ?_
    | split
    | dsimp only
    | intro _
    | with_reducible refine KeptP.mk ?_

theorem execInjectGo_kept {a1 : _} {a2 : _} {s : State} : KeptX 1131073 s (execInjectGo a1 a2 s) := by
  unfold execInjectGo
  repeat' first
    | with_reducible assumption
    | with_reducible refine runWrite_kept ?_ ((Sub.rfl).mono (by decide))
    | with_reducible refine Dev.injectGo_kept ((Sub.rfl).mono (by decide)) ?_
    | split
    | dsimp only
    | intro _

theorem Dev.ringEmpty_kept {M : Nat} {d0 d : Dev} {a1 : _} (hM : Sub 64 M) (h : Kept M d0 d) :
    Kept M d0 (Dev.ringEmpty a1 d) := by
  unfold Dev.ringEmpty
  repeat' first
    | with_reducible assumption
    | with_reducible refine Dev.putRing_kept ((hM).mono (by decide)) ?_
    | split
    | dsimp only
    | intro _

theorem Dev.canEntry_kept {M : Nat} {d0 d : Dev} (hM : Sub 65537 M) (h : Kept M d0 d) :
    Kept M d0 (Dev.canEntry d) := by
  unfold Dev.canEntry
  repeat' first
    | with_reducible assumption
    | with_reducible refine Kept.each ?_ ?_
    | with_reducible refine Dev.withCan_kept ?_ ((hM).mono (by decide)) ?_
    | with_reducible refine Dev.onCan_kept ((hM).mono (by decide)) ?_
    | with_reducible refine Dev.canModeOut_kept ((hM).mono (by decide)) ?_
    | with_reducible refine Dev.put_kept ((hM).mono (by decide)) ?_
    | with_reducible refine Dev.putTiming_kept ((hM).mono (by decide)) ?_
    | with_reducible refine Dev.putFlag_kept ((hM).mono (by decide)) ?_
    | with_reducible refine Dev.putBufState_kept ((hM).mono (by decide)) ?_
    | split
    | dsimp only
    | intro _

theorem Dev.canDoze_kept {M : Nat} {d0 d : Dev} (hM : Sub 65601 M) (h : Kept M d0 d) :
    Kept M d0 (Dev.canDoze d) := by
  unfold Dev.canDoze
  repeat' first
    | with_reducible assumption
    | with_reducible refine Kept.each ?_ ?_
    | with_reducible refine Dev.ringEmpty_kept ((hM).mono (by decide)) ?_
    | with_reducible refine Dev.putBufState_kept ((hM).mono (by decide)) ?_
    | with_reducible refine Dev.put_kept ((hM).mono (by decide)) ?_
    | with_reducible refine Dev.onCan_kept ((hM).mono (by decide)) ?_
    | with_reducible refine Dev.withCan_kept ?_ ((hM).mono (by decide)) ?_
    | with_reducible refine Dev.canModeOut_kept ((hM).mono (by decide)) ?_
    | split
    | dsimp only
    | intro _

end Sys2Proof.Machine
end

