-- ==== Sys2Proof/Laws/KeptPhase.lean ====
section
/-! SUPPORT. What the operations and commands of Machine/Phase.lean keep (`Kept`): the parts each changes, and the canonical form. -/

set_option Elab.async false

namespace Sys2Proof.Machine

theorem Dev.putPhDom_kept {M : Nat} {d0 d : Dev} {a1 : _} {a2 : _} (hM : Sub 256 M) (h : Kept M d0 d) :
    Kept M d0 (Dev.putPhDom a1 a2 d) := by
  unfold Dev.putPhDom
  repeat' first
    | with_reducible assumption
    | split
    | dsimp only
    | intro _
    | with_reducible refine Kept.lit_phase ((hM).mono (by decide)) ?_

theorem Dev.onPhDom_kept {M : Nat} {d0 d : Dev} {a1 : _} {a2 : _} (hM : Sub 256 M) (h : Kept M d0 d) :
    Kept M d0 (Dev.onPhDom a1 a2 d) := by
  unfold Dev.onPhDom
  repeat' first
    | with_reducible assumption
    | with_reducible refine Dev.putPhDom_kept ((hM).mono (by decide)) ?_
    | split
    | dsimp only
    | intro _

theorem Dev.travel_kept {M : Nat} {d0 d : Dev} {a1 : _} {a2 : _} {a3 : _} {a4 : _} (hM : Sub 256 M) (h : Kept M d0 d) :
    Kept M d0 (Dev.travel a1 a2 a3 a4 d) := by
  unfold Dev.travel
  repeat' first
    | with_reducible assumption
    | with_reducible refine Dev.onPhDom_kept ((hM).mono (by decide)) ?_
    | split
    | dsimp only
    | intro _

theorem Dev.predictedTravel_kept {M : Nat} {d0 d : Dev} {a1 : _} (hM : Sub 256 M) (h : Kept M d0 d) :
    Kept M d0 (Dev.predictedTravel a1 d) := by
  unfold Dev.predictedTravel
  repeat' first
    | with_reducible assumption
    | with_reducible refine Dev.travel_kept ((hM).mono (by decide)) ?_
    | with_reducible refine Dev.onPhDom_kept ((hM).mono (by decide)) ?_
    | split
    | dsimp only
    | intro _

theorem execActionCrossing_kept {a1 : _} {s : State} : KeptX 256 s (execActionCrossing a1 s) := by
  unfold execActionCrossing
  repeat' first
    | with_reducible assumption
    | with_reducible refine KeptX.run ?_
    | with_reducible refine Kept.onlyIf ?_ ?_
    | with_reducible refine Dev.predictedTravel_kept ((Sub.rfl).mono (by decide)) ?_
    | split
    | dsimp only
    | intro _

theorem Dev.phWrite_kept {M : Nat} {d0 d : Dev} {a1 : _} {a2 : _} (hM : Sub 33 M) (h : Kept M d0 d) :
    Kept M d0 (Dev.phWrite a1 a2 d) := by
  unfold Dev.phWrite
  repeat' first
    | with_reducible assumption
    | with_reducible refine Dev.storeCycle_kept ((hM).mono (by decide)) ?_
    | split
    | dsimp only
    | intro _

theorem Dev.publishPhase_kept {M : Nat} {d0 d : Dev} {a1 : _} (hM : Sub 289 M) (h : Kept M d0 d) :
    Kept M d0 (Dev.publishPhase a1 d) := by
  unfold Dev.publishPhase
  repeat' first
    | with_reducible assumption
    | with_reducible refine Dev.onPhDom_kept ((hM).mono (by decide)) ?_
    | with_reducible refine Dev.phWrite_kept ((hM).mono (by decide)) ?_
    | split
    | dsimp only
    | intro _

theorem Dev.countedEdge_kept {M : Nat} {d0 d : Dev} {a1 : _} {a2 : _} {a3 : _} (hM : Sub 289 M) (h : Kept M d0 d) :
    Kept M d0 (Dev.countedEdge a1 a2 a3 d) := by
  unfold Dev.countedEdge
  repeat' first
    | with_reducible assumption
    | with_reducible refine Dev.predictedTravel_kept ((hM).mono (by decide)) ?_
    | with_reducible refine Dev.publishPhase_kept ((hM).mono (by decide)) ?_
    | with_reducible refine Dev.travel_kept ((hM).mono (by decide)) ?_
    | with_reducible refine Dev.putPhDom_kept ((hM).mono (by decide)) ?_
    | split
    | dsimp only
    | intro _

theorem execEncoderEdge_kept {a1 : _} {a2 : _} {a3 : _} {s : State} : KeptX 1048865 s (execEncoderEdge a1 a2 a3 s) := by
  unfold execEncoderEdge
  repeat' first
    | with_reducible assumption
    | with_reducible refine KeptX.run ?_
    | with_reducible refine Kept.onlyIf ?_ ?_
    | with_reducible refine Kept.each ?_ ?_
    | with_reducible refine Dev.raise_kept ((Sub.rfl).mono (by decide)) ?_
    | with_reducible refine Dev.bump_kept ((Sub.rfl).mono (by decide)) ?_
    | with_reducible refine Dev.countedEdge_kept ((Sub.rfl).mono (by decide)) ?_
    | split
    | dsimp only
    | intro _

theorem Dev.zCorrect_kept {M : Nat} {d0 d : Dev} {a1 : _} {a2 : _} (hM : Sub 1048833 M) (h : Kept M d0 d) :
    Kept M d0 (Dev.zCorrect a1 a2 d) := by
  unfold Dev.zCorrect
  repeat' first
    | with_reducible assumption
    | with_reducible refine Dev.predictedTravel_kept ((hM).mono (by decide)) ?_
    | with_reducible refine Dev.onPhDom_kept ((hM).mono (by decide)) ?_
    | with_reducible refine Dev.travel_kept ((hM).mono (by decide)) ?_
    | with_reducible refine Dev.raise_kept ((hM).mono (by decide)) ?_
    | with_reducible refine Dev.bump_kept ((hM).mono (by decide)) ?_
    | split
    | dsimp only
    | intro _

theorem execZResync_kept {a1 : _} {a2 : _} {a3 : _} {s : State} : KeptX 1048833 s (execZResync a1 a2 a3 s) := by
  unfold execZResync
  repeat' first
    | with_reducible assumption
    | with_reducible refine KeptX.run ?_
    | with_reducible refine Kept.onlyIf ?_ ?_
    | with_reducible refine Kept.each ?_ ?_
    | with_reducible refine Dev.zCorrect_kept ((Sub.rfl).mono (by decide)) ?_
    | split
    | dsimp only
    | intro _

theorem execStallTimeout_kept {a1 : _} {s : State} : KeptX 256 s (execStallTimeout a1 s) := by
  unfold execStallTimeout
  repeat' first
    | with_reducible assumption
    | with_reducible refine KeptX.run ?_
    | with_reducible refine Kept.onlyIf ?_ ?_
    | with_reducible refine Dev.onPhDom_kept ((Sub.rfl).mono (by decide)) ?_
    | with_reducible refine Dev.predictedTravel_kept ((Sub.rfl).mono (by decide)) ?_
    | split
    | dsimp only
    | intro _

theorem Dev.integrated_kept {M : Nat} {d0 d : Dev} {a1 : _} {a2 : _} {a3 : _} (hM : Sub 289 M) (h : Kept M d0 d) :
    Kept M d0 (Dev.integrated a1 a2 a3 d) := by
  unfold Dev.integrated
  repeat' first
    | with_reducible assumption
    | with_reducible refine Dev.predictedTravel_kept ((hM).mono (by decide)) ?_
    | with_reducible refine Dev.publishPhase_kept ((hM).mono (by decide)) ?_
    | with_reducible refine Dev.putPhDom_kept ((hM).mono (by decide)) ?_
    | split
    | dsimp only
    | intro _

theorem Dev.vminChanged_kept {M : Nat} {d0 d : Dev} {a1 : _} (hM : Sub 256 M) (h : Kept M d0 d) :
    Kept M d0 (Dev.vminChanged a1 d) := by
  unfold Dev.vminChanged
  repeat' first
    | with_reducible assumption
    | with_reducible refine Dev.predictedTravel_kept ((hM).mono (by decide)) ?_
    | with_reducible refine Dev.onPhDom_kept ((hM).mono (by decide)) ?_
    | split
    | dsimp only
    | intro _

theorem Dev.ringFirst_kept {M : Nat} {d0 d : Dev} {a1 : _} {a2 : _} {a3 : _} (hM : Sub 289 M) (h : Kept M d0 d) :
    Kept M d0 (Dev.ringFirst a1 a2 a3 d) := by
  unfold Dev.ringFirst
  repeat' first
    | with_reducible assumption
    | with_reducible refine Dev.publishPhase_kept ((hM).mono (by decide)) ?_
    | with_reducible refine Dev.onPhDom_kept ((hM).mono (by decide)) ?_
    | split
    | dsimp only
    | intro _

theorem Dev.ringUpdate_kept {M : Nat} {d0 d : Dev} {a1 : _} {a2 : _} {a3 : _} (hM : Sub 289 M) (h : Kept M d0 d) :
    Kept M d0 (Dev.ringUpdate a1 a2 a3 d) := by
  unfold Dev.ringUpdate
  repeat' first
    | with_reducible assumption
    | with_reducible refine Dev.predictedTravel_kept ((hM).mono (by decide)) ?_
    | with_reducible refine Dev.ringFirst_kept ((hM).mono (by decide)) ?_
    | with_reducible refine Dev.draw_kept ((hM).mono (by decide)) ?_
    | with_reducible refine Dev.putPhDom_kept ((hM).mono (by decide)) ?_
    | with_reducible refine Dev.publishPhase_kept ((hM).mono (by decide)) ?_
    | with_reducible refine Dev.travel_kept ((hM).mono (by decide)) ?_
    | with_reducible refine Dev.onPhDom_kept ((hM).mono (by decide)) ?_
    | refine KeptP.of_eq (by assumption) ?_
    | with_reducible refine KeptP.snd ?_
    | split
    | dsimp only
    | intro _
    | with_reducible refine KeptP.mk ?_

theorem Dev.sourceUpdate_kept {M : Nat} {d0 d : Dev} {a1 : _} (hM : Sub 1048865 M) (h : Kept M d0 d) :
    Kept M d0 (Dev.sourceUpdate a1 d) := by
  unfold Dev.sourceUpdate
  repeat' first
    | with_reducible assumption
    | with_reducible refine Dev.onPhDom_kept ((hM).mono (by decide)) ?_
    | with_reducible refine Dev.raise_kept ((hM).mono (by decide)) ?_
    | with_reducible refine Dev.predictedTravel_kept ((hM).mono (by decide)) ?_
    | with_reducible refine Dev.integrated_kept ((hM).mono (by decide)) ?_
    | with_reducible refine Dev.ringUpdate_kept ((hM).mono (by decide)) ?_
    | split
    | dsimp only
    | intro _

theorem execPhaseSourceUpdate_kept {a1 : _} {s : State} : KeptX 1048865 s (execPhaseSourceUpdate a1 s) := by
  unfold execPhaseSourceUpdate
  repeat' first
    | with_reducible assumption
    | with_reducible refine KeptX.run ?_
    | with_reducible refine Kept.onlyIf ?_ ?_
    | with_reducible refine Dev.sourceUpdate_kept ((Sub.rfl).mono (by decide)) ?_
    | split
    | dsimp only
    | intro _

theorem Dev.preset_kept {M : Nat} {d0 d : Dev} {a1 : _} (hM : Sub 256 M) (h : Kept M d0 d) :
    Kept M d0 (Dev.preset a1 d) := by
  unfold Dev.preset
  repeat' first
    | with_reducible assumption
    | with_reducible refine Dev.onPhDom_kept ((hM).mono (by decide)) ?_
    | split
    | dsimp only
    | intro _

theorem execPreset_kept {a1 : _} {a2 : _} {s : State} : KeptX 1065729 s (execPreset a1 a2 s) := by
  unfold execPreset
  repeat' first
    | with_reducible assumption
    | with_reducible refine Kept.onlyIf ?_ ?_
    | with_reducible refine runWrite_kept ?_ ((Sub.rfl).mono (by decide))
    | with_reducible refine Dev.preset_kept ((Sub.rfl).mono (by decide)) ?_
    | split
    | dsimp only
    | intro _

theorem Dev.rearm_kept {M : Nat} {d0 d : Dev} {a1 : _} (hM : Sub 257 M) (h : Kept M d0 d) :
    Kept M d0 (Dev.rearm a1 d) := by
  unfold Dev.rearm
  repeat' first
    | with_reducible assumption
    | with_reducible refine Dev.putFlag_kept ((hM).mono (by decide)) ?_
    | with_reducible refine Dev.onPhDom_kept ((hM).mono (by decide)) ?_
    | with_reducible refine Dev.predictedTravel_kept ((hM).mono (by decide)) ?_
    | split
    | dsimp only
    | intro _

theorem Dev.actWrite_kept {M : Nat} {d0 d : Dev} {a1 : _} {a2 : _} {a3 : _} (hM : Sub 259 M) (h : Kept M d0 d) :
    Kept M d0 (Dev.actWrite a1 a2 a3 d) := by
  unfold Dev.actWrite
  repeat' first
    | with_reducible assumption
    | with_reducible refine Dev.storeSetting_kept ((hM).mono (by decide)) ?_
    | with_reducible refine Dev.rearm_kept ((hM).mono (by decide)) ?_
    | with_reducible refine Dev.put_kept ((hM).mono (by decide)) ?_
    | with_reducible refine Dev.refuseSetting_kept ((hM).mono (by decide)) ?_
    | split
    | dsimp only
    | intro _

theorem execActionRearm_kept {a1 : _} {a2 : _} {a3 : _} {s : State} : KeptX 1065731 s (execActionRearm a1 a2 a3 s) := by
  unfold execActionRearm
  repeat' first
    | with_reducible assumption
    | with_reducible refine runWrite_kept ?_ ((Sub.rfl).mono (by decide))
    | with_reducible refine Dev.actWrite_kept ((Sub.rfl).mono (by decide)) ?_
    | split
    | dsimp only
    | intro _

theorem Dev.putDioLine_kept {M : Nat} {d0 d : Dev} {a1 : _} {a2 : _} (hM : Sub 256 M) (h : Kept M d0 d) :
    Kept M d0 (Dev.putDioLine a1 a2 d) := by
  unfold Dev.putDioLine
  repeat' first
    | with_reducible assumption
    | split
    | dsimp only
    | intro _
    | with_reducible refine Kept.lit_phase ((hM).mono (by decide)) ?_

theorem Dev.dioPublish_kept {M : Nat} {d0 d : Dev} {a1 : _} {a2 : _} (hM : Sub 33 M) (h : Kept M d0 d) :
    Kept M d0 (Dev.dioPublish a1 a2 d) := by
  unfold Dev.dioPublish
  repeat' first
    | with_reducible assumption
    | with_reducible refine Dev.storeWrite_kept ((hM).mono (by decide)) ?_
    | split
    | dsimp only
    | intro _

theorem execDioInputAccept_kept {a1 : _} {a2 : _} {a3 : _} {a4 : _} {s : State} : KeptX 289 s (execDioInputAccept a1 a2 a3 a4 s) := by
  unfold execDioInputAccept
  repeat' first
    | with_reducible assumption
    | with_reducible refine KeptX.run ?_
    | with_reducible refine Kept.onlyIf ?_ ?_
    | with_reducible refine Dev.putDioLine_kept ((Sub.rfl).mono (by decide)) ?_
    | with_reducible refine Dev.dioPublish_kept ((Sub.rfl).mono (by decide)) ?_
    | split
    | dsimp only
    | intro _

theorem Dev.endPulse_kept {M : Nat} {d0 d : Dev} {a1 : _} (hM : Sub 256 M) (h : Kept M d0 d) :
    Kept M d0 (Dev.endPulse a1 d) := by
  unfold Dev.endPulse
  repeat' first
    | with_reducible assumption
    | split
    | dsimp only
    | intro _
    | with_reducible refine Kept.lit_phase ((hM).mono (by decide)) ?_

theorem Dev.startPulse_kept {M : Nat} {d0 d : Dev} {a1 : _} {a2 : _} (hM : Sub 256 M) (h : Kept M d0 d) :
    Kept M d0 (Dev.startPulse a1 a2 d) := by
  unfold Dev.startPulse
  repeat' first
    | with_reducible assumption
    | split
    | dsimp only
    | intro _
    | with_reducible refine Kept.lit_phase ((hM).mono (by decide)) ?_

theorem Dev.dioShowPin_kept {M : Nat} {d0 d : Dev} {a1 : _} (hM : Sub 0 M) (h : Kept M d0 d) :
    Kept M d0 (Dev.dioShowPin a1 d) := by
  unfold Dev.dioShowPin
  repeat' first
    | with_reducible assumption
    | with_reducible refine Kept.onlyIf ?_ ?_
    | with_reducible refine Dev.emit_kept ((hM).mono (by decide)) ?_
    | split
    | dsimp only
    | intro _

theorem Dev.putDioOut_kept {M : Nat} {d0 d : Dev} {a1 : _} {a2 : _} (hM : Sub 1 M) (h : Kept M d0 d) :
    Kept M d0 (Dev.putDioOut a1 a2 d) := by
  unfold Dev.putDioOut
  repeat' first
    | with_reducible assumption
    | with_reducible refine Kept.onlyIf ?_ ?_
    | with_reducible refine Dev.put_kept ((hM).mono (by decide)) ?_
    | with_reducible refine Dev.dioShowPin_kept ((hM).mono (by decide)) ?_
    | split
    | dsimp only
    | intro _

theorem Dev.noteActed_kept {M : Nat} {d0 d : Dev} {a1 : _} {a2 : _} (hM : Sub 256 M) (h : Kept M d0 d) :
    Kept M d0 (Dev.noteActed a1 a2 d) := by
  unfold Dev.noteActed
  repeat' first
    | with_reducible assumption
    | split
    | dsimp only
    | intro _
    | with_reducible refine Kept.lit_phase ((hM).mono (by decide)) ?_

theorem Dev.dioOutWrite_kept {M : Nat} {d0 d : Dev} {a1 : _} {a2 : _} (hM : Sub 257 M) (h : Kept M d0 d) :
    Kept M d0 (Dev.dioOutWrite a1 a2 d) := by
  unfold Dev.dioOutWrite
  repeat' first
    | with_reducible assumption
    | with_reducible refine Kept.each ?_ ?_
    | with_reducible refine Dev.endPulse_kept ((hM).mono (by decide)) ?_
    | with_reducible refine Dev.putDioOut_kept ((hM).mono (by decide)) ?_
    | split
    | dsimp only
    | intro _

theorem execDioOutWrite_kept {a1 : _} {a2 : _} {a3 : _} {s : State} : KeptX 1065729 s (execDioOutWrite a1 a2 a3 s) := by
  unfold execDioOutWrite
  repeat' first
    | with_reducible assumption
    | with_reducible refine runWrite_kept ?_ ((Sub.rfl).mono (by decide))
    | with_reducible refine Dev.dioOutWrite_kept ((Sub.rfl).mono (by decide)) ?_
    | split
    | dsimp only
    | intro _

theorem execDioWakeQualify_kept {a1 : _} {a2 : _} {a3 : _} {s : State} : KeptX 4097 s (execDioWakeQualify a1 a2 a3 s) := by
  unfold execDioWakeQualify
  repeat' first
    | with_reducible assumption
    | with_reducible refine KeptX.run ?_
    | with_reducible refine Kept.onlyIf ?_ ?_
    | with_reducible refine Dev.wake_kept ((Sub.rfl).mono (by decide)) ?_
    | with_reducible refine Dev.put_kept ((Sub.rfl).mono (by decide)) ?_
    | split
    | dsimp only
    | intro _

theorem Dev.dioForceWrite_kept {M : Nat} {d0 d : Dev} {a1 : _} {a2 : _} (hM : Sub 33 M) (h : Kept M d0 d) :
    Kept M d0 (Dev.dioForceWrite a1 a2 d) := by
  unfold Dev.dioForceWrite
  repeat' first
    | with_reducible assumption
    | with_reducible refine Kept.each ?_ ?_
    | with_reducible refine Dev.dioPublish_kept ((hM).mono (by decide)) ?_
    | with_reducible refine Dev.wr_kept ((hM).mono (by decide)) ?_
    | split
    | dsimp only
    | intro _

theorem Dev.phaseEntry_kept {M : Nat} {d0 d : Dev} (hM : Sub 257 M) (h : Kept M d0 d) :
    Kept M d0 (Dev.phaseEntry d) := by
  unfold Dev.phaseEntry
  repeat' first
    | with_reducible assumption
    | with_reducible refine Kept.each ?_ ?_
    | with_reducible refine Dev.onPhDom_kept ((hM).mono (by decide)) ?_
    | with_reducible refine Dev.putFlag_kept ((hM).mono (by decide)) ?_
    | with_reducible refine Dev.putDioLine_kept ((hM).mono (by decide)) ?_
    | with_reducible refine Dev.wr_kept ((hM).mono (by decide)) ?_
    | with_reducible refine Dev.dioShowPin_kept ((hM).mono (by decide)) ?_
    | split
    | dsimp only
    | intro _
    | with_reducible refine Kept.lit_phase ((hM).mono (by decide)) ?_

theorem Dev.phaseHold_kept {M : Nat} {d0 d : Dev} (hM : Sub 256 M) (h : Kept M d0 d) :
    Kept M d0 (Dev.phaseHold d) := by
  unfold Dev.phaseHold
  repeat' first
    | with_reducible assumption
    | with_reducible refine Kept.each ?_ ?_
    | with_reducible refine Dev.onPhDom_kept ((hM).mono (by decide)) ?_
    | split
    | dsimp only
    | intro _

theorem Dev.phaseStop_kept {M : Nat} {d0 d : Dev} (hM : Sub 256 M) (h : Kept M d0 d) :
    Kept M d0 (Dev.phaseStop d) := by
  unfold Dev.phaseStop
  repeat' first
    | with_reducible assumption
    | with_reducible refine Dev.phaseHold_kept ((hM).mono (by decide)) ?_
    | split
    | dsimp only
    | intro _
    | with_reducible refine Kept.lit_phase ((hM).mono (by decide)) ?_

theorem Dev.phaseDoze_kept {M : Nat} {d0 d : Dev} (hM : Sub 257 M) (h : Kept M d0 d) :
    Kept M d0 (Dev.phaseDoze d) := by
  unfold Dev.phaseDoze
  repeat' first
    | with_reducible assumption
    | with_reducible refine Kept.each ?_ ?_
    | with_reducible refine Dev.phaseHold_kept ((hM).mono (by decide)) ?_
    | with_reducible refine Dev.putDioOut_kept ((hM).mono (by decide)) ?_
    | split
    | dsimp only
    | intro _
    | with_reducible refine Kept.lit_phase ((hM).mono (by decide)) ?_

end Sys2Proof.Machine
end

