-- ==== Sys2Proof/Laws/KeptPins.lean ====
section
/-! SUPPORT. What the operations and commands of Machine/Pins.lean keep (`Kept`): the parts each changes, and the canonical form. -/

set_option Elab.async false

namespace Sys2Proof.Machine

theorem Dev.showPinsAs_kept {M : Nat} {d0 d : Dev} {a1 : _} {a2 : _} (hM : Sub 0 M) (h : Kept M d0 d) :
    Kept M d0 (Dev.showPinsAs a1 d a2) := by
  unfold Dev.showPinsAs
  repeat' first
    | with_reducible assumption
    | with_reducible refine Kept.each ?_ ?_
    | with_reducible refine Dev.emit_kept ((hM).mono (by decide)) ?_
    | intro _

theorem Dev.showPins_kept {M : Nat} {d0 d : Dev} {a1 : _} (hM : Sub 0 M) (h : Kept M d0 d) :
    Kept M d0 (Dev.showPins d a1) := Dev.showPinsAs_kept hM h

end Sys2Proof.Machine
end

