-- ==== Sys2Proof/Laws/KeptLoads.lean ====
section
/-! SUPPORT. What the operations and commands of Machine/Loads.lean keep (`Kept`): the parts each changes, and the canonical form. -/

set_option Elab.async false

namespace Sys2Proof.Machine

theorem Dev.onDie_kept {M : Nat} {d0 d : Dev} {a1 : _} {a2 : _} (hM : Sub 32768 M) (h : Kept M d0 d) :
    Kept M d0 (Dev.onDie a1 a2 d) := by
  unfold Dev.onDie
  repeat' first
    | with_reducible assumption
    | split
    | dsimp only
    | intro _
    | with_reducible refine Kept.lit_loads ((hM).mono (by decide)) ?_

theorem Dev.onCh_kept {M : Nat} {d0 d : Dev} {a1 : _} {a2 : _} (hM : Sub 32768 M) (h : Kept M d0 d) :
    Kept M d0 (Dev.onCh a1 a2 d) := by
  unfold Dev.onCh
  repeat' first
    | with_reducible assumption
    | split
    | dsimp only
    | intro _
    | with_reducible refine Kept.lit_loads ((hM).mono (by decide)) ?_

theorem Dev.otpTake_kept {M : Nat} {d0 d : Dev} {a1 : _} (hM : Sub 32768 M) (h : Kept M d0 d) :
    Kept M d0 (Dev.otpTake a1 d) := by
  unfold Dev.otpTake
  repeat' first
    | with_reducible assumption
    | with_reducible refine Kept.each ?_ ?_
    | split
    | dsimp only
    | intro _
    | with_reducible refine Kept.lit_loads ((hM).mono (by decide)) ?_

theorem Dev.outputsSettled_kept {M : Nat} {d0 d : Dev} {a2 : _}  (hM : Sub 32768 M) (h : Kept M d0 d) :
    Kept M d0 (Dev.outputsSettled d a2) := by
  unfold Dev.outputsSettled
  repeat' first
    | with_reducible assumption
    | with_reducible refine Kept.each ?_ ?_
    | with_reducible refine Dev.onCh_kept ((hM).mono (by decide)) ?_
    | with_reducible refine Dev.onDie_kept ((hM).mono (by decide)) ?_
    | split
    | dsimp only
    | intro _

theorem Dev.limpModes_kept {M : Nat} {d0 d : Dev} (hM : Sub 1070601 M) (h : Kept M d0 d) :
    Kept M d0 (Dev.limpModes d) := by
  unfold Dev.limpModes
  repeat' first
    | with_reducible assumption
    | with_reducible refine Dev.put_kept ((hM).mono (by decide)) ?_
    | with_reducible refine Dev.showPins_kept ((hM).mono (by decide)) ?_
    | with_reducible refine Dev.transit_kept ((hM).mono (by decide)) ?_
    | with_reducible refine Dev.transitSilent_kept ((hM).mono (by decide)) ?_
    | split
    | dsimp only
    | intro _

theorem Dev.limpRaised_kept {M : Nat} {d0 d : Dev} {a2 : _}  (hM : Sub 1081345 M) (h : Kept M d0 d) :
    Kept M d0 (Dev.limpRaised d a2) := by
  unfold Dev.limpRaised
  repeat' first
    | with_reducible assumption
    | with_reducible refine Kept.each ?_ ?_
    | with_reducible refine Dev.onDie_kept ((hM).mono (by decide)) ?_
    | with_reducible refine Dev.raise_kept ((hM).mono (by decide)) ?_
    | split
    | dsimp only
    | intro _

theorem Dev.atDies_kept {M : Nat} {d0 d : Dev} {a1 : _} (h1 : ∀ y0, Kept M d0 y0 → Kept M d0 (a1 y0)) (hM : Sub 1103369 M) (h : Kept M d0 d) :
    Kept M d0 (Dev.atDies a1 d) := by
  unfold Dev.atDies
  repeat' first
    | with_reducible assumption
    | with_reducible refine h1 _ ?_
    | with_reducible refine Dev.limpModes_kept ((hM).mono (by decide)) ?_
    | with_reducible refine Dev.limpRaised_kept ((hM).mono (by decide)) ?_
    | with_reducible refine Dev.outputsSettled_kept ((hM).mono (by decide)) ?_
    | split
    | dsimp only
    | intro _

theorem Dev.takeReport_kept {M : Nat} {d0 d : Dev} {a1 : _} (hM : Sub 1048577 M) (h : Kept M d0 d) :
    Kept M d0 (Dev.takeReport a1 d) := by
  unfold Dev.takeReport
  repeat' first
    | with_reducible assumption
    | with_reducible refine Dev.bump_kept ((hM).mono (by decide)) ?_
    | with_reducible refine Dev.raise_kept ((hM).mono (by decide)) ?_
    | split
    | dsimp only
    | intro _

theorem Dev.putLinkUp_kept {M : Nat} {d0 d : Dev} {a1 : _} {a2 : _} (hM : Sub 1 M) (h : Kept M d0 d) :
    Kept M d0 (Dev.putLinkUp a1 a2 d) := by
  unfold Dev.putLinkUp
  repeat' first
    | with_reducible assumption
    | with_reducible refine Dev.putFlag_kept ((hM).mono (by decide)) ?_
    | split
    | dsimp only
    | intro _

theorem Dev.dieReport_kept {M : Nat} {d0 d : Dev} {a1 : _} {a2 : _} (hM : Sub 1081345 M) (h : Kept M d0 d) :
    Kept M d0 (Dev.dieReport a1 a2 d) := by
  unfold Dev.dieReport
  repeat' first
    | with_reducible assumption
    | with_reducible refine Dev.takeReport_kept ((hM).mono (by decide)) ?_
    | with_reducible refine Dev.onDie_kept ((hM).mono (by decide)) ?_
    | split
    | dsimp only
    | intro _

theorem Dev.linkSend_kept {M : Nat} {d0 d : Dev} {a1 : _} {a2 : _} (hM : Sub 32768 M) (h : Kept M d0 d) :
    Kept M d0 (Dev.linkSend a1 a2 d) := by
  unfold Dev.linkSend
  repeat' first
    | with_reducible assumption
    | with_reducible refine Dev.onDie_kept ((hM).mono (by decide)) ?_
    | split
    | dsimp only
    | intro _

theorem Dev.endLoadPulse_kept {M : Nat} {d0 d : Dev} {a1 : _} (hM : Sub 33024 M) (h : Kept M d0 d) :
    Kept M d0 (Dev.endLoadPulse a1 d) := by
  unfold Dev.endLoadPulse
  repeat' first
    | with_reducible assumption
    | with_reducible refine Dev.onCh_kept ((hM).mono (by decide)) ?_
    | with_reducible refine Dev.endPulse_kept ((hM).mono (by decide)) ?_
    | split
    | dsimp only
    | intro _

theorem Dev.linkSendSafe_kept {M : Nat} {d0 d : Dev} {a1 : _} {a2 : _} (hM : Sub 32768 M) (h : Kept M d0 d) :
    Kept M d0 (Dev.linkSendSafe a1 a2 d) := by
  unfold Dev.linkSendSafe
  repeat' first
    | with_reducible assumption
    | with_reducible refine Dev.onDie_kept ((hM).mono (by decide)) ?_
    | split
    | dsimp only
    | intro _

theorem Dev.loadWrite_kept {M : Nat} {d0 d : Dev} {a1 : _} {a2 : _} {a3 : _} (hM : Sub 33027 M) (h : Kept M d0 d) :
    Kept M d0 (Dev.loadWrite a1 a2 a3 d) := by
  unfold Dev.loadWrite
  repeat' first
    | with_reducible assumption
    | with_reducible refine Kept.onlyIf ?_ ?_
    | with_reducible refine Dev.put_kept ((hM).mono (by decide)) ?_
    | with_reducible refine Dev.wr_kept ((hM).mono (by decide)) ?_
    | with_reducible refine Dev.putFlag_kept ((hM).mono (by decide)) ?_
    | with_reducible refine Dev.storeSetting_kept ((hM).mono (by decide)) ?_
    | with_reducible refine Dev.endPulse_kept ((hM).mono (by decide)) ?_
    | with_reducible refine Dev.linkSend_kept ((hM).mono (by decide)) ?_
    | split
    | dsimp only
    | intro _

theorem execLoadCommandWrite_kept {a1 : _} {a2 : _} {a3 : _} {a4 : _} {s : State} : KeptX 1098499 s (execLoadCommandWrite a1 a2 a3 a4 s) := by
  unfold execLoadCommandWrite
  repeat' first
    | with_reducible assumption
    | with_reducible refine Kept.onlyIf ?_ ?_
    | with_reducible refine runWrite_kept ?_ ((Sub.rfl).mono (by decide))
    | with_reducible refine Dev.loadWrite_kept ((Sub.rfl).mono (by decide)) ?_
    | split
    | dsimp only
    | intro _

theorem Dev.latchClearWrite_kept {M : Nat} {d0 d : Dev} {a1 : _} {a2 : _} (hM : Sub 32769 M) (h : Kept M d0 d) :
    Kept M d0 (Dev.latchClearWrite a1 a2 d) := by
  unfold Dev.latchClearWrite
  repeat' first
    | with_reducible assumption
    | with_reducible refine Dev.put_kept ((hM).mono (by decide)) ?_
    | with_reducible refine Dev.linkSend_kept ((hM).mono (by decide)) ?_
    | split
    | dsimp only
    | intro _

theorem execLatchClear_kept {a1 : _} {a2 : _} {a3 : _} {s : State} : KeptX 1098241 s (execLatchClear a1 a2 a3 s) := by
  unfold execLatchClear
  repeat' first
    | with_reducible assumption
    | with_reducible refine Kept.onlyIf ?_ ?_
    | with_reducible refine runWrite_kept ?_ ((Sub.rfl).mono (by decide))
    | with_reducible refine Dev.latchClearWrite_kept ((Sub.rfl).mono (by decide)) ?_
    | split
    | dsimp only
    | intro _

theorem Dev.latchCh_kept {M : Nat} {d0 d : Dev} {a1 : _} {a2 : _} (hM : Sub 1081345 M) (h : Kept M d0 d) :
    Kept M d0 (Dev.latchCh a1 a2 d) := by
  unfold Dev.latchCh
  repeat' first
    | with_reducible assumption
    | with_reducible refine Dev.dieReport_kept ((hM).mono (by decide)) ?_
    | with_reducible refine Dev.onCh_kept ((hM).mono (by decide)) ?_
    | split
    | dsimp only
    | intro _

theorem execOvercurrentTrip_kept {a1 : _} {a2 : _} {s : State} : KeptX 1103369 s (execOvercurrentTrip a1 a2 s) := by
  unfold execOvercurrentTrip
  repeat' first
    | with_reducible assumption
    | with_reducible refine KeptX.run ?_
    | with_reducible refine Kept.onlyIf ?_ ?_
    | with_reducible refine Dev.atDies_kept ?_ ((Sub.rfl).mono (by decide)) ?_
    | with_reducible refine Dev.latchCh_kept ((Sub.rfl).mono (by decide)) ?_
    | split
    | dsimp only
    | intro _

theorem execFastTrip_kept {a1 : _} {a2 : _} {s : State} : KeptX 1103369 s (execFastTrip a1 a2 s) := by
  unfold execFastTrip
  repeat' first
    | with_reducible assumption
    | with_reducible refine KeptX.run ?_
    | with_reducible refine Kept.onlyIf ?_ ?_
    | with_reducible refine Dev.atDies_kept ?_ ((Sub.rfl).mono (by decide)) ?_
    | with_reducible refine Dev.latchCh_kept ((Sub.rfl).mono (by decide)) ?_
    | split
    | dsimp only
    | intro _

theorem Dev.setWarm_kept {M : Nat} {d0 d : Dev} {a1 : _} {a2 : _} (hM : Sub 1081345 M) (h : Kept M d0 d) :
    Kept M d0 (Dev.setWarm a1 a2 d) := by
  unfold Dev.setWarm
  repeat' first
    | with_reducible assumption
    | with_reducible refine Dev.raise_kept ((hM).mono (by decide)) ?_
    | split
    | dsimp only
    | intro _
    | with_reducible refine Kept.lit_loads ((hM).mono (by decide)) ?_

theorem execOvertempShutdown_kept {a1 : _} {s : State} : KeptX 1103369 s (execOvertempShutdown a1 s) := by
  unfold execOvertempShutdown
  repeat' first
    | with_reducible assumption
    | with_reducible refine KeptX.run ?_
    | with_reducible refine Kept.onlyIf ?_ ?_
    | with_reducible refine Dev.atDies_kept ?_ ((Sub.rfl).mono (by decide)) ?_
    | with_reducible refine Dev.latchCh_kept ((Sub.rfl).mono (by decide)) ?_
    | with_reducible refine Dev.setWarm_kept ((Sub.rfl).mono (by decide)) ?_
    | split
    | dsimp only
    | intro _

theorem execInrushEnd_kept {a1 : _} {s : State} : KeptX 32768 s (execInrushEnd a1 s) := by
  unfold execInrushEnd
  repeat' first
    | with_reducible assumption
    | with_reducible refine KeptX.run ?_
    | with_reducible refine Dev.onCh_kept ((Sub.rfl).mono (by decide)) ?_
    | split
    | dsimp only
    | intro _

theorem execPwmPeriodStart_kept {a1 : _} {a2 : _} {s : State} : KeptX 1103369 s (execPwmPeriodStart a1 a2 s) := by
  unfold execPwmPeriodStart
  repeat' first
    | with_reducible assumption
    | with_reducible refine KeptX.run ?_
    | with_reducible refine Kept.onlyIf ?_ ?_
    | with_reducible refine Dev.atDies_kept ?_ ((Sub.rfl).mono (by decide)) ?_
    | with_reducible refine Dev.onCh_kept ((Sub.rfl).mono (by decide)) ?_
    | split
    | dsimp only
    | intro _

theorem execDiagCheck_kept {a1 : _} {a2 : _} {a3 : _} {a4 : _} {s : State} : KeptX 1081345 s (execDiagCheck a1 a2 a3 a4 s) := by
  unfold execDiagCheck
  repeat' first
    | with_reducible assumption
    | with_reducible refine KeptX.run ?_
    | with_reducible refine Kept.onlyIf ?_ ?_
    | with_reducible refine Dev.onCh_kept ((Sub.rfl).mono (by decide)) ?_
    | with_reducible refine Dev.dieReport_kept ((Sub.rfl).mono (by decide)) ?_
    | split
    | dsimp only
    | intro _

theorem execSupplyShutdown_kept {a1 : _} {a2 : _} {s : State} : KeptX 1103369 s (execSupplyShutdown a1 a2 s) := by
  unfold execSupplyShutdown
  repeat' first
    | with_reducible assumption
    | with_reducible refine KeptX.run ?_
    | with_reducible refine Kept.onlyIf ?_ ?_
    | with_reducible refine Dev.atDies_kept ?_ ((Sub.rfl).mono (by decide)) ?_
    | with_reducible refine Dev.onDie_kept ((Sub.rfl).mono (by decide)) ?_
    | with_reducible refine Dev.dieReport_kept ((Sub.rfl).mono (by decide)) ?_
    | split
    | dsimp only
    | intro _
    | with_reducible refine Kept.lit_loads ((Sub.rfl).mono (by decide)) ?_

theorem execSupplyRestart_kept {a1 : _} {a2 : _} {s : State} : KeptX 1103369 s (execSupplyRestart a1 a2 s) := by
  unfold execSupplyRestart
  repeat' first
    | with_reducible assumption
    | with_reducible refine KeptX.run ?_
    | with_reducible refine Kept.onlyIf ?_ ?_
    | with_reducible refine Kept.each ?_ ?_
    | with_reducible refine Dev.atDies_kept ?_ ((Sub.rfl).mono (by decide)) ?_
    | with_reducible refine Dev.onDie_kept ((Sub.rfl).mono (by decide)) ?_
    | with_reducible refine Dev.onCh_kept ((Sub.rfl).mono (by decide)) ?_
    | split
    | dsimp only
    | intro _
    | with_reducible refine Kept.lit_loads ((Sub.rfl).mono (by decide)) ?_

theorem execGroundLoss_kept {s : State} : KeptX 1103369 s (execGroundLoss s) := by
  unfold execGroundLoss
  repeat' first
    | with_reducible assumption
    | with_reducible refine KeptX.run ?_
    | with_reducible refine Kept.each ?_ ?_
    | with_reducible refine Dev.atDies_kept ?_ ((Sub.rfl).mono (by decide)) ?_
    | with_reducible refine Dev.onDie_kept ((Sub.rfl).mono (by decide)) ?_
    | split
    | dsimp only
    | intro _

theorem Dev.heard_kept {M : Nat} {d0 d : Dev} {a1 : _} (hM : Sub 32768 M) (h : Kept M d0 d) :
    Kept M d0 (Dev.heard a1 d) := by
  unfold Dev.heard
  repeat' first
    | with_reducible assumption
    | with_reducible refine Dev.onDie_kept ((hM).mono (by decide)) ?_
    | split
    | dsimp only
    | intro _

theorem Dev.takeFrame_kept {M : Nat} {d0 d : Dev} {a1 : _} {a2 : _} {a3 : _} {a4 : _} (h4 : ∀ y0 y1, Kept M d0 y1 → Kept M d0 (a4 y0 y1)) (hM : Sub 32769 M) (h : Kept M d0 d) :
    Kept M d0 (Dev.takeFrame a1 a2 a3 a4 d) := by
  unfold Dev.takeFrame
  repeat' first
    | with_reducible assumption
    | with_reducible refine h4 _ _ ?_
    | with_reducible refine Dev.onDie_kept ((hM).mono (by decide)) ?_
    | with_reducible refine Dev.bump_kept ((hM).mono (by decide)) ?_
    | with_reducible refine Dev.heard_kept ((hM).mono (by decide)) ?_
    | split
    | dsimp only
    | intro _

theorem execHeartbeat_kept {a1 : _} {a2 : _} {s : State} : KeptX 1103369 s (execHeartbeat a1 a2 s) := by
  unfold execHeartbeat
  repeat' first
    | with_reducible assumption
    | with_reducible refine KeptX.run ?_
    | with_reducible refine Kept.each ?_ ?_
    | with_reducible refine Dev.atDies_kept ?_ ((Sub.rfl).mono (by decide)) ?_
    | with_reducible refine Dev.bump_kept ((Sub.rfl).mono (by decide)) ?_
    | with_reducible refine Dev.heard_kept ((Sub.rfl).mono (by decide)) ?_
    | with_reducible refine Dev.onCh_kept ((Sub.rfl).mono (by decide)) ?_
    | split
    | dsimp only
    | intro _

theorem Dev.pwmSettled_kept {M : Nat} {d0 d : Dev} {a1 : _} (hM : Sub 32768 M) (h : Kept M d0 d) :
    Kept M d0 (Dev.pwmSettled a1 d) := by
  unfold Dev.pwmSettled
  repeat' first
    | with_reducible assumption
    | with_reducible refine Dev.onCh_kept ((hM).mono (by decide)) ?_
    | split
    | dsimp only
    | intro _

theorem execSetFrame_kept {a1 : _} {a2 : _} {s : State} : KeptX 1103369 s (execSetFrame a1 a2 s) := by
  unfold execSetFrame
  repeat' first
    | with_reducible assumption
    | with_reducible refine KeptX.run ?_
    | with_reducible refine Dev.atDies_kept ?_ ((Sub.rfl).mono (by decide)) ?_
    | with_reducible refine Dev.takeFrame_kept ?_ ((Sub.rfl).mono (by decide)) ?_
    | with_reducible refine Dev.pwmSettled_kept ((Sub.rfl).mono (by decide)) ?_
    | with_reducible refine Dev.onCh_kept ((Sub.rfl).mono (by decide)) ?_
    | split
    | dsimp only
    | intro _

theorem execSafeFrame_kept {a1 : _} {a2 : _} {s : State} : KeptX 1103369 s (execSafeFrame a1 a2 s) := by
  unfold execSafeFrame
  repeat' first
    | with_reducible assumption
    | with_reducible refine KeptX.run ?_
    | with_reducible refine Kept.each ?_ ?_
    | with_reducible refine Dev.atDies_kept ?_ ((Sub.rfl).mono (by decide)) ?_
    | with_reducible refine Dev.takeFrame_kept ?_ ((Sub.rfl).mono (by decide)) ?_
    | with_reducible refine Dev.pwmSettled_kept ((Sub.rfl).mono (by decide)) ?_
    | with_reducible refine Dev.onCh_kept ((Sub.rfl).mono (by decide)) ?_
    | split
    | dsimp only
    | intro _

theorem Dev.unlatch_kept {M : Nat} {d0 d : Dev} {a1 : _} (hM : Sub 32768 M) (h : Kept M d0 d) :
    Kept M d0 (Dev.unlatch a1 d) := by
  unfold Dev.unlatch
  repeat' first
    | with_reducible assumption
    | with_reducible refine Dev.onCh_kept ((hM).mono (by decide)) ?_
    | split
    | dsimp only
    | intro _

theorem execClearFrame_kept {a1 : _} {a2 : _} {s : State} : KeptX 1103369 s (execClearFrame a1 a2 s) := by
  unfold execClearFrame
  repeat' first
    | with_reducible assumption
    | with_reducible refine KeptX.run ?_
    | with_reducible refine Dev.atDies_kept ?_ ((Sub.rfl).mono (by decide)) ?_
    | with_reducible refine Dev.takeFrame_kept ?_ ((Sub.rfl).mono (by decide)) ?_
    | with_reducible refine Dev.unlatch_kept ((Sub.rfl).mono (by decide)) ?_
    | split
    | dsimp only
    | intro _

theorem execReadback_kept {a1 : _} {a2 : _} {s : State} : KeptX 1103369 s (execReadback a1 a2 s) := by
  unfold execReadback
  repeat' first
    | with_reducible assumption
    | with_reducible refine KeptX.run ?_
    | with_reducible refine Dev.atDies_kept ?_ ((Sub.rfl).mono (by decide)) ?_
    | with_reducible refine Dev.takeFrame_kept ?_ ((Sub.rfl).mono (by decide)) ?_
    | with_reducible refine Dev.onDie_kept ((Sub.rfl).mono (by decide)) ?_
    | split
    | dsimp only
    | intro _

theorem Dev.takenOver_kept {M : Nat} {d0 d : Dev} {a1 : _} {a2 : _} (hM : Sub 32769 M) (h : Kept M d0 d) :
    Kept M d0 (Dev.takenOver a1 a2 d) := by
  unfold Dev.takenOver
  repeat' first
    | with_reducible assumption
    | with_reducible refine Kept.each ?_ ?_
    | with_reducible refine Dev.otpTake_kept ((hM).mono (by decide)) ?_
    | with_reducible refine Dev.onDie_kept ((hM).mono (by decide)) ?_
    | with_reducible refine Dev.pwmSettled_kept ((hM).mono (by decide)) ?_
    | with_reducible refine Dev.onCh_kept ((hM).mono (by decide)) ?_
    | with_reducible refine Dev.bump_kept ((hM).mono (by decide)) ?_
    | with_reducible refine Dev.putLinkUp_kept ((hM).mono (by decide)) ?_
    | split
    | dsimp only
    | intro _

theorem execTakeover_kept {a1 : _} {a2 : _} {s : State} : KeptX 1103369 s (execTakeover a1 a2 s) := by
  unfold execTakeover
  repeat' first
    | with_reducible assumption
    | with_reducible refine KeptX.run ?_
    | with_reducible refine Dev.atDies_kept ?_ ((Sub.rfl).mono (by decide)) ?_
    | with_reducible refine Dev.takeFrame_kept ?_ ((Sub.rfl).mono (by decide)) ?_
    | with_reducible refine Dev.takenOver_kept ((Sub.rfl).mono (by decide)) ?_
    | with_reducible refine Dev.linkSend_kept ((Sub.rfl).mono (by decide)) ?_
    | split
    | dsimp only
    | intro _

theorem execPark_kept {a1 : _} {a2 : _} {s : State} : KeptX 1103369 s (execPark a1 a2 s) := by
  unfold execPark
  repeat' first
    | with_reducible assumption
    | with_reducible refine KeptX.run ?_
    | with_reducible refine Kept.each ?_ ?_
    | with_reducible refine Dev.atDies_kept ?_ ((Sub.rfl).mono (by decide)) ?_
    | with_reducible refine Dev.takeFrame_kept ?_ ((Sub.rfl).mono (by decide)) ?_
    | with_reducible refine Dev.onCh_kept ((Sub.rfl).mono (by decide)) ?_
    | with_reducible refine Dev.onDie_kept ((Sub.rfl).mono (by decide)) ?_
    | split
    | dsimp only
    | intro _

theorem Dev.fromDie_kept {M : Nat} {d0 d : Dev} {a1 : _} {a2 : _} {a3 : _} {a4 : _} (h4 : ∀ y0, Kept M d0 y0 → Kept M d0 (a4 y0)) (hM : Sub 32769 M) (h : Kept M d0 d) :
    Kept M d0 (Dev.fromDie a1 a2 a3 a4 d) := by
  unfold Dev.fromDie
  repeat' first
    | with_reducible assumption
    | with_reducible refine h4 _ ?_
    | with_reducible refine Dev.bump_kept ((hM).mono (by decide)) ?_
    | with_reducible refine Dev.onDie_kept ((hM).mono (by decide)) ?_
    | split
    | dsimp only
    | intro _

theorem Dev.showCh_kept {M : Nat} {d0 d : Dev} {a1 : _} (hM : Sub 1 M) (h : Kept M d0 d) :
    Kept M d0 (Dev.showCh a1 d) := by
  unfold Dev.showCh
  repeat' first
    | with_reducible assumption
    | with_reducible refine Dev.put_kept ((hM).mono (by decide)) ?_
    | with_reducible refine Dev.putFlag_kept ((hM).mono (by decide)) ?_
    | split
    | dsimp only
    | intro _

theorem execStatusFrame_kept {a1 : _} {a2 : _} {s : State} : KeptX 1081345 s (execStatusFrame a1 a2 s) := by
  unfold execStatusFrame
  repeat' first
    | with_reducible assumption
    | with_reducible refine KeptX.run ?_
    | with_reducible refine Kept.each ?_ ?_
    | with_reducible refine Dev.fromDie_kept ?_ ((Sub.rfl).mono (by decide)) ?_
    | with_reducible refine Dev.onDie_kept ((Sub.rfl).mono (by decide)) ?_
    | with_reducible refine Dev.takeReport_kept ((Sub.rfl).mono (by decide)) ?_
    | with_reducible refine Dev.putFlag_kept ((Sub.rfl).mono (by decide)) ?_
    | with_reducible refine Dev.put_kept ((Sub.rfl).mono (by decide)) ?_
    | with_reducible refine Dev.showCh_kept ((Sub.rfl).mono (by decide)) ?_
    | split
    | dsimp only
    | intro _

theorem Dev.total_kept {M : Nat} {d0 d : Dev} (hM : Sub 1 M) (h : Kept M d0 d) :
    Kept M d0 (Dev.total d) := by
  unfold Dev.total
  repeat' first
    | with_reducible assumption
    | with_reducible refine Dev.put_kept ((hM).mono (by decide)) ?_
    | split
    | dsimp only
    | intro _

theorem Dev.senseCh_kept {M : Nat} {d0 d : Dev} {a1 : _} {a2 : _} (hM : Sub 1081345 M) (h : Kept M d0 d) :
    Kept M d0 (Dev.senseCh a1 a2 d) := by
  unfold Dev.senseCh
  repeat' first
    | with_reducible assumption
    | with_reducible refine Dev.put_kept ((hM).mono (by decide)) ?_
    | with_reducible refine Dev.setWarm_kept ((hM).mono (by decide)) ?_
    | split
    | dsimp only
    | intro _

theorem execSenseFrame_kept {a1 : _} {a2 : _} {a3 : _} {a4 : _} {s : State} : KeptX 1081345 s (execSenseFrame a1 a2 a3 a4 s) := by
  unfold execSenseFrame
  repeat' first
    | with_reducible assumption
    | with_reducible refine KeptX.run ?_
    | with_reducible refine Kept.each ?_ ?_
    | with_reducible refine Dev.fromDie_kept ?_ ((Sub.rfl).mono (by decide)) ?_
    | with_reducible refine Dev.senseCh_kept ((Sub.rfl).mono (by decide)) ?_
    | with_reducible refine Dev.put_kept ((Sub.rfl).mono (by decide)) ?_
    | with_reducible refine Dev.total_kept ((Sub.rfl).mono (by decide)) ?_
    | split
    | dsimp only
    | intro _
    | with_reducible refine Kept.lit_loads ((Sub.rfl).mono (by decide)) ?_

theorem execSupplyLimitReport_kept {s : State} : KeptX 1081345 s (execSupplyLimitReport s) := by
  unfold execSupplyLimitReport
  repeat' first
    | with_reducible assumption
    | with_reducible refine KeptX.run ?_
    | with_reducible refine Kept.onlyIf ?_ ?_
    | with_reducible refine Dev.raise_kept ((Sub.rfl).mono (by decide)) ?_
    | split
    | dsimp only
    | intro _
    | with_reducible refine Kept.lit_loads ((Sub.rfl).mono (by decide)) ?_

theorem Dev.liveFields_kept {M : Nat} {d0 d : Dev} {a1 : _} (hM : Sub 257 M) (h : Kept M d0 d) :
    Kept M d0 (Dev.liveFields a1 d) := by
  unfold Dev.liveFields
  repeat' first
    | with_reducible assumption
    | with_reducible refine Kept.onlyIf ?_ ?_
    | with_reducible refine Dev.put_kept ((hM).mono (by decide)) ?_
    | with_reducible refine Dev.putFlag_kept ((hM).mono (by decide)) ?_
    | with_reducible refine Dev.startPulse_kept ((hM).mono (by decide)) ?_
    | with_reducible refine Dev.endPulse_kept ((hM).mono (by decide)) ?_
    | split
    | dsimp only
    | intro _

theorem execStateFrame_kept {a1 : _} {a2 : _} {s : State} : KeptX 1081601 s (execStateFrame a1 a2 s) := by
  unfold execStateFrame
  repeat' first
    | with_reducible assumption
    | with_reducible refine KeptX.run ?_
    | with_reducible refine Kept.onlyIf ?_ ?_
    | with_reducible refine Kept.each ?_ ?_
    | with_reducible refine Dev.fromDie_kept ?_ ((Sub.rfl).mono (by decide)) ?_
    | with_reducible refine Dev.onDie_kept ((Sub.rfl).mono (by decide)) ?_
    | with_reducible refine Dev.liveFields_kept ((Sub.rfl).mono (by decide)) ?_
    | with_reducible refine Dev.put_kept ((Sub.rfl).mono (by decide)) ?_
    | with_reducible refine Dev.raise_kept ((Sub.rfl).mono (by decide)) ?_
    | with_reducible refine Dev.linkSend_kept ((Sub.rfl).mono (by decide)) ?_
    | split
    | dsimp only
    | intro _

theorem execLinkFrameRetry_kept {a1 : _} {s : State} : KeptX 32769 s (execLinkFrameRetry a1 s) := by
  unfold execLinkFrameRetry
  repeat' first
    | with_reducible assumption
    | with_reducible refine KeptX.run ?_
    | with_reducible refine Kept.onlyIf ?_ ?_
    | with_reducible refine Dev.bump_kept ((Sub.rfl).mono (by decide)) ?_
    | with_reducible refine Dev.onDie_kept ((Sub.rfl).mono (by decide)) ?_
    | split
    | dsimp only
    | intro _

theorem execLinkDown_kept {a1 : _} {s : State} : KeptX 1081345 s (execLinkDown a1 s) := by
  unfold execLinkDown
  repeat' first
    | with_reducible assumption
    | with_reducible refine KeptX.run ?_
    | with_reducible refine Kept.onlyIf ?_ ?_
    | with_reducible refine Kept.each ?_ ?_
    | with_reducible refine Dev.putLinkUp_kept ((Sub.rfl).mono (by decide)) ?_
    | with_reducible refine Dev.onDie_kept ((Sub.rfl).mono (by decide)) ?_
    | with_reducible refine Dev.put_kept ((Sub.rfl).mono (by decide)) ?_
    | with_reducible refine Dev.raise_kept ((Sub.rfl).mono (by decide)) ?_
    | with_reducible refine Dev.bump_kept ((Sub.rfl).mono (by decide)) ?_
    | split
    | dsimp only
    | intro _

theorem execLinkRecovery_kept {a1 : _} {s : State} : KeptX 32768 s (execLinkRecovery a1 s) := by
  unfold execLinkRecovery
  repeat' first
    | with_reducible assumption
    | with_reducible refine KeptX.run ?_
    | with_reducible refine Kept.onlyIf ?_ ?_
    | with_reducible refine Dev.linkSend_kept ((Sub.rfl).mono (by decide)) ?_
    | split
    | dsimp only
    | intro _

theorem execPowerDieHold_kept {a1 : _} {s : State} : KeptX 1103369 s (execPowerDieHold a1 s) := by
  unfold execPowerDieHold
  repeat' first
    | with_reducible assumption
    | with_reducible refine KeptX.run ?_
    | with_reducible refine Kept.onlyIf ?_ ?_
    | with_reducible refine Dev.atDies_kept ?_ ((Sub.rfl).mono (by decide)) ?_
    | with_reducible refine Dev.onDie_kept ((Sub.rfl).mono (by decide)) ?_
    | split
    | dsimp only
    | intro _

theorem Dev.diePolicy_kept {M : Nat} {d0 d : Dev} {a1 : _} (hM : Sub 32768 M) (h : Kept M d0 d) :
    Kept M d0 (Dev.diePolicy a1 d) := by
  unfold Dev.diePolicy
  repeat' first
    | with_reducible assumption
    | with_reducible refine Kept.each ?_ ?_
    | with_reducible refine Dev.onDie_kept ((hM).mono (by decide)) ?_
    | with_reducible refine Dev.onCh_kept ((hM).mono (by decide)) ?_
    | split
    | dsimp only
    | intro _

theorem execHoldPolicy_kept {a1 : _} {s : State} : KeptX 1103369 s (execHoldPolicy a1 s) := by
  unfold execHoldPolicy
  repeat' first
    | with_reducible assumption
    | with_reducible refine KeptX.run ?_
    | with_reducible refine Dev.atDies_kept ?_ ((Sub.rfl).mono (by decide)) ?_
    | with_reducible refine Dev.diePolicy_kept ((Sub.rfl).mono (by decide)) ?_
    | split
    | dsimp only
    | intro _

theorem execPowerDiePowerup_kept {a1 : _} {s : State} : KeptX 1103369 s (execPowerDiePowerup a1 s) := by
  unfold execPowerDiePowerup
  repeat' first
    | with_reducible assumption
    | with_reducible refine KeptX.run ?_
    | with_reducible refine Kept.each ?_ ?_
    | with_reducible refine Dev.atDies_kept ?_ ((Sub.rfl).mono (by decide)) ?_
    | with_reducible refine Dev.otpTake_kept ((Sub.rfl).mono (by decide)) ?_
    | with_reducible refine Dev.onCh_kept ((Sub.rfl).mono (by decide)) ?_
    | with_reducible refine Dev.onDie_kept ((Sub.rfl).mono (by decide)) ?_
    | split
    | dsimp only
    | intro _
    | with_reducible refine Kept.lit_loads ((Sub.rfl).mono (by decide)) ?_

theorem execPowerupTakeoverTimeout_kept {a1 : _} {s : State} : KeptX 1103369 s (execPowerupTakeoverTimeout a1 s) := by
  unfold execPowerupTakeoverTimeout
  repeat' first
    | with_reducible assumption
    | with_reducible refine KeptX.run ?_
    | with_reducible refine Dev.atDies_kept ?_ ((Sub.rfl).mono (by decide)) ?_
    | with_reducible refine Dev.diePolicy_kept ((Sub.rfl).mono (by decide)) ?_
    | split
    | dsimp only
    | intro _

theorem execLimpEntry_kept {s : State} : KeptX 1103625 s (execLimpEntry s) := by
  unfold execLimpEntry
  repeat' first
    | with_reducible assumption
    | with_reducible refine KeptX.run ?_
    | with_reducible refine Kept.each ?_ ?_
    | with_reducible refine Dev.atDies_kept ?_ ((Sub.rfl).mono (by decide)) ?_
    | with_reducible refine Dev.endLoadPulse_kept ((Sub.rfl).mono (by decide)) ?_
    | with_reducible refine Dev.onDie_kept ((Sub.rfl).mono (by decide)) ?_
    | split
    | dsimp only
    | intro _
    | with_reducible refine Kept.lit_loads ((Sub.rfl).mono (by decide)) ?_

theorem execLimpNRelease_kept {s : State} : KeptX 1103369 s (execLimpNRelease s) := by
  unfold execLimpNRelease
  repeat' first
    | with_reducible assumption
    | with_reducible refine KeptX.run ?_
    | with_reducible refine Kept.onlyIf ?_ ?_
    | with_reducible refine Kept.each ?_ ?_
    | with_reducible refine Dev.atDies_kept ?_ ((Sub.rfl).mono (by decide)) ?_
    | with_reducible refine Dev.linkSend_kept ((Sub.rfl).mono (by decide)) ?_
    | with_reducible refine Dev.onDie_kept ((Sub.rfl).mono (by decide)) ?_
    | split
    | dsimp only
    | intro _
    | with_reducible refine Kept.lit_loads ((Sub.rfl).mono (by decide)) ?_

theorem execLhiFollow_kept {a1 : _} {a2 : _} {s : State} : KeptX 1103369 s (execLhiFollow a1 a2 s) := by
  unfold execLhiFollow
  repeat' first
    | with_reducible assumption
    | with_reducible refine KeptX.run ?_
    | with_reducible refine Kept.onlyIf ?_ ?_
    | with_reducible refine Dev.atDies_kept ?_ ((Sub.rfl).mono (by decide)) ?_
    | split
    | dsimp only
    | intro _
    | with_reducible refine Kept.lit_loads ((Sub.rfl).mono (by decide)) ?_

theorem execLimpLatchClear_kept {a1 : _} {s : State} : KeptX 1103369 s (execLimpLatchClear a1 s) := by
  unfold execLimpLatchClear
  repeat' first
    | with_reducible assumption
    | with_reducible refine KeptX.run ?_
    | with_reducible refine Kept.onlyIf ?_ ?_
    | with_reducible refine Dev.atDies_kept ?_ ((Sub.rfl).mono (by decide)) ?_
    | with_reducible refine Dev.unlatch_kept ((Sub.rfl).mono (by decide)) ?_
    | split
    | dsimp only
    | intro _

theorem Dev.loadAction_kept {M : Nat} {d0 d : Dev} {a1 : _} {a2 : _} {a3 : _} {a4 : _} (hM : Sub 33025 M) (h : Kept M d0 d) :
    Kept M d0 (Dev.loadAction a1 a2 a3 a4 d) := by
  unfold Dev.loadAction
  repeat' first
    | with_reducible assumption
    | with_reducible refine Dev.noteActed_kept ((hM).mono (by decide)) ?_
    | with_reducible refine Dev.putFlag_kept ((hM).mono (by decide)) ?_
    | with_reducible refine Dev.endPulse_kept ((hM).mono (by decide)) ?_
    | with_reducible refine Dev.startPulse_kept ((hM).mono (by decide)) ?_
    | with_reducible refine Dev.linkSend_kept ((hM).mono (by decide)) ?_
    | split
    | dsimp only
    | intro _

theorem Dev.loadPulseEnd_kept {M : Nat} {d0 d : Dev} {a1 : _} (hM : Sub 1103625 M) (h : Kept M d0 d) :
    Kept M d0 (Dev.loadPulseEnd a1 d) := by
  unfold Dev.loadPulseEnd
  repeat' first
    | with_reducible assumption
    | with_reducible refine Kept.onlyIf ?_ ?_
    | with_reducible refine Dev.atDies_kept ?_ ((hM).mono (by decide)) ?_
    | with_reducible refine Dev.onCh_kept ((hM).mono (by decide)) ?_
    | with_reducible refine Dev.putFlag_kept ((hM).mono (by decide)) ?_
    | with_reducible refine Dev.endPulse_kept ((hM).mono (by decide)) ?_
    | split
    | dsimp only
    | intro _

theorem Dev.loadPattern_kept {M : Nat} {d0 d : Dev} {a1 : _} (hM : Sub 33025 M) (h : Kept M d0 d) :
    Kept M d0 (Dev.loadPattern a1 d) := by
  unfold Dev.loadPattern
  repeat' first
    | with_reducible assumption
    | with_reducible refine Kept.each ?_ ?_
    | with_reducible refine Dev.putFlag_kept ((hM).mono (by decide)) ?_
    | with_reducible refine Dev.endPulse_kept ((hM).mono (by decide)) ?_
    | with_reducible refine Dev.put_kept ((hM).mono (by decide)) ?_
    | with_reducible refine Dev.linkSendSafe_kept ((hM).mono (by decide)) ?_
    | split
    | dsimp only
    | intro _
    | with_reducible refine Kept.lit_loads ((hM).mono (by decide)) ?_

theorem Dev.loadPatternEnd_kept {M : Nat} {d0 d : Dev} (hM : Sub 32769 M) (h : Kept M d0 d) :
    Kept M d0 (Dev.loadPatternEnd d) := by
  unfold Dev.loadPatternEnd
  repeat' first
    | with_reducible assumption
    | with_reducible refine Kept.each ?_ ?_
    | with_reducible refine Dev.putFlag_kept ((hM).mono (by decide)) ?_
    | with_reducible refine Dev.put_kept ((hM).mono (by decide)) ?_
    | split
    | dsimp only
    | intro _
    | with_reducible refine Kept.lit_loads ((hM).mono (by decide)) ?_

theorem Dev.loadsEntry_kept {M : Nat} {d0 d : Dev} (hM : Sub 32768 M) (h : Kept M d0 d) :
    Kept M d0 (Dev.loadsEntry d) := by
  unfold Dev.loadsEntry
  repeat' first
    | with_reducible assumption
    | with_reducible refine Kept.each ?_ ?_
    | with_reducible refine Dev.linkSend_kept ((hM).mono (by decide)) ?_
    | with_reducible refine Dev.onDie_kept ((hM).mono (by decide)) ?_
    | split
    | dsimp only
    | intro _
    | with_reducible refine Kept.lit_loads ((hM).mono (by decide)) ?_

theorem Dev.loadsStop_kept {M : Nat} {d0 d : Dev} (hM : Sub 32769 M) (h : Kept M d0 d) :
    Kept M d0 (Dev.loadsStop d) := by
  unfold Dev.loadsStop
  repeat' first
    | with_reducible assumption
    | with_reducible refine Kept.each ?_ ?_
    | with_reducible refine Dev.putLinkUp_kept ((hM).mono (by decide)) ?_
    | with_reducible refine Dev.onDie_kept ((hM).mono (by decide)) ?_
    | split
    | dsimp only
    | intro _

theorem Dev.loadsPark_kept {M : Nat} {d0 d : Dev} (hM : Sub 33025 M) (h : Kept M d0 d) :
    Kept M d0 (Dev.loadsPark d) := by
  unfold Dev.loadsPark
  repeat' first
    | with_reducible assumption
    | with_reducible refine Kept.each ?_ ?_
    | with_reducible refine Dev.putFlag_kept ((hM).mono (by decide)) ?_
    | with_reducible refine Dev.endPulse_kept ((hM).mono (by decide)) ?_
    | with_reducible refine Dev.linkSend_kept ((hM).mono (by decide)) ?_
    | split
    | dsimp only
    | intro _

end Sys2Proof.Machine
end

