-- ==== Sys2Proof/Laws/KeptKeys.lean ====
section
/-! SUPPORT. What the operations and commands of Machine/Keys.lean keep (`Kept`): the parts each changes, and the canonical form. -/

set_option Elab.async false

namespace Sys2Proof.Machine

theorem Dev.randomBytes_kept {M : Nat} {d0 d : Dev} {a1 : _} (hM : Sub 1024 M) (h : Kept M d0 d) :
    KeptP M d0 (Dev.randomBytes a1 d) := by
  unfold Dev.randomBytes
  repeat' first
    | with_reducible assumption
    | exact fun c => (Dev.Canonical.slots c : _)
    | exact fun c => (Dev.Canonical.keys c)
    | exact fun c => (Dev.Canonical.regs c)
    | exact fun c => Tab.wf_drop _ _ (Dev.Canonical.slots c)
    | exact fun c => Tab.wf_set _ _ _ (Dev.Canonical.slots c)
    | exact fun c => Tab.wf_set _ _ _ (Dev.Canonical.keys c)
    | exact fun c => Tab.wf_set _ _ _ (Dev.Canonical.regs c)
    | exact fun c => Tab.wf_drop _ _ (Dev.Canonical.regs c)
    | exact fun c => Tab.wf_set _ _ _ (Dev.Canonical.settings c)
    | exact fun _ => rfl
    | with_reducible refine Dev.draw_kept ((hM).mono (by decide)) ?_
    | refine KeptP.of_eq (by assumption) ?_
    | with_reducible refine KeptP.snd ?_
    | split
    | dsimp only
    | intro _
    | with_reducible refine Kept.lit_sec ((hM).mono (by decide)) ?_ ?_
    | with_reducible refine KeptP.mk ?_

theorem Dev.putKeySlot_kept {M : Nat} {d0 d : Dev} {a1 : _} {a2 : _} (hM : Sub 1025 M) (h : Kept M d0 d) :
    Kept M d0 (Dev.putKeySlot a1 a2 d) := by
  unfold Dev.putKeySlot
  repeat' first
    | with_reducible assumption
    | exact fun c => (Dev.Canonical.slots c : _)
    | exact fun c => (Dev.Canonical.keys c)
    | exact fun c => (Dev.Canonical.regs c)
    | exact fun c => Tab.wf_drop _ _ (Dev.Canonical.slots c)
    | exact fun c => Tab.wf_set _ _ _ (Dev.Canonical.slots c)
    | exact fun c => Tab.wf_set _ _ _ (Dev.Canonical.keys c)
    | exact fun c => Tab.wf_set _ _ _ (Dev.Canonical.regs c)
    | exact fun c => Tab.wf_drop _ _ (Dev.Canonical.regs c)
    | exact fun c => Tab.wf_set _ _ _ (Dev.Canonical.settings c)
    | exact fun _ => rfl
    | with_reducible refine Dev.put_kept ((hM).mono (by decide)) ?_
    | with_reducible refine Dev.wr_kept ((hM).mono (by decide)) ?_
    | split
    | dsimp only
    | intro _
    | with_reducible refine Kept.lit_sec ((hM).mono (by decide)) ?_ ?_

theorem Dev.writeKey_kept {M : Nat} {d0 d : Dev} {a1 : _} {a2 : _} {a3 : _} (hM : Sub 1025 M) (h : Kept M d0 d) :
    Kept M d0 (Dev.writeKey a1 a2 a3 d) := by
  unfold Dev.writeKey
  repeat' first
    | with_reducible assumption
    | with_reducible refine Dev.randomBytes_kept ((hM).mono (by decide)) ?_
    | with_reducible refine Dev.putKeySlot_kept ((hM).mono (by decide)) ?_
    | refine KeptP.of_eq (by assumption) ?_
    | with_reducible refine KeptP.snd ?_
    | split
    | dsimp only
    | intro _
    | with_reducible refine KeptP.mk ?_

theorem Dev.pqCode_kept {M : Nat} {d0 d : Dev} {a1 : _} (hM : Sub 1 M) (h : Kept M d0 d) :
    Kept M d0 (Dev.pqCode a1 d) := by
  unfold Dev.pqCode
  repeat' first
    | with_reducible assumption
    | with_reducible refine Dev.put_kept ((hM).mono (by decide)) ?_
    | split
    | dsimp only
    | intro _

theorem Dev.verifyJob_kept {M : Nat} {d0 d : Dev} {a1 : _} {a2 : _} {a3 : _} (hM : Sub 1 M) (h : Kept M d0 d) :
    KeptP M d0 (Dev.verifyJob a1 a2 a3 d) := by
  unfold Dev.verifyJob
  repeat' first
    | with_reducible assumption
    | with_reducible refine Dev.pqCode_kept ((hM).mono (by decide)) ?_
    | split
    | dsimp only
    | intro _
    | with_reducible refine KeptP.mk ?_

end Sys2Proof.Machine
end

