-- ==== Sys2Proof/Laws/KeptTime.lean ====
section
/-! SUPPORT. What the operations and commands of Machine/Time.lean keep (`Kept`): the parts each changes, and the canonical form. -/

set_option Elab.async false

namespace Sys2Proof.Machine

theorem Dev.putLatched_kept {M : Nat} {d0 d : Dev} {a1 : _} {a2 : _} {a3 : _} (hM : Sub 524288 M) (h : Kept M d0 d) :
    Kept M d0 (Dev.putLatched a1 a2 a3 d) := by
  unfold Dev.putLatched
  repeat' first
    | with_reducible assumption
    | split
    | dsimp only
    | intro _
    | with_reducible refine Kept.lit_latched ((hM).mono (by decide)) ?_

theorem Dev.putTdOffset_kept {M : Nat} {d0 d : Dev} {a1 : _} {a2 : _} (hM : Sub 129 M) (h : Kept M d0 d) :
    Kept M d0 (Dev.putTdOffset a1 a2 d) := by
  unfold Dev.putTdOffset
  repeat' first
    | with_reducible assumption
    | with_reducible refine Dev.put_kept ((hM).mono (by decide)) ?_
    | with_reducible refine Dev.putPair_kept ((hM).mono (by decide)) ?_
    | split
    | dsimp only
    | intro _
    | with_reducible refine Kept.lit_time ((hM).mono (by decide)) ?_

theorem Dev.putTdAnchor_kept {M : Nat} {d0 d : Dev} {a1 : _} {a2 : _} (hM : Sub 1 M) (h : Kept M d0 d) :
    Kept M d0 (Dev.putTdAnchor a1 a2 d) := by
  unfold Dev.putTdAnchor
  repeat' first
    | with_reducible assumption
    | with_reducible refine Dev.putPair_kept ((hM).mono (by decide)) ?_
    | split
    | dsimp only
    | intro _

theorem Dev.putTdRate_kept {M : Nat} {d0 d : Dev} {a1 : _} {a2 : _} (hM : Sub 1 M) (h : Kept M d0 d) :
    Kept M d0 (Dev.putTdRate a1 a2 d) := by
  unfold Dev.putTdRate
  repeat' first
    | with_reducible assumption
    | with_reducible refine Dev.putPair_kept ((hM).mono (by decide)) ?_
    | split
    | dsimp only
    | intro _

theorem Dev.putResid_kept {M : Nat} {d0 d : Dev} {a1 : _} (hM : Sub 129 M) (h : Kept M d0 d) :
    Kept M d0 (Dev.putResid a1 d) := by
  unfold Dev.putResid
  repeat' first
    | with_reducible assumption
    | with_reducible refine Dev.putFlag_kept ((hM).mono (by decide)) ?_
    | split
    | dsimp only
    | intro _
    | with_reducible refine Kept.lit_time ((hM).mono (by decide)) ?_

theorem Dev.selectUnset_kept {M : Nat} {d0 d : Dev} (hM : Sub 129 M) (h : Kept M d0 d) :
    Kept M d0 (Dev.selectUnset d) := by
  unfold Dev.selectUnset
  repeat' first
    | with_reducible assumption
    | with_reducible refine Dev.putFlag_kept ((hM).mono (by decide)) ?_
    | with_reducible refine Dev.putResid_kept ((hM).mono (by decide)) ?_
    | split
    | dsimp only
    | intro _

theorem Dev.sysSelect_kept {M : Nat} {d0 d : Dev} {a1 : _} (hM : Sub 129 M) (h : Kept M d0 d) :
    Kept M d0 (Dev.sysSelect a1 d) := by
  unfold Dev.sysSelect
  repeat' first
    | with_reducible assumption
    | with_reducible refine Dev.put_kept ((hM).mono (by decide)) ?_
    | with_reducible refine Dev.selectUnset_kept ((hM).mono (by decide)) ?_
    | with_reducible refine Dev.putResid_kept ((hM).mono (by decide)) ?_
    | split
    | dsimp only
    | intro _
    | with_reducible refine Kept.lit_time ((hM).mono (by decide)) ?_

theorem Dev.putLocked_kept {M : Nat} {d0 d : Dev} {a1 : _} {a2 : _} (hM : Sub 129 M) (h : Kept M d0 d) :
    Kept M d0 (Dev.putLocked a1 a2 d) := by
  unfold Dev.putLocked
  repeat' first
    | with_reducible assumption
    | with_reducible refine Dev.putFlag_kept ((hM).mono (by decide)) ?_
    | with_reducible refine Dev.selectUnset_kept ((hM).mono (by decide)) ?_
    | with_reducible refine Dev.sysSelect_kept ((hM).mono (by decide)) ?_
    | split
    | dsimp only
    | intro _

theorem Dev.ppsSkip_kept {M : Nat} {d0 d : Dev} {a1 : _} {a2 : _} {a3 : _} (hM : Sub 1048577 M) (h : Kept M d0 d) :
    Kept M d0 (Dev.ppsSkip a1 a2 a3 d) := by
  unfold Dev.ppsSkip
  repeat' first
    | with_reducible assumption
    | with_reducible refine Kept.each ?_ ?_
    | with_reducible refine Dev.raiseN_kept ((hM).mono (by decide)) ?_
    | with_reducible refine Dev.count_kept ((hM).mono (by decide)) ?_
    | split
    | dsimp only
    | intro _

theorem Dev.canLanded_kept {M : Nat} {d0 d : Dev} {a1 : _} {a2 : _} (hM : Sub 65536 M) (h : Kept M d0 d) :
    Kept M d0 (Dev.canLanded a1 a2 d) := by
  unfold Dev.canLanded
  repeat' first
    | with_reducible assumption
    | split
    | dsimp only
    | intro _
    | with_reducible refine Kept.lit_can ((hM).mono (by decide)) ?_

theorem Dev.tdCommit_kept {M : Nat} {d0 d : Dev} {a1 : _} {a2 : _} {a3 : _} {a4 : _} {a5 : _} (h5 : ∀ y0, Kept M d0 y0 → Kept M d0 (a5 y0)) (hM : Sub 1114241 M) (h : Kept M d0 d) :
    Kept M d0 (Dev.tdCommit a1 a2 a3 a4 a5 d) := by
  unfold Dev.tdCommit
  repeat' first
    | with_reducible assumption
    | with_reducible refine h5 _ ?_
    | with_reducible refine Kept.onlyIf ?_ ?_
    | with_reducible refine Dev.put_kept ((hM).mono (by decide)) ?_
    | with_reducible refine Dev.putResid_kept ((hM).mono (by decide)) ?_
    | with_reducible refine Dev.ppsSkip_kept ((hM).mono (by decide)) ?_
    | with_reducible refine Dev.canLanded_kept ((hM).mono (by decide)) ?_
    | split
    | dsimp only
    | intro _

theorem Dev.tdLoad_kept {M : Nat} {d0 d : Dev} {a1 : _} {a2 : _} (hM : Sub 1114241 M) (h : Kept M d0 d) :
    Kept M d0 (Dev.tdLoad a1 a2 d) := by
  unfold Dev.tdLoad
  repeat' first
    | with_reducible assumption
    | with_reducible refine Dev.tdCommit_kept ?_ ((hM).mono (by decide)) ?_
    | with_reducible refine Dev.putTdRate_kept ((hM).mono (by decide)) ?_
    | with_reducible refine Dev.putTdAnchor_kept ((hM).mono (by decide)) ?_
    | with_reducible refine Dev.putTdOffset_kept ((hM).mono (by decide)) ?_
    | split
    | dsimp only
    | intro _

theorem execTdLoad_kept {a1 : _} {a2 : _} {s : State} : KeptX 1131137 s (execTdLoad a1 a2 s) := by
  unfold execTdLoad
  repeat' first
    | with_reducible assumption
    | with_reducible refine runWrite_kept ?_ ((Sub.rfl).mono (by decide))
    | with_reducible refine Dev.tdLoad_kept ((Sub.rfl).mono (by decide)) ?_
    | split
    | dsimp only
    | intro _

theorem Dev.tdRateCmd_kept {M : Nat} {d0 d : Dev} {a1 : _} {a2 : _} (hM : Sub 1114241 M) (h : Kept M d0 d) :
    Kept M d0 (Dev.tdRateCmd a1 a2 d) := by
  unfold Dev.tdRateCmd
  repeat' first
    | with_reducible assumption
    | with_reducible refine Dev.tdCommit_kept ?_ ((hM).mono (by decide)) ?_
    | with_reducible refine Dev.putTdRate_kept ((hM).mono (by decide)) ?_
    | with_reducible refine Dev.putTdAnchor_kept ((hM).mono (by decide)) ?_
    | with_reducible refine Dev.putTdOffset_kept ((hM).mono (by decide)) ?_
    | split
    | dsimp only
    | intro _

theorem execTdRate_kept {a1 : _} {a2 : _} {s : State} : KeptX 1131137 s (execTdRate a1 a2 s) := by
  unfold execTdRate
  repeat' first
    | with_reducible assumption
    | with_reducible refine runWrite_kept ?_ ((Sub.rfl).mono (by decide))
    | with_reducible refine Dev.tdRateCmd_kept ((Sub.rfl).mono (by decide)) ?_
    | split
    | dsimp only
    | intro _

theorem Dev.tdAdjCmd_kept {M : Nat} {d0 d : Dev} {a1 : _} {a2 : _} (hM : Sub 1114241 M) (h : Kept M d0 d) :
    Kept M d0 (Dev.tdAdjCmd a1 a2 d) := by
  unfold Dev.tdAdjCmd
  repeat' first
    | with_reducible assumption
    | with_reducible refine Dev.tdCommit_kept ?_ ((hM).mono (by decide)) ?_
    | with_reducible refine Dev.putTdOffset_kept ((hM).mono (by decide)) ?_
    | split
    | dsimp only
    | intro _

theorem execTdAdj_kept {a1 : _} {a2 : _} {s : State} : KeptX 1131137 s (execTdAdj a1 a2 s) := by
  unfold execTdAdj
  repeat' first
    | with_reducible assumption
    | with_reducible refine runWrite_kept ?_ ((Sub.rfl).mono (by decide))
    | with_reducible refine Dev.tdAdjCmd_kept ((Sub.rfl).mono (by decide)) ?_
    | split
    | dsimp only
    | intro _

theorem Dev.lockWrite_kept {M : Nat} {d0 d : Dev} {a1 : _} {a2 : _} {a3 : _} (hM : Sub 129 M) (h : Kept M d0 d) :
    Kept M d0 (Dev.lockWrite a1 a2 a3 d) := by
  unfold Dev.lockWrite
  repeat' first
    | with_reducible assumption
    | with_reducible refine Kept.onlyIf ?_ ?_
    | with_reducible refine Dev.putLocked_kept ((hM).mono (by decide)) ?_
    | split
    | dsimp only
    | intro _

theorem execLockSet_kept {a1 : _} {a2 : _} {s : State} : KeptX 1065601 s (execLockSet a1 a2 s) := by
  unfold execLockSet
  repeat' first
    | with_reducible assumption
    | with_reducible refine runWrite_kept ?_ ((Sub.rfl).mono (by decide))
    | with_reducible refine Dev.lockWrite_kept ((Sub.rfl).mono (by decide)) ?_
    | split
    | dsimp only
    | intro _

theorem execLockClr_kept {a1 : _} {a2 : _} {s : State} : KeptX 1065601 s (execLockClr a1 a2 s) := by
  unfold execLockClr
  repeat' first
    | with_reducible assumption
    | with_reducible refine runWrite_kept ?_ ((Sub.rfl).mono (by decide))
    | with_reducible refine Dev.lockWrite_kept ((Sub.rfl).mono (by decide)) ?_
    | split
    | dsimp only
    | intro _

theorem Dev.putTdCfg_kept {M : Nat} {d0 d : Dev} {a1 : _} {a2 : _} (hM : Sub 128 M) (h : Kept M d0 d) :
    Kept M d0 (Dev.putTdCfg a1 a2 d) := by
  unfold Dev.putTdCfg
  repeat' first
    | with_reducible assumption
    | split
    | dsimp only
    | intro _
    | with_reducible refine Kept.lit_time ((hM).mono (by decide)) ?_

theorem Dev.syncArrived_kept {M : Nat} {d0 d : Dev} {a1 : _} {a2 : _} (hM : Sub 129 M) (h : Kept M d0 d) :
    Kept M d0 (Dev.syncArrived a1 a2 d) := by
  unfold Dev.syncArrived
  repeat' first
    | with_reducible assumption
    | with_reducible refine Dev.put_kept ((hM).mono (by decide)) ?_
    | with_reducible refine Dev.putTdCfg_kept ((hM).mono (by decide)) ?_
    | split
    | dsimp only
    | intro _

theorem Dev.residual_kept {M : Nat} {d0 d : Dev} {a1 : _} {a2 : _} (hM : Sub 128 M) (h : Kept M d0 d) :
    Kept M d0 (Dev.residual a1 a2 d) := by
  unfold Dev.residual
  repeat' first
    | with_reducible assumption
    | with_reducible refine Dev.putTdCfg_kept ((hM).mono (by decide)) ?_
    | split
    | dsimp only
    | intro _

theorem Dev.gptpMessage_kept {M : Nat} {d0 d : Dev} {a1 : _} {a2 : _} {a3 : _} (hM : Sub 129 M) (h : Kept M d0 d) :
    Kept M d0 (Dev.gptpMessage a1 a2 a3 d) := by
  unfold Dev.gptpMessage
  repeat' first
    | with_reducible assumption
    | with_reducible refine Kept.onlyIf ?_ ?_
    | with_reducible refine Dev.putTdCfg_kept ((hM).mono (by decide)) ?_
    | with_reducible refine Dev.residual_kept ((hM).mono (by decide)) ?_
    | with_reducible refine Dev.syncArrived_kept ((hM).mono (by decide)) ?_
    | split
    | dsimp only
    | intro _
    | with_reducible refine Kept.lit_time ((hM).mono (by decide)) ?_

theorem execGptpFrameReceive_kept {a1 : _} {a2 : _} {a3 : _} {s : State} : KeptX 129 s (execGptpFrameReceive a1 a2 a3 s) := by
  unfold execGptpFrameReceive
  repeat' first
    | with_reducible assumption
    | with_reducible refine KeptX.run ?_
    | with_reducible refine Kept.onlyIf ?_ ?_
    | with_reducible refine Kept.each ?_ ?_
    | with_reducible refine Dev.gptpMessage_kept ((Sub.rfl).mono (by decide)) ?_
    | split
    | dsimp only
    | intro _

theorem execSyncLoss_kept {a1 : _} {s : State} : KeptX 1048705 s (execSyncLoss a1 s) := by
  unfold execSyncLoss
  repeat' first
    | with_reducible assumption
    | with_reducible refine KeptX.run ?_
    | with_reducible refine Kept.onlyIf ?_ ?_
    | with_reducible refine Dev.raise_kept ((Sub.rfl).mono (by decide)) ?_
    | with_reducible refine Dev.putLocked_kept ((Sub.rfl).mono (by decide)) ?_
    | with_reducible refine Dev.putTdCfg_kept ((Sub.rfl).mono (by decide)) ?_
    | split
    | dsimp only
    | intro _

theorem Dev.gptpSend_kept {M : Nat} {d0 d : Dev} {a1 : _} {a2 : _} (hM : Sub 128 M) (h : Kept M d0 d) :
    Kept M d0 (Dev.gptpSend a1 a2 d) := by
  unfold Dev.gptpSend
  repeat' first
    | with_reducible assumption
    | with_reducible refine Dev.putTdCfg_kept ((hM).mono (by decide)) ?_
    | with_reducible refine Dev.emit_kept ((hM).mono (by decide)) ?_
    | split
    | dsimp only
    | intro _

theorem Dev.gptpRound_kept {M : Nat} {d0 d : Dev} {a1 : _} (hM : Sub 128 M) (h : Kept M d0 d) :
    Kept M d0 (Dev.gptpRound a1 d) := by
  unfold Dev.gptpRound
  repeat' first
    | with_reducible assumption
    | with_reducible refine Dev.gptpSend_kept ((hM).mono (by decide)) ?_
    | with_reducible refine Dev.putTdCfg_kept ((hM).mono (by decide)) ?_
    | split
    | dsimp only
    | intro _

theorem Dev.gptpRelease_kept {M : Nat} {d0 d : Dev} {a1 : _} (hM : Sub 128 M) (h : Kept M d0 d) :
    Kept M d0 (Dev.gptpRelease a1 d) := by
  unfold Dev.gptpRelease
  repeat' first
    | with_reducible assumption
    | with_reducible refine Kept.each ?_ ?_
    | with_reducible refine Dev.putTdCfg_kept ((hM).mono (by decide)) ?_
    | with_reducible refine Dev.gptpSend_kept ((hM).mono (by decide)) ?_
    | split
    | dsimp only
    | intro _

theorem Dev.gptpStamped_kept {M : Nat} {d0 d : Dev} {a1 : _} {a2 : _} (hM : Sub 128 M) (h : Kept M d0 d) :
    Kept M d0 (Dev.gptpStamped a1 a2 d) := by
  unfold Dev.gptpStamped
  repeat' first
    | with_reducible assumption
    | with_reducible refine Dev.putTdCfg_kept ((hM).mono (by decide)) ?_
    | with_reducible refine Dev.emit_kept ((hM).mono (by decide)) ?_
    | split
    | dsimp only
    | intro _

theorem Dev.intervalEnd_kept {M : Nat} {d0 d : Dev} {a1 : _} (hM : Sub 129 M) (h : Kept M d0 d) :
    Kept M d0 (Dev.intervalEnd a1 d) := by
  unfold Dev.intervalEnd
  repeat' first
    | with_reducible assumption
    | with_reducible refine Kept.onlyIf ?_ ?_
    | with_reducible refine Dev.putTdCfg_kept ((hM).mono (by decide)) ?_
    | with_reducible refine Dev.bump_kept ((hM).mono (by decide)) ?_
    | with_reducible refine Dev.putLocked_kept ((hM).mono (by decide)) ?_
    | split
    | dsimp only
    | intro _

theorem execSyncIntervalTimer_kept {a1 : _} {s : State} : KeptX 129 s (execSyncIntervalTimer a1 s) := by
  unfold execSyncIntervalTimer
  repeat' first
    | with_reducible assumption
    | with_reducible refine KeptX.run ?_
    | with_reducible refine Kept.onlyIf ?_ ?_
    | with_reducible refine Dev.intervalEnd_kept ((Sub.rfl).mono (by decide)) ?_
    | with_reducible refine Dev.gptpRound_kept ((Sub.rfl).mono (by decide)) ?_
    | split
    | dsimp only
    | intro _

theorem Dev.sysSelectWrite_kept {M : Nat} {d0 d : Dev} {a1 : _} (hM : Sub 129 M) (h : Kept M d0 d) :
    Kept M d0 (Dev.sysSelectWrite a1 d) := by
  unfold Dev.sysSelectWrite
  repeat' first
    | with_reducible assumption
    | with_reducible refine Kept.onlyIf ?_ ?_
    | with_reducible refine Dev.sysSelect_kept ((hM).mono (by decide)) ?_
    | split
    | dsimp only
    | intro _

theorem execSysSelect_kept {a1 : _} {a2 : _} {s : State} : KeptX 1065601 s (execSysSelect a1 a2 s) := by
  unfold execSysSelect
  repeat' first
    | with_reducible assumption
    | with_reducible refine runWrite_kept ?_ ((Sub.rfl).mono (by decide))
    | with_reducible refine Dev.sysSelectWrite_kept ((Sub.rfl).mono (by decide)) ?_
    | split
    | dsimp only
    | intro _

theorem execSysSelectEffect_kept {s : State} : KeptX 129 s (execSysSelectEffect s) := by
  unfold execSysSelectEffect
  repeat' first
    | with_reducible assumption
    | with_reducible refine KeptX.run ?_
    | with_reducible refine Kept.onlyIf ?_ ?_
    | with_reducible refine Dev.selectUnset_kept ((Sub.rfl).mono (by decide)) ?_
    | split
    | dsimp only
    | intro _

theorem Dev.sysRestart_kept {M : Nat} {d0 d : Dev} (hM : Sub 1049729 M) (h : Kept M d0 d) :
    Kept M d0 (Dev.sysRestart d) := by
  unfold Dev.sysRestart
  repeat' first
    | with_reducible assumption
    | with_reducible refine Kept.onlyIf ?_ ?_
    | with_reducible refine Dev.bump_kept ((hM).mono (by decide)) ?_
    | with_reducible refine Dev.putResid_kept ((hM).mono (by decide)) ?_
    | with_reducible refine Dev.putFlag_kept ((hM).mono (by decide)) ?_
    | with_reducible refine Dev.selectUnset_kept ((hM).mono (by decide)) ?_
    | with_reducible refine Dev.recAppendFree_kept ((hM).mono (by decide)) ?_
    | with_reducible refine Dev.raise_kept ((hM).mono (by decide)) ?_
    | split
    | dsimp only
    | intro _

theorem execSysRestart_kept {a1 : _} {s : State} : KeptX 1066625 s (execSysRestart a1 s) := by
  unfold execSysRestart
  repeat' first
    | with_reducible assumption
    | with_reducible refine runWrite_kept ?_ ((Sub.rfl).mono (by decide))
    | with_reducible refine Dev.sysRestart_kept ((Sub.rfl).mono (by decide)) ?_
    | split
    | dsimp only
    | intro _

theorem execSlewEnd_kept {s : State} : KeptX 129 s (execSlewEnd s) := by
  unfold execSlewEnd
  repeat' first
    | with_reducible assumption
    | with_reducible refine KeptX.run ?_
    | with_reducible refine Kept.onlyIf ?_ ?_
    | with_reducible refine Dev.putResid_kept ((Sub.rfl).mono (by decide)) ?_
    | split
    | dsimp only
    | intro _

theorem Dev.putTsq_kept {M : Nat} {d0 d : Dev} {a1 : _} {a2 : _} (hM : Sub 129 M) (h : Kept M d0 d) :
    Kept M d0 (Dev.putTsq a1 a2 d) := by
  unfold Dev.putTsq
  repeat' first
    | with_reducible assumption
    | with_reducible refine Dev.put_kept ((hM).mono (by decide)) ?_
    | split
    | dsimp only
    | intro _
    | with_reducible refine Kept.lit_time ((hM).mono (by decide)) ?_

theorem Dev.putCapFifo_kept {M : Nat} {d0 d : Dev} {a1 : _} {a2 : _} (hM : Sub 129 M) (h : Kept M d0 d) :
    Kept M d0 (Dev.putCapFifo a1 a2 d) := by
  unfold Dev.putCapFifo
  repeat' first
    | with_reducible assumption
    | with_reducible refine Dev.put_kept ((hM).mono (by decide)) ?_
    | split
    | dsimp only
    | intro _
    | with_reducible refine Kept.lit_time ((hM).mono (by decide)) ?_

theorem execTxTimestamp_kept {a1 : _} {a2 : _} {a3 : _} {a4 : _} {s : State} : KeptX 1049217 s (execTxTimestamp a1 a2 a3 a4 s) := by
  unfold execTxTimestamp
  repeat' first
    | with_reducible assumption
    | with_reducible refine KeptX.run ?_
    | with_reducible refine Kept.onlyIf ?_ ?_
    | with_reducible refine Dev.gptpStamped_kept ((Sub.rfl).mono (by decide)) ?_
    | with_reducible refine Dev.putTsq_kept ((Sub.rfl).mono (by decide)) ?_
    | with_reducible refine Dev.raise_kept ((Sub.rfl).mono (by decide)) ?_
    | with_reducible refine Dev.bump_kept ((Sub.rfl).mono (by decide)) ?_
    | with_reducible refine Dev.sysRecord_kept ((Sub.rfl).mono (by decide)) ?_
    | split
    | dsimp only
    | intro _

theorem Dev.fifoRead_kept {M : Nat} {d0 d : Dev} {a1 : _} {a2 : _} {a3 : _} (hM : Sub 524288 M) (h : Kept M d0 d) :
    KeptPP M d0 (Dev.fifoRead a1 a2 a3 d) := by
  unfold Dev.fifoRead
  repeat' first
    | with_reducible assumption
    | with_reducible refine Dev.putLatched_kept ((hM).mono (by decide)) ?_
    | split
    | dsimp only
    | intro _
    | with_reducible refine KeptPP.mk ?_

theorem Dev.tsqRead_kept {M : Nat} {d0 d : Dev} {a1 : _} {a2 : _} (hM : Sub 524417 M) (h : Kept M d0 d) :
    KeptP M d0 (Dev.tsqRead a1 a2 d) := by
  unfold Dev.tsqRead
  repeat' first
    | with_reducible assumption
    | with_reducible refine Dev.fifoRead_kept ((hM).mono (by decide)) ?_
    | with_reducible refine Dev.putTsq_kept ((hM).mono (by decide)) ?_
    | refine KeptPP.of_eq (by assumption) ?_
    | with_reducible refine KeptPP.snd ?_
    | split
    | dsimp only
    | intro _
    | with_reducible refine KeptP.mk ?_

theorem execTsqRead_kept {a1 : _} {a2 : _} {s : State} : KeptX 1589889 s (execTsqRead a1 a2 s) := by
  unfold execTsqRead
  repeat' first
    | with_reducible assumption
    | with_reducible refine runRead_kept ?_ ((Sub.rfl).mono (by decide))
    | with_reducible refine Dev.tsqRead_kept ((Sub.rfl).mono (by decide)) ?_
    | with_reducible refine Dev.emit_kept ((Sub.rfl).mono (by decide)) ?_
    | refine KeptP.of_eq (by assumption) ?_
    | with_reducible refine KeptP.snd ?_
    | split
    | dsimp only
    | intro _
    | with_reducible refine KeptP.mk ?_

theorem Dev.capRead_kept {M : Nat} {d0 d : Dev} {a1 : _} {a2 : _} (hM : Sub 524417 M) (h : Kept M d0 d) :
    KeptP M d0 (Dev.capRead a1 a2 d) := by
  unfold Dev.capRead
  repeat' first
    | with_reducible assumption
    | with_reducible refine Dev.fifoRead_kept ((hM).mono (by decide)) ?_
    | with_reducible refine Dev.putCapFifo_kept ((hM).mono (by decide)) ?_
    | refine KeptPP.of_eq (by assumption) ?_
    | with_reducible refine KeptPP.snd ?_
    | split
    | dsimp only
    | intro _
    | with_reducible refine KeptP.mk ?_

theorem execCaptureRead_kept {a1 : _} {a2 : _} {s : State} : KeptX 1589889 s (execCaptureRead a1 a2 s) := by
  unfold execCaptureRead
  repeat' first
    | with_reducible assumption
    | with_reducible refine runRead_kept ?_ ((Sub.rfl).mono (by decide))
    | with_reducible refine Dev.capRead_kept ((Sub.rfl).mono (by decide)) ?_
    | with_reducible refine Dev.emit_kept ((Sub.rfl).mono (by decide)) ?_
    | refine KeptP.of_eq (by assumption) ?_
    | with_reducible refine KeptP.snd ?_
    | split
    | dsimp only
    | intro _
    | with_reducible refine KeptP.mk ?_

theorem execCaptureEdge_kept {a1 : _} {a2 : _} {a3 : _} {s : State} : KeptX 1049217 s (execCaptureEdge a1 a2 a3 s) := by
  unfold execCaptureEdge
  repeat' first
    | with_reducible assumption
    | with_reducible refine KeptX.run ?_
    | with_reducible refine Kept.onlyIf ?_ ?_
    | with_reducible refine Dev.putCapFifo_kept ((Sub.rfl).mono (by decide)) ?_
    | with_reducible refine Dev.raise_kept ((Sub.rfl).mono (by decide)) ?_
    | with_reducible refine Dev.bump_kept ((Sub.rfl).mono (by decide)) ?_
    | with_reducible refine Dev.sysRecord_kept ((Sub.rfl).mono (by decide)) ?_
    | split
    | dsimp only
    | intro _
    | with_reducible refine Kept.lit_time ((Sub.rfl).mono (by decide)) ?_

theorem Dev.snapshot_kept {M : Nat} {d0 d : Dev} {a1 : _} (hM : Sub 524288 M) (h : Kept M d0 d) :
    Kept M d0 (Dev.snapshot a1 d) := by
  unfold Dev.snapshot
  repeat' first
    | with_reducible assumption
    | with_reducible refine Dev.putLatched_kept ((hM).mono (by decide)) ?_
    | split
    | dsimp only
    | intro _

theorem execSnapshot_kept {a1 : _} {s : State} : KeptX 1589761 s (execSnapshot a1 s) := by
  unfold execSnapshot
  repeat' first
    | with_reducible assumption
    | with_reducible refine runWrite_kept ?_ ((Sub.rfl).mono (by decide))
    | with_reducible refine Dev.snapshot_kept ((Sub.rfl).mono (by decide)) ?_
    | split
    | dsimp only
    | intro _

theorem Dev.ppsDrive_kept {M : Nat} {d0 d : Dev} {a1 : _} {a2 : _} (hM : Sub 0 M) (h : Kept M d0 d) :
    Kept M d0 (Dev.ppsDrive a1 a2 d) := by
  unfold Dev.ppsDrive
  repeat' first
    | with_reducible assumption
    | with_reducible refine Kept.onlyIf ?_ ?_
    | with_reducible refine Dev.emit_kept ((hM).mono (by decide)) ?_
    | split
    | dsimp only
    | intro _

theorem Dev.ppsTick_kept {M : Nat} {d0 d : Dev} (hM : Sub 128 M) (h : Kept M d0 d) :
    Kept M d0 (Dev.ppsTick d) := by
  unfold Dev.ppsTick
  repeat' first
    | with_reducible assumption
    | with_reducible refine Kept.onlyIf ?_ ?_
    | with_reducible refine Kept.each ?_ ?_
    | with_reducible refine Dev.ppsDrive_kept ((hM).mono (by decide)) ?_
    | split
    | dsimp only
    | intro _
    | with_reducible refine Kept.lit_time ((hM).mono (by decide)) ?_

theorem execPpsEdge_kept {a1 : _} {s : State} : KeptX 128 s (execPpsEdge a1 s) := by
  unfold execPpsEdge
  repeat' first
    | with_reducible assumption
    | with_reducible refine KeptX.run ?_
    | with_reducible refine Kept.onlyIf ?_ ?_
    | with_reducible refine Dev.ppsDrive_kept ((Sub.rfl).mono (by decide)) ?_
    | split
    | dsimp only
    | intro _
    | with_reducible refine Kept.lit_time ((Sub.rfl).mono (by decide)) ?_

theorem Dev.putCal_kept {M : Nat} {d0 d : Dev} {a1 : _} {a2 : _} (hM : Sub 1 M) (h : Kept M d0 d) :
    Kept M d0 (Dev.putCal a1 a2 d) := by
  unfold Dev.putCal
  repeat' first
    | with_reducible assumption
    | with_reducible refine Dev.put_kept ((hM).mono (by decide)) ?_
    | with_reducible refine Dev.putPair_kept ((hM).mono (by decide)) ?_
    | split
    | dsimp only
    | intro _

theorem Dev.calCount_kept {M : Nat} {d0 d : Dev} {a1 : _} (hM : Sub 1 M) (h : Kept M d0 d) :
    Kept M d0 (Dev.calCount a1 d) := by
  unfold Dev.calCount
  repeat' first
    | with_reducible assumption
    | with_reducible refine Dev.putCal_kept ((hM).mono (by decide)) ?_
    | split
    | dsimp only
    | intro _

theorem Dev.calTick_kept {M : Nat} {d0 d : Dev} (hM : Sub 129 M) (h : Kept M d0 d) :
    Kept M d0 (Dev.calTick d) := by
  unfold Dev.calTick
  repeat' first
    | with_reducible assumption
    | with_reducible refine Dev.calCount_kept ((hM).mono (by decide)) ?_
    | split
    | dsimp only
    | intro _
    | with_reducible refine Kept.lit_time ((hM).mono (by decide)) ?_

theorem Dev.calLoad_kept {M : Nat} {d0 d : Dev} (hM : Sub 1049601 M) (h : Kept M d0 d) :
    Kept M d0 (Dev.calLoad d) := by
  unfold Dev.calLoad
  repeat' first
    | with_reducible assumption
    | with_reducible refine Dev.putFlag_kept ((hM).mono (by decide)) ?_
    | with_reducible refine Dev.bump_kept ((hM).mono (by decide)) ?_
    | with_reducible refine Dev.putCal_kept ((hM).mono (by decide)) ?_
    | with_reducible refine Dev.recAppendFree_kept ((hM).mono (by decide)) ?_
    | split
    | dsimp only
    | intro _

theorem Dev.calNsTick_kept {M : Nat} {d0 d : Dev} (hM : Sub 1049729 M) (h : Kept M d0 d) :
    Kept M d0 (Dev.calNsTick d) := by
  unfold Dev.calNsTick
  repeat' first
    | with_reducible assumption
    | with_reducible refine Dev.calLoad_kept ((hM).mono (by decide)) ?_
    | with_reducible refine Dev.calTick_kept ((hM).mono (by decide)) ?_
    | split
    | dsimp only
    | intro _
    | with_reducible refine Kept.lit_time ((hM).mono (by decide)) ?_

theorem Dev.calWrite_kept {M : Nat} {d0 d : Dev} (hM : Sub 1 M) (h : Kept M d0 d) :
    Kept M d0 (Dev.calWrite d) := by
  unfold Dev.calWrite
  repeat' first
    | with_reducible assumption
    | with_reducible refine Kept.onlyIf ?_ ?_
    | with_reducible refine Dev.putFlag_kept ((hM).mono (by decide)) ?_
    | split
    | dsimp only
    | intro _

theorem execCalWrite_kept {a1 : _} {s : State} : KeptX 1065473 s (execCalWrite a1 s) := by
  unfold execCalWrite
  repeat' first
    | with_reducible assumption
    | with_reducible refine runWrite_kept ?_ ((Sub.rfl).mono (by decide))
    | with_reducible refine Dev.calWrite_kept ((Sub.rfl).mono (by decide)) ?_
    | split
    | dsimp only
    | intro _

theorem execCalLoad_kept {s : State} : KeptX 1049729 s (execCalLoad s) := by
  unfold execCalLoad
  repeat' first
    | with_reducible assumption
    | with_reducible refine KeptX.run ?_
    | with_reducible refine Kept.onlyIf ?_ ?_
    | with_reducible refine Dev.calLoad_kept ((Sub.rfl).mono (by decide)) ?_
    | split
    | dsimp only
    | intro _
    | with_reducible refine Kept.lit_time ((Sub.rfl).mono (by decide)) ?_

theorem Dev.calReadLatch_kept {M : Nat} {d0 d : Dev} {a1 : _} (hM : Sub 524292 M) (h : Kept M d0 d) :
    KeptP M d0 (Dev.calReadLatch a1 d) := by
  unfold Dev.calReadLatch
  repeat' first
    | with_reducible assumption
    | with_reducible refine Dev.putLatched_kept ((hM).mono (by decide)) ?_
    | with_reducible refine Dev.latchRead_kept ((hM).mono (by decide)) ?_
    | split
    | dsimp only
    | intro _
    | with_reducible refine KeptP.mk ?_

theorem execCalReadLatch_kept {a1 : _} {s : State} : KeptX 1589765 s (execCalReadLatch a1 s) := by
  unfold execCalReadLatch
  repeat' first
    | with_reducible assumption
    | with_reducible refine runRead_kept ?_ ((Sub.rfl).mono (by decide))
    | with_reducible refine Dev.calReadLatch_kept ((Sub.rfl).mono (by decide)) ?_
    | with_reducible refine Dev.emit_kept ((Sub.rfl).mono (by decide)) ?_
    | refine KeptP.of_eq (by assumption) ?_
    | with_reducible refine KeptP.snd ?_
    | split
    | dsimp only
    | intro _
    | with_reducible refine KeptP.mk ?_

theorem Dev.tampClear_kept {M : Nat} {d0 d : Dev} (hM : Sub 1 M) (h : Kept M d0 d) :
    Kept M d0 (Dev.tampClear d) := by
  unfold Dev.tampClear
  repeat' first
    | with_reducible assumption
    | with_reducible refine Kept.each ?_ ?_
    | with_reducible refine Dev.wr_kept ((hM).mono (by decide)) ?_
    | split
    | dsimp only
    | intro _

theorem Dev.tampClearWrite_kept {M : Nat} {d0 d : Dev} (hM : Sub 1 M) (h : Kept M d0 d) :
    Kept M d0 (Dev.tampClearWrite d) := by
  unfold Dev.tampClearWrite
  repeat' first
    | with_reducible assumption
    | with_reducible refine Kept.onlyIf ?_ ?_
    | with_reducible refine Dev.tampClear_kept ((hM).mono (by decide)) ?_
    | split
    | dsimp only
    | intro _

theorem execTampClr_kept {a1 : _} {s : State} : KeptX 1065473 s (execTampClr a1 s) := by
  unfold execTampClr
  repeat' first
    | with_reducible assumption
    | with_reducible refine runWrite_kept ?_ ((Sub.rfl).mono (by decide))
    | with_reducible refine Dev.tampClearWrite_kept ((Sub.rfl).mono (by decide)) ?_
    | split
    | dsimp only
    | intro _

theorem execCalendarAlarm_kept {s : State} : KeptX 4097 s (execCalendarAlarm s) := by
  unfold execCalendarAlarm
  repeat' first
    | with_reducible assumption
    | with_reducible refine KeptX.run ?_
    | with_reducible refine Kept.onlyIf ?_ ?_
    | with_reducible refine Dev.wake_kept ((Sub.rfl).mono (by decide)) ?_
    | with_reducible refine Dev.putFlag_kept ((Sub.rfl).mono (by decide)) ?_
    | split
    | dsimp only
    | intro _

theorem execOscStop_kept {s : State} : KeptX 1048705 s (execOscStop s) := by
  unfold execOscStop
  repeat' first
    | with_reducible assumption
    | with_reducible refine KeptX.run ?_
    | with_reducible refine Dev.raise_kept ((Sub.rfl).mono (by decide)) ?_
    | with_reducible refine Dev.putFlag_kept ((Sub.rfl).mono (by decide)) ?_
    | split
    | dsimp only
    | intro _
    | with_reducible refine Kept.lit_time ((Sub.rfl).mono (by decide)) ?_

theorem Dev.tampLatch_kept {M : Nat} {d0 d : Dev} {a1 : _} (hM : Sub 129 M) (h : Kept M d0 d) :
    Kept M d0 (Dev.tampLatch a1 d) := by
  unfold Dev.tampLatch
  repeat' first
    | with_reducible assumption
    | with_reducible refine Dev.put_kept ((hM).mono (by decide)) ?_
    | with_reducible refine Dev.putPair_kept ((hM).mono (by decide)) ?_
    | with_reducible refine Dev.bump_kept ((hM).mono (by decide)) ?_
    | split
    | dsimp only
    | intro _
    | with_reducible refine Kept.lit_time ((hM).mono (by decide)) ?_

theorem execBackupSupplyLoss_kept {s : State} : KeptX 1153 s (execBackupSupplyLoss s) := by
  unfold execBackupSupplyLoss
  repeat' first
    | with_reducible assumption
    | exact fun c => (Dev.Canonical.slots c : _)
    | exact fun c => (Dev.Canonical.keys c)
    | exact fun c => (Dev.Canonical.regs c)
    | exact fun c => Tab.wf_drop _ _ (Dev.Canonical.slots c)
    | exact fun c => Tab.wf_set _ _ _ (Dev.Canonical.slots c)
    | exact fun c => Tab.wf_set _ _ _ (Dev.Canonical.keys c)
    | exact fun c => Tab.wf_set _ _ _ (Dev.Canonical.regs c)
    | exact fun c => Tab.wf_drop _ _ (Dev.Canonical.regs c)
    | exact fun c => Tab.wf_set _ _ _ (Dev.Canonical.settings c)
    | exact fun _ => rfl
    | with_reducible refine KeptX.run ?_
    | with_reducible refine Kept.onlyIf ?_ ?_
    | with_reducible refine Kept.each ?_ ?_
    | with_reducible refine Dev.wr_kept ((Sub.rfl).mono (by decide)) ?_
    | with_reducible refine Dev.tampClear_kept ((Sub.rfl).mono (by decide)) ?_
    | split
    | dsimp only
    | intro _
    | with_reducible refine Kept.lit_time_sec ((Sub.rfl).mono (by decide)) ((Sub.rfl).mono (by decide)) ?_ ?_

theorem Dev.timeServiceEntry_kept {M : Nat} {d0 d : Dev} (hM : Sub 129 M) (h : Kept M d0 d) :
    Kept M d0 (Dev.timeServiceEntry d) := by
  unfold Dev.timeServiceEntry
  repeat' first
    | with_reducible assumption
    | with_reducible refine Kept.each ?_ ?_
    | with_reducible refine Dev.putTdRate_kept ((hM).mono (by decide)) ?_
    | with_reducible refine Dev.putTdAnchor_kept ((hM).mono (by decide)) ?_
    | with_reducible refine Dev.putTdOffset_kept ((hM).mono (by decide)) ?_
    | with_reducible refine Dev.putTdCfg_kept ((hM).mono (by decide)) ?_
    | with_reducible refine Dev.put_kept ((hM).mono (by decide)) ?_
    | with_reducible refine Dev.putFlag_kept ((hM).mono (by decide)) ?_
    | with_reducible refine Dev.putResid_kept ((hM).mono (by decide)) ?_
    | with_reducible refine Dev.wr_kept ((hM).mono (by decide)) ?_
    | with_reducible refine Dev.selectUnset_kept ((hM).mono (by decide)) ?_
    | split
    | dsimp only
    | intro _
    | with_reducible refine Kept.lit_time ((hM).mono (by decide)) ?_

theorem Dev.ppsStop_kept {M : Nat} {d0 d : Dev} (hM : Sub 128 M) (h : Kept M d0 d) :
    Kept M d0 (Dev.ppsStop d) := by
  unfold Dev.ppsStop
  repeat' first
    | with_reducible assumption
    | split
    | dsimp only
    | intro _
    | with_reducible refine Kept.lit_time ((hM).mono (by decide)) ?_

theorem Dev.timeDoze_kept {M : Nat} {d0 d : Dev} (hM : Sub 129 M) (h : Kept M d0 d) :
    Kept M d0 (Dev.timeDoze d) := by
  unfold Dev.timeDoze
  repeat' first
    | with_reducible assumption
    | with_reducible refine Kept.onlyIf ?_ ?_
    | with_reducible refine Kept.each ?_ ?_
    | with_reducible refine Dev.ppsDrive_kept ((hM).mono (by decide)) ?_
    | with_reducible refine Dev.ppsStop_kept ((hM).mono (by decide)) ?_
    | with_reducible refine Dev.putTsq_kept ((hM).mono (by decide)) ?_
    | with_reducible refine Dev.putCapFifo_kept ((hM).mono (by decide)) ?_
    | with_reducible refine Dev.putFlag_kept ((hM).mono (by decide)) ?_
    | split
    | dsimp only
    | intro _

end Sys2Proof.Machine
end

