-- ==== Sys2Proof/Laws/KeptSwitch.lean ====
section
/-! SUPPORT. What the operations and commands of Machine/Switch.lean keep (`Kept`): the parts each changes, and the canonical form. -/

set_option Elab.async false

namespace Sys2Proof.Machine

theorem Dev.onSwPort_kept {M : Nat} {d0 d : Dev} {a1 : _} {a2 : _} (hM : Sub 131072 M) (h : Kept M d0 d) :
    Kept M d0 (Dev.onSwPort a1 a2 d) := by
  unfold Dev.onSwPort
  repeat' first
    | with_reducible assumption
    | split
    | dsimp only
    | intro _
    | with_reducible refine Kept.lit_sw ((hM).mono (by decide)) ?_

theorem Dev.onSwQueue_kept {M : Nat} {d0 d : Dev} {a1 : _} {a2 : _} {a3 : _} (hM : Sub 131072 M) (h : Kept M d0 d) :
    Kept M d0 (Dev.onSwQueue a1 a2 a3 d) := by
  unfold Dev.onSwQueue
  repeat' first
    | with_reducible assumption
    | with_reducible refine Dev.onSwPort_kept ((hM).mono (by decide)) ?_
    | split
    | dsimp only
    | intro _

theorem Dev.putSwFrame_kept {M : Nat} {d0 d : Dev} {a1 : _} {a2 : _} (hM : Sub 131072 M) (h : Kept M d0 d) :
    Kept M d0 (Dev.putSwFrame a1 a2 d) := by
  unfold Dev.putSwFrame
  repeat' first
    | with_reducible assumption
    | split
    | dsimp only
    | intro _
    | with_reducible refine Kept.lit_sw ((hM).mono (by decide)) ?_

theorem Dev.putFree_kept {M : Nat} {d0 d : Dev} {a1 : _} (hM : Sub 131073 M) (h : Kept M d0 d) :
    Kept M d0 (Dev.putFree a1 d) := by
  unfold Dev.putFree
  repeat' first
    | with_reducible assumption
    | with_reducible refine Dev.put_kept ((hM).mono (by decide)) ?_
    | split
    | dsimp only
    | intro _
    | with_reducible refine Kept.lit_sw ((hM).mono (by decide)) ?_

theorem Dev.addUse_kept {M : Nat} {d0 d : Dev} {a1 : _} {a2 : _} {a3 : _} (hM : Sub 1 M) (h : Kept M d0 d) :
    Kept M d0 (Dev.addUse a1 a2 a3 d) := by
  unfold Dev.addUse
  repeat' first
    | with_reducible assumption
    | with_reducible refine Dev.peak_kept ((hM).mono (by decide)) ?_
    | with_reducible refine Dev.put_kept ((hM).mono (by decide)) ?_
    | split
    | dsimp only
    | intro _

theorem Dev.swRelease_kept {M : Nat} {d0 d : Dev} {a1 : _} {a2 : _} (hM : Sub 131073 M) (h : Kept M d0 d) :
    Kept M d0 (Dev.swRelease a1 a2 d) := by
  unfold Dev.swRelease
  repeat' first
    | with_reducible assumption
    | with_reducible refine Dev.addUse_kept ((hM).mono (by decide)) ?_
    | with_reducible refine Dev.putFree_kept ((hM).mono (by decide)) ?_
    | with_reducible refine Dev.putSwFrame_kept ((hM).mono (by decide)) ?_
    | split
    | dsimp only
    | intro _

theorem Dev.swLearn_kept {M : Nat} {d0 d : Dev} {a1 : _} {a2 : _} {a3 : _}  (hM : Sub 1179649 M) (h : Kept M d0 d) :
    Kept M d0 (Dev.swLearn a1 a2 a3 d) := by
  unfold Dev.swLearn
  simp only [Dev.mk_sw]
  repeat' first
    | with_reducible assumption
    | with_reducible refine Kept.set_sw ((hM).mono (by decide)) ?_
    | with_reducible refine Dev.raise_kept ((hM).mono (by decide)) ?_
    | with_reducible refine Dev.bump_kept ((hM).mono (by decide)) ?_
    | with_reducible refine Dev.put_kept ((hM).mono (by decide)) ?_
    | split
    | dsimp only
    | intro _
    | with_reducible refine KeptP.mk ?_

theorem Dev.swClassify_kept {M : Nat} {d0 d : Dev} {a1 : _} {a2 : _} {a3 : _} {a4 : _} {a5 : _} {a6 : _} {a7 : _} {a8 : _} {a9 : _} (hM : Sub 1179649 M) (h : Kept M d0 d) :
    Kept M d0 (Dev.swClassify a1 a2 a3 a4 a5 a6 a7 a8 a9 d) := by
  unfold Dev.swClassify
  repeat' first
    | with_reducible assumption
    | with_reducible refine Kept.onlyIf ?_ ?_
    | with_reducible refine Dev.bump_kept ((hM).mono (by decide)) ?_
    | with_reducible refine Dev.swLearn_kept ((hM).mono (by decide)) ?_
    | split
    | dsimp only
    | intro _
    | with_reducible refine Kept.lit_sw ((hM).mono (by decide)) ?_

theorem Dev.countRx_kept {M : Nat} {d0 d : Dev} {a1 : _} {a2 : _} (hM : Sub 1 M) (h : Kept M d0 d) :
    Kept M d0 (Dev.countRx a1 a2 d) := by
  unfold Dev.countRx
  repeat' first
    | with_reducible assumption
    | with_reducible refine Dev.putPair_kept ((hM).mono (by decide)) ?_
    | with_reducible refine Dev.bump_kept ((hM).mono (by decide)) ?_
    | split
    | dsimp only
    | intro _

theorem Dev.rxError_kept {M : Nat} {d0 d : Dev} {a1 : _} {a2 : _} (hM : Sub 1048577 M) (h : Kept M d0 d) :
    Kept M d0 (Dev.rxError a1 a2 d) := by
  unfold Dev.rxError
  repeat' first
    | with_reducible assumption
    | with_reducible refine Dev.bump_kept ((hM).mono (by decide)) ?_
    | with_reducible refine Dev.raise_kept ((hM).mono (by decide)) ?_
    | split
    | dsimp only
    | intro _

theorem Dev.macChecks_kept {M : Nat} {d0 d : Dev} {a1 : _} {a2 : _} {a3 : _} {a4 : _} {a5 : _} (h5 : ∀ y0, Kept M d0 y0 → Kept M d0 (a5 y0)) (hM : Sub 1048577 M) (h : Kept M d0 d) :
    Kept M d0 (Dev.macChecks a1 a2 a3 a4 a5 d) := by
  unfold Dev.macChecks
  repeat' first
    | with_reducible assumption
    | with_reducible refine h5 _ ?_
    | with_reducible refine Dev.rxError_kept ((hM).mono (by decide)) ?_
    | with_reducible refine Dev.countRx_kept ((hM).mono (by decide)) ?_
    | split
    | dsimp only
    | intro _

theorem Dev.swEnter_kept {M : Nat} {d0 d : Dev} {a1 : _} {a2 : _} {a3 : _} {a4 : _} {a5 : _} {a6 : _} {a7 : _} {a8 : _} {a9 : _} (hM : Sub 1179649 M) (h : Kept M d0 d) :
    Kept M d0 (Dev.swEnter a1 a2 a3 a4 a5 a6 a7 a8 a9 d) := by
  unfold Dev.swEnter
  repeat' first
    | with_reducible assumption
    | with_reducible refine Dev.macChecks_kept ?_ ((hM).mono (by decide)) ?_
    | with_reducible refine Dev.bump_kept ((hM).mono (by decide)) ?_
    | with_reducible refine Dev.swClassify_kept ((hM).mono (by decide)) ?_
    | split
    | dsimp only
    | intro _

theorem Dev.cutRelease_kept {M : Nat} {d0 d : Dev} {a1 : _} {a2 : _} (hM : Sub 131073 M) (h : Kept M d0 d) :
    Kept M d0 (Dev.cutRelease a1 a2 d) := by
  unfold Dev.cutRelease
  repeat' first
    | with_reducible assumption
    | with_reducible refine Dev.putFree_kept ((hM).mono (by decide)) ?_
    | with_reducible refine Dev.addUse_kept ((hM).mono (by decide)) ?_
    | with_reducible refine Dev.onSwPort_kept ((hM).mono (by decide)) ?_
    | split
    | dsimp only
    | intro _

theorem Dev.stomp_kept {M : Nat} {d0 d : Dev} {a1 : _} {a2 : _} (hM : Sub 1179649 M) (h : Kept M d0 d) :
    Kept M d0 (Dev.stomp a1 a2 d) := by
  unfold Dev.stomp
  repeat' first
    | with_reducible assumption
    | with_reducible refine Dev.emit_kept ((hM).mono (by decide)) ?_
    | with_reducible refine Dev.raise_kept ((hM).mono (by decide)) ?_
    | with_reducible refine Dev.bump_kept ((hM).mono (by decide)) ?_
    | with_reducible refine Dev.cutRelease_kept ((hM).mono (by decide)) ?_
    | split
    | dsimp only
    | intro _

theorem execStomp_kept {a1 : _} {a2 : _} {a3 : _} {s : State} : KeptX 1179649 s (execStomp a1 a2 a3 s) := by
  unfold execStomp
  repeat' first
    | with_reducible assumption
    | with_reducible refine KeptX.run ?_
    | with_reducible refine Kept.onlyIf ?_ ?_
    | with_reducible refine Dev.stomp_kept ((Sub.rfl).mono (by decide)) ?_
    | with_reducible refine Dev.rxError_kept ((Sub.rfl).mono (by decide)) ?_
    | split
    | dsimp only
    | intro _

theorem Dev.cutComplete_kept {M : Nat} {d0 d : Dev} {a1 : _} {a2 : _} {a3 : _} {a4 : _} {a5 : _} (hM : Sub 1179649 M) (h : Kept M d0 d) :
    Kept M d0 (Dev.cutComplete a1 a2 a3 a4 a5 d) := by
  unfold Dev.cutComplete
  repeat' first
    | with_reducible assumption
    | with_reducible refine Dev.stomp_kept ((hM).mono (by decide)) ?_
    | with_reducible refine Dev.rxError_kept ((hM).mono (by decide)) ?_
    | with_reducible refine Dev.swLearn_kept ((hM).mono (by decide)) ?_
    | with_reducible refine Dev.countRx_kept ((hM).mono (by decide)) ?_
    | with_reducible refine Dev.putFree_kept ((hM).mono (by decide)) ?_
    | with_reducible refine Dev.addUse_kept ((hM).mono (by decide)) ?_
    | with_reducible refine Dev.onSwPort_kept ((hM).mono (by decide)) ?_
    | split
    | dsimp only
    | intro _

theorem execEthFrameReceive_kept {a1 : _} {a2 : _} {a3 : _} {a4 : _} {a5 : _} {s : State} : KeptX 1179649 s (execEthFrameReceive a1 a2 a3 a4 a5 s) := by
  unfold execEthFrameReceive
  repeat' first
    | with_reducible assumption
    | with_reducible refine KeptX.run ?_
    | with_reducible refine Kept.onlyIf ?_ ?_
    | with_reducible refine Dev.rxError_kept ((Sub.rfl).mono (by decide)) ?_
    | with_reducible refine Dev.stomp_kept ((Sub.rfl).mono (by decide)) ?_
    | with_reducible refine Dev.cutComplete_kept ((Sub.rfl).mono (by decide)) ?_
    | with_reducible refine Dev.macChecks_kept ?_ ((Sub.rfl).mono (by decide)) ?_
    | with_reducible refine Dev.bump_kept ((Sub.rfl).mono (by decide)) ?_
    | with_reducible refine Dev.swLearn_kept ((Sub.rfl).mono (by decide)) ?_
    | with_reducible refine Dev.onSwPort_kept ((Sub.rfl).mono (by decide)) ?_
    | with_reducible refine Dev.swEnter_kept ((Sub.rfl).mono (by decide)) ?_
    | split
    | dsimp only
    | intro _

theorem Dev.swFlush_kept {M : Nat} {d0 d : Dev} {a1 : _} {a2 : _} (hM : Sub 1179649 M) (h : Kept M d0 d) :
    Kept M d0 (Dev.swFlush a1 a2 d) := by
  unfold Dev.swFlush
  repeat' first
    | with_reducible assumption
    | with_reducible refine Kept.each ?_ ?_
    | with_reducible refine Dev.onSwQueue_kept ((hM).mono (by decide)) ?_
    | with_reducible refine Dev.swRelease_kept ((hM).mono (by decide)) ?_
    | with_reducible refine Dev.bump_kept ((hM).mono (by decide)) ?_
    | with_reducible refine Dev.raise_kept ((hM).mono (by decide)) ?_
    | split
    | dsimp only
    | intro _

theorem Dev.swTxEnds_kept {M : Nat} {d0 d : Dev} {a1 : _} {a2 : _} (hM : Sub 1179649 M) (h : Kept M d0 d) :
    Kept M d0 (Dev.swTxEnds a1 a2 d) := by
  unfold Dev.swTxEnds
  repeat' first
    | with_reducible assumption
    | with_reducible refine Dev.bump_kept ((hM).mono (by decide)) ?_
    | with_reducible refine Dev.raise_kept ((hM).mono (by decide)) ?_
    | with_reducible refine Dev.swRelease_kept ((hM).mono (by decide)) ?_
    | with_reducible refine Dev.onSwPort_kept ((hM).mono (by decide)) ?_
    | with_reducible refine Dev.cutRelease_kept ((hM).mono (by decide)) ?_
    | split
    | dsimp only
    | intro _

theorem Dev.swLinkLost_kept {M : Nat} {d0 d : Dev} {a1 : _} (hM : Sub 1179649 M) (h : Kept M d0 d) :
    Kept M d0 (Dev.swLinkLost a1 d) := by
  unfold Dev.swLinkLost
  repeat' first
    | with_reducible assumption
    | with_reducible refine Dev.bump_kept ((hM).mono (by decide)) ?_
    | with_reducible refine Dev.put_kept ((hM).mono (by decide)) ?_
    | with_reducible refine Dev.putFlag_kept ((hM).mono (by decide)) ?_
    | with_reducible refine Dev.raise_kept ((hM).mono (by decide)) ?_
    | with_reducible refine Dev.onSwPort_kept ((hM).mono (by decide)) ?_
    | split
    | dsimp only
    | intro _

theorem Dev.swLinkDown_kept {M : Nat} {d0 d : Dev} {a1 : _} (hM : Sub 1179649 M) (h : Kept M d0 d) :
    Kept M d0 (Dev.swLinkDown a1 d) := by
  unfold Dev.swLinkDown
  repeat' first
    | with_reducible assumption
    | with_reducible refine Dev.swTxEnds_kept ((hM).mono (by decide)) ?_
    | with_reducible refine Dev.swLinkLost_kept ((hM).mono (by decide)) ?_
    | with_reducible refine Dev.onSwPort_kept ((hM).mono (by decide)) ?_
    | with_reducible refine Dev.swFlush_kept ((hM).mono (by decide)) ?_
    | with_reducible refine Dev.putFlag_kept ((hM).mono (by decide)) ?_
    | split
    | dsimp only
    | intro _

theorem Dev.swLinkUp_kept {M : Nat} {d0 d : Dev} {a1 : _} {a2 : _} (hM : Sub 131073 M) (h : Kept M d0 d) :
    Kept M d0 (Dev.swLinkUp a1 a2 d) := by
  unfold Dev.swLinkUp
  repeat' first
    | with_reducible assumption
    | with_reducible refine Dev.onSwPort_kept ((hM).mono (by decide)) ?_
    | with_reducible refine Dev.putFlag_kept ((hM).mono (by decide)) ?_
    | with_reducible refine Dev.put_kept ((hM).mono (by decide)) ?_
    | split
    | dsimp only
    | intro _

theorem Dev.portTaken_kept {M : Nat} {d0 d : Dev} {a1 : _} (hM : Sub 1179649 M) (h : Kept M d0 d) :
    Kept M d0 (Dev.portTaken a1 d) := by
  unfold Dev.portTaken
  repeat' first
    | with_reducible assumption
    | with_reducible refine Kept.onlyIf ?_ ?_
    | with_reducible refine Dev.swLinkDown_kept ((hM).mono (by decide)) ?_
    | with_reducible refine Dev.swLinkLost_kept ((hM).mono (by decide)) ?_
    | with_reducible refine Dev.swLinkUp_kept ((hM).mono (by decide)) ?_
    | split
    | dsimp only
    | intro _

theorem Dev.portLink_kept {M : Nat} {d0 d : Dev} {a1 : _} {a2 : _} (hM : Sub 1181697 M) (h : Kept M d0 d) :
    Kept M d0 (Dev.portLink a1 a2 d) := by
  unfold Dev.portLink
  repeat' first
    | with_reducible assumption
    | with_reducible refine Kept.onlyIf ?_ ?_
    | with_reducible refine Dev.portTaken_kept ((hM).mono (by decide)) ?_
    | with_reducible refine Dev.crossWrite_kept ((hM).mono (by decide)) ?_
    | split
    | dsimp only
    | intro _

theorem execPortLinkDown_kept {a1 : _} {a2 : _} {s : State} : KeptX 1181697 s (execPortLinkDown a1 a2 s) := by
  unfold execPortLinkDown
  repeat' first
    | with_reducible assumption
    | with_reducible refine KeptX.run ?_
    | with_reducible refine Kept.onlyIf ?_ ?_
    | with_reducible refine Dev.halfResetStart_kept ((Sub.rfl).mono (by decide)) ?_
    | with_reducible refine Dev.bump_kept ((Sub.rfl).mono (by decide)) ?_
    | with_reducible refine Dev.portLink_kept ((Sub.rfl).mono (by decide)) ?_
    | split
    | dsimp only
    | intro _

theorem execPortLinkUp_kept {a1 : _} {a2 : _} {s : State} : KeptX 1181697 s (execPortLinkUp a1 a2 s) := by
  unfold execPortLinkUp
  repeat' first
    | with_reducible assumption
    | with_reducible refine KeptX.run ?_
    | with_reducible refine Kept.onlyIf ?_ ?_
    | with_reducible refine Dev.portLink_kept ((Sub.rfl).mono (by decide)) ?_
    | with_reducible refine Dev.retrained_kept ((Sub.rfl).mono (by decide)) ?_
    | split
    | dsimp only
    | intro _

theorem execLingerExpiry_kept {a1 : _} {s : State} : KeptX 1179649 s (execLingerExpiry a1 s) := by
  unfold execLingerExpiry
  repeat' first
    | with_reducible assumption
    | with_reducible refine KeptX.run ?_
    | with_reducible refine Kept.onlyIf ?_ ?_
    | with_reducible refine Dev.putFlag_kept ((Sub.rfl).mono (by decide)) ?_
    | with_reducible refine Dev.onSwPort_kept ((Sub.rfl).mono (by decide)) ?_
    | with_reducible refine Dev.swFlush_kept ((Sub.rfl).mono (by decide)) ?_
    | split
    | dsimp only
    | intro _

theorem Dev.hostPort_kept {M : Nat} {d0 d : Dev} (hM : Sub 1179649 M) (h : Kept M d0 d) :
    Kept M d0 (Dev.hostPort d) := by
  unfold Dev.hostPort
  repeat' first
    | with_reducible assumption
    | with_reducible refine Dev.swLinkUp_kept ((hM).mono (by decide)) ?_
    | with_reducible refine Dev.swLinkDown_kept ((hM).mono (by decide)) ?_
    | split
    | dsimp only
    | intro _

theorem Dev.swHold_kept {M : Nat} {d0 d : Dev} {a1 : _} {a2 : _} (hM : Sub 131201 M) (h : Kept M d0 d) :
    Kept M d0 (Dev.swHold a1 a2 d) := by
  unfold Dev.swHold
  repeat' first
    | with_reducible assumption
    | with_reducible refine Kept.onlyIf ?_ ?_
    | with_reducible refine Dev.gptpRelease_kept ((hM).mono (by decide)) ?_
    | with_reducible refine Dev.onSwPort_kept ((hM).mono (by decide)) ?_
    | with_reducible refine Dev.putFlag_kept ((hM).mono (by decide)) ?_
    | split
    | dsimp only
    | intro _

theorem execFdbAgeOut_kept {a1 : _} {a2 : _} {s : State} : KeptX 131073 s (execFdbAgeOut a1 a2 s) := by
  unfold execFdbAgeOut
  repeat' first
    | with_reducible assumption
    | with_reducible refine KeptX.run ?_
    | with_reducible refine Kept.onlyIf ?_ ?_
    | with_reducible refine Dev.put_kept ((Sub.rfl).mono (by decide)) ?_
    | split
    | dsimp only
    | intro _
    | with_reducible refine Kept.lit_sw ((Sub.rfl).mono (by decide)) ?_

theorem execWakePatternMatch_kept {a1 : _} {a2 : _} {s : State} : KeptX 4097 s (execWakePatternMatch a1 a2 s) := by
  unfold execWakePatternMatch
  repeat' first
    | with_reducible assumption
    | with_reducible refine KeptX.run ?_
    | with_reducible refine Kept.onlyIf ?_ ?_
    | with_reducible refine Dev.put_kept ((Sub.rfl).mono (by decide)) ?_
    | with_reducible refine Dev.putFlag_kept ((Sub.rfl).mono (by decide)) ?_
    | with_reducible refine Dev.wake_kept ((Sub.rfl).mono (by decide)) ?_
    | split
    | dsimp only
    | intro _

theorem Dev.mdioStart_kept {M : Nat} {d0 d : Dev} {a1 : _} {a2 : _} (hM : Sub 1 M) (h : Kept M d0 d) :
    Kept M d0 (Dev.mdioStart a1 a2 d) := by
  unfold Dev.mdioStart
  repeat' first
    | with_reducible assumption
    | with_reducible refine Dev.putFlag_kept ((hM).mono (by decide)) ?_
    | with_reducible refine Dev.put_kept ((hM).mono (by decide)) ?_
    | with_reducible refine Dev.wr_kept ((hM).mono (by decide)) ?_
    | with_reducible refine Dev.emit_kept ((hM).mono (by decide)) ?_
    | split
    | dsimp only
    | intro _

theorem execMdioStart_kept {a1 : _} {a2 : _} {a3 : _} {s : State} : KeptX 1065473 s (execMdioStart a1 a2 a3 s) := by
  unfold execMdioStart
  repeat' first
    | with_reducible assumption
    | with_reducible refine runWrite_kept ?_ ((Sub.rfl).mono (by decide))
    | with_reducible refine Dev.mdioStart_kept ((Sub.rfl).mono (by decide)) ?_
    | split
    | dsimp only
    | intro _

theorem execMdioDone_kept {a1 : _} {a2 : _} {s : State} : KeptX 1 s (execMdioDone a1 a2 s) := by
  unfold execMdioDone
  repeat' first
    | with_reducible assumption
    | with_reducible refine KeptX.run ?_
    | with_reducible refine Kept.onlyIf ?_ ?_
    | with_reducible refine Dev.putFlag_kept ((Sub.rfl).mono (by decide)) ?_
    | with_reducible refine Dev.put_kept ((Sub.rfl).mono (by decide)) ?_
    | split
    | dsimp only
    | intro _

theorem Dev.ethCfgWrite_kept {M : Nat} {d0 d : Dev} {a1 : _} {a2 : _} (hM : Sub 131075 M) (h : Kept M d0 d) :
    Kept M d0 (Dev.ethCfgWrite a1 a2 d) := by
  unfold Dev.ethCfgWrite
  repeat' first
    | with_reducible assumption
    | with_reducible refine Dev.put_kept ((hM).mono (by decide)) ?_
    | with_reducible refine Dev.storeSetting_kept ((hM).mono (by decide)) ?_
    | with_reducible refine Dev.onSwPort_kept ((hM).mono (by decide)) ?_
    | split
    | dsimp only
    | intro _

theorem Dev.ethAgeWrite_kept {M : Nat} {d0 d : Dev} {a1 : _} {a2 : _} (hM : Sub 3 M) (h : Kept M d0 d) :
    Kept M d0 (Dev.ethAgeWrite a1 a2 d) := by
  unfold Dev.ethAgeWrite
  repeat' first
    | with_reducible assumption
    | with_reducible refine Dev.put_kept ((hM).mono (by decide)) ?_
    | with_reducible refine Dev.storeSetting_kept ((hM).mono (by decide)) ?_
    | split
    | dsimp only
    | intro _

theorem Dev.swClear_kept {M : Nat} {d0 d : Dev} {a1 : _} (hM : Sub 133121 M) (h : Kept M d0 d) :
    Kept M d0 (Dev.swClear a1 d) := by
  unfold Dev.swClear
  repeat' first
    | with_reducible assumption
    | with_reducible refine Kept.onlyIf ?_ ?_
    | with_reducible refine Kept.each ?_ ?_
    | with_reducible refine Dev.onCrossing_kept ((hM).mono (by decide)) ?_
    | with_reducible refine Dev.put_kept ((hM).mono (by decide)) ?_
    | with_reducible refine Dev.putFlag_kept ((hM).mono (by decide)) ?_
    | split
    | dsimp only
    | intro _
    | with_reducible refine Kept.lit_sw ((hM).mono (by decide)) ?_

theorem Dev.swEntry_kept {M : Nat} {d0 d : Dev} {a1 : _}  (hM : Sub 1181697 M) (h : Kept M d0 d) :
    Kept M d0 (Dev.swEntry a1 d) := by
  unfold Dev.swEntry
  split
  · exact h
  · refine Dev.hostPort_kept (hM.mono (by decide)) (Dev.swLinkUp_kept (hM.mono (by decide))
      (Dev.swLinkUp_kept (hM.mono (by decide)) ?_))
    split
    · exact Dev.swClear_kept (hM.mono (by decide)) h
    · refine Dev.put_kept (hM.mono (by decide)) (Kept.each (fun k e he => Dev.wr_kept (hM.mono (by decide)) he)
        (Kept.each (fun p e he => ?_) (Dev.swClear_kept (hM.mono (by decide)) h)))
      exact Kept.set_regs (hM.mono (by decide)) (fun c => Tab.wf_dropRange _ _ _ (Tab.wf_dropRange _ _ _ c.regs)) he

theorem Dev.swDoze_kept {M : Nat} {d0 d : Dev} (hM : Sub 1181697 M) (h : Kept M d0 d) :
    Kept M d0 (Dev.swDoze d) := by
  unfold Dev.swDoze
  repeat' first
    | with_reducible assumption
    | with_reducible refine Kept.each ?_ ?_
    | with_reducible refine Dev.putFlag_kept ((hM).mono (by decide)) ?_
    | with_reducible refine Dev.swClear_kept ((hM).mono (by decide)) ?_
    | with_reducible refine Dev.swFlush_kept ((hM).mono (by decide)) ?_
    | with_reducible refine Dev.swTxEnds_kept ((hM).mono (by decide)) ?_
    | split
    | dsimp only
    | intro _

end Sys2Proof.Machine
end

