-- ==== Sys2Proof/Laws/KeptRing.lean ====
section
/-! SUPPORT. What the operations and commands of Machine/Ring.lean keep (`Kept`): the parts each changes, and the canonical form. -/

set_option Elab.async false

namespace Sys2Proof.Machine

theorem Dev.onNode_kept {M : Nat} {d0 d : Dev} {a1 : _} {a2 : _} (hM : Sub 262144 M) (h : Kept M d0 d) :
    Kept M d0 (Dev.onNode a1 a2 d) := by
  unfold Dev.onNode
  repeat' first
    | with_reducible assumption
    | split
    | dsimp only
    | intro _
    | with_reducible refine Kept.lit_drv ((hM).mono (by decide)) ?_

theorem Dev.putNodeState_kept {M : Nat} {d0 d : Dev} {a1 : _} {a2 : _} (hM : Sub 1 M) (h : Kept M d0 d) :
    Kept M d0 (Dev.putNodeState a1 a2 d) := by
  unfold Dev.putNodeState
  repeat' first
    | with_reducible assumption
    | with_reducible refine Dev.put_kept ((hM).mono (by decide)) ?_
    | split
    | dsimp only
    | intro _

theorem Dev.ringMac_kept {M : Nat} {d0 d : Dev} {a1 : _} {a2 : _} {a3 : _} (hM : Sub 1024 M) (h : Kept M d0 d) :
    KeptP M d0 (Dev.ringMac a1 a2 a3 d) := by
  unfold Dev.ringMac
  repeat' first
    | with_reducible assumption
    | with_reducible refine Dev.randomBytes_kept ((hM).mono (by decide)) ?_
    | refine KeptP.of_eq (by assumption) ?_
    | with_reducible refine KeptP.snd ?_
    | split
    | dsimp only
    | intro _
    | with_reducible refine KeptP.mk ?_

theorem Dev.ringSend_kept {M : Nat} {d0 d : Dev} {a1 : _} {a2 : _} {a3 : _} {a4 : _} (hM : Sub 263168 M) (h : Kept M d0 d) :
    Kept M d0 (Dev.ringSend a1 a2 a3 a4 d) := by
  unfold Dev.ringSend
  repeat' first
    | with_reducible assumption
    | with_reducible refine Kept.each ?_ ?_
    | with_reducible refine Dev.onNode_kept ((hM).mono (by decide)) ?_
    | with_reducible refine Dev.ringMac_kept ((hM).mono (by decide)) ?_
    | with_reducible refine Dev.emit_kept ((hM).mono (by decide)) ?_
    | refine KeptP.of_eq (by assumption) ?_
    | with_reducible refine KeptP.snd ?_
    | split
    | dsimp only
    | intro _
    | with_reducible refine KeptP.mk ?_

theorem Dev.trailerAll_kept {M : Nat} {d0 d : Dev} {a1 : _} {a2 : _} (hM : Sub 1024 M) (h : Kept M d0 d) :
    KeptP M d0 (Dev.trailerAll a1 a2 d) := by
  unfold Dev.trailerAll
  repeat' first
    | with_reducible assumption
    | with_reducible refine Dev.ringMac_kept ((hM).mono (by decide)) ?_
    | with_reducible refine Dev.randomBytes_kept ((hM).mono (by decide)) ?_
    | refine KeptP.of_eq (by assumption) ?_
    | with_reducible refine KeptP.snd ?_
    | split
    | dsimp only
    | intro _
    | with_reducible refine KeptP.mk ?_

theorem Dev.ringToAll_kept {M : Nat} {d0 d : Dev} {a1 : _} {a2 : _} {a3 : _} (hM : Sub 1024 M) (h : Kept M d0 d) :
    Kept M d0 (Dev.ringToAll a1 a2 a3 d) := by
  unfold Dev.ringToAll
  repeat' first
    | with_reducible assumption
    | with_reducible refine Kept.each ?_ ?_
    | with_reducible refine Dev.randomBytes_kept ((hM).mono (by decide)) ?_
    | with_reducible refine Dev.trailerAll_kept ((hM).mono (by decide)) ?_
    | with_reducible refine Dev.emit_kept ((hM).mono (by decide)) ?_
    | refine KeptP.of_eq (by assumption) ?_
    | with_reducible refine KeptP.snd ?_
    | split
    | dsimp only
    | intro _
    | with_reducible refine KeptP.mk ?_

theorem Dev.showQueue_kept {M : Nat} {d0 d : Dev} {a1 : _} (hM : Sub 1 M) (h : Kept M d0 d) :
    Kept M d0 (Dev.showQueue a1 d) := by
  unfold Dev.showQueue
  repeat' first
    | with_reducible assumption
    | with_reducible refine Dev.put_kept ((hM).mono (by decide)) ?_
    | split
    | dsimp only
    | intro _

theorem Dev.ringJobDone_kept {M : Nat} {d0 d : Dev} {a1 : _} {a2 : _} (hM : Sub 64 M) (h : Kept M d0 d) :
    Kept M d0 (Dev.ringJobDone a1 a2 d) := by
  unfold Dev.ringJobDone
  repeat' first
    | with_reducible assumption
    | with_reducible refine Dev.onThread_kept ((hM).mono (by decide)) ?_
    | split
    | dsimp only
    | intro _

theorem Dev.queueTaken_kept {M : Nat} {d0 d : Dev} {a1 : _} (hM : Sub 262208 M) (h : Kept M d0 d) :
    Kept M d0 (Dev.queueTaken a1 d) := by
  unfold Dev.queueTaken
  repeat' first
    | with_reducible assumption
    | with_reducible refine Kept.each ?_ ?_
    | with_reducible refine Dev.ringJobDone_kept ((hM).mono (by decide)) ?_
    | with_reducible refine Dev.onNode_kept ((hM).mono (by decide)) ?_
    | split
    | dsimp only
    | intro _

theorem Dev.bcastsTaken_kept {M : Nat} {d0 d : Dev} (hM : Sub 262208 M) (h : Kept M d0 d) :
    Kept M d0 (Dev.bcastsTaken d) := by
  unfold Dev.bcastsTaken
  repeat' first
    | with_reducible assumption
    | with_reducible refine Kept.each ?_ ?_
    | with_reducible refine Dev.ringJobDone_kept ((hM).mono (by decide)) ?_
    | split
    | dsimp only
    | intro _
    | with_reducible refine Kept.lit_drv ((hM).mono (by decide)) ?_

theorem Dev.popReq_kept {M : Nat} {d0 d : Dev} {a1 : _} (hM : Sub 262209 M) (h : Kept M d0 d) :
    Kept M d0 (Dev.popReq a1 d) := by
  unfold Dev.popReq
  repeat' first
    | with_reducible assumption
    | with_reducible refine Dev.onNode_kept ((hM).mono (by decide)) ?_
    | with_reducible refine Dev.showQueue_kept ((hM).mono (by decide)) ?_
    | with_reducible refine Dev.bcastsTaken_kept ((hM).mono (by decide)) ?_
    | with_reducible refine Dev.queueTaken_kept ((hM).mono (by decide)) ?_
    | split
    | dsimp only
    | intro _

theorem Dev.pump_kept {M : Nat} {d0 d : Dev} {a1 : _} {a2 : _} (hM : Sub 263233 M) (h : Kept M d0 d) :
    Kept M d0 (Dev.pump a1 a2 d) := by
  induction a2 generalizing d a1 with
  | zero =>
    unfold Dev.pump
    repeat' first
      | with_reducible assumption
      | with_reducible refine Dev.popReq_kept ((hM).mono (by decide)) ?_
      | with_reducible refine Dev.ringSend_kept ((hM).mono (by decide)) ?_
      | split
      | dsimp only
      | intro _
  | succ n ih =>
    unfold Dev.pump
    repeat' first
      | with_reducible refine ih ?_
      | with_reducible assumption
      | with_reducible refine Dev.popReq_kept ((hM).mono (by decide)) ?_
      | with_reducible refine Dev.ringSend_kept ((hM).mono (by decide)) ?_
      | split
      | dsimp only
      | intro _

theorem Dev.pumpAll_kept {M : Nat} {d0 d : Dev} {a1 : _} (hM : Sub 263233 M) (h : Kept M d0 d) :
    Kept M d0 (Dev.pumpAll a1 d) := by
  unfold Dev.pumpAll
  repeat' first
    | with_reducible assumption
    | with_reducible refine Dev.pump_kept ((hM).mono (by decide)) ?_
    | split
    | dsimp only
    | intro _

theorem Dev.enqueue_kept {M : Nat} {d0 d : Dev} {a1 : _} {a2 : _} (hM : Sub 263233 M) (h : Kept M d0 d) :
    Kept M d0 (Dev.enqueue a1 a2 d) := by
  unfold Dev.enqueue
  repeat' first
    | with_reducible assumption
    | with_reducible refine Dev.onNode_kept ((hM).mono (by decide)) ?_
    | with_reducible refine Dev.pumpAll_kept ((hM).mono (by decide)) ?_
    | with_reducible refine Dev.showQueue_kept ((hM).mono (by decide)) ?_
    | with_reducible refine Dev.queueTaken_kept ((hM).mono (by decide)) ?_
    | split
    | dsimp only
    | intro _

theorem Dev.enqueueAll_kept {M : Nat} {d0 d : Dev} {a1 : _} {a2 : _} {a3 : _} {a4 : _} {a5 : _} (hM : Sub 263233 M) (h : Kept M d0 d) :
    Kept M d0 (Dev.enqueueAll a1 a2 a3 a4 a5 d) := by
  unfold Dev.enqueueAll
  repeat' first
    | with_reducible assumption
    | with_reducible refine Kept.each ?_ ?_
    | with_reducible refine Dev.bcastsTaken_kept ((hM).mono (by decide)) ?_
    | with_reducible refine Dev.enqueue_kept ((hM).mono (by decide)) ?_
    | split
    | dsimp only
    | intro _
    | with_reducible refine Kept.lit_drv ((hM).mono (by decide)) ?_

theorem Dev.forgetRead_kept {M : Nat} {d0 d : Dev} {a1 : _} (hM : Sub 262209 M) (h : Kept M d0 d) :
    Kept M d0 (Dev.forgetRead a1 d) := by
  unfold Dev.forgetRead
  repeat' first
    | with_reducible assumption
    | with_reducible refine Dev.put_kept ((hM).mono (by decide)) ?_
    | with_reducible refine Dev.onNode_kept ((hM).mono (by decide)) ?_
    | with_reducible refine Dev.showQueue_kept ((hM).mono (by decide)) ?_
    | with_reducible refine Dev.queueTaken_kept ((hM).mono (by decide)) ?_
    | split
    | dsimp only
    | intro _
    | with_reducible refine Kept.lit_drv ((hM).mono (by decide)) ?_

theorem Dev.readDone_kept {M : Nat} {d0 d : Dev} {a1 : _} {a2 : _} {a3 : _} (hM : Sub 1327681 M) (h : Kept M d0 d) :
    Kept M d0 (Dev.readDone a1 a2 a3 d) := by
  unfold Dev.readDone
  repeat' first
    | with_reducible assumption
    | with_reducible refine Dev.forgetRead_kept ((hM).mono (by decide)) ?_
    | with_reducible refine Dev.onThread_kept ((hM).mono (by decide)) ?_
    | with_reducible refine Dev.emit_kept ((hM).mono (by decide)) ?_
    | with_reducible refine Dev.bridgeLog_kept ((hM).mono (by decide)) ?_
    | with_reducible refine Dev.raise_kept ((hM).mono (by decide)) ?_
    | split
    | dsimp only
    | intro _
    | with_reducible refine Kept.lit_hq ((hM).mono (by decide)) ?_
    | with_reducible refine Kept.lit_mgmt ((hM).mono (by decide)) ?_

theorem Dev.readIssue_kept {M : Nat} {d0 d : Dev} {a1 : _} {a2 : _} {a3 : _} {a4 : _} {a5 : _} (hM : Sub 1328705 M) (h : Kept M d0 d) :
    Kept M d0 (Dev.readIssue a1 a2 a3 a4 a5 d) := by
  unfold Dev.readIssue
  repeat' first
    | with_reducible assumption
    | with_reducible refine Dev.enqueue_kept ((hM).mono (by decide)) ?_
    | with_reducible refine Dev.readDone_kept ((hM).mono (by decide)) ?_
    | split
    | dsimp only
    | intro _
    | with_reducible refine Kept.lit_drv ((hM).mono (by decide)) ?_

theorem Dev.dropHead_kept {M : Nat} {d0 d : Dev} {a1 : _} (hM : Sub 263233 M) (h : Kept M d0 d) :
    Kept M d0 (Dev.dropHead a1 d) := by
  unfold Dev.dropHead
  repeat' first
    | with_reducible assumption
    | with_reducible refine Dev.onNode_kept ((hM).mono (by decide)) ?_
    | with_reducible refine Dev.pumpAll_kept ((hM).mono (by decide)) ?_
    | with_reducible refine Dev.showQueue_kept ((hM).mono (by decide)) ?_
    | with_reducible refine Dev.bcastsTaken_kept ((hM).mono (by decide)) ?_
    | with_reducible refine Dev.queueTaken_kept ((hM).mono (by decide)) ?_
    | split
    | dsimp only
    | intro _

theorem Dev.readSend_kept {M : Nat} {d0 d : Dev} {a1 : _} (hM : Sub 263233 M) (h : Kept M d0 d) :
    Kept M d0 (Dev.readSend a1 d) := by
  unfold Dev.readSend
  repeat' first
    | with_reducible assumption
    | with_reducible refine Dev.dropHead_kept ((hM).mono (by decide)) ?_
    | with_reducible refine Dev.put_kept ((hM).mono (by decide)) ?_
    | with_reducible refine Dev.pumpAll_kept ((hM).mono (by decide)) ?_
    | with_reducible refine Dev.popReq_kept ((hM).mono (by decide)) ?_
    | with_reducible refine Dev.ringSend_kept ((hM).mono (by decide)) ?_
    | split
    | dsimp only
    | intro _
    | with_reducible refine Kept.lit_drv ((hM).mono (by decide)) ?_

theorem Dev.readTimeout_kept {M : Nat} {d0 d : Dev} (hM : Sub 1327681 M) (h : Kept M d0 d) :
    Kept M d0 (Dev.readTimeout d) := by
  unfold Dev.readTimeout
  repeat' first
    | with_reducible assumption
    | with_reducible refine Kept.foldl _ ?_ _ _ ?_
    | with_reducible refine Dev.raise_kept ((hM).mono (by decide)) ?_
    | with_reducible refine Dev.bump_kept ((hM).mono (by decide)) ?_
    | with_reducible refine Dev.readDone_kept ((hM).mono (by decide)) ?_
    | split
    | dsimp only
    | intro _

theorem Dev.writeSend_kept {M : Nat} {d0 d : Dev} {a1 : _} (hM : Sub 263233 M) (h : Kept M d0 d) :
    Kept M d0 (Dev.writeSend a1 d) := by
  unfold Dev.writeSend
  repeat' first
    | with_reducible assumption
    | with_reducible refine Dev.pumpAll_kept ((hM).mono (by decide)) ?_
    | with_reducible refine Dev.popReq_kept ((hM).mono (by decide)) ?_
    | with_reducible refine Dev.ringSend_kept ((hM).mono (by decide)) ?_
    | split
    | dsimp only
    | intro _

theorem Dev.bcastSend_kept {M : Nat} {d0 d : Dev} (hM : Sub 263233 M) (h : Kept M d0 d) :
    Kept M d0 (Dev.bcastSend d) := by
  unfold Dev.bcastSend
  repeat' first
    | with_reducible assumption
    | with_reducible refine Kept.each ?_ ?_
    | with_reducible refine Dev.ringToAll_kept ((hM).mono (by decide)) ?_
    | with_reducible refine Dev.ringJobDone_kept ((hM).mono (by decide)) ?_
    | with_reducible refine Dev.onNode_kept ((hM).mono (by decide)) ?_
    | with_reducible refine Dev.pumpAll_kept ((hM).mono (by decide)) ?_
    | with_reducible refine Dev.showQueue_kept ((hM).mono (by decide)) ?_
    | with_reducible refine Dev.queueTaken_kept ((hM).mono (by decide)) ?_
    | split
    | dsimp only
    | intro _
    | with_reducible refine Kept.lit_drv ((hM).mono (by decide)) ?_

theorem Dev.sendBatch_kept {M : Nat} {d0 d : Dev} {a1 : _} {a2 : _} (hM : Sub 263169 M) (h : Kept M d0 d) :
    Kept M d0 (Dev.sendBatch a1 a2 d) := by
  unfold Dev.sendBatch
  repeat' first
    | with_reducible assumption
    | with_reducible refine Kept.each ?_ ?_
    | with_reducible refine Dev.bump_kept ((hM).mono (by decide)) ?_
    | with_reducible refine Dev.ringSend_kept ((hM).mono (by decide)) ?_
    | split
    | dsimp only
    | intro _

theorem Dev.sendExports_kept {M : Nat} {d0 d : Dev} {a1 : _} {a2 : _} {a3 : _} (hM : Sub 263169 M) (h : Kept M d0 d) :
    Kept M d0 (Dev.sendExports a1 a2 a3 d) := by
  induction a3 generalizing d a1 a2 with
  | zero =>
    unfold Dev.sendExports
    repeat' first
      | with_reducible assumption
      | with_reducible refine Dev.sendBatch_kept ((hM).mono (by decide)) ?_
      | with_reducible refine Dev.onNode_kept ((hM).mono (by decide)) ?_
      | split
      | dsimp only
      | intro _
  | succ n ih =>
    unfold Dev.sendExports
    repeat' first
      | with_reducible refine ih ?_
      | with_reducible assumption
      | with_reducible refine Dev.sendBatch_kept ((hM).mono (by decide)) ?_
      | with_reducible refine Dev.onNode_kept ((hM).mono (by decide)) ?_
      | split
      | dsimp only
      | intro _

theorem Dev.exportMark_kept {M : Nat} {d0 d : Dev} {a1 : _} {a2 : _} (hM : Sub 263169 M) (h : Kept M d0 d) :
    Kept M d0 (Dev.exportMark a1 a2 d) := by
  unfold Dev.exportMark
  repeat' first
    | with_reducible assumption
    | with_reducible refine Dev.bump_kept ((hM).mono (by decide)) ?_
    | with_reducible refine Dev.onNode_kept ((hM).mono (by decide)) ?_
    | with_reducible refine Dev.sendExports_kept ((hM).mono (by decide)) ?_
    | split
    | dsimp only
    | intro _

theorem execExportTimer_kept {a1 : _} {s : State} : KeptX 263169 s (execExportTimer a1 s) := by
  unfold execExportTimer
  repeat' first
    | with_reducible assumption
    | with_reducible refine KeptX.run ?_
    | with_reducible refine Kept.onlyIf ?_ ?_
    | with_reducible refine Dev.sendExports_kept ((Sub.rfl).mono (by decide)) ?_
    | split
    | dsimp only
    | intro _

theorem Dev.dropReq_kept {M : Nat} {d0 d : Dev} {a1 : _} {a2 : _} (hM : Sub 1048641 M) (h : Kept M d0 d) :
    Kept M d0 (Dev.dropReq a1 a2 d) := by
  unfold Dev.dropReq
  repeat' first
    | with_reducible assumption
    | with_reducible refine Dev.ringJobDone_kept ((hM).mono (by decide)) ?_
    | with_reducible refine Dev.raise_kept ((hM).mono (by decide)) ?_
    | with_reducible refine Dev.bump_kept ((hM).mono (by decide)) ?_
    | with_reducible refine Dev.put_kept ((hM).mono (by decide)) ?_
    | split
    | dsimp only
    | intro _

theorem Dev.nodeLeave_kept {M : Nat} {d0 d : Dev} {a1 : _} {a2 : _} {a3 : _} (hM : Sub 1327713 M) (h : Kept M d0 d) :
    Kept M d0 (Dev.nodeLeave a1 a2 a3 d) := by
  unfold Dev.nodeLeave
  repeat' first
    | with_reducible assumption
    | with_reducible refine Kept.each ?_ ?_
    | with_reducible refine Dev.putNodeState_kept ((hM).mono (by decide)) ?_
    | with_reducible refine Dev.readDone_kept ((hM).mono (by decide)) ?_
    | with_reducible refine Dev.dropReq_kept ((hM).mono (by decide)) ?_
    | with_reducible refine Dev.onNode_kept ((hM).mono (by decide)) ?_
    | with_reducible refine Dev.bcastsTaken_kept ((hM).mono (by decide)) ?_
    | with_reducible refine Dev.put_kept ((hM).mono (by decide)) ?_
    | with_reducible refine Dev.showQueue_kept ((hM).mono (by decide)) ?_
    | with_reducible refine Dev.nodeGone_kept ((hM).mono (by decide)) ?_
    | split
    | dsimp only
    | intro _

theorem Dev.offence_kept {M : Nat} {d0 d : Dev} {a1 : _} (hM : Sub 1327713 M) (h : Kept M d0 d) :
    Kept M d0 (Dev.offence a1 d) := by
  unfold Dev.offence
  repeat' first
    | with_reducible assumption
    | with_reducible refine Dev.onNode_kept ((hM).mono (by decide)) ?_
    | with_reducible refine Dev.raise_kept ((hM).mono (by decide)) ?_
    | with_reducible refine Dev.nodeLeave_kept ((hM).mono (by decide)) ?_
    | split
    | dsimp only
    | intro _

theorem Dev.malformed_kept {M : Nat} {d0 d : Dev} {a1 : _} (hM : Sub 1327713 M) (h : Kept M d0 d) :
    Kept M d0 (Dev.malformed a1 d) := by
  unfold Dev.malformed
  repeat' first
    | with_reducible assumption
    | with_reducible refine Dev.offence_kept ((hM).mono (by decide)) ?_
    | with_reducible refine Dev.raise_kept ((hM).mono (by decide)) ?_
    | with_reducible refine Dev.bump_kept ((hM).mono (by decide)) ?_
    | split
    | dsimp only
    | intro _

theorem Dev.quarEnd_kept {M : Nat} {d0 d : Dev} {a1 : _} (hM : Sub 262145 M) (h : Kept M d0 d) :
    Kept M d0 (Dev.quarEnd a1 d) := by
  unfold Dev.quarEnd
  repeat' first
    | with_reducible assumption
    | with_reducible refine Dev.onNode_kept ((hM).mono (by decide)) ?_
    | with_reducible refine Dev.putNodeState_kept ((hM).mono (by decide)) ?_
    | split
    | dsimp only
    | intro _

theorem execQuarantineExpiry_kept {a1 : _} {s : State} : KeptX 262145 s (execQuarantineExpiry a1 s) := by
  unfold execQuarantineExpiry
  repeat' first
    | with_reducible assumption
    | with_reducible refine KeptX.run ?_
    | with_reducible refine Kept.onlyIf ?_ ?_
    | with_reducible refine Dev.quarEnd_kept ((Sub.rfl).mono (by decide)) ?_
    | split
    | dsimp only
    | intro _

theorem execQuarClr_kept {a1 : _} {a2 : _} {s : State} : KeptX 1327617 s (execQuarClr a1 a2 s) := by
  unfold execQuarClr
  repeat' first
    | with_reducible assumption
    | with_reducible refine Kept.onlyIf ?_ ?_
    | with_reducible refine runWrite_kept ?_ ((Sub.rfl).mono (by decide))
    | with_reducible refine Dev.quarEnd_kept ((Sub.rfl).mono (by decide)) ?_
    | split
    | dsimp only
    | intro _

theorem Dev.batchWrite_kept {M : Nat} {d0 d : Dev} {a1 : _} {a2 : _} {a3 : _} (hM : Sub 33 M) (h : Kept M d0 d) :
    Kept M d0 (Dev.batchWrite a1 a2 a3 d) := by
  induction a2 generalizing d a1 a3 with
  | nil =>
    unfold Dev.batchWrite
    repeat' first
      | with_reducible assumption
      | with_reducible refine Dev.bump_kept ((hM).mono (by decide)) ?_
      | with_reducible refine Dev.storeWrite_kept ((hM).mono (by decide)) ?_
      | with_reducible refine Dev.storeRefuse_kept ((hM).mono (by decide)) ?_
      | split
      | dsimp only
      | intro _
  | cons x xs ih =>
    unfold Dev.batchWrite
    repeat' first
      | with_reducible refine ih ?_
      | with_reducible assumption
      | with_reducible refine Dev.bump_kept ((hM).mono (by decide)) ?_
      | with_reducible refine Dev.storeWrite_kept ((hM).mono (by decide)) ?_
      | with_reducible refine Dev.storeRefuse_kept ((hM).mono (by decide)) ?_
      | split
      | dsimp only
      | intro _

theorem Dev.deliver_kept {M : Nat} {d0 d : Dev} {a1 : _} {a2 : _} {a3 : _} (hM : Sub 1458785 M) (h : Kept M d0 d) :
    Kept M d0 (Dev.deliver a1 a2 a3 d) := by
  unfold Dev.deliver
  repeat' first
    | with_reducible assumption
    | with_reducible refine Dev.bump_kept ((hM).mono (by decide)) ?_
    | with_reducible refine Dev.batchWrite_kept ((hM).mono (by decide)) ?_
    | with_reducible refine Dev.readDone_kept ((hM).mono (by decide)) ?_
    | with_reducible refine Dev.onNode_kept ((hM).mono (by decide)) ?_
    | with_reducible refine Dev.swEnter_kept ((hM).mono (by decide)) ?_
    | with_reducible refine Dev.offerRecord_kept ((hM).mono (by decide)) ?_
    | split
    | dsimp only
    | intro _

theorem Dev.deliverRun_kept {M : Nat} {d0 d : Dev} {a1 : _} {a2 : _} {a3 : _} (hM : Sub 1458785 M) (h : Kept M d0 d) :
    Kept M d0 (Dev.deliverRun a1 a2 a3 d) := by
  induction a3 generalizing d a1 a2 with
  | zero =>
    unfold Dev.deliverRun
    repeat' first
      | with_reducible assumption
      | with_reducible refine Dev.onNode_kept ((hM).mono (by decide)) ?_
      | with_reducible refine Dev.deliver_kept ((hM).mono (by decide)) ?_
      | split
      | dsimp only
      | intro _
  | succ n ih =>
    unfold Dev.deliverRun
    repeat' first
      | with_reducible refine ih ?_
      | with_reducible assumption
      | with_reducible refine Dev.onNode_kept ((hM).mono (by decide)) ?_
      | with_reducible refine Dev.deliver_kept ((hM).mono (by decide)) ?_
      | split
      | dsimp only
      | intro _

theorem Dev.inOrder_kept {M : Nat} {d0 d : Dev} {a1 : _} {a2 : _} {a3 : _} {a4 : _} (hM : Sub 1458785 M) (h : Kept M d0 d) :
    Kept M d0 (Dev.inOrder a1 a2 a3 a4 d) := by
  unfold Dev.inOrder
  repeat' first
    | with_reducible assumption
    | with_reducible refine Dev.onNode_kept ((hM).mono (by decide)) ?_
    | with_reducible refine Dev.deliverRun_kept ((hM).mono (by decide)) ?_
    | split
    | dsimp only
    | intro _

theorem Dev.closeGap_kept {M : Nat} {d0 d : Dev} {a1 : _} {a2 : _} (hM : Sub 1458785 M) (h : Kept M d0 d) :
    Kept M d0 (Dev.closeGap a1 a2 d) := by
  unfold Dev.closeGap
  repeat' first
    | with_reducible assumption
    | with_reducible refine Dev.onNode_kept ((hM).mono (by decide)) ?_
    | with_reducible refine Dev.count_kept ((hM).mono (by decide)) ?_
    | with_reducible refine Dev.deliverRun_kept ((hM).mono (by decide)) ?_
    | split
    | dsimp only
    | intro _

theorem execOrderGapTimeout_kept {a1 : _} {s : State} : KeptX 1458785 s (execOrderGapTimeout a1 s) := by
  unfold execOrderGapTimeout
  repeat' first
    | with_reducible assumption
    | with_reducible refine KeptX.run ?_
    | with_reducible refine Kept.onlyIf ?_ ?_
    | with_reducible refine Kept.foldl _ ?_ _ _ ?_
    | with_reducible refine Dev.closeGap_kept ((Sub.rfl).mono (by decide)) ?_
    | split
    | dsimp only
    | intro _

theorem Dev.refillRate_kept {M : Nat} {d0 d : Dev} {a1 : _} (hM : Sub 262144 M) (h : Kept M d0 d) :
    Kept M d0 (Dev.refillRate a1 d) := by
  unfold Dev.refillRate
  repeat' first
    | with_reducible assumption
    | with_reducible refine Dev.onNode_kept ((hM).mono (by decide)) ?_
    | split
    | dsimp only
    | intro _

theorem Dev.drawRate_kept {M : Nat} {d0 d : Dev} {a1 : _} {a2 : _} (hM : Sub 262144 M) (h : Kept M d0 d) :
    KeptP M d0 (Dev.drawRate a1 a2 d) := by
  unfold Dev.drawRate
  repeat' first
    | with_reducible assumption
    | with_reducible refine Dev.refillRate_kept ((hM).mono (by decide)) ?_
    | with_reducible refine Dev.onNode_kept ((hM).mono (by decide)) ?_
    | split
    | dsimp only
    | intro _
    | with_reducible refine KeptP.mk ?_

theorem Dev.rateDiscard_kept {M : Nat} {d0 d : Dev} {a1 : _} (hM : Sub 1327713 M) (h : Kept M d0 d) :
    Kept M d0 (Dev.rateDiscard a1 d) := by
  unfold Dev.rateDiscard
  repeat' first
    | with_reducible assumption
    | with_reducible refine Dev.offence_kept ((hM).mono (by decide)) ?_
    | with_reducible refine Dev.raise_kept ((hM).mono (by decide)) ?_
    | with_reducible refine Dev.bump_kept ((hM).mono (by decide)) ?_
    | split
    | dsimp only
    | intro _

theorem Dev.beaconCopy_kept {M : Nat} {d0 d : Dev} {a1 : _} {a2 : _} {a3 : _} {a4 : _} {a5 : _} (hM : Sub 262145 M) (h : Kept M d0 d) :
    Kept M d0 (Dev.beaconCopy a1 a2 a3 a4 a5 d) := by
  unfold Dev.beaconCopy
  repeat' first
    | with_reducible assumption
    | with_reducible refine Kept.foldl _ ?_ _ _ ?_
    | with_reducible refine Dev.onNode_kept ((hM).mono (by decide)) ?_
    | with_reducible refine Dev.put_kept ((hM).mono (by decide)) ?_
    | split
    | dsimp only
    | intro _

theorem Dev.nodeBeacon_kept {M : Nat} {d0 d : Dev} {a1 : _} {a2 : _} {a3 : _} {a4 : _} {a5 : _} {a6 : _} (hM : Sub 1327713 M) (h : Kept M d0 d) :
    Kept M d0 (Dev.nodeBeacon a1 a2 a3 a4 a5 a6 d) := by
  unfold Dev.nodeBeacon
  repeat' first
    | with_reducible assumption
    | with_reducible refine Dev.bump_kept ((hM).mono (by decide)) ?_
    | with_reducible refine Dev.beaconCopy_kept ((hM).mono (by decide)) ?_
    | with_reducible refine Dev.drawRate_kept ((hM).mono (by decide)) ?_
    | with_reducible refine Dev.onNode_kept ((hM).mono (by decide)) ?_
    | with_reducible refine Dev.rateDiscard_kept ((hM).mono (by decide)) ?_
    | with_reducible refine Dev.malformed_kept ((hM).mono (by decide)) ?_
    | with_reducible refine Dev.put_kept ((hM).mono (by decide)) ?_
    | refine KeptP.of_eq (by assumption) ?_
    | with_reducible refine KeptP.snd ?_
    | split
    | dsimp only
    | intro _
    | with_reducible refine KeptP.mk ?_

theorem Dev.joinEnds_kept {M : Nat} {d0 d : Dev} {a1 : _} {a2 : _} (hM : Sub 1048577 M) (h : Kept M d0 d) :
    Kept M d0 (Dev.joinEnds a1 a2 d) := by
  unfold Dev.joinEnds
  repeat' first
    | with_reducible assumption
    | with_reducible refine Dev.raise_kept ((hM).mono (by decide)) ?_
    | with_reducible refine Dev.put_kept ((hM).mono (by decide)) ?_
    | with_reducible refine Dev.bump_kept ((hM).mono (by decide)) ?_
    | with_reducible refine Dev.putNodeState_kept ((hM).mono (by decide)) ?_
    | split
    | dsimp only
    | intro _

theorem Dev.sendJoin_kept {M : Nat} {d0 d : Dev} {a1 : _} {a2 : _} {a3 : _} (hM : Sub 1024 M) (h : Kept M d0 d) :
    Kept M d0 (Dev.sendJoin a1 a2 a3 d) := by
  unfold Dev.sendJoin
  repeat' first
    | with_reducible assumption
    | with_reducible refine Dev.randomBytes_kept ((hM).mono (by decide)) ?_
    | with_reducible refine Dev.ringToAll_kept ((hM).mono (by decide)) ?_
    | refine KeptP.of_eq (by assumption) ?_
    | with_reducible refine KeptP.snd ?_
    | split
    | dsimp only
    | intro _
    | with_reducible refine KeptP.mk ?_

theorem Dev.joinReject_kept {M : Nat} {d0 d : Dev} {a1 : _} {a2 : _} {a3 : _} (hM : Sub 1311745 M) (h : Kept M d0 d) :
    Kept M d0 (Dev.joinReject a1 a2 a3 d) := by
  unfold Dev.joinReject
  repeat' first
    | with_reducible assumption
    | with_reducible refine Dev.sendJoin_kept ((hM).mono (by decide)) ?_
    | with_reducible refine Dev.joinEnds_kept ((hM).mono (by decide)) ?_
    | split
    | dsimp only
    | intro _
    | with_reducible refine Kept.lit_drv ((hM).mono (by decide)) ?_

theorem Dev.joinHello_kept {M : Nat} {d0 d : Dev} {a1 : _} (hM : Sub 1311745 M) (h : Kept M d0 d) :
    Kept M d0 (Dev.joinHello a1 d) := by
  unfold Dev.joinHello
  repeat' first
    | with_reducible assumption
    | with_reducible refine Dev.joinReject_kept ((hM).mono (by decide)) ?_
    | with_reducible refine Dev.bump_kept ((hM).mono (by decide)) ?_
    | with_reducible refine Dev.put_kept ((hM).mono (by decide)) ?_
    | with_reducible refine Dev.putNodeState_kept ((hM).mono (by decide)) ?_
    | split
    | dsimp only
    | intro _
    | with_reducible refine Kept.lit_drv ((hM).mono (by decide)) ?_

theorem Dev.joinFrame_kept {M : Nat} {d0 d : Dev} {a1 : _} {a2 : _} (hM : Sub 1328737 M) (h : Kept M d0 d) :
    Kept M d0 (Dev.joinFrame a1 a2 d) := by
  unfold Dev.joinFrame
  repeat' first
    | with_reducible assumption
    | with_reducible refine Dev.joinHello_kept ((hM).mono (by decide)) ?_
    | with_reducible refine Dev.malformed_kept ((hM).mono (by decide)) ?_
    | split
    | dsimp only
    | intro _
    | with_reducible refine Kept.lit_drv ((hM).mono (by decide)) ?_

theorem execJoinChallenge_kept {s : State} : KeptX 1311745 s (execJoinChallenge s) := by
  unfold execJoinChallenge
  repeat' first
    | with_reducible assumption
    | with_reducible refine KeptX.run ?_
    | with_reducible refine Kept.onlyIf ?_ ?_
    | with_reducible refine Dev.put_kept ((Sub.rfl).mono (by decide)) ?_
    | with_reducible refine Dev.joinReject_kept ((Sub.rfl).mono (by decide)) ?_
    | with_reducible refine Dev.joinEnds_kept ((Sub.rfl).mono (by decide)) ?_
    | with_reducible refine Dev.randomBytes_kept ((Sub.rfl).mono (by decide)) ?_
    | with_reducible refine Dev.sendJoin_kept ((Sub.rfl).mono (by decide)) ?_
    | refine KeptP.of_eq (by assumption) ?_
    | with_reducible refine KeptP.snd ?_
    | split
    | dsimp only
    | intro _
    | with_reducible refine Kept.lit_drv ((Sub.rfl).mono (by decide)) ?_
    | with_reducible refine KeptP.mk ?_

theorem execJoinResponseTimeout_kept {s : State} : KeptX 1310721 s (execJoinResponseTimeout s) := by
  unfold execJoinResponseTimeout
  repeat' first
    | with_reducible assumption
    | with_reducible refine KeptX.run ?_
    | with_reducible refine Kept.onlyIf ?_ ?_
    | with_reducible refine Dev.joinEnds_kept ((Sub.rfl).mono (by decide)) ?_
    | split
    | dsimp only
    | intro _
    | with_reducible refine Kept.lit_drv ((Sub.rfl).mono (by decide)) ?_

theorem Dev.assign_kept {M : Nat} {d0 d : Dev} {a1 : _} {a2 : _} (hM : Sub 1328737 M) (h : Kept M d0 d) :
    Kept M d0 (Dev.assign a1 a2 d) := by
  unfold Dev.assign
  repeat' first
    | with_reducible assumption
    | with_reducible refine Dev.nodeLeave_kept ((hM).mono (by decide)) ?_
    | with_reducible refine Dev.onNode_kept ((hM).mono (by decide)) ?_
    | with_reducible refine Dev.put_kept ((hM).mono (by decide)) ?_
    | with_reducible refine Dev.putNodeState_kept ((hM).mono (by decide)) ?_
    | with_reducible refine Dev.randomBytes_kept ((hM).mono (by decide)) ?_
    | with_reducible refine Dev.nodeRejoin_kept ((hM).mono (by decide)) ?_
    | with_reducible refine Dev.sendJoin_kept ((hM).mono (by decide)) ?_
    | with_reducible refine Dev.sendExports_kept ((hM).mono (by decide)) ?_
    | refine KeptP.of_eq (by assumption) ?_
    | with_reducible refine KeptP.snd ?_
    | split
    | dsimp only
    | intro _
    | with_reducible refine KeptP.mk ?_

theorem execJoinVerifyDone_kept {a1 : _} {s : State} : KeptX 1328737 s (execJoinVerifyDone a1 s) := by
  unfold execJoinVerifyDone
  repeat' first
    | with_reducible assumption
    | with_reducible refine KeptX.run ?_
    | with_reducible refine Kept.onlyIf ?_ ?_
    | with_reducible refine Dev.joinReject_kept ((Sub.rfl).mono (by decide)) ?_
    | with_reducible refine Dev.verifyJob_kept ((Sub.rfl).mono (by decide)) ?_
    | with_reducible refine Dev.assign_kept ((Sub.rfl).mono (by decide)) ?_
    | refine KeptP.of_eq (by assumption) ?_
    | with_reducible refine KeptP.snd ?_
    | split
    | dsimp only
    | intro _
    | with_reducible refine Kept.lit_drv ((Sub.rfl).mono (by decide)) ?_
    | with_reducible refine KeptP.mk ?_

theorem Dev.ringReturn_kept {M : Nat} {d0 d : Dev} {a1 : _} {a2 : _} {a3 : _} {a4 : _} {a5 : _} (hM : Sub 262145 M) (h : Kept M d0 d) :
    Kept M d0 (Dev.ringReturn a1 a2 a3 a4 a5 d) := by
  unfold Dev.ringReturn
  repeat' first
    | with_reducible assumption
    | with_reducible refine Dev.put_kept ((hM).mono (by decide)) ?_
    | split
    | dsimp only
    | intro _
    | with_reducible refine Kept.lit_drv ((hM).mono (by decide)) ?_

theorem Dev.takeCredit_kept {M : Nat} {d0 d : Dev} {a1 : _} {a2 : _} (hM : Sub 263233 M) (h : Kept M d0 d) :
    Kept M d0 (Dev.takeCredit a1 a2 d) := by
  unfold Dev.takeCredit
  repeat' first
    | with_reducible assumption
    | with_reducible refine Dev.pumpAll_kept ((hM).mono (by decide)) ?_
    | with_reducible refine Dev.onNode_kept ((hM).mono (by decide)) ?_
    | split
    | dsimp only
    | intro _

theorem Dev.memberJoin_kept {M : Nat} {d0 d : Dev} {a1 : _} {a2 : _} {a3 : _} {a4 : _} (hM : Sub 1328737 M) (h : Kept M d0 d) :
    Kept M d0 (Dev.memberJoin a1 a2 a3 a4 d) := by
  unfold Dev.memberJoin
  repeat' first
    | with_reducible assumption
    | with_reducible refine Dev.takeCredit_kept ((hM).mono (by decide)) ?_
    | with_reducible refine Dev.drawRate_kept ((hM).mono (by decide)) ?_
    | with_reducible refine Dev.joinFrame_kept ((hM).mono (by decide)) ?_
    | with_reducible refine Dev.rateDiscard_kept ((hM).mono (by decide)) ?_
    | refine KeptP.of_eq (by assumption) ?_
    | with_reducible refine KeptP.snd ?_
    | split
    | dsimp only
    | intro _
    | with_reducible refine KeptP.mk ?_

theorem Dev.memberFrame_kept {M : Nat} {d0 d : Dev} {a1 : _} {a2 : _} {a3 : _} {a4 : _} {a5 : _} {a6 : _} {a7 : _} {a8 : _} {a9 : _} {a10 : _} {a11 : _} {a12 : _} (hM : Sub 1459809 M) (h : Kept M d0 d) :
    Kept M d0 (Dev.memberFrame a1 a2 a3 a4 a5 a6 a7 a8 a9 a10 a11 a12 d) := by
  unfold Dev.memberFrame
  repeat' first
    | with_reducible assumption
    | with_reducible refine Dev.ringMac_kept ((hM).mono (by decide)) ?_
    | with_reducible refine Dev.offence_kept ((hM).mono (by decide)) ?_
    | with_reducible refine Dev.raise_kept ((hM).mono (by decide)) ?_
    | with_reducible refine Dev.bump_kept ((hM).mono (by decide)) ?_
    | with_reducible refine Dev.takeCredit_kept ((hM).mono (by decide)) ?_
    | with_reducible refine Dev.nodeBeacon_kept ((hM).mono (by decide)) ?_
    | with_reducible refine Dev.onNode_kept ((hM).mono (by decide)) ?_
    | with_reducible refine Dev.closeGap_kept ((hM).mono (by decide)) ?_
    | with_reducible refine Dev.drawRate_kept ((hM).mono (by decide)) ?_
    | with_reducible refine Dev.rateDiscard_kept ((hM).mono (by decide)) ?_
    | with_reducible refine Dev.inOrder_kept ((hM).mono (by decide)) ?_
    | with_reducible refine Dev.malformed_kept ((hM).mono (by decide)) ?_
    | refine KeptP.of_eq (by assumption) ?_
    | with_reducible refine KeptP.snd ?_
    | split
    | dsimp only
    | intro _
    | with_reducible refine KeptP.mk ?_

theorem Dev.ringReceive_kept {M : Nat} {d0 d : Dev} {a1 : _} {a2 : _} {a3 : _} {a4 : _} {a5 : _} {a6 : _} (hM : Sub 1459809 M) (h : Kept M d0 d) :
    Kept M d0 (Dev.ringReceive a1 a2 a3 a4 a5 a6 d) := by
  unfold Dev.ringReceive
  repeat' first
    | with_reducible assumption
    | with_reducible refine Dev.bump_kept ((hM).mono (by decide)) ?_
    | with_reducible refine Dev.malformed_kept ((hM).mono (by decide)) ?_
    | with_reducible refine Dev.ringReturn_kept ((hM).mono (by decide)) ?_
    | with_reducible refine Dev.joinFrame_kept ((hM).mono (by decide)) ?_
    | with_reducible refine Dev.memberJoin_kept ((hM).mono (by decide)) ?_
    | with_reducible refine Dev.memberFrame_kept ((hM).mono (by decide)) ?_
    | split
    | dsimp only
    | intro _

theorem Dev.sendBeacon_kept {M : Nat} {d0 d : Dev} {a1 : _} {a2 : _} (hM : Sub 1024 M) (h : Kept M d0 d) :
    Kept M d0 (Dev.sendBeacon a1 a2 d) := by
  unfold Dev.sendBeacon
  repeat' first
    | with_reducible assumption
    | with_reducible refine Dev.ringToAll_kept ((hM).mono (by decide)) ?_
    | split
    | dsimp only
    | intro _

theorem Dev.checkMember_kept {M : Nat} {d0 d : Dev} {a1 : _} {a2 : _} (hM : Sub 1327713 M) (h : Kept M d0 d) :
    Kept M d0 (Dev.checkMember a1 a2 d) := by
  unfold Dev.checkMember
  repeat' first
    | with_reducible assumption
    | with_reducible refine Dev.onNode_kept ((hM).mono (by decide)) ?_
    | with_reducible refine Dev.put_kept ((hM).mono (by decide)) ?_
    | with_reducible refine Dev.raise_kept ((hM).mono (by decide)) ?_
    | with_reducible refine Dev.nodeLeave_kept ((hM).mono (by decide)) ?_
    | split
    | dsimp only
    | intro _

theorem Dev.putBreak_kept {M : Nat} {d0 d : Dev} (hM : Sub 1 M) (h : Kept M d0 d) :
    Kept M d0 (Dev.putBreak d) := by
  unfold Dev.putBreak
  repeat' first
    | with_reducible assumption
    | with_reducible refine Kept.foldl _ ?_ _ _ ?_
    | with_reducible refine Dev.put_kept ((hM).mono (by decide)) ?_
    | split
    | dsimp only
    | intro _

theorem Dev.checkRing_kept {M : Nat} {d0 d : Dev} {a1 : _} (hM : Sub 1332745 M) (h : Kept M d0 d) :
    Kept M d0 (Dev.checkRing a1 d) := by
  unfold Dev.checkRing
  repeat' first
    | with_reducible assumption
    | with_reducible refine Dev.declareLoss_kept ((hM).mono (by decide)) ?_
    | with_reducible refine Dev.raise_kept ((hM).mono (by decide)) ?_
    | with_reducible refine Dev.putBreak_kept ((hM).mono (by decide)) ?_
    | with_reducible refine Dev.putFlag_kept ((hM).mono (by decide)) ?_
    | with_reducible refine Dev.clearLoss_kept ((hM).mono (by decide)) ?_
    | split
    | dsimp only
    | intro _
    | with_reducible refine Kept.lit_drv ((hM).mono (by decide)) ?_

theorem Dev.ringCycle_kept {M : Nat} {d0 d : Dev} (hM : Sub 1332841 M) (h : Kept M d0 d) :
    Kept M d0 (Dev.ringCycle d) := by
  unfold Dev.ringCycle
  repeat' first
    | with_reducible assumption
    | with_reducible refine Kept.each ?_ ?_
    | with_reducible refine Dev.checkRing_kept ((hM).mono (by decide)) ?_
    | with_reducible refine Dev.checkMember_kept ((hM).mono (by decide)) ?_
    | with_reducible refine Dev.pumpAll_kept ((hM).mono (by decide)) ?_
    | with_reducible refine Dev.sendBeacon_kept ((hM).mono (by decide)) ?_
    | with_reducible refine Dev.put_kept ((hM).mono (by decide)) ?_
    | split
    | dsimp only
    | intro _
    | with_reducible refine Kept.lit_drv ((hM).mono (by decide)) ?_

theorem Dev.laneTaken_kept {M : Nat} {d0 d : Dev} {a1 : _} (hM : Sub 1048577 M) (h : Kept M d0 d) :
    Kept M d0 (Dev.laneTaken a1 d) := by
  unfold Dev.laneTaken
  repeat' first
    | with_reducible assumption
    | with_reducible refine Dev.putFlag_kept ((hM).mono (by decide)) ?_
    | with_reducible refine Dev.raise_kept ((hM).mono (by decide)) ?_
    | with_reducible refine Dev.bump_kept ((hM).mono (by decide)) ?_
    | split
    | dsimp only
    | intro _

theorem Dev.laneLink_kept {M : Nat} {d0 d : Dev} {a1 : _} {a2 : _} (hM : Sub 1050625 M) (h : Kept M d0 d) :
    Kept M d0 (Dev.laneLink a1 a2 d) := by
  unfold Dev.laneLink
  repeat' first
    | with_reducible assumption
    | with_reducible refine Kept.onlyIf ?_ ?_
    | with_reducible refine Dev.retrained_kept ((hM).mono (by decide)) ?_
    | with_reducible refine Dev.laneTaken_kept ((hM).mono (by decide)) ?_
    | with_reducible refine Dev.crossWrite_kept ((hM).mono (by decide)) ?_
    | with_reducible refine Dev.halfResetStart_kept ((hM).mono (by decide)) ?_
    | split
    | dsimp only
    | intro _

theorem execLaneLinkChange_kept {a1 : _} {a2 : _} {s : State} : KeptX 1050625 s (execLaneLinkChange a1 a2 s) := by
  unfold execLaneLinkChange
  repeat' first
    | with_reducible assumption
    | with_reducible refine KeptX.run ?_
    | with_reducible refine Kept.onlyIf ?_ ?_
    | with_reducible refine Dev.laneLink_kept ((Sub.rfl).mono (by decide)) ?_
    | split
    | dsimp only
    | intro _

theorem Dev.ringEntry_kept {M : Nat} {d0 d : Dev} (hM : Sub 264193 M) (h : Kept M d0 d) :
    Kept M d0 (Dev.ringEntry d) := by
  unfold Dev.ringEntry
  repeat' first
    | with_reducible assumption
    | with_reducible refine Kept.each ?_ ?_
    | with_reducible refine Dev.onCrossing_kept ((hM).mono (by decide)) ?_
    | with_reducible refine Dev.wr_kept ((hM).mono (by decide)) ?_
    | with_reducible refine Dev.put_kept ((hM).mono (by decide)) ?_
    | with_reducible refine Dev.draw_kept ((hM).mono (by decide)) ?_
    | with_reducible refine Dev.onNode_kept ((hM).mono (by decide)) ?_
    | refine KeptP.of_eq (by assumption) ?_
    | with_reducible refine KeptP.snd ?_
    | split
    | dsimp only
    | intro _
    | with_reducible refine Kept.lit_drv ((hM).mono (by decide)) ?_
    | with_reducible refine KeptP.mk ?_

theorem Dev.ringStop_kept {M : Nat} {d0 d : Dev} (hM : Sub 1329761 M) (h : Kept M d0 d) :
    Kept M d0 (Dev.ringStop d) := by
  unfold Dev.ringStop
  repeat' first
    | with_reducible assumption
    | with_reducible refine Kept.each ?_ ?_
    | with_reducible refine Dev.nodeLeave_kept ((hM).mono (by decide)) ?_
    | with_reducible refine Dev.putNodeState_kept ((hM).mono (by decide)) ?_
    | with_reducible refine Dev.put_kept ((hM).mono (by decide)) ?_
    | with_reducible refine Dev.putFlag_kept ((hM).mono (by decide)) ?_
    | with_reducible refine Dev.onCrossing_kept ((hM).mono (by decide)) ?_
    | split
    | dsimp only
    | intro _
    | with_reducible refine Kept.lit_drv ((hM).mono (by decide)) ?_

theorem Dev.ringDoze_kept {M : Nat} {d0 d : Dev} (hM : Sub 1330785 M) (h : Kept M d0 d) :
    Kept M d0 (Dev.ringDoze d) := by
  unfold Dev.ringDoze
  repeat' first
    | with_reducible assumption
    | with_reducible refine Dev.ringStop_kept ((hM).mono (by decide)) ?_
    | with_reducible refine Dev.sendBeacon_kept ((hM).mono (by decide)) ?_
    | split
    | dsimp only
    | intro _

theorem Dev.tunnelOut_kept {M : Nat} {d0 d : Dev} {a1 : _} {a2 : _} (hM : Sub 263233 M) (h : Kept M d0 d) :
    KeptP M d0 (Dev.tunnelOut a1 a2 d) := by
  unfold Dev.tunnelOut
  repeat' first
    | with_reducible assumption
    | with_reducible refine Dev.bump_kept ((hM).mono (by decide)) ?_
    | with_reducible refine Dev.enqueue_kept ((hM).mono (by decide)) ?_
    | split
    | dsimp only
    | intro _
    | with_reducible refine KeptP.mk ?_

end Sys2Proof.Machine
end

