-- ==== Sys2Proof/Laws/KeptActions.lean ====
section
/-! SUPPORT. What the operations and commands of Machine/Actions.lean keep (`Kept`): the parts each changes, and the canonical form. -/

set_option Elab.async false

namespace Sys2Proof.Machine

theorem Dev.fireAction_kept {M : Nat} {d0 d : Dev} {a1 : _} (hM : Sub 1048577 M) (h : Kept M d0 d) :
    Kept M d0 (Dev.fireAction a1 d) := by
  unfold Dev.fireAction
  repeat' first
    | with_reducible assumption
    | with_reducible refine Dev.putFlag_kept ((hM).mono (by decide)) ?_
    | with_reducible refine Dev.putPair_kept ((hM).mono (by decide)) ?_
    | with_reducible refine Dev.raiseN_kept ((hM).mono (by decide)) ?_
    | with_reducible refine Dev.put_kept ((hM).mono (by decide)) ?_
    | with_reducible refine Dev.count_kept ((hM).mono (by decide)) ?_
    | split
    | dsimp only
    | intro _

theorem Dev.lateAction_kept {M : Nat} {d0 d : Dev} {a1 : _} (hM : Sub 1048577 M) (h : Kept M d0 d) :
    Kept M d0 (Dev.lateAction a1 d) := by
  unfold Dev.lateAction
  repeat' first
    | with_reducible assumption
    | with_reducible refine Dev.raise_kept ((hM).mono (by decide)) ?_
    | with_reducible refine Dev.put_kept ((hM).mono (by decide)) ?_
    | with_reducible refine Dev.bump_kept ((hM).mono (by decide)) ?_
    | split
    | dsimp only
    | intro _

theorem Dev.dioAction_kept {M : Nat} {d0 d : Dev} {a1 : _} {a2 : _} {a3 : _} {a4 : _} (hM : Sub 257 M) (h : Kept M d0 d) :
    Kept M d0 (Dev.dioAction a1 a2 a3 a4 d) := by
  unfold Dev.dioAction
  repeat' first
    | with_reducible assumption
    | with_reducible refine Dev.noteActed_kept ((hM).mono (by decide)) ?_
    | with_reducible refine Dev.putDioOut_kept ((hM).mono (by decide)) ?_
    | with_reducible refine Dev.endPulse_kept ((hM).mono (by decide)) ?_
    | with_reducible refine Dev.startPulse_kept ((hM).mono (by decide)) ?_
    | split
    | dsimp only
    | intro _

theorem Dev.ringAction_kept {M : Nat} {d0 d : Dev} {a1 : _} {a2 : _} {a3 : _} {a4 : _} (hM : Sub 263233 M) (h : Kept M d0 d) :
    KeptP M d0 (Dev.ringAction a1 a2 a3 a4 d) := by
  unfold Dev.ringAction
  repeat' first
    | with_reducible assumption
    | with_reducible refine Dev.put_kept ((hM).mono (by decide)) ?_
    | with_reducible refine Dev.bump_kept ((hM).mono (by decide)) ?_
    | with_reducible refine Dev.enqueue_kept ((hM).mono (by decide)) ?_
    | split
    | dsimp only
    | intro _
    | with_reducible refine KeptP.mk ?_

theorem Dev.actionEffect_kept {M : Nat} {d0 d : Dev} {a1 : _} {a2 : _} {a3 : _} (hM : Sub 1410369 M) (h : Kept M d0 d) :
    KeptP M d0 (Dev.actionEffect a1 a2 a3 d) := by
  unfold Dev.actionEffect
  repeat' first
    | with_reducible assumption
    | with_reducible refine Dev.dioAction_kept ((hM).mono (by decide)) ?_
    | with_reducible refine Dev.loadAction_kept ((hM).mono (by decide)) ?_
    | with_reducible refine Dev.canStep_kept ((hM).mono (by decide)) ?_
    | with_reducible refine Dev.ringAction_kept ((hM).mono (by decide)) ?_
    | with_reducible refine Dev.postEvent_kept ((hM).mono (by decide)) ?_
    | refine KeptP.of_eq (by assumption) ?_
    | with_reducible refine KeptP.snd ?_
    | split
    | dsimp only
    | intro _
    | with_reducible refine KeptP.mk ?_

theorem Dev.dispatch_kept {M : Nat} {d0 d : Dev} {a1 : _} (hM : Sub 1410369 M) (h : Kept M d0 d) :
    Kept M d0 (Dev.dispatch a1 d) := by
  unfold Dev.dispatch
  repeat' first
    | with_reducible assumption
    | with_reducible refine Dev.onPhDom_kept ((hM).mono (by decide)) ?_
    | with_reducible refine Dev.fireAction_kept ((hM).mono (by decide)) ?_
    | with_reducible refine Dev.bump_kept ((hM).mono (by decide)) ?_
    | with_reducible refine Dev.put_kept ((hM).mono (by decide)) ?_
    | with_reducible refine Dev.actionEffect_kept ((hM).mono (by decide)) ?_
    | with_reducible refine Dev.lateAction_kept ((hM).mono (by decide)) ?_
    | refine KeptP.of_eq (by assumption) ?_
    | with_reducible refine KeptP.snd ?_
    | split
    | dsimp only
    | intro _
    | with_reducible refine KeptP.mk ?_

theorem execActionDispatch_kept {a1 : _} {s : State} : KeptX 1410369 s (execActionDispatch a1 s) := by
  unfold execActionDispatch
  repeat' first
    | with_reducible assumption
    | with_reducible refine KeptX.run ?_
    | with_reducible refine Kept.onlyIf ?_ ?_
    | with_reducible refine Kept.each ?_ ?_
    | with_reducible refine Dev.dispatch_kept ((Sub.rfl).mono (by decide)) ?_
    | split
    | dsimp only
    | intro _

theorem execDcmdSend_kept {a1 : _} {s : State} : KeptX 1311809 s (execDcmdSend a1 s) := by
  unfold execDcmdSend
  repeat' first
    | with_reducible assumption
    | with_reducible refine KeptX.run ?_
    | with_reducible refine Kept.onlyIf ?_ ?_
    | with_reducible refine Dev.ringAction_kept ((Sub.rfl).mono (by decide)) ?_
    | with_reducible refine Dev.fireAction_kept ((Sub.rfl).mono (by decide)) ?_
    | with_reducible refine Dev.bump_kept ((Sub.rfl).mono (by decide)) ?_
    | with_reducible refine Dev.lateAction_kept ((Sub.rfl).mono (by decide)) ?_
    | refine KeptP.of_eq (by assumption) ?_
    | with_reducible refine KeptP.snd ?_
    | split
    | dsimp only
    | intro _
    | with_reducible refine KeptP.mk ?_

theorem execPulseEnd_kept {a1 : _} {a2 : _} {s : State} : KeptX 1103625 s (execPulseEnd a1 a2 s) := by
  unfold execPulseEnd
  repeat' first
    | with_reducible assumption
    | with_reducible refine KeptX.run ?_
    | with_reducible refine Kept.onlyIf ?_ ?_
    | with_reducible refine Dev.loadPulseEnd_kept ((Sub.rfl).mono (by decide)) ?_
    | with_reducible refine Dev.putDioOut_kept ((Sub.rfl).mono (by decide)) ?_
    | with_reducible refine Dev.endPulse_kept ((Sub.rfl).mono (by decide)) ?_
    | split
    | dsimp only
    | intro _

theorem Dev.routeDeliver_kept {M : Nat} {d0 d : Dev} {a1 : _} (hM : Sub 1312577 M) (h : Kept M d0 d) :
    Kept M d0 (Dev.routeDeliver a1 d) := by
  unfold Dev.routeDeliver
  repeat' first
    | with_reducible assumption
    | with_reducible refine Dev.postEvent_kept ((hM).mono (by decide)) ?_
    | with_reducible refine Dev.offerRecord_kept ((hM).mono (by decide)) ?_
    | with_reducible refine Dev.exportMark_kept ((hM).mono (by decide)) ?_
    | with_reducible refine Dev.onPhDom_kept ((hM).mono (by decide)) ?_
    | with_reducible refine Dev.recEnqueue_kept ((hM).mono (by decide)) ?_
    | split
    | dsimp only
    | intro _

theorem execRouteEventDelivery_kept {s : State} : KeptX 1312609 s (execRouteEventDelivery s) := by
  unfold execRouteEventDelivery
  repeat' first
    | with_reducible assumption
    | exact fun c => (Dev.Canonical.slots c : _)
    | exact fun c => (Dev.Canonical.keys c)
    | exact fun c => (Dev.Canonical.regs c)
    | exact fun c => Tab.wf_drop _ _ (Dev.Canonical.slots c)
    | exact fun c => Tab.wf_set _ _ _ (Dev.Canonical.slots c)
    | exact fun c => Tab.wf_set _ _ _ (Dev.Canonical.keys c)
    | exact fun c => Tab.wf_set _ _ _ (Dev.Canonical.regs c)
    | exact fun c => Tab.wf_drop _ _ (Dev.Canonical.regs c)
    | exact fun c => Tab.wf_set _ _ _ (Dev.Canonical.settings c)
    | exact fun _ => rfl
    | with_reducible refine KeptX.run ?_
    | with_reducible refine Dev.routeDeliver_kept ((Sub.rfl).mono (by decide)) ?_
    | split
    | dsimp only
    | intro _
    | with_reducible refine Kept.lit_store ((Sub.rfl).mono (by decide)) ?_ ?_

end Sys2Proof.Machine
end

