-- ==== Sys2Proof/Laws/KeptQueue.lean ====
section
/-! SUPPORT. What the operations and commands of Machine/Queue.lean keep (`Kept`): the parts each changes, and the canonical form. -/

set_option Elab.async false

namespace Sys2Proof.Machine

theorem Dev.queueCode_kept {M : Nat} {d0 d : Dev} {a1 : _} {a2 : _} (hM : Sub 1 M) (h : Kept M d0 d) :
    Kept M d0 (Dev.queueCode a1 a2 d) := by
  unfold Dev.queueCode
  repeat' first
    | with_reducible assumption
    | with_reducible refine Dev.put_kept ((hM).mono (by decide)) ?_
    | split
    | dsimp only
    | intro _

theorem Dev.post_kept {M : Nat} {d0 d : Dev} {a1 : _} {a2 : _} (hM : Sub 512 M) (h : Kept M d0 d) :
    Kept M d0 (Dev.post a1 a2 d) := by
  unfold Dev.post
  repeat' first
    | with_reducible assumption
    | with_reducible refine Kept.foldl _ ?_ _ _ ?_
    | with_reducible refine Dev.emit_kept ((hM).mono (by decide)) ?_
    | split
    | dsimp only
    | intro _
    | with_reducible refine Kept.lit_hq ((hM).mono (by decide)) ?_

theorem Dev.postAll_kept {M : Nat} {d0 d : Dev} {a1 : _} {a2 : _} (hM : Sub 512 M) (h : Kept M d0 d) :
    Kept M d0 (Dev.postAll a1 a2 d) := by
  induction a2 generalizing d a1 with
  | nil =>
    unfold Dev.postAll
    repeat' first
      | with_reducible assumption
      | with_reducible refine Dev.post_kept ((hM).mono (by decide)) ?_
      | split
      | dsimp only
      | intro _
  | cons x xs ih =>
    unfold Dev.postAll
    repeat' first
      | with_reducible refine ih ?_
      | with_reducible assumption
      | with_reducible refine Dev.post_kept ((hM).mono (by decide)) ?_
      | split
      | dsimp only
      | intro _

theorem Dev.postBytes_kept {M : Nat} {d0 d : Dev} {a1 : _} {a2 : _} (hM : Sub 512 M) (h : Kept M d0 d) :
    Kept M d0 (Dev.postBytes a1 a2 d) := by
  unfold Dev.postBytes
  repeat' first
    | with_reducible assumption
    | with_reducible refine Dev.postAll_kept ((hM).mono (by decide)) ?_
    | split
    | dsimp only
    | intro _

theorem Dev.ringWrite_kept {M : Nat} {d0 d : Dev} {a1 : _} {a2 : _} {a3 : _} (hM : Sub 512 M) (h : Kept M d0 d) :
    Kept M d0 (Dev.ringWrite a1 a2 a3 d) := by
  unfold Dev.ringWrite
  repeat' first
    | with_reducible assumption
    | with_reducible refine Dev.postBytes_kept ((hM).mono (by decide)) ?_
    | split
    | dsimp only
    | intro _

theorem Dev.writeBlock_kept {M : Nat} {d0 d : Dev} {a1 : _} (hM : Sub 512 M) (h : Kept M d0 d) :
    Kept M d0 (Dev.writeBlock a1 d) := by
  unfold Dev.writeBlock
  repeat' first
    | with_reducible assumption
    | with_reducible refine Dev.onQueue_kept ((hM).mono (by decide)) ?_
    | with_reducible refine Dev.post_kept ((hM).mono (by decide)) ?_
    | split
    | dsimp only
    | intro _

theorem Dev.wmAnnounce_kept {M : Nat} {d0 d : Dev} {a1 : _} {a2 : _} (hM : Sub 513 M) (h : Kept M d0 d) :
    Kept M d0 (Dev.wmAnnounce a1 a2 d) := by
  unfold Dev.wmAnnounce
  repeat' first
    | with_reducible assumption
    | with_reducible refine Kept.onlyIf ?_ ?_
    | with_reducible refine Dev.sysRecord_kept ((hM).mono (by decide)) ?_
    | with_reducible refine Dev.queueCause_kept ((hM).mono (by decide)) ?_
    | split
    | dsimp only
    | intro _

theorem Dev.writeback_kept {M : Nat} {d0 d : Dev} {a1 : _} (hM : Sub 513 M) (h : Kept M d0 d) :
    Kept M d0 (Dev.writeback a1 d) := by
  unfold Dev.writeback
  repeat' first
    | with_reducible assumption
    | with_reducible refine Kept.each ?_ ?_
    | with_reducible refine Dev.wmAnnounce_kept ((hM).mono (by decide)) ?_
    | with_reducible refine Dev.onQueue_kept ((hM).mono (by decide)) ?_
    | with_reducible refine Dev.writeBlock_kept ((hM).mono (by decide)) ?_
    | split
    | dsimp only
    | intro _

theorem Dev.fillTo_kept {M : Nat} {d0 d : Dev} {a1 : _} {a2 : _} (hM : Sub 513 M) (h : Kept M d0 d) :
    Kept M d0 (Dev.fillTo a1 a2 d) := by
  unfold Dev.fillTo
  repeat' first
    | with_reducible assumption
    | with_reducible refine Dev.peak_kept ((hM).mono (by decide)) ?_
    | with_reducible refine Dev.wr_kept ((hM).mono (by decide)) ?_
    | with_reducible refine Dev.onQueue_kept ((hM).mono (by decide)) ?_
    | with_reducible refine Dev.put_kept ((hM).mono (by decide)) ?_
    | split
    | dsimp only
    | intro _

theorem Dev.countLenRef_kept {M : Nat} {d0 d : Dev} {a1 : _} (hM : Sub 1048577 M) (h : Kept M d0 d) :
    Kept M d0 (Dev.countLenRef a1 d) := by
  unfold Dev.countLenRef
  repeat' first
    | with_reducible assumption
    | with_reducible refine Dev.raise_kept ((hM).mono (by decide)) ?_
    | with_reducible refine Dev.bump_kept ((hM).mono (by decide)) ?_
    | split
    | dsimp only
    | intro _

theorem Dev.jobRecordDone_kept {M : Nat} {d0 d : Dev} {a1 : _} {a2 : _} (hM : Sub 1024 M) (h : Kept M d0 d) :
    Kept M d0 (Dev.jobRecordDone a1 a2 d) := by
  unfold Dev.jobRecordDone
  repeat' first
    | with_reducible assumption
    | exact fun c => (Dev.Canonical.slots c : _)
    | exact fun c => (Dev.Canonical.keys c)
    | exact fun c => (Dev.Canonical.regs c)
    | exact fun c => Tab.wf_drop _ _ (Dev.Canonical.slots c)
    | exact fun c => Tab.wf_set _ _ _ (Dev.Canonical.slots c)
    | exact fun c => Tab.wf_set _ _ _ (Dev.Canonical.keys c)
    | exact fun c => Tab.wf_set _ _ _ (Dev.Canonical.regs c)
    | exact fun c => Tab.wf_drop _ _ (Dev.Canonical.regs c)
    | exact fun c => Tab.wf_set _ _ _ (Dev.Canonical.settings c)
    | exact fun _ => rfl
    | split
    | dsimp only
    | intro _
    | with_reducible refine Kept.lit_sec ((hM).mono (by decide)) ?_ ?_

theorem Dev.recordEnd_kept {M : Nat} {d0 d : Dev} {a1 : _} {a2 : _} (hM : Sub 1088 M) (h : Kept M d0 d) :
    Kept M d0 (Dev.recordEnd a1 a2 d) := by
  unfold Dev.recordEnd
  repeat' first
    | with_reducible assumption
    | with_reducible refine Dev.onThread_kept ((hM).mono (by decide)) ?_
    | with_reducible refine Dev.jobRecordDone_kept ((hM).mono (by decide)) ?_
    | split
    | dsimp only
    | intro _

theorem Dev.nextRecord_kept {M : Nat} {d0 d : Dev} {a1 : _} {a2 : _} (hM : Sub 1050177 M) (h : Kept M d0 d) :
    KeptP M d0 (Dev.nextRecord a1 a2 d) := by
  induction a2 generalizing d a1 with
  | nil =>
    unfold Dev.nextRecord
    repeat' first
      | with_reducible assumption
      | with_reducible refine Dev.onQueue_kept ((hM).mono (by decide)) ?_
      | with_reducible refine Dev.recordEnd_kept ((hM).mono (by decide)) ?_
      | with_reducible refine Dev.countLenRef_kept ((hM).mono (by decide)) ?_
      | with_reducible refine Dev.raise_kept ((hM).mono (by decide)) ?_
      | with_reducible refine Dev.bump_kept ((hM).mono (by decide)) ?_
      | split
      | dsimp only
      | intro _
      | with_reducible refine KeptP.mk ?_
  | cons x xs ih =>
    unfold Dev.nextRecord
    repeat' first
      | with_reducible refine ih ?_
      | with_reducible assumption
      | with_reducible refine Dev.onQueue_kept ((hM).mono (by decide)) ?_
      | with_reducible refine Dev.recordEnd_kept ((hM).mono (by decide)) ?_
      | with_reducible refine Dev.countLenRef_kept ((hM).mono (by decide)) ?_
      | with_reducible refine Dev.raise_kept ((hM).mono (by decide)) ?_
      | with_reducible refine Dev.bump_kept ((hM).mono (by decide)) ?_
      | split
      | dsimp only
      | intro _
      | with_reducible refine KeptP.mk ?_

theorem Dev.startRecord_kept {M : Nat} {d0 d : Dev} {a1 : _} {a2 : _} {a3 : _} (hM : Sub 577 M) (h : Kept M d0 d) :
    Kept M d0 (Dev.startRecord a1 a2 a3 d) := by
  unfold Dev.startRecord
  repeat' first
    | with_reducible assumption
    | with_reducible refine Dev.onQueue_kept ((hM).mono (by decide)) ?_
    | with_reducible refine Dev.putFlag_kept ((hM).mono (by decide)) ?_
    | with_reducible refine Dev.onThread_kept ((hM).mono (by decide)) ?_
    | with_reducible refine Dev.ringWrite_kept ((hM).mono (by decide)) ?_
    | with_reducible refine Dev.writeback_kept ((hM).mono (by decide)) ?_
    | with_reducible refine Dev.fillTo_kept ((hM).mono (by decide)) ?_
    | with_reducible refine Dev.queueCause_kept ((hM).mono (by decide)) ?_
    | split
    | dsimp only
    | intro _

theorem execRecordStart_kept {a1 : _} {s : State} : KeptX 1050177 s (execRecordStart a1 s) := by
  unfold execRecordStart
  repeat' first
    | with_reducible assumption
    | with_reducible refine KeptX.run ?_
    | with_reducible refine Kept.onlyIf ?_ ?_
    | with_reducible refine Dev.nextRecord_kept ((Sub.rfl).mono (by decide)) ?_
    | with_reducible refine Dev.startRecord_kept ((Sub.rfl).mono (by decide)) ?_
    | refine KeptP.of_eq (by assumption) ?_
    | with_reducible refine KeptP.snd ?_
    | split
    | dsimp only
    | intro _
    | with_reducible refine KeptP.mk ?_

theorem Dev.payloadWrite_kept {M : Nat} {d0 d : Dev} {a1 : _} (hM : Sub 513 M) (h : Kept M d0 d) :
    Kept M d0 (Dev.payloadWrite a1 d) := by
  unfold Dev.payloadWrite
  repeat' first
    | with_reducible assumption
    | with_reducible refine Dev.onQueue_kept ((hM).mono (by decide)) ?_
    | with_reducible refine Dev.ringWrite_kept ((hM).mono (by decide)) ?_
    | with_reducible refine Dev.fillTo_kept ((hM).mono (by decide)) ?_
    | with_reducible refine Dev.writeback_kept ((hM).mono (by decide)) ?_
    | with_reducible refine Dev.queueCause_kept ((hM).mono (by decide)) ?_
    | split
    | dsimp only
    | intro _

theorem Dev.payloadWrites_kept {M : Nat} {d0 d : Dev} {a1 : _} {a2 : _} (hM : Sub 513 M) (h : Kept M d0 d) :
    Kept M d0 (Dev.payloadWrites a1 a2 d) := by
  induction a2 generalizing d a1 with
  | zero =>
    unfold Dev.payloadWrites
    repeat' first
      | with_reducible assumption
      | with_reducible refine Dev.payloadWrite_kept ((hM).mono (by decide)) ?_
      | split
      | dsimp only
      | intro _
  | succ n ih =>
    unfold Dev.payloadWrites
    repeat' first
      | with_reducible refine ih ?_
      | with_reducible assumption
      | with_reducible refine Dev.payloadWrite_kept ((hM).mono (by decide)) ?_
      | split
      | dsimp only
      | intro _

theorem Dev.publish_kept {M : Nat} {d0 d : Dev} {a1 : _} {a2 : _} (hM : Sub 513 M) (h : Kept M d0 d) :
    Kept M d0 (Dev.publish a1 a2 d) := by
  unfold Dev.publish
  repeat' first
    | with_reducible assumption
    | with_reducible refine Dev.wr_kept ((hM).mono (by decide)) ?_
    | with_reducible refine Dev.fillTo_kept ((hM).mono (by decide)) ?_
    | with_reducible refine Dev.putFlag_kept ((hM).mono (by decide)) ?_
    | with_reducible refine Dev.onQueue_kept ((hM).mono (by decide)) ?_
    | with_reducible refine Dev.writeback_kept ((hM).mono (by decide)) ?_
    | split
    | dsimp only
    | intro _

theorem Dev.rewind_kept {M : Nat} {d0 d : Dev} {a1 : _} (hM : Sub 1049089 M) (h : Kept M d0 d) :
    Kept M d0 (Dev.rewind a1 d) := by
  unfold Dev.rewind
  repeat' first
    | with_reducible assumption
    | with_reducible refine Dev.putFlag_kept ((hM).mono (by decide)) ?_
    | with_reducible refine Dev.onQueue_kept ((hM).mono (by decide)) ?_
    | with_reducible refine Dev.raise_kept ((hM).mono (by decide)) ?_
    | with_reducible refine Dev.bump_kept ((hM).mono (by decide)) ?_
    | split
    | dsimp only
    | intro _

theorem Dev.recordCause_kept {M : Nat} {d0 d : Dev} {a1 : _} {a2 : _} (hM : Sub 513 M) (h : Kept M d0 d) :
    Kept M d0 (Dev.recordCause a1 a2 d) := by
  unfold Dev.recordCause
  repeat' first
    | with_reducible assumption
    | with_reducible refine Dev.queueCause_kept ((hM).mono (by decide)) ?_
    | split
    | dsimp only
    | intro _

theorem Dev.finishRecord_kept {M : Nat} {d0 d : Dev} {a1 : _} (hM : Sub 1050177 M) (h : Kept M d0 d) :
    Kept M d0 (Dev.finishRecord a1 d) := by
  unfold Dev.finishRecord
  repeat' first
    | with_reducible assumption
    | with_reducible refine Dev.recordEnd_kept ((hM).mono (by decide)) ?_
    | with_reducible refine Dev.rewind_kept ((hM).mono (by decide)) ?_
    | with_reducible refine Dev.publish_kept ((hM).mono (by decide)) ?_
    | with_reducible refine Dev.ringWrite_kept ((hM).mono (by decide)) ?_
    | with_reducible refine Dev.recordCause_kept ((hM).mono (by decide)) ?_
    | with_reducible refine Dev.bump_kept ((hM).mono (by decide)) ?_
    | with_reducible refine Dev.payloadWrites_kept ((hM).mono (by decide)) ?_
    | with_reducible refine Dev.raise_kept ((hM).mono (by decide)) ?_
    | split
    | dsimp only
    | intro _

theorem execRecordFinish_kept {a1 : _} {s : State} : KeptX 1050177 s (execRecordFinish a1 s) := by
  unfold execRecordFinish
  repeat' first
    | with_reducible assumption
    | with_reducible refine KeptX.run ?_
    | with_reducible refine Kept.onlyIf ?_ ?_
    | with_reducible refine Dev.finishRecord_kept ((Sub.rfl).mono (by decide)) ?_
    | split
    | dsimp only
    | intro _

theorem Dev.dropRecord_kept {M : Nat} {d0 d : Dev} {a1 : _} {a2 : _} {a3 : _} (hM : Sub 1049089 M) (h : Kept M d0 d) :
    Kept M d0 (Dev.dropRecord a1 a2 a3 d) := by
  unfold Dev.dropRecord
  repeat' first
    | with_reducible assumption
    | with_reducible refine Dev.ringWrite_kept ((hM).mono (by decide)) ?_
    | with_reducible refine Dev.raise_kept ((hM).mono (by decide)) ?_
    | with_reducible refine Dev.bump_kept ((hM).mono (by decide)) ?_
    | with_reducible refine Dev.recordCause_kept ((hM).mono (by decide)) ?_
    | with_reducible refine Dev.publish_kept ((hM).mono (by decide)) ?_
    | split
    | dsimp only
    | intro _

theorem Dev.dropRest_kept {M : Nat} {d0 d : Dev} {a1 : _} (hM : Sub 1050177 M) (h : Kept M d0 d) :
    Kept M d0 (Dev.dropRest a1 d) := by
  unfold Dev.dropRest
  repeat' first
    | with_reducible assumption
    | with_reducible refine Dev.bump_kept ((hM).mono (by decide)) ?_
    | with_reducible refine Dev.dropRecord_kept ((hM).mono (by decide)) ?_
    | with_reducible refine Dev.queueCode_kept ((hM).mono (by decide)) ?_
    | with_reducible refine Dev.recordEnd_kept ((hM).mono (by decide)) ?_
    | split
    | dsimp only
    | intro _

theorem execDropRest_kept {a1 : _} {a2 : _} {s : State} : KeptX 1066561 s (execDropRest a1 a2 s) := by
  unfold execDropRest
  repeat' first
    | with_reducible assumption
    | with_reducible refine runWrite_kept ?_ ((Sub.rfl).mono (by decide))
    | with_reducible refine Dev.dropRest_kept ((Sub.rfl).mono (by decide)) ?_
    | split
    | dsimp only
    | intro _

theorem Dev.consWrite_kept {M : Nat} {d0 d : Dev} {a1 : _} {a2 : _} (hM : Sub 1 M) (h : Kept M d0 d) :
    Kept M d0 (Dev.consWrite a1 a2 d) := by
  unfold Dev.consWrite
  repeat' first
    | with_reducible assumption
    | with_reducible refine Dev.queueCode_kept ((hM).mono (by decide)) ?_
    | with_reducible refine Dev.wr_kept ((hM).mono (by decide)) ?_
    | split
    | dsimp only
    | intro _

theorem execD2hConsWrite_kept {a1 : _} {a2 : _} {a3 : _} {s : State} : KeptX 1065473 s (execD2hConsWrite a1 a2 a3 s) := by
  unfold execD2hConsWrite
  repeat' first
    | with_reducible assumption
    | with_reducible refine runWrite_kept ?_ ((Sub.rfl).mono (by decide))
    | with_reducible refine Dev.consWrite_kept ((Sub.rfl).mono (by decide)) ?_
    | split
    | dsimp only
    | intro _

theorem Dev.versionOffer_kept {M : Nat} {d0 d : Dev} {a1 : _} {a2 : _} (hM : Sub 1 M) (h : Kept M d0 d) :
    Kept M d0 (Dev.versionOffer a1 a2 d) := by
  unfold Dev.versionOffer
  repeat' first
    | with_reducible assumption
    | with_reducible refine Dev.put_kept ((hM).mono (by decide)) ?_
    | split
    | dsimp only
    | intro _

theorem execVersionOffer_kept {a1 : _} {a2 : _} {a3 : _} {s : State} : KeptX 1065473 s (execVersionOffer a1 a2 a3 s) := by
  unfold execVersionOffer
  repeat' first
    | with_reducible assumption
    | with_reducible refine runWrite_kept ?_ ((Sub.rfl).mono (by decide))
    | with_reducible refine Dev.versionOffer_kept ((Sub.rfl).mono (by decide)) ?_
    | split
    | dsimp only
    | intro _

theorem Dev.queueEnable_kept {M : Nat} {d0 d : Dev} {a1 : _} (hM : Sub 513 M) (h : Kept M d0 d) :
    Kept M d0 (Dev.queueEnable a1 d) := by
  unfold Dev.queueEnable
  repeat' first
    | with_reducible assumption
    | with_reducible refine Kept.each ?_ ?_
    | with_reducible refine Dev.queueCode_kept ((hM).mono (by decide)) ?_
    | with_reducible refine Dev.wr_kept ((hM).mono (by decide)) ?_
    | with_reducible refine Dev.onQueue_kept ((hM).mono (by decide)) ?_
    | with_reducible refine Dev.putFlag_kept ((hM).mono (by decide)) ?_
    | with_reducible refine Dev.writeback_kept ((hM).mono (by decide)) ?_
    | split
    | dsimp only
    | intro _

theorem execQueueEnable_kept {a1 : _} {a2 : _} {s : State} : KeptX 1065473 s (execQueueEnable a1 a2 s) := by
  unfold execQueueEnable
  repeat' first
    | with_reducible assumption
    | with_reducible refine runWrite_kept ?_ ((Sub.rfl).mono (by decide))
    | with_reducible refine Dev.queueEnable_kept ((Sub.rfl).mono (by decide)) ?_
    | split
    | dsimp only
    | intro _

theorem Dev.dropWaiting_kept {M : Nat} {d0 d : Dev} {a1 : _} (hM : Sub 1089 M) (h : Kept M d0 d) :
    Kept M d0 (Dev.dropWaiting a1 d) := by
  unfold Dev.dropWaiting
  repeat' first
    | with_reducible assumption
    | with_reducible refine Kept.each ?_ ?_
    | with_reducible refine Dev.bump_kept ((hM).mono (by decide)) ?_
    | with_reducible refine Dev.recordEnd_kept ((hM).mono (by decide)) ?_
    | split
    | dsimp only
    | intro _

theorem Dev.queueStop_kept {M : Nat} {d0 d : Dev} {a1 : _} (hM : Sub 1050177 M) (h : Kept M d0 d) :
    Kept M d0 (Dev.queueStop a1 d) := by
  unfold Dev.queueStop
  repeat' first
    | with_reducible assumption
    | with_reducible refine Dev.recordEnd_kept ((hM).mono (by decide)) ?_
    | with_reducible refine Dev.rewind_kept ((hM).mono (by decide)) ?_
    | with_reducible refine Dev.dropRecord_kept ((hM).mono (by decide)) ?_
    | with_reducible refine Dev.dropWaiting_kept ((hM).mono (by decide)) ?_
    | with_reducible refine Dev.onQueue_kept ((hM).mono (by decide)) ?_
    | with_reducible refine Dev.putFlag_kept ((hM).mono (by decide)) ?_
    | split
    | dsimp only
    | intro _

theorem execQueueDisable_kept {a1 : _} {a2 : _} {s : State} : KeptX 1066561 s (execQueueDisable a1 a2 s) := by
  unfold execQueueDisable
  repeat' first
    | with_reducible assumption
    | with_reducible refine runWrite_kept ?_ ((Sub.rfl).mono (by decide))
    | with_reducible refine Dev.queueCode_kept ((Sub.rfl).mono (by decide)) ?_
    | with_reducible refine Dev.queueStop_kept ((Sub.rfl).mono (by decide)) ?_
    | split
    | dsimp only
    | intro _

theorem Dev.queuesStop_kept {M : Nat} {d0 d : Dev} (hM : Sub 1050177 M) (h : Kept M d0 d) :
    Kept M d0 (Dev.queuesStop d) := by
  unfold Dev.queuesStop
  repeat' first
    | with_reducible assumption
    | with_reducible refine Kept.each ?_ ?_
    | with_reducible refine Dev.queueStop_kept ((hM).mono (by decide)) ?_
    | split
    | dsimp only
    | intro _

theorem Dev.queueReset_kept {M : Nat} {d0 d : Dev} {a1 : _} (hM : Sub 1050177 M) (h : Kept M d0 d) :
    Kept M d0 (Dev.queueReset a1 d) := by
  unfold Dev.queueReset
  repeat' first
    | with_reducible assumption
    | with_reducible refine Dev.rewind_kept ((hM).mono (by decide)) ?_
    | with_reducible refine Dev.recordEnd_kept ((hM).mono (by decide)) ?_
    | with_reducible refine Dev.dropWaiting_kept ((hM).mono (by decide)) ?_
    | with_reducible refine Dev.onQueue_kept ((hM).mono (by decide)) ?_
    | with_reducible refine Dev.put_kept ((hM).mono (by decide)) ?_
    | with_reducible refine Dev.putFlag_kept ((hM).mono (by decide)) ?_
    | split
    | dsimp only
    | intro _

theorem Dev.linkSync_kept {M : Nat} {d0 d : Dev} (hM : Sub 2048 M) (h : Kept M d0 d) :
    Kept M d0 (Dev.linkSync d) := by
  unfold Dev.linkSync
  repeat' first
    | with_reducible assumption
    | with_reducible refine Dev.onCrossing_kept ((hM).mono (by decide)) ?_
    | split
    | dsimp only
    | intro _

theorem Dev.linkDrop_kept {M : Nat} {d0 d : Dev} {a1 : _} {a2 : _} (hM : Sub 1052225 M) (h : Kept M d0 d) :
    Kept M d0 (Dev.linkDrop a1 a2 d) := by
  unfold Dev.linkDrop
  repeat' first
    | with_reducible assumption
    | with_reducible refine Kept.each ?_ ?_
    | with_reducible refine Dev.raise_kept ((hM).mono (by decide)) ?_
    | with_reducible refine Dev.bump_kept ((hM).mono (by decide)) ?_
    | with_reducible refine Dev.putFlag_kept ((hM).mono (by decide)) ?_
    | with_reducible refine Dev.queueReset_kept ((hM).mono (by decide)) ?_
    | with_reducible refine Dev.linkSync_kept ((hM).mono (by decide)) ?_
    | with_reducible refine Dev.put_kept ((hM).mono (by decide)) ?_
    | split
    | dsimp only
    | intro _

theorem execQputTimeout_kept {a1 : _} {a2 : _} {s : State} : KeptX 1049153 s (execQputTimeout a1 a2 s) := by
  unfold execQputTimeout
  repeat' first
    | with_reducible assumption
    | with_reducible refine KeptX.run ?_
    | with_reducible refine Dev.dropQput_kept ((Sub.rfl).mono (by decide)) ?_
    | with_reducible refine Dev.onThread_kept ((Sub.rfl).mono (by decide)) ?_
    | with_reducible refine Dev.raise_kept ((Sub.rfl).mono (by decide)) ?_
    | with_reducible refine Dev.bump_kept ((Sub.rfl).mono (by decide)) ?_
    | split
    | dsimp only
    | intro _

theorem Dev.doorbell_kept {M : Nat} {d0 d : Dev} {a1 : _} {a2 : _} (hM : Sub 1 M) (h : Kept M d0 d) :
    Kept M d0 (Dev.doorbell a1 a2 d) := by
  unfold Dev.doorbell
  repeat' first
    | with_reducible assumption
    | with_reducible refine Dev.queueCode_kept ((hM).mono (by decide)) ?_
    | with_reducible refine Dev.wr_kept ((hM).mono (by decide)) ?_
    | split
    | dsimp only
    | intro _

theorem execH2dDoorbell_kept {a1 : _} {a2 : _} {a3 : _} {s : State} : KeptX 1065473 s (execH2dDoorbell a1 a2 a3 s) := by
  unfold execH2dDoorbell
  repeat' first
    | with_reducible assumption
    | with_reducible refine runWrite_kept ?_ ((Sub.rfl).mono (by decide))
    | with_reducible refine Dev.doorbell_kept ((Sub.rfl).mono (by decide)) ?_
    | split
    | dsimp only
    | intro _

theorem execHoldoffExpiry_kept {a1 : _} {s : State} : KeptX 513 s (execHoldoffExpiry a1 s) := by
  unfold execHoldoffExpiry
  repeat' first
    | with_reducible assumption
    | with_reducible refine KeptX.run ?_
    | with_reducible refine Kept.onlyIf ?_ ?_
    | with_reducible refine Dev.onQueue_kept ((Sub.rfl).mono (by decide)) ?_
    | with_reducible refine Dev.sendVector_kept ((Sub.rfl).mono (by decide)) ?_
    | split
    | dsimp only
    | intro _

theorem Dev.sendPending_kept {M : Nat} {d0 d : Dev} {a1 : _} (hM : Sub 1 M) (h : Kept M d0 d) :
    Kept M d0 (Dev.sendPending a1 d) := by
  unfold Dev.sendPending
  repeat' first
    | with_reducible assumption
    | with_reducible refine Dev.sendVector_kept ((hM).mono (by decide)) ?_
    | with_reducible refine Dev.putFlag_kept ((hM).mono (by decide)) ?_
    | split
    | dsimp only
    | intro _

theorem Dev.msixMask_kept {M : Nat} {d0 d : Dev} {a1 : _} {a2 : _} (hM : Sub 1 M) (h : Kept M d0 d) :
    Kept M d0 (Dev.msixMask a1 a2 d) := by
  unfold Dev.msixMask
  repeat' first
    | with_reducible assumption
    | with_reducible refine Dev.sendPending_kept ((hM).mono (by decide)) ?_
    | with_reducible refine Dev.putFlag_kept ((hM).mono (by decide)) ?_
    | split
    | dsimp only
    | intro _

theorem execMsixUnmask_kept {a1 : _} {a2 : _} {s : State} : KeptX 1065473 s (execMsixUnmask a1 a2 s) := by
  unfold execMsixUnmask
  repeat' first
    | with_reducible assumption
    | with_reducible refine runWrite_kept ?_ ((Sub.rfl).mono (by decide))
    | with_reducible refine Dev.msixMask_kept ((Sub.rfl).mono (by decide)) ?_
    | split
    | dsimp only
    | intro _

theorem Dev.logRead_kept {M : Nat} {d0 d : Dev} {a1 : _} (hM : Sub 524800 M) (h : Kept M d0 d) :
    KeptP M d0 (Dev.logRead a1 d) := by
  unfold Dev.logRead
  repeat' first
    | with_reducible assumption
    | with_reducible refine Dev.putLatched_kept ((hM).mono (by decide)) ?_
    | split
    | dsimp only
    | intro _
    | with_reducible refine Kept.lit_hq ((hM).mono (by decide)) ?_
    | with_reducible refine KeptP.mk ?_

theorem execBridgeLogRead_kept {a1 : _} {s : State} : KeptX 1589761 s (execBridgeLogRead a1 s) := by
  unfold execBridgeLogRead
  repeat' first
    | with_reducible assumption
    | with_reducible refine runRead_kept ?_ ((Sub.rfl).mono (by decide))
    | with_reducible refine Dev.logRead_kept ((Sub.rfl).mono (by decide)) ?_
    | with_reducible refine Dev.emit_kept ((Sub.rfl).mono (by decide)) ?_
    | refine KeptP.of_eq (by assumption) ?_
    | with_reducible refine KeptP.snd ?_
    | split
    | dsimp only
    | intro _
    | with_reducible refine KeptP.mk ?_

theorem Dev.queueTick_kept {M : Nat} {d0 d : Dev} (hM : Sub 513 M) (h : Kept M d0 d) :
    Kept M d0 (Dev.queueTick d) := by
  unfold Dev.queueTick
  repeat' first
    | with_reducible assumption
    | with_reducible refine Kept.each ?_ ?_
    | with_reducible refine Dev.payloadWrite_kept ((hM).mono (by decide)) ?_
    | split
    | dsimp only
    | intro _

end Sys2Proof.Machine
end

