-- ==== Sys2Proof/Laws/KeptLocksmith.lean ====
section
/-! SUPPORT. What the operations and commands of Machine/Locksmith.lean keep (`Kept`): the parts each changes, and the canonical form. -/

set_option Elab.async false

namespace Sys2Proof.Machine

theorem Dev.deriveOwner_kept {M : Nat} {d0 d : Dev} (hM : Sub 1025 M) (h : Kept M d0 d) :
    Kept M d0 (Dev.deriveOwner d) := by
  unfold Dev.deriveOwner
  repeat' first
    | with_reducible assumption
    | with_reducible refine Dev.writeKey_kept ((hM).mono (by decide)) ?_
    | split
    | dsimp only
    | intro _

theorem Dev.deriveReserved_kept {M : Nat} {d0 d : Dev} (hM : Sub 1025 M) (h : Kept M d0 d) :
    Kept M d0 (Dev.deriveReserved d) := by
  unfold Dev.deriveReserved
  repeat' first
    | with_reducible assumption
    | exact fun c => (Dev.Canonical.slots c : _)
    | exact fun c => (Dev.Canonical.keys c)
    | exact fun c => (Dev.Canonical.regs c)
    | exact fun c => Tab.wf_drop _ _ (Dev.Canonical.slots c)
    | exact fun c => Tab.wf_set _ _ _ (Dev.Canonical.slots c)
    | exact fun c => Tab.wf_set _ _ _ (Dev.Canonical.keys c)
    | exact fun c => Tab.wf_set _ _ _ (Dev.Canonical.regs c)
    | exact fun c => Tab.wf_drop _ _ (Dev.Canonical.regs c)
    | exact fun c => Tab.wf_set _ _ _ (Dev.Canonical.settings c)
    | exact fun _ => rfl
    | with_reducible refine Dev.deriveOwner_kept ((hM).mono (by decide)) ?_
    | with_reducible refine Dev.writeKey_kept ((hM).mono (by decide)) ?_
    | split
    | dsimp only
    | intro _
    | with_reducible refine Kept.lit_sec ((hM).mono (by decide)) ?_ ?_

theorem Dev.remaskStart_kept {M : Nat} {d0 d : Dev} (hM : Sub 1024 M) (h : Kept M d0 d) :
    Kept M d0 (Dev.remaskStart d) := by
  unfold Dev.remaskStart
  repeat' first
    | with_reducible assumption
    | exact fun c => (Dev.Canonical.slots c : _)
    | exact fun c => (Dev.Canonical.keys c)
    | exact fun c => (Dev.Canonical.regs c)
    | exact fun c => Tab.wf_drop _ _ (Dev.Canonical.slots c)
    | exact fun c => Tab.wf_set _ _ _ (Dev.Canonical.slots c)
    | exact fun c => Tab.wf_set _ _ _ (Dev.Canonical.keys c)
    | exact fun c => Tab.wf_set _ _ _ (Dev.Canonical.regs c)
    | exact fun c => Tab.wf_drop _ _ (Dev.Canonical.regs c)
    | exact fun c => Tab.wf_set _ _ _ (Dev.Canonical.settings c)
    | exact fun _ => rfl
    | split
    | dsimp only
    | intro _
    | with_reducible refine Kept.lit_sec ((hM).mono (by decide)) ?_ ?_

theorem Dev.loadKeys_kept {M : Nat} {d0 d : Dev} (hM : Sub 1025 M) (h : Kept M d0 d) :
    Kept M d0 (Dev.loadKeys d) := by
  unfold Dev.loadKeys
  repeat' first
    | with_reducible assumption
    | with_reducible refine Dev.remaskStart_kept ((hM).mono (by decide)) ?_
    | with_reducible refine Dev.deriveReserved_kept ((hM).mono (by decide)) ?_
    | with_reducible refine Dev.writeKey_kept ((hM).mono (by decide)) ?_
    | split
    | dsimp only
    | intro _

theorem Dev.keepMac_kept {M : Nat} {d0 d : Dev} {a1 : _} (hM : Sub 64 M) (h : Kept M d0 d) :
    Kept M d0 (Dev.keepMac a1 d) := by
  unfold Dev.keepMac
  repeat' first
    | with_reducible assumption
    | split
    | dsimp only
    | intro _
    | with_reducible refine Kept.lit_eng ((hM).mono (by decide)) ?_

theorem Dev.killMac_kept {M : Nat} {d0 d : Dev} (hM : Sub 64 M) (h : Kept M d0 d) :
    Kept M d0 (Dev.killMac d) := by
  unfold Dev.killMac
  repeat' first
    | with_reducible assumption
    | split
    | dsimp only
    | intro _
    | with_reducible refine Kept.lit_eng ((hM).mono (by decide)) ?_

theorem Dev.clearSlot_kept {M : Nat} {d0 d : Dev} {a1 : _} (hM : Sub 1089 M) (h : Kept M d0 d) :
    Kept M d0 (Dev.clearSlot a1 d) := by
  unfold Dev.clearSlot
  repeat' first
    | with_reducible assumption
    | with_reducible refine Dev.putKeySlot_kept ((hM).mono (by decide)) ?_
    | with_reducible refine Dev.keepMac_kept ((hM).mono (by decide)) ?_
    | split
    | dsimp only
    | intro _

theorem Dev.clearSlots_kept {M : Nat} {d0 d : Dev} {a1 : _} (hM : Sub 1089 M) (h : Kept M d0 d) :
    Kept M d0 (Dev.clearSlots a1 d) := by
  unfold Dev.clearSlots
  repeat' first
    | with_reducible assumption
    | with_reducible refine Kept.each ?_ ?_
    | with_reducible refine Dev.clearSlot_kept ((hM).mono (by decide)) ?_
    | split
    | dsimp only
    | intro _

theorem Dev.ksCode_kept {M : Nat} {d0 d : Dev} {a1 : _} (hM : Sub 1 M) (h : Kept M d0 d) :
    Kept M d0 (Dev.ksCode a1 d) := by
  unfold Dev.ksCode
  repeat' first
    | with_reducible assumption
    | with_reducible refine Dev.put_kept ((hM).mono (by decide)) ?_
    | split
    | dsimp only
    | intro _

theorem Dev.ksErase_kept {M : Nat} {d0 d : Dev} {a1 : _} (hM : Sub 1049665 M) (h : Kept M d0 d) :
    Kept M d0 (Dev.ksErase a1 d) := by
  unfold Dev.ksErase
  repeat' first
    | with_reducible assumption
    | with_reducible refine Dev.ksCode_kept ((hM).mono (by decide)) ?_
    | with_reducible refine Dev.recAppendFree_kept ((hM).mono (by decide)) ?_
    | with_reducible refine Dev.clearSlot_kept ((hM).mono (by decide)) ?_
    | split
    | dsimp only
    | intro _

theorem Dev.ksLock_kept {M : Nat} {d0 d : Dev} {a1 : _} (hM : Sub 1049601 M) (h : Kept M d0 d) :
    Kept M d0 (Dev.ksLock a1 d) := by
  unfold Dev.ksLock
  repeat' first
    | with_reducible assumption
    | with_reducible refine Dev.ksCode_kept ((hM).mono (by decide)) ?_
    | with_reducible refine Dev.recAppendFree_kept ((hM).mono (by decide)) ?_
    | with_reducible refine Dev.putKeySlot_kept ((hM).mono (by decide)) ?_
    | split
    | dsimp only
    | intro _

theorem execKsErase_kept {a1 : _} {a2 : _} {s : State} : KeptX 1066561 s (execKsErase a1 a2 s) := by
  unfold execKsErase
  repeat' first
    | with_reducible assumption
    | with_reducible refine runWrite_kept ?_ ((Sub.rfl).mono (by decide))
    | with_reducible refine Dev.ksErase_kept ((Sub.rfl).mono (by decide)) ?_
    | split
    | dsimp only
    | intro _

theorem execKsLock_kept {a1 : _} {a2 : _} {s : State} : KeptX 1066497 s (execKsLock a1 a2 s) := by
  unfold execKsLock
  repeat' first
    | with_reducible assumption
    | with_reducible refine runWrite_kept ?_ ((Sub.rfl).mono (by decide))
    | with_reducible refine Dev.ksLock_kept ((Sub.rfl).mono (by decide)) ?_
    | split
    | dsimp only
    | intro _

theorem execRemaskVisit_kept {s : State} : KeptX 1025 s (execRemaskVisit s) := by
  unfold execRemaskVisit
  repeat' first
    | with_reducible assumption
    | exact fun c => (Dev.Canonical.slots c : _)
    | exact fun c => (Dev.Canonical.keys c)
    | exact fun c => (Dev.Canonical.regs c)
    | exact fun c => Tab.wf_drop _ _ (Dev.Canonical.slots c)
    | exact fun c => Tab.wf_set _ _ _ (Dev.Canonical.slots c)
    | exact fun c => Tab.wf_set _ _ _ (Dev.Canonical.keys c)
    | exact fun c => Tab.wf_set _ _ _ (Dev.Canonical.regs c)
    | exact fun c => Tab.wf_drop _ _ (Dev.Canonical.regs c)
    | exact fun c => Tab.wf_set _ _ _ (Dev.Canonical.settings c)
    | exact fun _ => rfl
    | with_reducible refine KeptX.run ?_
    | with_reducible refine Kept.onlyIf ?_ ?_
    | with_reducible refine Dev.writeKey_kept ((Sub.rfl).mono (by decide)) ?_
    | with_reducible refine Dev.bump_kept ((Sub.rfl).mono (by decide)) ?_
    | split
    | dsimp only
    | intro _
    | with_reducible refine Kept.lit_sec ((Sub.rfl).mono (by decide)) ?_ ?_

theorem Dev.reseed_kept {M : Nat} {d0 d : Dev} (hM : Sub 1025 M) (h : Kept M d0 d) :
    Kept M d0 (Dev.reseed d) := by
  unfold Dev.reseed
  repeat' first
    | with_reducible assumption
    | exact fun c => (Dev.Canonical.slots c : _)
    | exact fun c => (Dev.Canonical.keys c)
    | exact fun c => (Dev.Canonical.regs c)
    | exact fun c => Tab.wf_drop _ _ (Dev.Canonical.slots c)
    | exact fun c => Tab.wf_set _ _ _ (Dev.Canonical.slots c)
    | exact fun c => Tab.wf_set _ _ _ (Dev.Canonical.keys c)
    | exact fun c => Tab.wf_set _ _ _ (Dev.Canonical.regs c)
    | exact fun c => Tab.wf_drop _ _ (Dev.Canonical.regs c)
    | exact fun c => Tab.wf_set _ _ _ (Dev.Canonical.settings c)
    | exact fun _ => rfl
    | with_reducible refine Dev.bump_kept ((hM).mono (by decide)) ?_
    | split
    | dsimp only
    | intro _
    | with_reducible refine Kept.lit_sec ((hM).mono (by decide)) ?_ ?_

theorem execDrbgHealthFail_kept {s : State} : KeptX 1049601 s (execDrbgHealthFail s) := by
  unfold execDrbgHealthFail
  repeat' first
    | with_reducible assumption
    | exact fun c => (Dev.Canonical.slots c : _)
    | exact fun c => (Dev.Canonical.keys c)
    | exact fun c => (Dev.Canonical.regs c)
    | exact fun c => Tab.wf_drop _ _ (Dev.Canonical.slots c)
    | exact fun c => Tab.wf_set _ _ _ (Dev.Canonical.slots c)
    | exact fun c => Tab.wf_set _ _ _ (Dev.Canonical.keys c)
    | exact fun c => Tab.wf_set _ _ _ (Dev.Canonical.regs c)
    | exact fun c => Tab.wf_drop _ _ (Dev.Canonical.regs c)
    | exact fun c => Tab.wf_set _ _ _ (Dev.Canonical.settings c)
    | exact fun _ => rfl
    | with_reducible refine KeptX.run ?_
    | with_reducible refine Kept.onlyIf ?_ ?_
    | with_reducible refine Dev.raise_kept ((Sub.rfl).mono (by decide)) ?_
    | with_reducible refine Dev.bump_kept ((Sub.rfl).mono (by decide)) ?_
    | with_reducible refine Dev.putFlag_kept ((Sub.rfl).mono (by decide)) ?_
    | split
    | dsimp only
    | intro _
    | with_reducible refine Kept.lit_sec ((Sub.rfl).mono (by decide)) ?_ ?_

theorem execDrbgResume_kept {s : State} : KeptX 1025 s (execDrbgResume s) := by
  unfold execDrbgResume
  repeat' first
    | with_reducible assumption
    | with_reducible refine KeptX.run ?_
    | with_reducible refine Kept.onlyIf ?_ ?_
    | with_reducible refine Dev.remaskStart_kept ((Sub.rfl).mono (by decide)) ?_
    | with_reducible refine Dev.reseed_kept ((Sub.rfl).mono (by decide)) ?_
    | with_reducible refine Dev.putFlag_kept ((Sub.rfl).mono (by decide)) ?_
    | split
    | dsimp only
    | intro _

theorem execDrbgReseed_kept {s : State} : KeptX 1025 s (execDrbgReseed s) := by
  unfold execDrbgReseed
  repeat' first
    | with_reducible assumption
    | with_reducible refine KeptX.run ?_
    | with_reducible refine Kept.onlyIf ?_ ?_
    | with_reducible refine Dev.reseed_kept ((Sub.rfl).mono (by decide)) ?_
    | split
    | dsimp only
    | intro _

theorem Dev.tamperArm_kept {M : Nat} {d0 d : Dev} (hM : Sub 1024 M) (h : Kept M d0 d) :
    Kept M d0 (Dev.tamperArm d) := by
  unfold Dev.tamperArm
  repeat' first
    | with_reducible assumption
    | exact fun c => (Dev.Canonical.slots c : _)
    | exact fun c => (Dev.Canonical.keys c)
    | exact fun c => (Dev.Canonical.regs c)
    | exact fun c => Tab.wf_drop _ _ (Dev.Canonical.slots c)
    | exact fun c => Tab.wf_set _ _ _ (Dev.Canonical.slots c)
    | exact fun c => Tab.wf_set _ _ _ (Dev.Canonical.keys c)
    | exact fun c => Tab.wf_set _ _ _ (Dev.Canonical.regs c)
    | exact fun c => Tab.wf_drop _ _ (Dev.Canonical.regs c)
    | exact fun c => Tab.wf_set _ _ _ (Dev.Canonical.settings c)
    | exact fun _ => rfl
    | split
    | dsimp only
    | intro _
    | with_reducible refine Kept.lit_sec ((hM).mono (by decide)) ?_ ?_

theorem Dev.failJob_kept {M : Nat} {d0 d : Dev} {a1 : _} {a2 : _} (hM : Sub 1536 M) (h : Kept M d0 d) :
    Kept M d0 (Dev.failJob a1 a2 d) := by
  unfold Dev.failJob
  repeat' first
    | with_reducible assumption
    | exact fun c => (Dev.Canonical.slots c : _)
    | exact fun c => (Dev.Canonical.keys c)
    | exact fun c => (Dev.Canonical.regs c)
    | exact fun c => Tab.wf_drop _ _ (Dev.Canonical.slots c)
    | exact fun c => Tab.wf_set _ _ _ (Dev.Canonical.slots c)
    | exact fun c => Tab.wf_set _ _ _ (Dev.Canonical.keys c)
    | exact fun c => Tab.wf_set _ _ _ (Dev.Canonical.regs c)
    | exact fun c => Tab.wf_drop _ _ (Dev.Canonical.regs c)
    | exact fun c => Tab.wf_set _ _ _ (Dev.Canonical.settings c)
    | exact fun _ => rfl
    | split
    | dsimp only
    | intro _
    | with_reducible refine Kept.lit_hq_sec ((hM).mono (by decide)) ((hM).mono (by decide)) ?_ ?_

theorem Dev.ckptFailed_kept {M : Nat} {d0 d : Dev} {a1 : _} (hM : Sub 1025 M) (h : Kept M d0 d) :
    Kept M d0 (Dev.ckptFailed a1 d) := by
  unfold Dev.ckptFailed
  repeat' first
    | with_reducible assumption
    | exact fun c => (Dev.Canonical.slots c : _)
    | exact fun c => (Dev.Canonical.keys c)
    | exact fun c => (Dev.Canonical.regs c)
    | exact fun c => Tab.wf_drop _ _ (Dev.Canonical.slots c)
    | exact fun c => Tab.wf_set _ _ _ (Dev.Canonical.slots c)
    | exact fun c => Tab.wf_set _ _ _ (Dev.Canonical.keys c)
    | exact fun c => Tab.wf_set _ _ _ (Dev.Canonical.regs c)
    | exact fun c => Tab.wf_drop _ _ (Dev.Canonical.regs c)
    | exact fun c => Tab.wf_set _ _ _ (Dev.Canonical.settings c)
    | exact fun _ => rfl
    | with_reducible refine Dev.putFlag_kept ((hM).mono (by decide)) ?_
    | split
    | dsimp only
    | intro _
    | with_reducible refine Kept.lit_sec ((hM).mono (by decide)) ?_ ?_

theorem Dev.ckptLost_kept {M : Nat} {d0 d : Dev} {a1 : _} (hM : Sub 1025 M) (h : Kept M d0 d) :
    Kept M d0 (Dev.ckptLost a1 d) := by
  unfold Dev.ckptLost
  repeat' first
    | with_reducible assumption
    | exact fun c => (Dev.Canonical.slots c : _)
    | exact fun c => (Dev.Canonical.keys c)
    | exact fun c => (Dev.Canonical.regs c)
    | exact fun c => Tab.wf_drop _ _ (Dev.Canonical.slots c)
    | exact fun c => Tab.wf_set _ _ _ (Dev.Canonical.slots c)
    | exact fun c => Tab.wf_set _ _ _ (Dev.Canonical.keys c)
    | exact fun c => Tab.wf_set _ _ _ (Dev.Canonical.regs c)
    | exact fun c => Tab.wf_drop _ _ (Dev.Canonical.regs c)
    | exact fun c => Tab.wf_set _ _ _ (Dev.Canonical.settings c)
    | exact fun _ => rfl
    | with_reducible refine Dev.pqCode_kept ((hM).mono (by decide)) ?_
    | with_reducible refine Dev.ckptFailed_kept ((hM).mono (by decide)) ?_
    | split
    | dsimp only
    | intro _
    | with_reducible refine Kept.lit_sec ((hM).mono (by decide)) ?_ ?_

theorem Dev.zeroize_kept {M : Nat} {d0 d : Dev} (hM : Sub 1601 M) (h : Kept M d0 d) :
    Kept M d0 (Dev.zeroize d) := by
  unfold Dev.zeroize
  repeat' first
    | with_reducible assumption
    | exact fun c => (Dev.Canonical.slots c : _)
    | exact fun c => (Dev.Canonical.keys c)
    | exact fun c => (Dev.Canonical.regs c)
    | exact fun c => Tab.wf_drop _ _ (Dev.Canonical.slots c)
    | exact fun c => Tab.wf_set _ _ _ (Dev.Canonical.slots c)
    | exact fun c => Tab.wf_set _ _ _ (Dev.Canonical.keys c)
    | exact fun c => Tab.wf_set _ _ _ (Dev.Canonical.regs c)
    | exact fun c => Tab.wf_drop _ _ (Dev.Canonical.regs c)
    | exact fun c => Tab.wf_set _ _ _ (Dev.Canonical.settings c)
    | exact fun _ => rfl
    | with_reducible refine Kept.onlyIf ?_ ?_
    | with_reducible refine Kept.each ?_ ?_
    | with_reducible refine Dev.failJob_kept ((hM).mono (by decide)) ?_
    | with_reducible refine Dev.reseed_kept ((hM).mono (by decide)) ?_
    | with_reducible refine Dev.clearSlots_kept ((hM).mono (by decide)) ?_
    | with_reducible refine Dev.killMac_kept ((hM).mono (by decide)) ?_
    | with_reducible refine Dev.ckptLost_kept ((hM).mono (by decide)) ?_
    | split
    | dsimp only
    | intro _
    | with_reducible refine Kept.lit_sec ((hM).mono (by decide)) ?_ ?_

theorem Dev.tamper_kept {M : Nat} {d0 d : Dev} {a1 : _} (hM : Sub 1050305 M) (h : Kept M d0 d) :
    Kept M d0 (Dev.tamper a1 d) := by
  unfold Dev.tamper
  repeat' first
    | with_reducible assumption
    | with_reducible refine Dev.tampLatch_kept ((hM).mono (by decide)) ?_
    | with_reducible refine Dev.raise_kept ((hM).mono (by decide)) ?_
    | with_reducible refine Dev.put_kept ((hM).mono (by decide)) ?_
    | with_reducible refine Dev.bump_kept ((hM).mono (by decide)) ?_
    | with_reducible refine Dev.putFlag_kept ((hM).mono (by decide)) ?_
    | with_reducible refine Dev.zeroize_kept ((hM).mono (by decide)) ?_
    | split
    | dsimp only
    | intro _

theorem execTamperEvent_kept {a1 : _} {s : State} : KeptX 1050305 s (execTamperEvent a1 s) := by
  unfold execTamperEvent
  repeat' first
    | with_reducible assumption
    | with_reducible refine KeptX.run ?_
    | with_reducible refine Dev.tamper_kept ((Sub.rfl).mono (by decide)) ?_
    | split
    | dsimp only
    | intro _

theorem Dev.tamperRecord_kept {M : Nat} {d0 d : Dev} (hM : Sub 1049729 M) (h : Kept M d0 d) :
    Kept M d0 (Dev.tamperRecord d) := by
  unfold Dev.tamperRecord
  repeat' first
    | with_reducible assumption
    | with_reducible refine Kept.onlyIf ?_ ?_
    | with_reducible refine Dev.recAppendFree_kept ((hM).mono (by decide)) ?_
    | split
    | dsimp only
    | intro _
    | with_reducible refine Kept.lit_time ((hM).mono (by decide)) ?_

theorem execRederive_kept {s : State} : KeptX 1049729 s (execRederive s) := by
  unfold execRederive
  repeat' first
    | with_reducible assumption
    | with_reducible refine KeptX.run ?_
    | with_reducible refine Kept.onlyIf ?_ ?_
    | with_reducible refine Dev.tamperRecord_kept ((Sub.rfl).mono (by decide)) ?_
    | with_reducible refine Dev.deriveReserved_kept ((Sub.rfl).mono (by decide)) ?_
    | split
    | dsimp only
    | intro _

theorem Dev.sign_kept {M : Nat} {d0 d : Dev} {a1 : _} {a2 : _} (hM : Sub 1049601 M) (h : Kept M d0 d) :
    KeptP M d0 (Dev.sign a1 a2 d) := by
  unfold Dev.sign
  repeat' first
    | with_reducible assumption
    | exact fun c => (Dev.Canonical.slots c : _)
    | exact fun c => (Dev.Canonical.keys c)
    | exact fun c => (Dev.Canonical.regs c)
    | exact fun c => Tab.wf_drop _ _ (Dev.Canonical.slots c)
    | exact fun c => Tab.wf_set _ _ _ (Dev.Canonical.slots c)
    | exact fun c => Tab.wf_set _ _ _ (Dev.Canonical.keys c)
    | exact fun c => Tab.wf_set _ _ _ (Dev.Canonical.regs c)
    | exact fun c => Tab.wf_drop _ _ (Dev.Canonical.regs c)
    | exact fun c => Tab.wf_set _ _ _ (Dev.Canonical.settings c)
    | exact fun _ => rfl
    | with_reducible refine Dev.draw_kept ((hM).mono (by decide)) ?_
    | with_reducible refine Dev.put_kept ((hM).mono (by decide)) ?_
    | with_reducible refine Dev.raise_kept ((hM).mono (by decide)) ?_
    | with_reducible refine Dev.bump_kept ((hM).mono (by decide)) ?_
    | refine KeptP.of_eq (by assumption) ?_
    | with_reducible refine KeptP.snd ?_
    | split
    | dsimp only
    | intro _
    | with_reducible refine Kept.lit_sec ((hM).mono (by decide)) ?_ ?_
    | with_reducible refine KeptP.mk ?_

theorem Dev.deviceSign_kept {M : Nat} {d0 d : Dev} {a1 : _} (hM : Sub 1049601 M) (h : Kept M d0 d) :
    KeptPP M d0 (Dev.deviceSign a1 d) := by
  unfold Dev.deviceSign
  repeat' first
    | with_reducible assumption
    | with_reducible refine Dev.sign_kept ((hM).mono (by decide)) ?_
    | refine KeptP.of_eq (by assumption) ?_
    | with_reducible refine KeptP.snd ?_
    | split
    | dsimp only
    | intro _
    | with_reducible refine KeptP.mk ?_
    | with_reducible refine KeptPP.mk ?_

theorem Dev.attest_kept {M : Nat} {d0 d : Dev} {a1 : _} (hM : Sub 1049601 M) (h : Kept M d0 d) :
    KeptPP M d0 (Dev.attest a1 d) := by
  unfold Dev.attest
  repeat' first
    | with_reducible assumption
    | with_reducible refine Dev.deviceSign_kept ((hM).mono (by decide)) ?_
    | refine KeptPP.of_eq (by assumption) ?_
    | with_reducible refine KeptPP.snd ?_
    | split
    | dsimp only
    | intro _
    | with_reducible refine KeptPP.mk ?_

theorem Dev.showFree_kept {M : Nat} {d0 d : Dev} (hM : Sub 1 M) (h : Kept M d0 d) :
    Kept M d0 (Dev.showFree d) := by
  unfold Dev.showFree
  repeat' first
    | with_reducible assumption
    | with_reducible refine Dev.put_kept ((hM).mono (by decide)) ?_
    | split
    | dsimp only
    | intro _

theorem Dev.enterRunning_kept {M : Nat} {d0 d : Dev} {a1 : _} (hM : Sub 1024 M) (h : Kept M d0 d) :
    Kept M d0 (Dev.enterRunning a1 d) := by
  unfold Dev.enterRunning
  repeat' first
    | with_reducible assumption
    | exact fun c => (Dev.Canonical.slots c : _)
    | exact fun c => (Dev.Canonical.keys c)
    | exact fun c => (Dev.Canonical.regs c)
    | exact fun c => Tab.wf_drop _ _ (Dev.Canonical.slots c)
    | exact fun c => Tab.wf_set _ _ _ (Dev.Canonical.slots c)
    | exact fun c => Tab.wf_set _ _ _ (Dev.Canonical.keys c)
    | exact fun c => Tab.wf_set _ _ _ (Dev.Canonical.regs c)
    | exact fun c => Tab.wf_drop _ _ (Dev.Canonical.regs c)
    | exact fun c => Tab.wf_set _ _ _ (Dev.Canonical.settings c)
    | exact fun _ => rfl
    | with_reducible refine Dev.coreMark_kept ((hM).mono (by decide)) ?_
    | split
    | dsimp only
    | intro _
    | with_reducible refine Kept.lit_sec ((hM).mono (by decide)) ?_ ?_

theorem Dev.popJob_kept {M : Nat} {d0 d : Dev} (hM : Sub 1025 M) (h : Kept M d0 d) :
    Kept M d0 (Dev.popJob d) := by
  unfold Dev.popJob
  repeat' first
    | with_reducible assumption
    | exact fun c => (Dev.Canonical.slots c : _)
    | exact fun c => (Dev.Canonical.keys c)
    | exact fun c => (Dev.Canonical.regs c)
    | exact fun c => Tab.wf_drop _ _ (Dev.Canonical.slots c)
    | exact fun c => Tab.wf_set _ _ _ (Dev.Canonical.slots c)
    | exact fun c => Tab.wf_set _ _ _ (Dev.Canonical.keys c)
    | exact fun c => Tab.wf_set _ _ _ (Dev.Canonical.regs c)
    | exact fun c => Tab.wf_drop _ _ (Dev.Canonical.regs c)
    | exact fun c => Tab.wf_set _ _ _ (Dev.Canonical.settings c)
    | exact fun _ => rfl
    | with_reducible refine Dev.showFree_kept ((hM).mono (by decide)) ?_
    | split
    | dsimp only
    | intro _
    | with_reducible refine Kept.lit_sec ((hM).mono (by decide)) ?_ ?_

theorem Dev.skipUnlisted_kept {M : Nat} {d0 d : Dev} {a1 : _} (hM : Sub 1025 M) (h : Kept M d0 d) :
    Kept M d0 (Dev.skipUnlisted a1 d) := by
  induction a1 generalizing d  with
  | zero =>
    unfold Dev.skipUnlisted
    repeat' first
      | with_reducible assumption
      | with_reducible refine Dev.enterRunning_kept ((hM).mono (by decide)) ?_
      | with_reducible refine Dev.popJob_kept ((hM).mono (by decide)) ?_
      | split
      | dsimp only
      | intro _
  | succ n ih =>
    unfold Dev.skipUnlisted
    repeat' first
      | with_reducible refine ih ?_
      | with_reducible assumption
      | with_reducible refine Dev.enterRunning_kept ((hM).mono (by decide)) ?_
      | with_reducible refine Dev.popJob_kept ((hM).mono (by decide)) ?_
      | split
      | dsimp only
      | intro _

theorem Dev.startJob_kept {M : Nat} {d0 d : Dev} {a1 : _} {a2 : _} (h2 : ∀ y0 y1, Kept M d0 y1 → KeptP M d0 (a2 y0 y1)) (hM : Sub 1537 M) (h : Kept M d0 d) :
    Kept M d0 (Dev.startJob a1 a2 d) := by
  unfold Dev.startJob
  repeat' first
    | with_reducible assumption
    | with_reducible refine h2 _ _ ?_
    | with_reducible refine Dev.popJob_kept ((hM).mono (by decide)) ?_
    | with_reducible refine Dev.enterRunning_kept ((hM).mono (by decide)) ?_
    | with_reducible refine Dev.offerRecord_kept ((hM).mono (by decide)) ?_
    | with_reducible refine Dev.skipUnlisted_kept ((hM).mono (by decide)) ?_
    | refine KeptP.of_eq (by assumption) ?_
    | with_reducible refine KeptP.snd ?_
    | split
    | dsimp only
    | intro _

theorem Dev.refusedLen_kept {M : Nat} {d0 d : Dev} {a1 : _} {a2 : _} (hM : Sub 1048577 M) (h : Kept M d0 d) :
    Kept M d0 (Dev.refusedLen a1 a2 d) := by
  unfold Dev.refusedLen
  repeat' first
    | with_reducible assumption
    | with_reducible refine Dev.countLenRef_kept ((hM).mono (by decide)) ?_
    | split
    | dsimp only
    | intro _

theorem Dev.authFailed_kept {M : Nat} {d0 d : Dev} (hM : Sub 1048577 M) (h : Kept M d0 d) :
    Kept M d0 (Dev.authFailed d) := by
  unfold Dev.authFailed
  repeat' first
    | with_reducible assumption
    | with_reducible refine Dev.raise_kept ((hM).mono (by decide)) ?_
    | with_reducible refine Dev.bump_kept ((hM).mono (by decide)) ?_
    | split
    | dsimp only
    | intro _

theorem whenOk_kept {M : Nat} {d0 d : Dev} {a1 : _} {a2 : _} (h2 : ∀ y0, KeptP M d0 (a2 y0)) (hM : Sub 0 M) (h : Kept M d0 d) :
    KeptP M d0 (whenOk a1 d a2) := by
  unfold whenOk
  repeat' first
    | with_reducible assumption
    | with_reducible refine h2 _ 
    | refine KeptP.of_eq (by assumption) ?_
    | with_reducible refine KeptP.snd ?_
    | split
    | dsimp only
    | intro _
    | with_reducible refine KeptP.mk ?_

theorem Dev.xtsJob_kept {M : Nat} {d0 d : Dev} {a1 : _} {a2 : _} {a3 : _} (hM : Sub 1048577 M) (h : Kept M d0 d) :
    KeptP M d0 (Dev.xtsJob a1 a2 a3 d) := by
  unfold Dev.xtsJob
  repeat' first
    | with_reducible assumption
    | with_reducible refine Dev.refusedLen_kept ((hM).mono (by decide)) ?_
    | with_reducible refine whenOk_kept ?_ ((hM).mono (by decide)) ?_
    | refine KeptP.of_eq (by assumption) ?_
    | with_reducible refine KeptP.snd ?_
    | split
    | dsimp only
    | intro _
    | with_reducible refine KeptP.mk ?_

theorem execXtsEnc_kept {a1 : _} {s : State} : KeptX 1050113 s (execXtsEnc a1 s) := by
  unfold execXtsEnc
  repeat' first
    | with_reducible assumption
    | with_reducible refine KeptX.run ?_
    | with_reducible refine Dev.startJob_kept ?_ ((Sub.rfl).mono (by decide)) ?_
    | with_reducible refine Dev.xtsJob_kept ((Sub.rfl).mono (by decide)) ?_
    | refine KeptP.of_eq (by assumption) ?_
    | with_reducible refine KeptP.snd ?_
    | split
    | dsimp only
    | intro _
    | with_reducible refine KeptP.mk ?_

theorem execXtsDec_kept {a1 : _} {s : State} : KeptX 1050113 s (execXtsDec a1 s) := by
  unfold execXtsDec
  repeat' first
    | with_reducible assumption
    | with_reducible refine KeptX.run ?_
    | with_reducible refine Dev.startJob_kept ?_ ((Sub.rfl).mono (by decide)) ?_
    | with_reducible refine Dev.xtsJob_kept ((Sub.rfl).mono (by decide)) ?_
    | refine KeptP.of_eq (by assumption) ?_
    | with_reducible refine KeptP.snd ?_
    | split
    | dsimp only
    | intro _
    | with_reducible refine KeptP.mk ?_

theorem execGcmEnc_kept {a1 : _} {a2 : _} {s : State} : KeptX 1050113 s (execGcmEnc a1 a2 s) := by
  unfold execGcmEnc
  repeat' first
    | with_reducible assumption
    | with_reducible refine KeptX.run ?_
    | with_reducible refine Dev.startJob_kept ?_ ((Sub.rfl).mono (by decide)) ?_
    | with_reducible refine Dev.refusedLen_kept ((Sub.rfl).mono (by decide)) ?_
    | with_reducible refine whenOk_kept ?_ ((Sub.rfl).mono (by decide)) ?_
    | refine KeptP.of_eq (by assumption) ?_
    | with_reducible refine KeptP.snd ?_
    | split
    | dsimp only
    | intro _
    | with_reducible refine KeptP.mk ?_

theorem execGcmDec_kept {a1 : _} {a2 : _} {s : State} : KeptX 1050113 s (execGcmDec a1 a2 s) := by
  unfold execGcmDec
  repeat' first
    | with_reducible assumption
    | with_reducible refine KeptX.run ?_
    | with_reducible refine Dev.startJob_kept ?_ ((Sub.rfl).mono (by decide)) ?_
    | with_reducible refine Dev.refusedLen_kept ((Sub.rfl).mono (by decide)) ?_
    | with_reducible refine whenOk_kept ?_ ((Sub.rfl).mono (by decide)) ?_
    | with_reducible refine Dev.authFailed_kept ((Sub.rfl).mono (by decide)) ?_
    | refine KeptP.of_eq (by assumption) ?_
    | with_reducible refine KeptP.snd ?_
    | split
    | dsimp only
    | intro _
    | with_reducible refine KeptP.mk ?_

theorem execCmacGen_kept {a1 : _} {s : State} : KeptX 1537 s (execCmacGen a1 s) := by
  unfold execCmacGen
  repeat' first
    | with_reducible assumption
    | with_reducible refine KeptX.run ?_
    | with_reducible refine Dev.startJob_kept ?_ ((Sub.rfl).mono (by decide)) ?_
    | with_reducible refine whenOk_kept ?_ ((Sub.rfl).mono (by decide)) ?_
    | refine KeptP.of_eq (by assumption) ?_
    | with_reducible refine KeptP.snd ?_
    | split
    | dsimp only
    | intro _
    | with_reducible refine KeptP.mk ?_

theorem execCmacVer_kept {a1 : _} {s : State} : KeptX 1050113 s (execCmacVer a1 s) := by
  unfold execCmacVer
  repeat' first
    | with_reducible assumption
    | with_reducible refine KeptX.run ?_
    | with_reducible refine Dev.startJob_kept ?_ ((Sub.rfl).mono (by decide)) ?_
    | with_reducible refine whenOk_kept ?_ ((Sub.rfl).mono (by decide)) ?_
    | with_reducible refine Dev.authFailed_kept ((Sub.rfl).mono (by decide)) ?_
    | refine KeptP.of_eq (by assumption) ?_
    | with_reducible refine KeptP.snd ?_
    | split
    | dsimp only
    | intro _
    | with_reducible refine KeptP.mk ?_

theorem Dev.unwrapRefused_kept {M : Nat} {d0 d : Dev} {a1 : _} (hM : Sub 1048577 M) (h : Kept M d0 d) :
    KeptP M d0 (Dev.unwrapRefused a1 d) := by
  unfold Dev.unwrapRefused
  repeat' first
    | with_reducible assumption
    | with_reducible refine Dev.raise_kept ((hM).mono (by decide)) ?_
    | with_reducible refine Dev.bump_kept ((hM).mono (by decide)) ?_
    | split
    | dsimp only
    | intro _
    | with_reducible refine KeptP.mk ?_

theorem execUnwrap_kept {a1 : _} {s : State} : KeptX 1050113 s (execUnwrap a1 s) := by
  unfold execUnwrap
  repeat' first
    | with_reducible assumption
    | with_reducible refine KeptX.run ?_
    | with_reducible refine Dev.startJob_kept ?_ ((Sub.rfl).mono (by decide)) ?_
    | with_reducible refine Dev.unwrapRefused_kept ((Sub.rfl).mono (by decide)) ?_
    | refine KeptP.of_eq (by assumption) ?_
    | with_reducible refine KeptP.snd ?_
    | split
    | dsimp only
    | intro _
    | with_reducible refine KeptP.mk ?_

theorem execWrap_kept {a1 : _} {s : State} : KeptX 1050113 s (execWrap a1 s) := by
  unfold execWrap
  repeat' first
    | with_reducible assumption
    | with_reducible refine KeptX.run ?_
    | with_reducible refine Dev.startJob_kept ?_ ((Sub.rfl).mono (by decide)) ?_
    | with_reducible refine Dev.refusedLen_kept ((Sub.rfl).mono (by decide)) ?_
    | with_reducible refine whenOk_kept ?_ ((Sub.rfl).mono (by decide)) ?_
    | refine KeptP.of_eq (by assumption) ?_
    | with_reducible refine KeptP.snd ?_
    | split
    | dsimp only
    | intro _
    | with_reducible refine KeptP.mk ?_

theorem execDerive_kept {a1 : _} {s : State} : KeptX 1537 s (execDerive a1 s) := by
  unfold execDerive
  repeat' first
    | with_reducible assumption
    | with_reducible refine KeptX.run ?_
    | with_reducible refine Dev.startJob_kept ?_ ((Sub.rfl).mono (by decide)) ?_
    | with_reducible refine whenOk_kept ?_ ((Sub.rfl).mono (by decide)) ?_
    | refine KeptP.of_eq (by assumption) ?_
    | with_reducible refine KeptP.snd ?_
    | split
    | dsimp only
    | intro _
    | with_reducible refine KeptP.mk ?_

theorem execGenerate_kept {s : State} : KeptX 1537 s (execGenerate s) := by
  unfold execGenerate
  repeat' first
    | with_reducible assumption
    | with_reducible refine KeptX.run ?_
    | with_reducible refine Dev.startJob_kept ?_ ((Sub.rfl).mono (by decide)) ?_
    | with_reducible refine whenOk_kept ?_ ((Sub.rfl).mono (by decide)) ?_
    | with_reducible refine Dev.randomBytes_kept ((Sub.rfl).mono (by decide)) ?_
    | refine KeptP.of_eq (by assumption) ?_
    | with_reducible refine KeptP.snd ?_
    | split
    | dsimp only
    | intro _
    | with_reducible refine KeptP.mk ?_

theorem execRandom_kept {s : State} : KeptX 1050113 s (execRandom s) := by
  unfold execRandom
  repeat' first
    | with_reducible assumption
    | with_reducible refine KeptX.run ?_
    | with_reducible refine Dev.startJob_kept ?_ ((Sub.rfl).mono (by decide)) ?_
    | with_reducible refine Dev.refusedLen_kept ((Sub.rfl).mono (by decide)) ?_
    | with_reducible refine whenOk_kept ?_ ((Sub.rfl).mono (by decide)) ?_
    | with_reducible refine Dev.randomBytes_kept ((Sub.rfl).mono (by decide)) ?_
    | refine KeptP.of_eq (by assumption) ?_
    | with_reducible refine KeptP.snd ?_
    | split
    | dsimp only
    | intro _
    | with_reducible refine KeptP.mk ?_

theorem execShake_kept {a1 : _} {s : State} : KeptX 1050113 s (execShake a1 s) := by
  unfold execShake
  repeat' first
    | with_reducible assumption
    | with_reducible refine KeptX.run ?_
    | with_reducible refine Dev.startJob_kept ?_ ((Sub.rfl).mono (by decide)) ?_
    | with_reducible refine Dev.refusedLen_kept ((Sub.rfl).mono (by decide)) ?_
    | with_reducible refine whenOk_kept ?_ ((Sub.rfl).mono (by decide)) ?_
    | refine KeptP.of_eq (by assumption) ?_
    | with_reducible refine KeptP.snd ?_
    | split
    | dsimp only
    | intro _
    | with_reducible refine KeptP.mk ?_

theorem execMldsaVer_kept {a1 : _} {a2 : _} {s : State} : KeptX 1537 s (execMldsaVer a1 a2 s) := by
  unfold execMldsaVer
  repeat' first
    | with_reducible assumption
    | with_reducible refine KeptX.run ?_
    | with_reducible refine Dev.startJob_kept ?_ ((Sub.rfl).mono (by decide)) ?_
    | with_reducible refine whenOk_kept ?_ ((Sub.rfl).mono (by decide)) ?_
    | refine KeptP.of_eq (by assumption) ?_
    | with_reducible refine KeptP.snd ?_
    | split
    | dsimp only
    | intro _
    | with_reducible refine KeptP.mk ?_

theorem execMldsaSign_kept {a1 : _} {a2 : _} {s : State} : KeptX 1050113 s (execMldsaSign a1 a2 s) := by
  unfold execMldsaSign
  repeat' first
    | with_reducible assumption
    | with_reducible refine KeptX.run ?_
    | with_reducible refine Dev.startJob_kept ?_ ((Sub.rfl).mono (by decide)) ?_
    | with_reducible refine Dev.refusedLen_kept ((Sub.rfl).mono (by decide)) ?_
    | with_reducible refine whenOk_kept ?_ ((Sub.rfl).mono (by decide)) ?_
    | with_reducible refine Dev.sign_kept ((Sub.rfl).mono (by decide)) ?_
    | refine KeptP.of_eq (by assumption) ?_
    | with_reducible refine KeptP.snd ?_
    | split
    | dsimp only
    | intro _
    | with_reducible refine KeptP.mk ?_

theorem execAttest_kept {a1 : _} {s : State} : KeptX 1050113 s (execAttest a1 s) := by
  unfold execAttest
  repeat' first
    | with_reducible assumption
    | with_reducible refine KeptX.run ?_
    | with_reducible refine Dev.startJob_kept ?_ ((Sub.rfl).mono (by decide)) ?_
    | with_reducible refine Dev.refusedLen_kept ((Sub.rfl).mono (by decide)) ?_
    | with_reducible refine whenOk_kept ?_ ((Sub.rfl).mono (by decide)) ?_
    | with_reducible refine Dev.attest_kept ((Sub.rfl).mono (by decide)) ?_
    | with_reducible refine KeptP.mk ?_
    | with_reducible refine KeptPP.snd ?_
    | split
    | with_reducible refine KeptPP.of_eq (by assumption) ?_
    | dsimp only
    | intro _

theorem Dev.submitJob_kept {M : Nat} {d0 d : Dev} {a1 : _} (hM : Sub 1025 M) (h : Kept M d0 d) :
    Kept M d0 (Dev.submitJob a1 d) := by
  unfold Dev.submitJob
  repeat' first
    | with_reducible assumption
    | exact fun c => (Dev.Canonical.slots c : _)
    | exact fun c => (Dev.Canonical.keys c)
    | exact fun c => (Dev.Canonical.regs c)
    | exact fun c => Tab.wf_drop _ _ (Dev.Canonical.slots c)
    | exact fun c => Tab.wf_set _ _ _ (Dev.Canonical.slots c)
    | exact fun c => Tab.wf_set _ _ _ (Dev.Canonical.keys c)
    | exact fun c => Tab.wf_set _ _ _ (Dev.Canonical.regs c)
    | exact fun c => Tab.wf_drop _ _ (Dev.Canonical.regs c)
    | exact fun c => Tab.wf_set _ _ _ (Dev.Canonical.settings c)
    | exact fun _ => rfl
    | with_reducible refine Dev.put_kept ((hM).mono (by decide)) ?_
    | with_reducible refine Dev.showFree_kept ((hM).mono (by decide)) ?_
    | with_reducible refine Dev.skipUnlisted_kept ((hM).mono (by decide)) ?_
    | split
    | dsimp only
    | intro _
    | with_reducible refine Kept.lit_sec ((hM).mono (by decide)) ?_ ?_

theorem Dev.postDone_kept {M : Nat} {d0 d : Dev} {a1 : _} {a2 : _} {a3 : _} (hM : Sub 1025 M) (h : Kept M d0 d) :
    Kept M d0 (Dev.postDone a1 a2 a3 d) := by
  unfold Dev.postDone
  repeat' first
    | with_reducible assumption
    | exact fun c => (Dev.Canonical.slots c : _)
    | exact fun c => (Dev.Canonical.keys c)
    | exact fun c => (Dev.Canonical.regs c)
    | exact fun c => Tab.wf_drop _ _ (Dev.Canonical.slots c)
    | exact fun c => Tab.wf_set _ _ _ (Dev.Canonical.slots c)
    | exact fun c => Tab.wf_set _ _ _ (Dev.Canonical.keys c)
    | exact fun c => Tab.wf_set _ _ _ (Dev.Canonical.regs c)
    | exact fun c => Tab.wf_drop _ _ (Dev.Canonical.regs c)
    | exact fun c => Tab.wf_set _ _ _ (Dev.Canonical.settings c)
    | exact fun _ => rfl
    | with_reducible refine Dev.bump_kept ((hM).mono (by decide)) ?_
    | with_reducible refine Dev.sendVector_kept ((hM).mono (by decide)) ?_
    | split
    | dsimp only
    | intro _
    | with_reducible refine Kept.lit_sec ((hM).mono (by decide)) ?_ ?_

theorem Dev.keyIn_kept {M : Nat} {d0 d : Dev} {a1 : _} (hM : Sub 1049665 M) (h : Kept M d0 d) :
    KeptP M d0 (Dev.keyIn a1 d) := by
  unfold Dev.keyIn
  repeat' first
    | with_reducible assumption
    | with_reducible refine Kept.onlyIf ?_ ?_
    | with_reducible refine Dev.raise_kept ((hM).mono (by decide)) ?_
    | with_reducible refine Dev.bump_kept ((hM).mono (by decide)) ?_
    | with_reducible refine Dev.recAppendFree_kept ((hM).mono (by decide)) ?_
    | with_reducible refine Dev.writeKey_kept ((hM).mono (by decide)) ?_
    | with_reducible refine Dev.keepMac_kept ((hM).mono (by decide)) ?_
    | split
    | dsimp only
    | intro _
    | with_reducible refine KeptP.mk ?_

theorem Dev.completeJob_kept {M : Nat} {d0 d : Dev} {a1 : _} (hM : Sub 1049665 M) (h : Kept M d0 d) :
    Kept M d0 (Dev.completeJob a1 d) := by
  unfold Dev.completeJob
  repeat' first
    | with_reducible assumption
    | exact fun c => (Dev.Canonical.slots c : _)
    | exact fun c => (Dev.Canonical.keys c)
    | exact fun c => (Dev.Canonical.regs c)
    | exact fun c => Tab.wf_drop _ _ (Dev.Canonical.slots c)
    | exact fun c => Tab.wf_set _ _ _ (Dev.Canonical.slots c)
    | exact fun c => Tab.wf_set _ _ _ (Dev.Canonical.keys c)
    | exact fun c => Tab.wf_set _ _ _ (Dev.Canonical.regs c)
    | exact fun c => Tab.wf_drop _ _ (Dev.Canonical.regs c)
    | exact fun c => Tab.wf_set _ _ _ (Dev.Canonical.settings c)
    | exact fun _ => rfl
    | with_reducible refine Kept.onlyIf ?_ ?_
    | with_reducible refine Dev.coreMark_kept ((hM).mono (by decide)) ?_
    | with_reducible refine Dev.keyIn_kept ((hM).mono (by decide)) ?_
    | with_reducible refine Dev.pqCode_kept ((hM).mono (by decide)) ?_
    | with_reducible refine Dev.postDone_kept ((hM).mono (by decide)) ?_
    | refine KeptP.of_eq (by assumption) ?_
    | with_reducible refine KeptP.snd ?_
    | split
    | dsimp only
    | intro _
    | with_reducible refine Kept.lit_sec ((hM).mono (by decide)) ?_ ?_
    | with_reducible refine KeptP.mk ?_

theorem execCipherJobDone_kept {a1 : _} {s : State} : KeptX 1049665 s (execCipherJobDone a1 s) := by
  unfold execCipherJobDone
  repeat' first
    | with_reducible assumption
    | with_reducible refine KeptX.run ?_
    | with_reducible refine Dev.skipUnlisted_kept ((Sub.rfl).mono (by decide)) ?_
    | with_reducible refine Dev.completeJob_kept ((Sub.rfl).mono (by decide)) ?_
    | split
    | dsimp only
    | intro _

theorem Dev.flushJobs_kept {M : Nat} {d0 d : Dev} (hM : Sub 1049665 M) (h : Kept M d0 d) :
    Kept M d0 (Dev.flushJobs d) := by
  unfold Dev.flushJobs
  repeat' first
    | with_reducible assumption
    | exact fun c => (Dev.Canonical.slots c : _)
    | exact fun c => (Dev.Canonical.keys c)
    | exact fun c => (Dev.Canonical.regs c)
    | exact fun c => Tab.wf_drop _ _ (Dev.Canonical.slots c)
    | exact fun c => Tab.wf_set _ _ _ (Dev.Canonical.slots c)
    | exact fun c => Tab.wf_set _ _ _ (Dev.Canonical.keys c)
    | exact fun c => Tab.wf_set _ _ _ (Dev.Canonical.regs c)
    | exact fun c => Tab.wf_drop _ _ (Dev.Canonical.regs c)
    | exact fun c => Tab.wf_set _ _ _ (Dev.Canonical.settings c)
    | exact fun _ => rfl
    | with_reducible refine Kept.each ?_ ?_
    | with_reducible refine Dev.completeJob_kept ((hM).mono (by decide)) ?_
    | with_reducible refine Dev.showFree_kept ((hM).mono (by decide)) ?_
    | with_reducible refine Dev.postDone_kept ((hM).mono (by decide)) ?_
    | split
    | dsimp only
    | intro _
    | with_reducible refine Kept.lit_sec ((hM).mono (by decide)) ?_ ?_

theorem Dev.cphRead_kept {M : Nat} {d0 d : Dev} {a1 : _} (hM : Sub 525312 M) (h : Kept M d0 d) :
    KeptP M d0 (Dev.cphRead a1 d) := by
  unfold Dev.cphRead
  repeat' first
    | with_reducible assumption
    | exact fun c => (Dev.Canonical.slots c : _)
    | exact fun c => (Dev.Canonical.keys c)
    | exact fun c => (Dev.Canonical.regs c)
    | exact fun c => Tab.wf_drop _ _ (Dev.Canonical.slots c)
    | exact fun c => Tab.wf_set _ _ _ (Dev.Canonical.slots c)
    | exact fun c => Tab.wf_set _ _ _ (Dev.Canonical.keys c)
    | exact fun c => Tab.wf_set _ _ _ (Dev.Canonical.regs c)
    | exact fun c => Tab.wf_drop _ _ (Dev.Canonical.regs c)
    | exact fun c => Tab.wf_set _ _ _ (Dev.Canonical.settings c)
    | exact fun _ => rfl
    | with_reducible refine Kept.each ?_ ?_
    | with_reducible refine Dev.putLatched_kept ((hM).mono (by decide)) ?_
    | split
    | dsimp only
    | intro _
    | with_reducible refine Kept.lit_sec ((hM).mono (by decide)) ?_ ?_
    | with_reducible refine KeptP.mk ?_

theorem execCphDoneRead_kept {a1 : _} {s : State} : KeptX 1590785 s (execCphDoneRead a1 s) := by
  unfold execCphDoneRead
  repeat' first
    | with_reducible assumption
    | with_reducible refine runRead_kept ?_ ((Sub.rfl).mono (by decide))
    | with_reducible refine Dev.cphRead_kept ((Sub.rfl).mono (by decide)) ?_
    | with_reducible refine Dev.emit_kept ((Sub.rfl).mono (by decide)) ?_
    | refine KeptP.of_eq (by assumption) ?_
    | with_reducible refine KeptP.snd ?_
    | split
    | dsimp only
    | intro _
    | with_reducible refine KeptP.mk ?_

theorem execCphLoadUpdate_kept {s : State} : KeptX 1025 s (execCphLoadUpdate s) := by
  unfold execCphLoadUpdate
  repeat' first
    | with_reducible assumption
    | exact fun c => (Dev.Canonical.slots c : _)
    | exact fun c => (Dev.Canonical.keys c)
    | exact fun c => (Dev.Canonical.regs c)
    | exact fun c => Tab.wf_drop _ _ (Dev.Canonical.slots c)
    | exact fun c => Tab.wf_set _ _ _ (Dev.Canonical.slots c)
    | exact fun c => Tab.wf_set _ _ _ (Dev.Canonical.keys c)
    | exact fun c => Tab.wf_set _ _ _ (Dev.Canonical.regs c)
    | exact fun c => Tab.wf_drop _ _ (Dev.Canonical.regs c)
    | exact fun c => Tab.wf_set _ _ _ (Dev.Canonical.settings c)
    | exact fun _ => rfl
    | with_reducible refine KeptX.run ?_
    | with_reducible refine Kept.onlyIf ?_ ?_
    | with_reducible refine Dev.put_kept ((Sub.rfl).mono (by decide)) ?_
    | split
    | dsimp only
    | intro _
    | with_reducible refine Kept.lit_sec ((Sub.rfl).mono (by decide)) ?_ ?_

end Sys2Proof.Machine
end

