-- ==== Sys2Proof/Laws/KeptFaults.lean ====
section
/-! SUPPORT. What the operations and commands of Machine/Faults.lean keep (`Kept`): the parts each changes, and the canonical form. -/

set_option Elab.async false

namespace Sys2Proof.Machine

theorem Dev.onSrc_kept {M : Nat} {d0 d : Dev} {a1 : _} {a2 : _} (hM : Sub 2048 M) (h : Kept M d0 d) :
    Kept M d0 (Dev.onSrc a1 a2 d) := by
  unfold Dev.onSrc
  repeat' first
    | with_reducible assumption
    | split
    | dsimp only
    | intro _
    | with_reducible refine Kept.lit_flt ((hM).mono (by decide)) ?_

theorem Dev.pinReaction_kept {M : Nat} {d0 d : Dev} (hM : Sub 2049 M) (h : Kept M d0 d) :
    Kept M d0 (Dev.pinReaction d) := by
  unfold Dev.pinReaction
  repeat' first
    | with_reducible assumption
    | with_reducible refine Dev.showErr_kept ((hM).mono (by decide)) ?_
    | split
    | dsimp only
    | intro _
    | with_reducible refine Kept.lit_flt ((hM).mono (by decide)) ?_

theorem Dev.errHoldWrite_kept {M : Nat} {d0 d : Dev} {a1 : _} (hM : Sub 1 M) (h : Kept M d0 d) :
    Kept M d0 (Dev.errHoldWrite a1 d) := by
  unfold Dev.errHoldWrite
  repeat' first
    | with_reducible assumption
    | with_reducible refine Dev.showErr_kept ((hM).mono (by decide)) ?_
    | with_reducible refine Dev.putFlag_kept ((hM).mono (by decide)) ?_
    | split
    | dsimp only
    | intro _

theorem execErrHoldWrite_kept {a1 : _} {a2 : _} {s : State} : KeptX 1065473 s (execErrHoldWrite a1 a2 s) := by
  unfold execErrHoldWrite
  repeat' first
    | with_reducible assumption
    | with_reducible refine runWrite_kept ?_ ((Sub.rfl).mono (by decide))
    | with_reducible refine Dev.errHoldWrite_kept ((Sub.rfl).mono (by decide)) ?_
    | split
    | dsimp only
    | intro _

theorem execErrminExpiry_kept {s : State} : KeptX 2049 s (execErrminExpiry s) := by
  unfold execErrminExpiry
  repeat' first
    | with_reducible assumption
    | with_reducible refine KeptX.run ?_
    | with_reducible refine Dev.showErr_kept ((Sub.rfl).mono (by decide)) ?_
    | split
    | dsimp only
    | intro _
    | with_reducible refine Kept.lit_flt ((Sub.rfl).mono (by decide)) ?_

theorem Dev.hold_kept {M : Nat} {d0 d : Dev} {a1 : _} {a2 : _} (hM : Sub 131201 M) (h : Kept M d0 d) :
    Kept M d0 (Dev.hold a1 a2 d) := by
  unfold Dev.hold
  repeat' first
    | with_reducible assumption
    | with_reducible refine Kept.each ?_ ?_
    | with_reducible refine Dev.putFlag_kept ((hM).mono (by decide)) ?_
    | with_reducible refine Dev.put_kept ((hM).mono (by decide)) ?_
    | with_reducible refine Dev.swHold_kept ((hM).mono (by decide)) ?_
    | split
    | dsimp only
    | intro _

theorem Dev.holdClear_kept {M : Nat} {d0 d : Dev} {a1 : _} {a2 : _} (hM : Sub 131201 M) (h : Kept M d0 d) :
    Kept M d0 (Dev.holdClear a1 a2 d) := by
  unfold Dev.holdClear
  repeat' first
    | with_reducible assumption
    | with_reducible refine Dev.hold_kept ((hM).mono (by decide)) ?_
    | split
    | dsimp only
    | intro _

theorem execHoldClear_kept {a1 : _} {a2 : _} {a3 : _} {s : State} : KeptX 1196673 s (execHoldClear a1 a2 a3 s) := by
  unfold execHoldClear
  repeat' first
    | with_reducible assumption
    | with_reducible refine Kept.onlyIf ?_ ?_
    | with_reducible refine runWrite_kept ?_ ((Sub.rfl).mono (by decide))
    | with_reducible refine Dev.holdClear_kept ((Sub.rfl).mono (by decide)) ?_
    | split
    | dsimp only
    | intro _

theorem Dev.applyPattern_kept {M : Nat} {d0 d : Dev} {a1 : _} (hM : Sub 166273 M) (h : Kept M d0 d) :
    Kept M d0 (Dev.applyPattern a1 d) := by
  unfold Dev.applyPattern
  repeat' first
    | with_reducible assumption
    | with_reducible refine Kept.each ?_ ?_
    | with_reducible refine Dev.loadPattern_kept ((hM).mono (by decide)) ?_
    | with_reducible refine Dev.putDioOut_kept ((hM).mono (by decide)) ?_
    | with_reducible refine Dev.endPulse_kept ((hM).mono (by decide)) ?_
    | with_reducible refine Dev.hold_kept ((hM).mono (by decide)) ?_
    | with_reducible refine Dev.putFlag_kept ((hM).mono (by decide)) ?_
    | with_reducible refine Dev.put_kept ((hM).mono (by decide)) ?_
    | split
    | dsimp only
    | intro _
    | with_reducible refine Kept.lit_flt ((hM).mono (by decide)) ?_

theorem Dev.clearFactoryKeys_kept {M : Nat} {d0 d : Dev} (hM : Sub 1089 M) (h : Kept M d0 d) :
    Kept M d0 (Dev.clearFactoryKeys d) := by
  unfold Dev.clearFactoryKeys
  repeat' first
    | with_reducible assumption
    | with_reducible refine Dev.clearSlots_kept ((hM).mono (by decide)) ?_
    | split
    | dsimp only
    | intro _

theorem Dev.factoryExit_kept {M : Nat} {d0 d : Dev} (hM : Sub 1121 M) (h : Kept M d0 d) :
    Kept M d0 (Dev.factoryExit d) := by
  unfold Dev.factoryExit
  repeat' first
    | with_reducible assumption
    | with_reducible refine Dev.putFlag_kept ((hM).mono (by decide)) ?_
    | with_reducible refine Dev.clearFactoryKeys_kept ((hM).mono (by decide)) ?_
    | with_reducible refine Dev.dioForceWrite_kept ((hM).mono (by decide)) ?_
    | split
    | dsimp only
    | intro _

theorem Dev.enterSafe_kept {M : Nat} {d0 d : Dev} {a1 : _} {a2 : _} {a3 : _} (hM : Sub 1245161 M) (h : Kept M d0 d) :
    Kept M d0 (Dev.enterSafe a1 a2 a3 d) := by
  unfold Dev.enterSafe
  repeat' first
    | with_reducible assumption
    | with_reducible refine Kept.onlyIf ?_ ?_
    | with_reducible refine Dev.bump_kept ((hM).mono (by decide)) ?_
    | with_reducible refine Dev.transit_kept ((hM).mono (by decide)) ?_
    | with_reducible refine Dev.partialDiscard_kept ((hM).mono (by decide)) ?_
    | with_reducible refine Dev.factoryExit_kept ((hM).mono (by decide)) ?_
    | with_reducible refine Dev.applyPattern_kept ((hM).mono (by decide)) ?_
    | split
    | dsimp only
    | intro _
    | with_reducible refine Kept.lit_sys ((hM).mono (by decide)) ?_

theorem Dev.fltCode_kept {M : Nat} {d0 d : Dev} {a1 : _} (hM : Sub 1 M) (h : Kept M d0 d) :
    Kept M d0 (Dev.fltCode a1 d) := by
  unfold Dev.fltCode
  repeat' first
    | with_reducible assumption
    | with_reducible refine Dev.put_kept ((hM).mono (by decide)) ?_
    | split
    | dsimp only
    | intro _

theorem Dev.forceSafe_kept {M : Nat} {d0 d : Dev} {a1 : _} {a2 : _} (hM : Sub 1245161 M) (h : Kept M d0 d) :
    Kept M d0 (Dev.forceSafe a1 a2 d) := by
  unfold Dev.forceSafe
  repeat' first
    | with_reducible assumption
    | with_reducible refine Dev.fltCode_kept ((hM).mono (by decide)) ?_
    | with_reducible refine Dev.raise_kept ((hM).mono (by decide)) ?_
    | with_reducible refine Dev.enterSafe_kept ((hM).mono (by decide)) ?_
    | split
    | dsimp only
    | intro _

theorem execForceSafe_kept {a1 : _} {a2 : _} {s : State} : KeptX 1245161 s (execForceSafe a1 a2 s) := by
  unfold execForceSafe
  repeat' first
    | with_reducible assumption
    | with_reducible refine runWrite_kept ?_ ((Sub.rfl).mono (by decide))
    | with_reducible refine Dev.forceSafe_kept ((Sub.rfl).mono (by decide)) ?_
    | split
    | dsimp only
    | intro _

theorem Dev.safeExit_kept {M : Nat} {d0 d : Dev} {a1 : _} (hM : Sub 1105481 M) (h : Kept M d0 d) :
    Kept M d0 (Dev.safeExit a1 d) := by
  unfold Dev.safeExit
  repeat' first
    | with_reducible assumption
    | with_reducible refine Kept.onlyIf ?_ ?_
    | with_reducible refine Dev.fltCode_kept ((hM).mono (by decide)) ?_
    | with_reducible refine Dev.putFlag_kept ((hM).mono (by decide)) ?_
    | with_reducible refine Dev.put_kept ((hM).mono (by decide)) ?_
    | with_reducible refine Dev.loadPatternEnd_kept ((hM).mono (by decide)) ?_
    | with_reducible refine Dev.transit_kept ((hM).mono (by decide)) ?_
    | with_reducible refine Dev.clearFactoryKeys_kept ((hM).mono (by decide)) ?_
    | split
    | dsimp only
    | intro _
    | with_reducible refine Kept.lit_flt ((hM).mono (by decide)) ?_

theorem execSafeExit_kept {a1 : _} {s : State} : KeptX 1105481 s (execSafeExit a1 s) := by
  unfold execSafeExit
  repeat' first
    | with_reducible assumption
    | with_reducible refine runWrite_kept ?_ ((Sub.rfl).mono (by decide))
    | with_reducible refine Dev.safeExit_kept ((Sub.rfl).mono (by decide)) ?_
    | split
    | dsimp only
    | intro _

theorem Dev.actReactions_kept {M : Nat} {d0 d : Dev} {a1 : _} (hM : Sub 1245161 M) (h : Kept M d0 d) :
    Kept M d0 (Dev.actReactions a1 d) := by
  unfold Dev.actReactions
  repeat' first
    | with_reducible assumption
    | with_reducible refine Dev.enterSafe_kept ((hM).mono (by decide)) ?_
    | with_reducible refine Dev.onSrc_kept ((hM).mono (by decide)) ?_
    | with_reducible refine Dev.hold_kept ((hM).mono (by decide)) ?_
    | split
    | dsimp only
    | intro _

theorem Dev.fire_kept {M : Nat} {d0 d : Dev} {a1 : _} (hM : Sub 1245161 M) (h : Kept M d0 d) :
    Kept M d0 (Dev.fire a1 d) := by
  unfold Dev.fire
  repeat' first
    | with_reducible assumption
    | with_reducible refine Dev.sysRecord_kept ((hM).mono (by decide)) ?_
    | with_reducible refine Dev.notice_kept ((hM).mono (by decide)) ?_
    | with_reducible refine Dev.recAppendFree_kept ((hM).mono (by decide)) ?_
    | with_reducible refine Dev.pinReaction_kept ((hM).mono (by decide)) ?_
    | with_reducible refine Dev.onSrc_kept ((hM).mono (by decide)) ?_
    | with_reducible refine Dev.actReactions_kept ((hM).mono (by decide)) ?_
    | split
    | dsimp only
    | intro _

theorem Dev.withheldReactions_kept {M : Nat} {d0 d : Dev} (hM : Sub 1245161 M) (h : Kept M d0 d) :
    Kept M d0 (Dev.withheldReactions d) := by
  unfold Dev.withheldReactions
  repeat' first
    | with_reducible assumption
    | with_reducible refine Kept.each ?_ ?_
    | with_reducible refine Dev.actReactions_kept ((hM).mono (by decide)) ?_
    | with_reducible refine Dev.onSrc_kept ((hM).mono (by decide)) ?_
    | split
    | dsimp only
    | intro _

theorem Dev.windowClose_kept {M : Nat} {d0 d : Dev} {a1 : _} (hM : Sub 1 M) (h : Kept M d0 d) :
    Kept M d0 (Dev.windowClose a1 d) := by
  unfold Dev.windowClose
  repeat' first
    | with_reducible assumption
    | with_reducible refine Dev.putFlag_kept ((hM).mono (by decide)) ?_
    | with_reducible refine Dev.put_kept ((hM).mono (by decide)) ?_
    | split
    | dsimp only
    | intro _

theorem Dev.windowOpen_kept {M : Nat} {d0 d : Dev} {a1 : _} (hM : Sub 2049 M) (h : Kept M d0 d) :
    Kept M d0 (Dev.windowOpen a1 d) := by
  unfold Dev.windowOpen
  repeat' first
    | with_reducible assumption
    | with_reducible refine Dev.put_kept ((hM).mono (by decide)) ?_
    | with_reducible refine Dev.onSrc_kept ((hM).mono (by decide)) ?_
    | split
    | dsimp only
    | intro _

theorem Dev.minorReport_kept {M : Nat} {d0 d : Dev} {a1 : _} (hM : Sub 16897 M) (h : Kept M d0 d) :
    Kept M d0 (Dev.minorReport a1 d) := by
  unfold Dev.minorReport
  repeat' first
    | with_reducible assumption
    | with_reducible refine Dev.sysRecord_kept ((hM).mono (by decide)) ?_
    | with_reducible refine Dev.notice_kept ((hM).mono (by decide)) ?_
    | split
    | dsimp only
    | intro _

theorem Dev.putSevere_kept {M : Nat} {d0 d : Dev} {a1 : _} {a2 : _} (hM : Sub 1 M) (h : Kept M d0 d) :
    Kept M d0 (Dev.putSevere a1 a2 d) := by
  unfold Dev.putSevere
  repeat' first
    | with_reducible assumption
    | with_reducible refine Dev.put_kept ((hM).mono (by decide)) ?_
    | split
    | dsimp only
    | intro _

theorem Dev.countEvents_kept {M : Nat} {d0 d : Dev} {a1 : _} {a2 : _} {a3 : _} (hM : Sub 18945 M) (h : Kept M d0 d) :
    KeptP M d0 (Dev.countEvents a1 a2 a3 d) := by
  unfold Dev.countEvents
  repeat' first
    | with_reducible assumption
    | with_reducible refine Dev.count_kept ((hM).mono (by decide)) ?_
    | with_reducible refine Dev.windowClose_kept ((hM).mono (by decide)) ?_
    | with_reducible refine Dev.windowOpen_kept ((hM).mono (by decide)) ?_
    | with_reducible refine Dev.putFlag_kept ((hM).mono (by decide)) ?_
    | with_reducible refine Dev.minorReport_kept ((hM).mono (by decide)) ?_
    | with_reducible refine Dev.put_kept ((hM).mono (by decide)) ?_
    | with_reducible refine Dev.putSevere_kept ((hM).mono (by decide)) ?_
    | split
    | dsimp only
    | intro _
    | with_reducible refine KeptP.mk ?_

theorem Dev.reeveCycle_kept {M : Nat} {d0 d : Dev} {a1 : _}  (hM : Sub 1245161 M) (h : Kept M d0 d) :
    Kept M d0 (Dev.reeveCycle a1 d) := by
  unfold Dev.reeveCycle
  refine Kept.each (fun x e he => Dev.fire_kept (hM.mono (by decide)) he) (KeptP.snd (KeptP.foldl _ (fun x p hp => ?_) _ _ h))
  split
  · exact KeptP.mk (KeptP.of_eq ‹_› (Dev.countEvents_kept (hM.mono (by decide)) hp))
  · exact KeptP.mk (KeptP.of_eq ‹_› (Dev.countEvents_kept (hM.mono (by decide)) hp))

theorem Dev.takeEvents_kept {M : Nat} {d0 d : Dev} {a1 : _} (hM : Sub 1311297 M) (h : Kept M d0 d) :
    KeptP M d0 (Dev.takeEvents a1 d) := by
  unfold Dev.takeEvents
  repeat' first
    | with_reducible assumption
    | with_reducible refine Kept.onlyIf ?_ ?_
    | with_reducible refine Kept.each ?_ ?_
    | with_reducible refine Kept.foldl _ ?_ _ _ ?_
    | with_reducible refine Dev.memError_kept ((hM).mono (by decide)) ?_
    | split
    | dsimp only
    | intro _
    | with_reducible refine Kept.lit_faultQ ((hM).mono (by decide)) ?_
    | with_reducible refine KeptP.mk ?_

theorem execFaultEvent_kept {a1 : _} {s : State} : KeptX 1507305 s (execFaultEvent a1 s) := by
  unfold execFaultEvent
  repeat' first
    | with_reducible assumption
    | with_reducible refine KeptX.run ?_
    | with_reducible refine Dev.takeEvents_kept ((Sub.rfl).mono (by decide)) ?_
    | with_reducible refine Dev.reeveCycle_kept ((Sub.rfl).mono (by decide)) ?_
    | refine KeptP.of_eq (by assumption) ?_
    | with_reducible refine KeptP.snd ?_
    | split
    | dsimp only
    | intro _
    | with_reducible refine KeptP.mk ?_

theorem execFaultWindowClose_kept {a1 : _} {s : State} : KeptX 1 s (execFaultWindowClose a1 s) := by
  unfold execFaultWindowClose
  repeat' first
    | with_reducible assumption
    | with_reducible refine KeptX.run ?_
    | with_reducible refine Kept.onlyIf ?_ ?_
    | with_reducible refine Dev.windowClose_kept ((Sub.rfl).mono (by decide)) ?_
    | split
    | dsimp only
    | intro _

theorem Dev.severeClear_kept {M : Nat} {d0 d : Dev} {a1 : _} {a2 : _} (hM : Sub 2049 M) (h : Kept M d0 d) :
    Kept M d0 (Dev.severeClear a1 a2 d) := by
  unfold Dev.severeClear
  repeat' first
    | with_reducible assumption
    | with_reducible refine Kept.each ?_ ?_
    | with_reducible refine Dev.onSrc_kept ((hM).mono (by decide)) ?_
    | with_reducible refine Dev.windowClose_kept ((hM).mono (by decide)) ?_
    | with_reducible refine Dev.putSevere_kept ((hM).mono (by decide)) ?_
    | split
    | dsimp only
    | intro _

theorem execSevereClear_kept {a1 : _} {a2 : _} {a3 : _} {s : State} : KeptX 1067521 s (execSevereClear a1 a2 a3 s) := by
  unfold execSevereClear
  repeat' first
    | with_reducible assumption
    | with_reducible refine Kept.onlyIf ?_ ?_
    | with_reducible refine runWrite_kept ?_ ((Sub.rfl).mono (by decide))
    | with_reducible refine Dev.severeClear_kept ((Sub.rfl).mono (by decide)) ?_
    | split
    | dsimp only
    | intro _

theorem Dev.inject_kept {M : Nat} {d0 d : Dev} {a1 : _} {a2 : _} {a3 : _} (hM : Sub 1507305 M) (h : Kept M d0 d) :
    Kept M d0 (Dev.inject a1 a2 a3 d) := by
  unfold Dev.inject
  repeat' first
    | with_reducible assumption
    | with_reducible refine Dev.takeEvents_kept ((hM).mono (by decide)) ?_
    | with_reducible refine Dev.reeveCycle_kept ((hM).mono (by decide)) ?_
    | refine KeptP.of_eq (by assumption) ?_
    | with_reducible refine KeptP.snd ?_
    | split
    | dsimp only
    | intro _
    | with_reducible refine KeptP.mk ?_

theorem execFaultInject_kept {a1 : _} {a2 : _} {a3 : _} {a4 : _} {s : State} : KeptX 1507305 s (execFaultInject a1 a2 a3 a4 s) := by
  unfold execFaultInject
  repeat' first
    | with_reducible assumption
    | with_reducible refine runWrite_kept ?_ ((Sub.rfl).mono (by decide))
    | with_reducible refine Dev.inject_kept ((Sub.rfl).mono (by decide)) ?_
    | split
    | dsimp only
    | intro _

theorem Dev.faultsEntry_kept {M : Nat} {d0 d : Dev} (hM : Sub 133249 M) (h : Kept M d0 d) :
    Kept M d0 (Dev.faultsEntry d) := by
  unfold Dev.faultsEntry
  repeat' first
    | with_reducible assumption
    | exact fun c => (Dev.Canonical.slots c : _)
    | exact fun c => (Dev.Canonical.keys c)
    | exact fun c => (Dev.Canonical.regs c)
    | exact fun c => Tab.wf_drop _ _ (Dev.Canonical.slots c)
    | exact fun c => Tab.wf_set _ _ _ (Dev.Canonical.slots c)
    | exact fun c => Tab.wf_set _ _ _ (Dev.Canonical.keys c)
    | exact fun c => Tab.wf_set _ _ _ (Dev.Canonical.regs c)
    | exact fun c => Tab.wf_drop _ _ (Dev.Canonical.regs c)
    | exact fun c => Tab.wf_set _ _ _ (Dev.Canonical.settings c)
    | exact fun _ => rfl
    | with_reducible refine Dev.hold_kept ((hM).mono (by decide)) ?_
    | with_reducible refine Dev.showErr_kept ((hM).mono (by decide)) ?_
    | split
    | dsimp only
    | intro _
    | with_reducible refine Kept.lit_regs_flt ((hM).mono (by decide)) ?_ ((hM).mono (by decide)) ?_

end Sys2Proof.Machine
end

