-- ==== Sys2Proof/Laws/KeptImage.lean ====
section
/-! SUPPORT. What the operations and commands of Machine/Image.lean keep (`Kept`): the parts each changes, and the canonical form. -/

set_option Elab.async false

namespace Sys2Proof.Machine

theorem checked_kept {M : Nat} {d0 : Dev} {a1 : _} {a2 : _} {a3 : _} (h3 : ∀ y0, KeptE M d0 (a3 y0)) (_ : Sub 0 M) :
    KeptE M d0 (checked a1 a2 a3) := by
  unfold checked
  repeat' first
    | with_reducible assumption
    | with_reducible refine h3 _
    | with_reducible exact KeptE.error
    | with_reducible refine KeptE.ok ?_
    | refine KeptE.of_eq (by assumption) ?_
    | split
    | dsimp only
    | intro _

theorem eachItem_kept {M : Nat} {d0 d : Dev} {a1 : _} {a2 : _} (h1 : ∀ y0 y1, Kept M d0 y1 → Kept M d0 (a1 y0 y1)) (hM : Sub 0 M) (h : Kept M d0 d) :
    Kept M d0 (eachItem a1 a2 d) := by
  unfold eachItem
  repeat' first
    | with_reducible assumption
    | with_reducible refine h1 _ _ ?_
    | with_reducible refine Kept.each ?_ ?_
    | split
    | dsimp only
    | intro _

end Sys2Proof.Machine
end

