-- ==== Sys2Proof/Laws/KeptImageEngines.lean ====
section
/-! SUPPORT. What the operations and commands of Machine/ImageEngines.lean keep (`Kept`): the parts each changes, and the canonical form. -/

set_option Elab.async false

namespace Sys2Proof.Machine

theorem eachRec_kept {M : Nat} {d0 d : Dev} {a1 : _} {a2 : _} {a3 : _} {a4 : _} (h2 : ∀ y0 y1, Kept M d0 y1 → Kept M d0 (a2 y0 y1)) (_ : Sub 0 M) (h : Kept M d0 d) :
    KeptE M d0 (eachRec a1 a2 a3 a4 d) := by
  induction a4 generalizing d a3 with
  | nil =>
    unfold eachRec
    repeat' first
      | with_reducible assumption
      | with_reducible refine h2 _ _ ?_
      | with_reducible exact KeptE.error
      | with_reducible refine KeptE.ok ?_
      | refine KeptE.of_eq (by assumption) ?_
      | split
      | dsimp only
      | intro _
      | with_reducible refine KeptP.mk ?_
  | cons x xs ih =>
    unfold eachRec
    repeat' first
      | with_reducible refine ih ?_
      | with_reducible assumption
      | with_reducible refine h2 _ _ ?_
      | with_reducible exact KeptE.error
      | with_reducible refine KeptE.ok ?_
      | refine KeptE.of_eq (by assumption) ?_
      | split
      | dsimp only
      | intro _
      | with_reducible refine KeptP.mk ?_

theorem imemLoad_kept {M : Nat} {d0 d : Dev} {a1 : _} (hM : Sub 64 M) (h : Kept M d0 d) :
    Kept M d0 (imemLoad a1 d) := by
  unfold imemLoad
  repeat' first
    | with_reducible assumption
    | with_reducible refine Kept.foldl _ ?_ _ _ ?_
    | split
    | dsimp only
    | intro _
    | with_reducible refine Kept.lit_eng ((hM).mono (by decide)) ?_

theorem dmemLoad_kept {M : Nat} {d0 d : Dev} {a1 : _} (hM : Sub 64 M) (h : Kept M d0 d) :
    Kept M d0 (dmemLoad a1 d) := by
  unfold dmemLoad
  repeat' first
    | with_reducible assumption
    | with_reducible refine Dev.putDmem_kept ((hM).mono (by decide)) ?_
    | split
    | dsimp only
    | intro _

theorem threadLoad_kept {M : Nat} {d0 d : Dev} {a1 : _} (hM : Sub 65 M) (h : Kept M d0 d) :
    Kept M d0 (threadLoad a1 d) := by
  unfold threadLoad
  repeat' first
    | with_reducible assumption
    | with_reducible refine Kept.foldl _ ?_ _ _ ?_
    | with_reducible refine Dev.put_kept ((hM).mono (by decide)) ?_
    | split
    | dsimp only
    | intro _
    | with_reducible refine Kept.lit_eng ((hM).mono (by decide)) ?_

theorem lktableLoad_kept {M : Nat} {d0 d : Dev} {a1 : _} (hM : Sub 64 M) (h : Kept M d0 d) :
    Kept M d0 (lktableLoad a1 d) := by
  unfold lktableLoad
  repeat' first
    | with_reducible assumption
    | split
    | dsimp only
    | intro _
    | with_reducible refine Kept.lit_eng ((hM).mono (by decide)) ?_

theorem rateLoad_kept {M : Nat} {d0 d : Dev} {a1 : _} (hM : Sub 65 M) (h : Kept M d0 d) :
    Kept M d0 (rateLoad a1 d) := by
  unfold rateLoad
  repeat' first
    | with_reducible assumption
    | with_reducible refine Kept.each ?_ ?_
    | with_reducible refine Dev.put_kept ((hM).mono (by decide)) ?_
    | split
    | dsimp only
    | intro _
    | with_reducible refine Kept.lit_eng ((hM).mono (by decide)) ?_

theorem Dev.putFresh_kept {M : Nat} {d0 d : Dev} {a1 : _} {a2 : _} {a3 : _} (hM : Sub 64 M) (h : Kept M d0 d) :
    Kept M d0 (Dev.putFresh a1 a2 a3 d) := by
  unfold Dev.putFresh
  repeat' first
    | with_reducible assumption
    | split
    | dsimp only
    | intro _
    | with_reducible refine Kept.lit_eng ((hM).mono (by decide)) ?_

theorem Dev.writeEpoch_kept {M : Nat} {d0 d : Dev} {a1 : _} {a2 : _} (hM : Sub 64 M) (h : Kept M d0 d) :
    Kept M d0 (Dev.writeEpoch a1 a2 d) := by
  unfold Dev.writeEpoch
  repeat' first
    | with_reducible assumption
    | split
    | dsimp only
    | intro _
    | with_reducible refine Kept.lit_eng ((hM).mono (by decide)) ?_

theorem Dev.writeEpochs_kept {M : Nat} {d0 d : Dev} (hM : Sub 64 M) (h : Kept M d0 d) :
    Kept M d0 (Dev.writeEpochs d) := by
  unfold Dev.writeEpochs
  repeat' first
    | with_reducible assumption
    | with_reducible refine Kept.each ?_ ?_
    | with_reducible refine Dev.writeEpoch_kept ((hM).mono (by decide)) ?_
    | split
    | dsimp only
    | intro _

theorem freshLoad_kept {M : Nat} {d0 d : Dev} {a1 : _} (hM : Sub 64 M) (h : Kept M d0 d) :
    Kept M d0 (freshLoad a1 d) := by
  unfold freshLoad
  repeat' first
    | with_reducible assumption
    | with_reducible refine Kept.each ?_ ?_
    | with_reducible refine Dev.writeEpoch_kept ((hM).mono (by decide)) ?_
    | with_reducible refine Dev.putFresh_kept ((hM).mono (by decide)) ?_
    | split
    | dsimp only
    | intro _

theorem adjLoad_kept {M : Nat} {d0 d : Dev} {a1 : _} (hM : Sub 64 M) (h : Kept M d0 d) :
    Kept M d0 (adjLoad a1 d) := by
  unfold adjLoad
  repeat' first
    | with_reducible assumption
    | with_reducible refine Kept.each ?_ ?_
    | split
    | dsimp only
    | intro _
    | with_reducible refine Kept.lit_eng ((hM).mono (by decide)) ?_

theorem templateLoad_kept {M : Nat} {d0 d : Dev} {a1 : _} (hM : Sub 64 M) (h : Kept M d0 d) :
    Kept M d0 (templateLoad a1 d) := by
  unfold templateLoad
  repeat' first
    | with_reducible assumption
    | split
    | dsimp only
    | intro _
    | with_reducible refine Kept.lit_eng ((hM).mono (by decide)) ?_

theorem canBindLoad_kept {M : Nat} {d0 d : Dev} {a1 : _} (hM : Sub 65601 M) (h : Kept M d0 d) :
    Kept M d0 (canBindLoad a1 d) := by
  unfold canBindLoad
  repeat' first
    | with_reducible assumption
    | with_reducible refine Kept.each ?_ ?_
    | with_reducible refine Dev.putRing_kept ((hM).mono (by decide)) ?_
    | with_reducible refine Dev.putTiming_kept ((hM).mono (by decide)) ?_
    | with_reducible refine Dev.wr_kept ((hM).mono (by decide)) ?_
    | with_reducible refine Dev.putFlag_kept ((hM).mono (by decide)) ?_
    | with_reducible refine Dev.put_kept ((hM).mono (by decide)) ?_
    | split
    | dsimp only
    | intro _
    | with_reducible refine Kept.lit_can ((hM).mono (by decide)) ?_

theorem ethBindLoad_kept {M : Nat} {d0 d : Dev} {a1 : _} (hM : Sub 64 M) (h : Kept M d0 d) :
    Kept M d0 (ethBindLoad a1 d) := by
  unfold ethBindLoad
  repeat' first
    | with_reducible assumption
    | with_reducible refine Dev.putRing_kept ((hM).mono (by decide)) ?_
    | split
    | dsimp only
    | intro _

theorem applyEngines_kept {M : Nat} {d0 d : Dev} {a1 : _} {a2 : _}  (hM : Sub 65601 M) (h : Kept M d0 d) :
    KeptE M d0 (applyEngines a1 a2 d) := by
  unfold applyEngines
  repeat' first
    | with_reducible assumption
    | with_reducible refine KeptE.bindD ?_ ?_
    | with_reducible refine KeptE.bind ?_
    | with_reducible refine eachRec_kept ?_ ((hM).mono (by decide)) ?_
    | with_reducible refine imemLoad_kept ((hM).mono (by decide)) ?_
    | with_reducible refine dmemLoad_kept ((hM).mono (by decide)) ?_
    | with_reducible refine threadLoad_kept ((hM).mono (by decide)) ?_
    | with_reducible refine lktableLoad_kept ((hM).mono (by decide)) ?_
    | with_reducible refine rateLoad_kept ((hM).mono (by decide)) ?_
    | with_reducible refine freshLoad_kept ((hM).mono (by decide)) ?_
    | with_reducible refine templateLoad_kept ((hM).mono (by decide)) ?_
    | with_reducible refine adjLoad_kept ((hM).mono (by decide)) ?_
    | with_reducible refine canBindLoad_kept ((hM).mono (by decide)) ?_
    | with_reducible refine ethBindLoad_kept ((hM).mono (by decide)) ?_
    | with_reducible exact KeptE.error
    | with_reducible refine KeptE.ok ?_
    | refine KeptE.of_eq (by assumption) ?_
    | split
    | dsimp only
    | intro _
    | with_reducible refine KeptP.mk ?_

end Sys2Proof.Machine
end

