-- ==== Sys2Proof/Laws/KeptImageSections.lean ====
section
/-! SUPPORT. What the operations and commands of Machine/ImageSections.lean keep (`Kept`): the parts each changes, and the canonical form. -/

set_option Elab.async false

namespace Sys2Proof.Machine

theorem securityItem_kept {M : Nat} {d0 d : Dev} {a1 : _}  (hM : Sub 1025 M) (h : Kept M d0 d) :
    Kept M d0 (securityItem a1 d) := by
  unfold securityItem
  simp only [Dev.mk_sec]
  repeat' first
    | with_reducible assumption
    | exact fun c => (Dev.Canonical.slots c : _)
    | split
    | exact fun c => (Dev.Canonical.keys c : _)
    | exact fun c => Tab.wf_drop _ _ (Dev.Canonical.slots c)
    | exact fun _ => rfl
    | with_reducible refine Kept.set_sec ((hM).mono (by decide)) ?_ ?_
    | with_reducible refine Dev.put_kept ((hM).mono (by decide)) ?_
    | dsimp only
    | intro _

theorem applySecurity_kept {M : Nat} {d0 d : Dev} {a1 : _} {a2 : _}  (hM : Sub 1025 M) (h : Kept M d0 d) :
    KeptE M d0 (applySecurity a1 a2 d) := by
  unfold applySecurity
  repeat' first
    | with_reducible assumption
    | with_reducible refine KeptE.bindD ?_ ?_
    | split
    | with_reducible refine KeptE.bind ?_
    | with_reducible refine checked_kept ?_ ((hM).mono (by decide))
    | with_reducible refine eachItem_kept ?_ ((hM).mono (by decide)) ?_
    | with_reducible refine securityItem_kept ((hM).mono (by decide)) ?_
    | with_reducible exact KeptE.error
    | with_reducible refine KeptE.ok ?_
    | refine KeptE.of_eq (by assumption) ?_
    | dsimp only
    | intro _

theorem recorderItem_kept {M : Nat} {d0 d : Dev} {a1 : _}  (hM : Sub 1025 M) (h : Kept M d0 d) :
    Kept M d0 (recorderItem a1 d) := by
  unfold recorderItem
  simp only [Dev.mk_sec]
  repeat' first
    | with_reducible assumption
    | exact fun c => (Dev.Canonical.slots c : _)
    | split
    | exact fun c => (Dev.Canonical.keys c : _)
    | exact fun c => Tab.wf_drop _ _ (Dev.Canonical.slots c)
    | exact fun _ => rfl
    | with_reducible refine Kept.set_sec ((hM).mono (by decide)) ?_ ?_
    | with_reducible refine Dev.putFlag_kept ((hM).mono (by decide)) ?_
    | dsimp only
    | intro _
    | with_reducible refine KeptP.mk ?_

theorem applyRecorder_kept {M : Nat} {d0 d : Dev} {a1 : _} {a2 : _}  (hM : Sub 1025 M) (h : Kept M d0 d) :
    KeptE M d0 (applyRecorder a1 a2 d) := by
  unfold applyRecorder
  repeat' first
    | with_reducible assumption
    | with_reducible refine KeptE.bindD ?_ ?_
    | split
    | with_reducible refine KeptE.bind ?_
    | with_reducible refine checked_kept ?_ ((hM).mono (by decide))
    | with_reducible refine eachItem_kept ?_ ((hM).mono (by decide)) ?_
    | with_reducible refine recorderItem_kept ((hM).mono (by decide)) ?_
    | with_reducible exact KeptE.error
    | with_reducible refine KeptE.ok ?_
    | refine KeptE.of_eq (by assumption) ?_
    | dsimp only
    | intro _

theorem timeItem_kept {M : Nat} {d0 d : Dev} {a1 : _}  (hM : Sub 129 M) (h : Kept M d0 d) :
    Kept M d0 (timeItem a1 d) := by
  unfold timeItem
  simp only [Dev.mk_time]
  repeat' first
    | with_reducible assumption
    | with_reducible refine Kept.set_time ((hM).mono (by decide)) ?_
    | split
    | with_reducible refine Dev.put_kept ((hM).mono (by decide)) ?_
    | with_reducible refine Dev.putFlag_kept ((hM).mono (by decide)) ?_
    | with_reducible refine Dev.putTdCfg_kept ((hM).mono (by decide)) ?_
    | dsimp only
    | intro _
    | with_reducible refine KeptP.mk ?_

theorem applyTime_kept {M : Nat} {d0 d : Dev} {a1 : _} {a2 : _}  (hM : Sub 129 M) (h : Kept M d0 d) :
    KeptE M d0 (applyTime a1 a2 d) := by
  unfold applyTime
  repeat' first
    | with_reducible assumption
    | with_reducible refine KeptE.bindD ?_ ?_
    | split
    | with_reducible refine KeptE.bind ?_
    | with_reducible refine checked_kept ?_ ((hM).mono (by decide))
    | with_reducible refine eachItem_kept ?_ ((hM).mono (by decide)) ?_
    | with_reducible refine timeItem_kept ((hM).mono (by decide)) ?_
    | with_reducible exact KeptE.error
    | with_reducible refine KeptE.ok ?_
    | refine KeptE.of_eq (by assumption) ?_
    | dsimp only
    | intro _

theorem slotItem_kept {M : Nat} {d0 d : Dev} {a1 : _} (hM : Sub 32 M) (h : Kept M d0 d) :
    Kept M d0 (slotItem a1 d) := by
  unfold slotItem
  repeat' first
    | with_reducible assumption
    | with_reducible refine Dev.invalidate_kept ((hM).mono (by decide)) ?_
    | with_reducible refine Dev.putSlot_kept ((hM).mono (by decide)) ?_
    | split
    | dsimp only
    | intro _

theorem routeItem_kept {M : Nat} {d0 d : Dev} {a1 : _}  (hM : Sub 32 M) (h : Kept M d0 d) :
    Kept M d0 (routeItem a1 d) := by
  unfold routeItem
  simp only [Dev.mk_store]
  repeat' first
    | with_reducible assumption
    | exact fun c => (Dev.Canonical.slots c : _)
    | split
    | exact fun c => (Dev.Canonical.keys c : _)
    | exact fun c => Tab.wf_drop _ _ (Dev.Canonical.slots c)
    | exact fun _ => rfl
    | with_reducible refine Kept.set_store ((hM).mono (by decide)) ?_ ?_
    | dsimp only
    | intro _

theorem signalsItem_kept {M : Nat} {d0 d : Dev} {a1 : _} (hM : Sub 33 M) (h : Kept M d0 d) :
    Kept M d0 (signalsItem a1 d) := by
  unfold signalsItem
  repeat' first
    | with_reducible assumption
    | with_reducible refine slotItem_kept ((hM).mono (by decide)) ?_
    | with_reducible refine Dev.wr_kept ((hM).mono (by decide)) ?_
    | with_reducible refine routeItem_kept ((hM).mono (by decide)) ?_
    | split
    | dsimp only
    | intro _

theorem applySignals_kept {M : Nat} {d0 d : Dev} {a1 : _} {a2 : _}  (hM : Sub 33 M) (h : Kept M d0 d) :
    KeptE M d0 (applySignals a1 a2 d) := by
  unfold applySignals
  refine KeptE.bind fun xs => checked_kept (fun ys => ?_) (hM.mono (by decide))
  dsimp only
  split
  · exact KeptE.error
  · exact KeptE.ok (eachItem_kept (fun x e he => signalsItem_kept (hM.mono (by decide)) he) (hM.mono (by decide)) h)

theorem queuesItem_kept {M : Nat} {d0 d : Dev} {a1 : _}  (hM : Sub 513 M) (h : Kept M d0 d) :
    Kept M d0 (queuesItem a1 d) := by
  unfold queuesItem
  simp only [Dev.mk_hq]
  repeat' first
    | with_reducible assumption
    | with_reducible refine Kept.set_hq ((hM).mono (by decide)) ?_
    | split
    | with_reducible refine Kept.foldl _ ?_ _ _ ?_
    | with_reducible refine Dev.put_kept ((hM).mono (by decide)) ?_
    | with_reducible refine Dev.putFlag_kept ((hM).mono (by decide)) ?_
    | with_reducible refine Dev.onQueue_kept ((hM).mono (by decide)) ?_
    | dsimp only
    | intro _

theorem applyQueues_kept {M : Nat} {d0 d : Dev} {a1 : _} {a2 : _}  (hM : Sub 513 M) (h : Kept M d0 d) :
    KeptE M d0 (applyQueues a1 a2 d) := by
  unfold applyQueues
  repeat' first
    | with_reducible assumption
    | with_reducible refine KeptE.bindD ?_ ?_
    | split
    | with_reducible refine KeptE.bind ?_
    | with_reducible refine checked_kept ?_ ((hM).mono (by decide))
    | with_reducible refine eachItem_kept ?_ ((hM).mono (by decide)) ?_
    | with_reducible refine queuesItem_kept ((hM).mono (by decide)) ?_
    | with_reducible exact KeptE.error
    | with_reducible refine KeptE.ok ?_
    | refine KeptE.of_eq (by assumption) ?_
    | dsimp only
    | intro _
    | with_reducible refine KeptP.mk ?_

theorem switchPort_kept {M : Nat} {d0 d : Dev} {a1 : _} {a2 : _}  (hM : Sub 131073 M) (h : Kept M d0 d) :
    Kept M d0 (switchPort a1 a2 d) := by
  unfold switchPort
  simp only [Dev.mk_sw]
  repeat' first
    | with_reducible assumption
    | with_reducible refine Kept.set_sw ((hM).mono (by decide)) ?_
    | split
    | with_reducible refine Dev.put_kept ((hM).mono (by decide)) ?_
    | dsimp only
    | intro _

theorem switchItem_kept {M : Nat} {d0 d : Dev} {a1 : _}  (hM : Sub 131073 M) (h : Kept M d0 d) :
    Kept M d0 (switchItem a1 d) := by
  unfold switchItem
  simp only [Dev.mk_sw]
  repeat' first
    | with_reducible assumption
    | with_reducible refine Kept.set_sw ((hM).mono (by decide)) ?_
    | split
    | with_reducible refine Dev.put_kept ((hM).mono (by decide)) ?_
    | dsimp only
    | intro _
    | with_reducible refine KeptP.mk ?_

theorem applySwitch_kept {M : Nat} {d0 d : Dev} {a1 : _} {a2 : _}  (hM : Sub 131073 M) (h : Kept M d0 d) :
    KeptE M d0 (applySwitch a1 a2 d) := by
  unfold applySwitch
  simp only [Dev.mk_sw]
  repeat' first
    | with_reducible assumption
    | with_reducible refine KeptE.bindD ?_ ?_
    | split
    | with_reducible refine KeptE.bind ?_
    | with_reducible refine Kept.set_sw ((hM).mono (by decide)) ?_
    | with_reducible refine checked_kept ?_ ((hM).mono (by decide))
    | with_reducible refine Dev.put_kept ((hM).mono (by decide)) ?_
    | with_reducible refine eachItem_kept ?_ ((hM).mono (by decide)) ?_
    | with_reducible refine switchItem_kept ((hM).mono (by decide)) ?_
    | with_reducible refine Kept.each ?_ ?_
    | with_reducible refine switchPort_kept ((hM).mono (by decide)) ?_
    | with_reducible exact KeptE.error
    | with_reducible refine KeptE.ok ?_
    | refine KeptE.of_eq (by assumption) ?_
    | dsimp only
    | intro _
    | with_reducible refine KeptP.mk ?_

theorem exportItem_kept {M : Nat} {d0 d : Dev} {a1 : _}  (hM : Sub 262144 M) (h : Kept M d0 d) :
    Kept M d0 (exportItem a1 d) := by
  unfold exportItem
  simp only [Dev.mk_drv]
  repeat' first
    | with_reducible assumption
    | with_reducible refine Kept.set_drv ((hM).mono (by decide)) ?_
    | split
    | dsimp only
    | intro _

theorem ringItem_kept {M : Nat} {d0 d : Dev} {a1 : _}  (hM : Sub 262177 M) (h : Kept M d0 d) :
    Kept M d0 (ringItem a1 d) := by
  unfold ringItem
  simp only [Dev.mk_store, Dev.mk_drv, Dev.mk_store_drv]
  repeat' first
    | with_reducible assumption
    | exact fun c => (Dev.Canonical.slots c : _)
    | split
    | exact fun c => (Dev.Canonical.keys c : _)
    | exact fun c => Tab.wf_drop _ _ (Dev.Canonical.slots c)
    | exact fun _ => rfl
    | with_reducible refine Kept.set_store ((hM).mono (by decide)) ?_ ?_
    | with_reducible refine Kept.set_drv ((hM).mono (by decide)) ?_
    | with_reducible refine Dev.put_kept ((hM).mono (by decide)) ?_
    | with_reducible refine exportItem_kept ((hM).mono (by decide)) ?_
    | dsimp only
    | intro _
    | with_reducible refine KeptP.mk ?_

theorem applyRing_kept {M : Nat} {d0 d : Dev} {a1 : _} {a2 : _}  (hM : Sub 262177 M) (h : Kept M d0 d) :
    KeptE M d0 (applyRing a1 a2 d) := by
  unfold applyRing
  split
  · exact KeptE.error
  · refine checked_kept (fun ys => ?_) (hM.mono (by decide))
    dsimp only
    split
    · exact KeptE.ok (eachItem_kept (fun x e he => ringItem_kept hM he) (hM.mono (by decide))
        (Dev.put_kept (hM.mono (by decide)) (Kept.lit_drv (hM.mono (by decide)) h)))
    · exact KeptE.error

theorem loadsItem_kept {M : Nat} {d0 d : Dev} {a1 : _}  (hM : Sub 32769 M) (h : Kept M d0 d) :
    Kept M d0 (loadsItem a1 d) := by
  unfold loadsItem
  simp only [Dev.mk_loads]
  repeat' first
    | with_reducible assumption
    | with_reducible refine Kept.set_loads ((hM).mono (by decide)) ?_
    | split
    | with_reducible refine Dev.put_kept ((hM).mono (by decide)) ?_
    | with_reducible refine Dev.putFlag_kept ((hM).mono (by decide)) ?_
    | dsimp only
    | intro _

theorem applyLoads_kept {M : Nat} {d0 d : Dev} {a1 : _} {a2 : _}  (hM : Sub 32769 M) (h : Kept M d0 d) :
    KeptE M d0 (applyLoads a1 a2 d) := by
  unfold applyLoads
  repeat' first
    | with_reducible assumption
    | with_reducible refine KeptE.bindD ?_ ?_
    | split
    | with_reducible refine KeptE.bind ?_
    | with_reducible refine checked_kept ?_ ((hM).mono (by decide))
    | with_reducible refine eachItem_kept ?_ ((hM).mono (by decide)) ?_
    | with_reducible refine loadsItem_kept ((hM).mono (by decide)) ?_
    | with_reducible exact KeptE.error
    | with_reducible refine KeptE.ok ?_
    | refine KeptE.of_eq (by assumption) ?_
    | dsimp only
    | intro _

theorem phaseItem_kept {M : Nat} {d0 d : Dev} {a1 : _} (hM : Sub 257 M) (h : Kept M d0 d) :
    Kept M d0 (phaseItem a1 d) := by
  unfold phaseItem
  repeat' first
    | with_reducible assumption
    | with_reducible refine Dev.put_kept ((hM).mono (by decide)) ?_
    | with_reducible refine Dev.onPhDom_kept ((hM).mono (by decide)) ?_
    | with_reducible refine Dev.putPair_kept ((hM).mono (by decide)) ?_
    | with_reducible refine Dev.putFlag_kept ((hM).mono (by decide)) ?_
    | with_reducible refine Dev.putDioLine_kept ((hM).mono (by decide)) ?_
    | split
    | dsimp only
    | intro _

theorem applyPhase_kept {M : Nat} {d0 d : Dev} {a1 : _} {a2 : _} {a3 : _}  (hM : Sub 257 M) (h : Kept M d0 d) :
    KeptE M d0 (applyPhase a1 a2 a3 d) := by
  unfold applyPhase
  repeat' first
    | with_reducible assumption
    | with_reducible refine KeptE.bindD ?_ ?_
    | split
    | with_reducible refine KeptE.bind ?_
    | with_reducible refine checked_kept ?_ ((hM).mono (by decide))
    | with_reducible refine eachItem_kept ?_ ((hM).mono (by decide)) ?_
    | with_reducible refine phaseItem_kept ((hM).mono (by decide)) ?_
    | with_reducible exact KeptE.error
    | with_reducible refine KeptE.ok ?_
    | refine KeptE.of_eq (by assumption) ?_
    | dsimp only
    | intro _

theorem faultsItem_kept {M : Nat} {d0 d : Dev} {a1 : _}  (hM : Sub 2049 M) (h : Kept M d0 d) :
    Kept M d0 (faultsItem a1 d) := by
  unfold faultsItem
  simp only [Dev.mk_flt]
  repeat' first
    | with_reducible assumption
    | with_reducible refine Kept.set_flt ((hM).mono (by decide)) ?_
    | split
    | with_reducible refine Dev.put_kept ((hM).mono (by decide)) ?_
    | with_reducible refine Dev.putFlag_kept ((hM).mono (by decide)) ?_
    | dsimp only
    | intro _

theorem applyFaults_kept {M : Nat} {d0 d : Dev} {a1 : _} {a2 : _} {a3 : _}  (hM : Sub 2049 M) (h : Kept M d0 d) :
    KeptE M d0 (applyFaults a1 a2 a3 d) := by
  unfold applyFaults
  repeat' first
    | with_reducible assumption
    | with_reducible refine KeptE.bindD ?_ ?_
    | split
    | with_reducible refine KeptE.bind ?_
    | with_reducible refine checked_kept ?_ ((hM).mono (by decide))
    | with_reducible refine eachItem_kept ?_ ((hM).mono (by decide)) ?_
    | with_reducible refine faultsItem_kept ((hM).mono (by decide)) ?_
    | with_reducible exact KeptE.error
    | with_reducible refine KeptE.ok ?_
    | refine KeptE.of_eq (by assumption) ?_
    | dsimp only
    | intro _

theorem pinItem_kept {M : Nat} {d0 d : Dev} {a1 : _}  (hM : Sub 65792 M) (h : Kept M d0 d) :
    Kept M d0 (pinItem a1 d) := by
  unfold pinItem
  simp only [Dev.mk_can]
  repeat' first
    | with_reducible assumption
    | with_reducible refine Kept.set_can ((hM).mono (by decide)) ?_
    | split
    | with_reducible refine Dev.putDioLine_kept ((hM).mono (by decide)) ?_
    | dsimp only
    | intro _

theorem applyPins_kept {M : Nat} {d0 d : Dev} {a1 : _} {a2 : _}  (hM : Sub 205056 M) (h : Kept M d0 d) :
    KeptE M d0 (applyPins a1 a2 d) := by
  unfold applyPins
  simp only [Dev.mk_img_sw]
  repeat' first
    | with_reducible assumption
    | with_reducible refine KeptE.bindD ?_ ?_
    | split
    | with_reducible refine KeptE.bind ?_
    | with_reducible refine Kept.set_img ((hM).mono (by decide)) ?_
    | with_reducible refine Kept.set_sw ((hM).mono (by decide)) ?_
    | with_reducible refine checked_kept ?_ ((hM).mono (by decide))
    | with_reducible refine eachItem_kept ?_ ((hM).mono (by decide)) ?_
    | with_reducible refine pinItem_kept ((hM).mono (by decide)) ?_
    | with_reducible refine Kept.foldl _ ?_ _ _ ?_
    | with_reducible exact KeptE.error
    | with_reducible refine KeptE.ok ?_
    | refine KeptE.of_eq (by assumption) ?_
    | dsimp only
    | intro _
    | with_reducible refine KeptP.mk ?_

end Sys2Proof.Machine
end

