-- ==== Sys2Proof/Laws/KeptRecorder.lean ====
section
/-! SUPPORT. What the operations and commands of Machine/Recorder.lean keep (`Kept`): the parts each changes, and the canonical form. -/

set_option Elab.async false

namespace Sys2Proof.Machine

theorem Dev.exportShow_kept {M : Nat} {d0 d : Dev} (hM : Sub 1 M) (h : Kept M d0 d) :
    Kept M d0 (Dev.exportShow d) := by
  unfold Dev.exportShow
  repeat' first
    | with_reducible assumption
    | with_reducible refine Dev.put_kept ((hM).mono (by decide)) ?_
    | with_reducible refine Dev.putFlag_kept ((hM).mono (by decide)) ?_
    | split
    | dsimp only
    | intro _

theorem Dev.recControl_kept {M : Nat} {d0 d : Dev} (hM : Sub 1024 M) (h : Kept M d0 d) :
    Kept M d0 (Dev.recControl d) := by
  unfold Dev.recControl
  repeat' first
    | with_reducible assumption
    | exact fun c => (Dev.Canonical.slots c : _)
    | exact fun c => (Dev.Canonical.keys c)
    | exact fun c => (Dev.Canonical.regs c)
    | exact fun c => Tab.wf_drop _ _ (Dev.Canonical.slots c)
    | exact fun c => Tab.wf_set _ _ _ (Dev.Canonical.slots c)
    | exact fun c => Tab.wf_set _ _ _ (Dev.Canonical.keys c)
    | exact fun c => Tab.wf_set _ _ _ (Dev.Canonical.regs c)
    | exact fun c => Tab.wf_drop _ _ (Dev.Canonical.regs c)
    | exact fun c => Tab.wf_set _ _ _ (Dev.Canonical.settings c)
    | exact fun _ => rfl
    | split
    | dsimp only
    | intro _
    | with_reducible refine Kept.lit_sec ((hM).mono (by decide)) ?_ ?_

theorem Dev.recShow_kept {M : Nat} {d0 d : Dev} (hM : Sub 1049601 M) (h : Kept M d0 d) :
    Kept M d0 (Dev.recShow d) := by
  unfold Dev.recShow
  repeat' first
    | with_reducible assumption
    | exact fun c => (Dev.Canonical.slots c : _)
    | exact fun c => (Dev.Canonical.keys c)
    | exact fun c => (Dev.Canonical.regs c)
    | exact fun c => Tab.wf_drop _ _ (Dev.Canonical.slots c)
    | exact fun c => Tab.wf_set _ _ _ (Dev.Canonical.slots c)
    | exact fun c => Tab.wf_set _ _ _ (Dev.Canonical.keys c)
    | exact fun c => Tab.wf_set _ _ _ (Dev.Canonical.regs c)
    | exact fun c => Tab.wf_drop _ _ (Dev.Canonical.regs c)
    | exact fun c => Tab.wf_set _ _ _ (Dev.Canonical.settings c)
    | exact fun _ => rfl
    | with_reducible refine Dev.exportShow_kept ((hM).mono (by decide)) ?_
    | with_reducible refine Dev.recControl_kept ((hM).mono (by decide)) ?_
    | with_reducible refine Dev.put_kept ((hM).mono (by decide)) ?_
    | with_reducible refine Dev.putPair_kept ((hM).mono (by decide)) ?_
    | with_reducible refine Dev.putFlag_kept ((hM).mono (by decide)) ?_
    | with_reducible refine Dev.raise_kept ((hM).mono (by decide)) ?_
    | split
    | dsimp only
    | intro _
    | with_reducible refine Kept.lit_sec ((hM).mono (by decide)) ?_ ?_

theorem Dev.addSector_kept {M : Nat} {d0 d : Dev} {a1 : _} (hM : Sub 1024 M) (h : Kept M d0 d) :
    Kept M d0 (Dev.addSector a1 d) := by
  unfold Dev.addSector
  repeat' first
    | with_reducible assumption
    | exact fun c => (Dev.Canonical.slots c : _)
    | exact fun c => (Dev.Canonical.keys c)
    | exact fun c => (Dev.Canonical.regs c)
    | exact fun c => Tab.wf_drop _ _ (Dev.Canonical.slots c)
    | exact fun c => Tab.wf_set _ _ _ (Dev.Canonical.slots c)
    | exact fun c => Tab.wf_set _ _ _ (Dev.Canonical.keys c)
    | exact fun c => Tab.wf_set _ _ _ (Dev.Canonical.regs c)
    | exact fun c => Tab.wf_drop _ _ (Dev.Canonical.regs c)
    | exact fun c => Tab.wf_set _ _ _ (Dev.Canonical.settings c)
    | exact fun _ => rfl
    | split
    | dsimp only
    | intro _
    | with_reducible refine Kept.lit_sec ((hM).mono (by decide)) ?_ ?_

theorem Dev.writeRecord_kept {M : Nat} {d0 d : Dev} {a1 : _} (hM : Sub 1049601 M) (h : Kept M d0 d) :
    Kept M d0 (Dev.writeRecord a1 d) := by
  unfold Dev.writeRecord
  repeat' first
    | with_reducible assumption
    | exact fun c => (Dev.Canonical.slots c : _)
    | exact fun c => (Dev.Canonical.keys c)
    | exact fun c => (Dev.Canonical.regs c)
    | exact fun c => Tab.wf_drop _ _ (Dev.Canonical.slots c)
    | exact fun c => Tab.wf_set _ _ _ (Dev.Canonical.slots c)
    | exact fun c => Tab.wf_set _ _ _ (Dev.Canonical.keys c)
    | exact fun c => Tab.wf_set _ _ _ (Dev.Canonical.regs c)
    | exact fun c => Tab.wf_drop _ _ (Dev.Canonical.regs c)
    | exact fun c => Tab.wf_set _ _ _ (Dev.Canonical.settings c)
    | exact fun _ => rfl
    | with_reducible refine Dev.addSector_kept ((hM).mono (by decide)) ?_
    | with_reducible refine Dev.recShow_kept ((hM).mono (by decide)) ?_
    | with_reducible refine Dev.putPair_kept ((hM).mono (by decide)) ?_
    | split
    | dsimp only
    | intro _
    | with_reducible refine Kept.lit_sec ((hM).mono (by decide)) ?_ ?_

theorem Dev.noteLosses_kept {M : Nat} {d0 d : Dev} (hM : Sub 1049601 M) (h : Kept M d0 d) :
    Kept M d0 (Dev.noteLosses d) := by
  unfold Dev.noteLosses
  repeat' first
    | with_reducible assumption
    | exact fun c => (Dev.Canonical.slots c : _)
    | exact fun c => (Dev.Canonical.keys c)
    | exact fun c => (Dev.Canonical.regs c)
    | exact fun c => Tab.wf_drop _ _ (Dev.Canonical.slots c)
    | exact fun c => Tab.wf_set _ _ _ (Dev.Canonical.slots c)
    | exact fun c => Tab.wf_set _ _ _ (Dev.Canonical.keys c)
    | exact fun c => Tab.wf_set _ _ _ (Dev.Canonical.regs c)
    | exact fun c => Tab.wf_drop _ _ (Dev.Canonical.regs c)
    | exact fun c => Tab.wf_set _ _ _ (Dev.Canonical.settings c)
    | exact fun _ => rfl
    | with_reducible refine Dev.recAppendFree_kept ((hM).mono (by decide)) ?_
    | split
    | dsimp only
    | intro _
    | with_reducible refine Kept.lit_sec ((hM).mono (by decide)) ?_ ?_

theorem execRecorderWrite_kept {s : State} : KeptX 1049601 s (execRecorderWrite s) := by
  unfold execRecorderWrite
  repeat' first
    | with_reducible assumption
    | exact fun c => (Dev.Canonical.slots c : _)
    | exact fun c => (Dev.Canonical.keys c)
    | exact fun c => (Dev.Canonical.regs c)
    | exact fun c => Tab.wf_drop _ _ (Dev.Canonical.slots c)
    | exact fun c => Tab.wf_set _ _ _ (Dev.Canonical.slots c)
    | exact fun c => Tab.wf_set _ _ _ (Dev.Canonical.keys c)
    | exact fun c => Tab.wf_set _ _ _ (Dev.Canonical.regs c)
    | exact fun c => Tab.wf_drop _ _ (Dev.Canonical.regs c)
    | exact fun c => Tab.wf_set _ _ _ (Dev.Canonical.settings c)
    | exact fun _ => rfl
    | with_reducible refine KeptX.run ?_
    | with_reducible refine Dev.noteLosses_kept ((Sub.rfl).mono (by decide)) ?_
    | with_reducible refine Dev.writeRecord_kept ((Sub.rfl).mono (by decide)) ?_
    | split
    | dsimp only
    | intro _
    | with_reducible refine Kept.lit_sec ((Sub.rfl).mono (by decide)) ?_ ?_

theorem Dev.recCode_kept {M : Nat} {d0 d : Dev} {a1 : _} (hM : Sub 1 M) (h : Kept M d0 d) :
    Kept M d0 (Dev.recCode a1 d) := by
  unfold Dev.recCode
  repeat' first
    | with_reducible assumption
    | with_reducible refine Dev.put_kept ((hM).mono (by decide)) ?_
    | split
    | dsimp only
    | intro _

theorem Dev.hostAppend_kept {M : Nat} {d0 d : Dev} (hM : Sub 1049601 M) (h : Kept M d0 d) :
    Kept M d0 (Dev.hostAppend d) := by
  unfold Dev.hostAppend
  repeat' first
    | with_reducible assumption
    | with_reducible refine Dev.recCode_kept ((hM).mono (by decide)) ?_
    | with_reducible refine Dev.recEnqueue_kept ((hM).mono (by decide)) ?_
    | split
    | dsimp only
    | intro _

theorem execRecAppend_kept {a1 : _} {s : State} : KeptX 1066497 s (execRecAppend a1 s) := by
  unfold execRecAppend
  repeat' first
    | with_reducible assumption
    | with_reducible refine runWrite_kept ?_ ((Sub.rfl).mono (by decide))
    | with_reducible refine Dev.hostAppend_kept ((Sub.rfl).mono (by decide)) ?_
    | split
    | dsimp only
    | intro _

theorem execCheckpoint_kept {s : State} : KeptX 1025 s (execCheckpoint s) := by
  unfold execCheckpoint
  repeat' first
    | with_reducible assumption
    | exact fun c => (Dev.Canonical.slots c : _)
    | exact fun c => (Dev.Canonical.keys c)
    | exact fun c => (Dev.Canonical.regs c)
    | exact fun c => Tab.wf_drop _ _ (Dev.Canonical.slots c)
    | exact fun c => Tab.wf_set _ _ _ (Dev.Canonical.slots c)
    | exact fun c => Tab.wf_set _ _ _ (Dev.Canonical.keys c)
    | exact fun c => Tab.wf_set _ _ _ (Dev.Canonical.regs c)
    | exact fun c => Tab.wf_drop _ _ (Dev.Canonical.regs c)
    | exact fun c => Tab.wf_set _ _ _ (Dev.Canonical.settings c)
    | exact fun _ => rfl
    | with_reducible refine KeptX.run ?_
    | with_reducible refine Dev.pqCode_kept ((Sub.rfl).mono (by decide)) ?_
    | with_reducible refine Dev.ckptFailed_kept ((Sub.rfl).mono (by decide)) ?_
    | with_reducible refine Dev.putFlag_kept ((Sub.rfl).mono (by decide)) ?_
    | split
    | dsimp only
    | intro _
    | with_reducible refine Kept.lit_sec ((Sub.rfl).mono (by decide)) ?_ ?_

theorem Dev.ckptRequest_kept {M : Nat} {d0 d : Dev} (hM : Sub 1025 M) (h : Kept M d0 d) :
    Kept M d0 (Dev.ckptRequest d) := by
  unfold Dev.ckptRequest
  repeat' first
    | with_reducible assumption
    | exact fun c => (Dev.Canonical.slots c : _)
    | exact fun c => (Dev.Canonical.keys c)
    | exact fun c => (Dev.Canonical.regs c)
    | exact fun c => Tab.wf_drop _ _ (Dev.Canonical.slots c)
    | exact fun c => Tab.wf_set _ _ _ (Dev.Canonical.slots c)
    | exact fun c => Tab.wf_set _ _ _ (Dev.Canonical.keys c)
    | exact fun c => Tab.wf_set _ _ _ (Dev.Canonical.regs c)
    | exact fun c => Tab.wf_drop _ _ (Dev.Canonical.regs c)
    | exact fun c => Tab.wf_set _ _ _ (Dev.Canonical.settings c)
    | exact fun _ => rfl
    | with_reducible refine Dev.recCode_kept ((hM).mono (by decide)) ?_
    | split
    | dsimp only
    | intro _
    | with_reducible refine Kept.lit_sec ((hM).mono (by decide)) ?_ ?_

theorem execCkptRequest_kept {a1 : _} {s : State} : KeptX 1066497 s (execCkptRequest a1 s) := by
  unfold execCkptRequest
  repeat' first
    | with_reducible assumption
    | with_reducible refine runWrite_kept ?_ ((Sub.rfl).mono (by decide))
    | with_reducible refine Dev.ckptRequest_kept ((Sub.rfl).mono (by decide)) ?_
    | split
    | dsimp only
    | intro _

theorem Dev.ckptForSleep_kept {M : Nat} {d0 d : Dev} (hM : Sub 1024 M) (h : Kept M d0 d) :
    Kept M d0 (Dev.ckptForSleep d) := by
  unfold Dev.ckptForSleep
  repeat' first
    | with_reducible assumption
    | exact fun c => (Dev.Canonical.slots c : _)
    | exact fun c => (Dev.Canonical.keys c)
    | exact fun c => (Dev.Canonical.regs c)
    | exact fun c => Tab.wf_drop _ _ (Dev.Canonical.slots c)
    | exact fun c => Tab.wf_set _ _ _ (Dev.Canonical.slots c)
    | exact fun c => Tab.wf_set _ _ _ (Dev.Canonical.keys c)
    | exact fun c => Tab.wf_set _ _ _ (Dev.Canonical.regs c)
    | exact fun c => Tab.wf_drop _ _ (Dev.Canonical.regs c)
    | exact fun c => Tab.wf_set _ _ _ (Dev.Canonical.settings c)
    | exact fun _ => rfl
    | split
    | dsimp only
    | intro _
    | with_reducible refine Kept.lit_sec ((hM).mono (by decide)) ?_ ?_

theorem execCkptAgeExpiry_kept {s : State} : KeptX 1024 s (execCkptAgeExpiry s) := by
  unfold execCkptAgeExpiry
  repeat' first
    | with_reducible assumption
    | exact fun c => (Dev.Canonical.slots c : _)
    | exact fun c => (Dev.Canonical.keys c)
    | exact fun c => (Dev.Canonical.regs c)
    | exact fun c => Tab.wf_drop _ _ (Dev.Canonical.slots c)
    | exact fun c => Tab.wf_set _ _ _ (Dev.Canonical.slots c)
    | exact fun c => Tab.wf_set _ _ _ (Dev.Canonical.keys c)
    | exact fun c => Tab.wf_set _ _ _ (Dev.Canonical.regs c)
    | exact fun c => Tab.wf_drop _ _ (Dev.Canonical.regs c)
    | exact fun c => Tab.wf_set _ _ _ (Dev.Canonical.settings c)
    | exact fun _ => rfl
    | with_reducible refine KeptX.run ?_
    | split
    | dsimp only
    | intro _
    | with_reducible refine Kept.lit_sec ((Sub.rfl).mono (by decide)) ?_ ?_

theorem execCkptRetry_kept {s : State} : KeptX 1024 s (execCkptRetry s) := by
  unfold execCkptRetry
  repeat' first
    | with_reducible assumption
    | exact fun c => (Dev.Canonical.slots c : _)
    | exact fun c => (Dev.Canonical.keys c)
    | exact fun c => (Dev.Canonical.regs c)
    | exact fun c => Tab.wf_drop _ _ (Dev.Canonical.slots c)
    | exact fun c => Tab.wf_set _ _ _ (Dev.Canonical.slots c)
    | exact fun c => Tab.wf_set _ _ _ (Dev.Canonical.keys c)
    | exact fun c => Tab.wf_set _ _ _ (Dev.Canonical.regs c)
    | exact fun c => Tab.wf_drop _ _ (Dev.Canonical.regs c)
    | exact fun c => Tab.wf_set _ _ _ (Dev.Canonical.settings c)
    | exact fun _ => rfl
    | with_reducible refine KeptX.run ?_
    | split
    | dsimp only
    | intro _
    | with_reducible refine Kept.lit_sec ((Sub.rfl).mono (by decide)) ?_ ?_

theorem execCheckSectorWritten_kept {s : State} : KeptX 1049601 s (execCheckSectorWritten s) := by
  unfold execCheckSectorWritten
  repeat' first
    | with_reducible assumption
    | exact fun c => (Dev.Canonical.slots c : _)
    | exact fun c => (Dev.Canonical.keys c)
    | exact fun c => (Dev.Canonical.regs c)
    | exact fun c => Tab.wf_drop _ _ (Dev.Canonical.slots c)
    | exact fun c => Tab.wf_set _ _ _ (Dev.Canonical.slots c)
    | exact fun c => Tab.wf_set _ _ _ (Dev.Canonical.keys c)
    | exact fun c => Tab.wf_set _ _ _ (Dev.Canonical.regs c)
    | exact fun c => Tab.wf_drop _ _ (Dev.Canonical.regs c)
    | exact fun c => Tab.wf_set _ _ _ (Dev.Canonical.settings c)
    | exact fun _ => rfl
    | with_reducible refine KeptX.run ?_
    | with_reducible refine Dev.deviceSign_kept ((Sub.rfl).mono (by decide)) ?_
    | with_reducible refine Dev.ckptLost_kept ((Sub.rfl).mono (by decide)) ?_
    | with_reducible refine Dev.addSector_kept ((Sub.rfl).mono (by decide)) ?_
    | with_reducible refine Dev.pqCode_kept ((Sub.rfl).mono (by decide)) ?_
    | with_reducible refine Dev.putPair_kept ((Sub.rfl).mono (by decide)) ?_
    | with_reducible refine Dev.putFlag_kept ((Sub.rfl).mono (by decide)) ?_
    | with_reducible refine Dev.recAppendFree_kept ((Sub.rfl).mono (by decide)) ?_
    | with_reducible refine Dev.recShow_kept ((Sub.rfl).mono (by decide)) ?_
    | refine KeptPP.of_eq (by assumption) ?_
    | with_reducible refine KeptPP.snd ?_
    | split
    | dsimp only
    | intro _
    | with_reducible refine Kept.lit_sec ((Sub.rfl).mono (by decide)) ?_ ?_

theorem Dev.drawAckNonce_kept {M : Nat} {d0 d : Dev} (hM : Sub 1025 M) (h : Kept M d0 d) :
    Kept M d0 (Dev.drawAckNonce d) := by
  unfold Dev.drawAckNonce
  repeat' first
    | with_reducible assumption
    | with_reducible refine Kept.each ?_ ?_
    | with_reducible refine Dev.randomBytes_kept ((hM).mono (by decide)) ?_
    | with_reducible refine Dev.wr_kept ((hM).mono (by decide)) ?_
    | refine KeptP.of_eq (by assumption) ?_
    | with_reducible refine KeptP.snd ?_
    | split
    | dsimp only
    | intro _
    | with_reducible refine KeptP.mk ?_

theorem Dev.recAck_kept {M : Nat} {d0 d : Dev} (hM : Sub 1049601 M) (h : Kept M d0 d) :
    Kept M d0 (Dev.recAck d) := by
  unfold Dev.recAck
  repeat' first
    | with_reducible assumption
    | with_reducible refine Dev.verifyJob_kept ((hM).mono (by decide)) ?_
    | with_reducible refine Dev.drawAckNonce_kept ((hM).mono (by decide)) ?_
    | with_reducible refine Dev.recCode_kept ((hM).mono (by decide)) ?_
    | with_reducible refine Dev.raise_kept ((hM).mono (by decide)) ?_
    | with_reducible refine Dev.recAppendFree_kept ((hM).mono (by decide)) ?_
    | with_reducible refine Dev.recShow_kept ((hM).mono (by decide)) ?_
    | with_reducible refine Dev.putPair_kept ((hM).mono (by decide)) ?_
    | refine KeptP.of_eq (by assumption) ?_
    | with_reducible refine KeptP.snd ?_
    | split
    | dsimp only
    | intro _
    | with_reducible refine KeptP.mk ?_

theorem execRecAck_kept {a1 : _} {s : State} : KeptX 1066497 s (execRecAck a1 s) := by
  unfold execRecAck
  repeat' first
    | with_reducible assumption
    | with_reducible refine runWrite_kept ?_ ((Sub.rfl).mono (by decide))
    | with_reducible refine Dev.recAck_kept ((Sub.rfl).mono (by decide)) ?_
    | split
    | dsimp only
    | intro _

theorem Dev.exportSelect_kept {M : Nat} {d0 d : Dev} {a1 : _} (hM : Sub 1025 M) (h : Kept M d0 d) :
    Kept M d0 (Dev.exportSelect a1 d) := by
  unfold Dev.exportSelect
  repeat' first
    | with_reducible assumption
    | exact fun c => (Dev.Canonical.slots c : _)
    | exact fun c => (Dev.Canonical.keys c)
    | exact fun c => (Dev.Canonical.regs c)
    | exact fun c => Tab.wf_drop _ _ (Dev.Canonical.slots c)
    | exact fun c => Tab.wf_set _ _ _ (Dev.Canonical.slots c)
    | exact fun c => Tab.wf_set _ _ _ (Dev.Canonical.keys c)
    | exact fun c => Tab.wf_set _ _ _ (Dev.Canonical.regs c)
    | exact fun c => Tab.wf_drop _ _ (Dev.Canonical.regs c)
    | exact fun c => Tab.wf_set _ _ _ (Dev.Canonical.settings c)
    | exact fun _ => rfl
    | with_reducible refine Dev.putPair_kept ((hM).mono (by decide)) ?_
    | with_reducible refine Dev.exportShow_kept ((hM).mono (by decide)) ?_
    | split
    | dsimp only
    | intro _
    | with_reducible refine Kept.lit_sec ((hM).mono (by decide)) ?_ ?_

theorem execRecExportSelect_kept {a1 : _} {a2 : _} {s : State} : KeptX 1066497 s (execRecExportSelect a1 a2 s) := by
  unfold execRecExportSelect
  repeat' first
    | with_reducible assumption
    | with_reducible refine runWrite_kept ?_ ((Sub.rfl).mono (by decide))
    | with_reducible refine Dev.exportSelect_kept ((Sub.rfl).mono (by decide)) ?_
    | split
    | dsimp only
    | intro _

theorem Dev.recorderReset_kept {M : Nat} {d0 d : Dev} (hM : Sub 1024 M) (h : Kept M d0 d) :
    Kept M d0 (Dev.recorderReset d) := by
  unfold Dev.recorderReset
  repeat' first
    | with_reducible assumption
    | exact fun c => (Dev.Canonical.slots c : _)
    | exact fun c => (Dev.Canonical.keys c)
    | exact fun c => (Dev.Canonical.regs c)
    | exact fun c => Tab.wf_drop _ _ (Dev.Canonical.slots c)
    | exact fun c => Tab.wf_set _ _ _ (Dev.Canonical.slots c)
    | exact fun c => Tab.wf_set _ _ _ (Dev.Canonical.keys c)
    | exact fun c => Tab.wf_set _ _ _ (Dev.Canonical.regs c)
    | exact fun c => Tab.wf_drop _ _ (Dev.Canonical.regs c)
    | exact fun c => Tab.wf_set _ _ _ (Dev.Canonical.settings c)
    | exact fun _ => rfl
    | split
    | dsimp only
    | intro _
    | with_reducible refine Kept.lit_sec ((hM).mono (by decide)) ?_ ?_

theorem Dev.recorderStart_kept {M : Nat} {d0 d : Dev} (hM : Sub 1049601 M) (h : Kept M d0 d) :
    Kept M d0 (Dev.recorderStart d) := by
  unfold Dev.recorderStart
  repeat' first
    | with_reducible assumption
    | exact fun c => (Dev.Canonical.slots c : _)
    | exact fun c => (Dev.Canonical.keys c)
    | exact fun c => (Dev.Canonical.regs c)
    | exact fun c => Tab.wf_drop _ _ (Dev.Canonical.slots c)
    | exact fun c => Tab.wf_set _ _ _ (Dev.Canonical.slots c)
    | exact fun c => Tab.wf_set _ _ _ (Dev.Canonical.keys c)
    | exact fun c => Tab.wf_set _ _ _ (Dev.Canonical.regs c)
    | exact fun c => Tab.wf_drop _ _ (Dev.Canonical.regs c)
    | exact fun c => Tab.wf_set _ _ _ (Dev.Canonical.settings c)
    | exact fun _ => rfl
    | with_reducible refine Kept.each ?_ ?_
    | with_reducible refine Dev.recAppendFree_kept ((hM).mono (by decide)) ?_
    | with_reducible refine Dev.recEnqueue_kept ((hM).mono (by decide)) ?_
    | with_reducible refine Dev.recShow_kept ((hM).mono (by decide)) ?_
    | with_reducible refine Dev.noteLosses_kept ((hM).mono (by decide)) ?_
    | split
    | dsimp only
    | intro _
    | with_reducible refine Kept.lit_sec ((hM).mono (by decide)) ?_ ?_

end Sys2Proof.Machine
end

