-- ==== Sys2Proof/Laws/KeptModes.lean ====
section
/-! SUPPORT. What the operations and commands of Machine/Modes.lean keep (`Kept`): the parts each changes, and the canonical form. -/

set_option Elab.async false

namespace Sys2Proof.Machine

theorem Dev.resetReg_kept {M : Nat} {d0 d : Dev} {a1 : _} (hM : Sub 1 M) (h : Kept M d0 d) :
    Kept M d0 (Dev.resetReg a1 d) := by
  unfold Dev.resetReg
  repeat' first
    | with_reducible assumption
    | with_reducible refine Dev.wr_kept ((hM).mono (by decide)) ?_
    | split
    | dsimp only
    | intro _

theorem Dev.resetRegs_kept {M : Nat} {d0 d : Dev} (hM : Sub 1 M) (h : Kept M d0 d) :
    Kept M d0 (Dev.resetRegs d) := by
  unfold Dev.resetRegs
  repeat' first
    | with_reducible assumption
    | with_reducible refine Kept.each ?_ ?_
    | with_reducible refine Dev.resetReg_kept ((hM).mono (by decide)) ?_
    | split
    | dsimp only
    | intro _

theorem Dev.storeRegion_kept {M : Nat} {d0 d : Dev} (hM : Sub 8192 M) (h : Kept M d0 d) :
    Kept M d0 (Dev.storeRegion d) := by
  unfold Dev.storeRegion
  repeat' first
    | with_reducible assumption
    | split
    | dsimp only
    | intro _
    | with_reducible refine Kept.lit_img ((hM).mono (by decide)) ?_

theorem Dev.storeCut_kept {M : Nat} {d0 d : Dev} (hM : Sub 8192 M) (h : Kept M d0 d) :
    Kept M d0 (Dev.storeCut d) := by
  unfold Dev.storeCut
  repeat' first
    | with_reducible assumption
    | with_reducible refine Dev.draw_kept ((hM).mono (by decide)) ?_
    | with_reducible refine Dev.storeRegion_kept ((hM).mono (by decide)) ?_
    | refine KeptP.of_eq (by assumption) ?_
    | with_reducible refine KeptP.snd ?_
    | split
    | dsimp only
    | intro _
    | with_reducible refine Kept.lit_img ((hM).mono (by decide)) ?_
    | with_reducible refine KeptP.mk ?_

theorem Dev.logicReset_kept {M : Nat} {d0 d : Dev} (hM : Sub 2097141 M) (h : Kept M d0 d) :
    Kept M d0 (Dev.logicReset d) := by
  unfold Dev.logicReset
  repeat' first
    | with_reducible assumption
    | exact fun c => (Dev.Canonical.slots c : _)
    | exact fun c => (Dev.Canonical.keys c)
    | exact fun c => (Dev.Canonical.regs c)
    | exact fun c => Tab.wf_drop _ _ (Dev.Canonical.slots c)
    | exact fun c => Tab.wf_set _ _ _ (Dev.Canonical.slots c)
    | exact fun c => Tab.wf_set _ _ _ (Dev.Canonical.keys c)
    | exact fun c => Tab.wf_set _ _ _ (Dev.Canonical.regs c)
    | exact fun c => Tab.wf_drop _ _ (Dev.Canonical.regs c)
    | exact fun c => Tab.wf_set _ _ _ (Dev.Canonical.settings c)
    | exact fun _ => rfl
    | exact Or.inr rfl
    | with_reducible refine Dev.resetRegs_kept ((hM).mono (by decide)) ?_
    | with_reducible refine Dev.recorderReset_kept ((hM).mono (by decide)) ?_
    | with_reducible refine Dev.storeCut_kept ((hM).mono (by decide)) ?_
    | with_reducible refine Dev.loadsStop_kept ((hM).mono (by decide)) ?_
    | split
    | dsimp only
    | intro _
    | with_reducible refine Kept.lit_latches_frc_store_eng_time_phase_hq_sec_flt_sys_img_mgmt_loads_can_sw_drv_latched_faultQ_out ((hM).mono (by decide)) ((hM).mono (by decide)) ?_ ((hM).mono (by decide)) ?_ ((hM).mono (by decide)) ((hM).mono (by decide)) ((hM).mono (by decide)) ((hM).mono (by decide)) ((hM).mono (by decide)) ?_ ((hM).mono (by decide)) ((hM).mono (by decide)) ((hM).mono (by decide)) ((hM).mono (by decide)) ((hM).mono (by decide)) ((hM).mono (by decide)) ((hM).mono (by decide)) ((hM).mono (by decide)) ((hM).mono (by decide)) ((hM).mono (by decide)) ?_

theorem Dev.held_kept {M : Nat} {d0 d : Dev} {a1 : _} (hM : Sub 2097149 M) (h : Kept M d0 d) :
    Kept M d0 (Dev.held a1 d) := by
  unfold Dev.held
  repeat' first
    | with_reducible assumption
    | with_reducible refine Dev.limpModes_kept ((hM).mono (by decide)) ?_
    | with_reducible refine Dev.showPins_kept ((hM).mono (by decide)) ?_
    | with_reducible refine Dev.logicReset_kept ((hM).mono (by decide)) ?_
    | with_reducible refine Dev.transit_kept ((hM).mono (by decide)) ?_
    | split
    | dsimp only
    | intro _

theorem Dev.bootRom_kept {M : Nat} {d0 d : Dev} (hM : Sub 1070617 M) (h : Kept M d0 d) :
    Kept M d0 (Dev.bootRom d) := by
  unfold Dev.bootRom
  repeat' first
    | with_reducible assumption
    | exact Or.inr rfl
    | with_reducible refine Dev.showPins_kept ((hM).mono (by decide)) ?_
    | with_reducible refine Dev.transit_kept ((hM).mono (by decide)) ?_
    | with_reducible refine Dev.put_kept ((hM).mono (by decide)) ?_
    | split
    | dsimp only
    | intro _
    | with_reducible refine Kept.lit_frc_sys ((hM).mono (by decide)) ?_ ((hM).mono (by decide)) ?_

theorem Dev.vbatUp_kept {M : Nat} {d0 d : Dev} (hM : Sub 4096 M) (h : Kept M d0 d) :
    Kept M d0 (Dev.vbatUp d) := by
  unfold Dev.vbatUp
  repeat' first
    | with_reducible assumption
    | split
    | dsimp only
    | intro _
    | with_reducible refine Kept.lit_sys ((hM).mono (by decide)) ?_

theorem Dev.leaveOff_kept {M : Nat} {d0 d : Dev} (hM : Sub 1070601 M) (h : Kept M d0 d) :
    Kept M d0 (Dev.leaveOff d) := by
  unfold Dev.leaveOff
  repeat' first
    | with_reducible assumption
    | with_reducible refine Dev.showPins_kept ((hM).mono (by decide)) ?_
    | with_reducible refine Dev.transit_kept ((hM).mono (by decide)) ?_
    | split
    | dsimp only
    | intro _

theorem Dev.backupLoss_kept {M : Nat} {d0 d : Dev} (hM : Sub 1050305 M) (h : Kept M d0 d) :
    Kept M d0 (Dev.backupLoss d) := by
  unfold Dev.backupLoss
  repeat' first
    | with_reducible assumption
    | with_reducible refine Dev.tamper_kept ((hM).mono (by decide)) ?_
    | with_reducible refine Dev.raise_kept ((hM).mono (by decide)) ?_
    | with_reducible refine Dev.putFlag_kept ((hM).mono (by decide)) ?_
    | split
    | dsimp only
    | intro _
    | with_reducible refine Kept.lit_time ((hM).mono (by decide)) ?_

theorem execPowerOn_kept {s : State} : KeptX 1070793 s (execPowerOn s) := by
  unfold execPowerOn
  repeat' first
    | with_reducible assumption
    | with_reducible refine KeptX.run ?_
    | with_reducible refine Kept.onlyIf ?_ ?_
    | with_reducible refine Dev.backupLoss_kept ((Sub.rfl).mono (by decide)) ?_
    | with_reducible refine Dev.leaveOff_kept ((Sub.rfl).mono (by decide)) ?_
    | with_reducible refine Dev.vbatUp_kept ((Sub.rfl).mono (by decide)) ?_
    | split
    | dsimp only
    | intro _

theorem Dev.aonLost_kept {M : Nat} {d0 d : Dev} (hM : Sub 20481 M) (h : Kept M d0 d) :
    Kept M d0 (Dev.aonLost d) := by
  unfold Dev.aonLost
  repeat' first
    | with_reducible assumption
    | exact fun c => (Dev.Canonical.slots c : _)
    | exact fun c => (Dev.Canonical.keys c)
    | exact fun c => (Dev.Canonical.regs c)
    | exact fun c => Tab.wf_drop _ _ (Dev.Canonical.slots c)
    | exact fun c => Tab.wf_set _ _ _ (Dev.Canonical.slots c)
    | exact fun c => Tab.wf_set _ _ _ (Dev.Canonical.keys c)
    | exact fun c => Tab.wf_set _ _ _ (Dev.Canonical.regs c)
    | exact fun c => Tab.wf_drop _ _ (Dev.Canonical.regs c)
    | exact fun c => Tab.wf_set _ _ _ (Dev.Canonical.settings c)
    | exact fun _ => rfl
    | with_reducible refine Dev.put_kept ((hM).mono (by decide)) ?_
    | with_reducible refine Dev.wr_kept ((hM).mono (by decide)) ?_
    | with_reducible refine Dev.showIrq_kept ((hM).mono (by decide)) ?_
    | split
    | dsimp only
    | intro _
    | with_reducible refine Kept.lit_regs_sys_mgmt ((hM).mono (by decide)) ?_ ((hM).mono (by decide)) ((hM).mono (by decide)) ?_

theorem Dev.powerOff_kept {M : Nat} {d0 d : Dev} (hM : Sub 2097149 M) (h : Kept M d0 d) :
    Kept M d0 (Dev.powerOff d) := by
  unfold Dev.powerOff
  repeat' first
    | with_reducible assumption
    | with_reducible refine Dev.held_kept ((hM).mono (by decide)) ?_
    | with_reducible refine Dev.transitSilent_kept ((hM).mono (by decide)) ?_
    | with_reducible refine Dev.showPins_kept ((hM).mono (by decide)) ?_
    | with_reducible refine Dev.aonLost_kept ((hM).mono (by decide)) ?_
    | split
    | dsimp only
    | intro _

theorem execPowerOff_kept {s : State} : KeptX 2097149 s (execPowerOff s) := by
  unfold execPowerOff
  repeat' first
    | with_reducible assumption
    | with_reducible refine KeptX.run ?_
    | with_reducible refine Kept.onlyIf ?_ ?_
    | with_reducible refine Dev.powerOff_kept ((Sub.rfl).mono (by decide)) ?_
    | split
    | dsimp only
    | intro _

theorem execVbatValid_kept {a1 : _} {a2 : _} {s : State} : KeptX 1070617 s (execVbatValid a1 a2 s) := by
  unfold execVbatValid
  repeat' first
    | with_reducible assumption
    | with_reducible refine KeptX.run ?_
    | with_reducible refine Kept.onlyIf ?_ ?_
    | with_reducible refine Dev.bootRom_kept ((Sub.rfl).mono (by decide)) ?_
    | split
    | dsimp only
    | intro _
    | with_reducible refine Kept.lit_sys ((Sub.rfl).mono (by decide)) ?_

theorem execVbatUndervoltage_kept {s : State} : KeptX 2097149 s (execVbatUndervoltage s) := by
  unfold execVbatUndervoltage
  repeat' first
    | with_reducible assumption
    | with_reducible refine KeptX.run ?_
    | with_reducible refine Kept.onlyIf ?_ ?_
    | with_reducible refine Dev.held_kept ((Sub.rfl).mono (by decide)) ?_
    | split
    | dsimp only
    | intro _
    | with_reducible refine Kept.lit_sys ((Sub.rfl).mono (by decide)) ?_

theorem execVbatWarning_kept {s : State} : KeptX 1048577 s (execVbatWarning s) := by
  unfold execVbatWarning
  repeat' first
    | with_reducible assumption
    | with_reducible refine KeptX.run ?_
    | with_reducible refine Kept.onlyIf ?_ ?_
    | with_reducible refine Dev.raise_kept ((Sub.rfl).mono (by decide)) ?_
    | split
    | dsimp only
    | intro _

theorem execRstNAssert_kept {s : State} : KeptX 2097149 s (execRstNAssert s) := by
  unfold execRstNAssert
  repeat' first
    | with_reducible assumption
    | with_reducible refine KeptX.run ?_
    | with_reducible refine Dev.held_kept ((Sub.rfl).mono (by decide)) ?_
    | split
    | dsimp only
    | intro _
    | with_reducible refine Kept.lit_sys ((Sub.rfl).mono (by decide)) ?_

theorem execRstNRelease_kept {a1 : _} {a2 : _} {s : State} : KeptX 1070617 s (execRstNRelease a1 a2 s) := by
  unfold execRstNRelease
  repeat' first
    | with_reducible assumption
    | with_reducible refine KeptX.run ?_
    | with_reducible refine Dev.bootRom_kept ((Sub.rfl).mono (by decide)) ?_
    | split
    | dsimp only
    | intro _
    | with_reducible refine Kept.lit_sys ((Sub.rfl).mono (by decide)) ?_

theorem execReverseBattery_kept {a1 : _} {s : State} : KeptX 2097149 s (execReverseBattery a1 s) := by
  unfold execReverseBattery
  repeat' first
    | with_reducible assumption
    | with_reducible refine KeptX.run ?_
    | with_reducible refine Kept.onlyIf ?_ ?_
    | with_reducible refine Dev.powerOff_kept ((Sub.rfl).mono (by decide)) ?_
    | split
    | dsimp only
    | intro _
    | with_reducible refine Kept.lit_loads ((Sub.rfl).mono (by decide)) ?_

theorem Dev.stageRecord_kept {M : Nat} {d0 d : Dev} {a1 : _} {a2 : _} {a3 : _} (hM : Sub 16384 M) (h : Kept M d0 d) :
    Kept M d0 (Dev.stageRecord a1 a2 a3 d) := by
  unfold Dev.stageRecord
  repeat' first
    | with_reducible assumption
    | split
    | dsimp only
    | intro _
    | with_reducible refine Kept.lit_mgmt ((hM).mono (by decide)) ?_

theorem Dev.flushStages_kept {M : Nat} {d0 d : Dev} (hM : Sub 1065985 M) (h : Kept M d0 d) :
    Kept M d0 (Dev.flushStages d) := by
  unfold Dev.flushStages
  repeat' first
    | with_reducible assumption
    | with_reducible refine Kept.each ?_ ?_
    | with_reducible refine Dev.recAppend_kept ((hM).mono (by decide)) ?_
    | split
    | dsimp only
    | intro _
    | with_reducible refine Kept.lit_mgmt ((hM).mono (by decide)) ?_

theorem Dev.enterLoader_kept {M : Nat} {d0 d : Dev} {a1 : _} {a2 : _} (hM : Sub 1070601 M) (h : Kept M d0 d) :
    Kept M d0 (Dev.enterLoader a1 a2 d) := by
  unfold Dev.enterLoader
  repeat' first
    | with_reducible assumption
    | with_reducible refine Dev.transit_kept ((hM).mono (by decide)) ?_
    | with_reducible refine Dev.put_kept ((hM).mono (by decide)) ?_
    | with_reducible refine Dev.randomBytes_kept ((hM).mono (by decide)) ?_
    | with_reducible refine Dev.putFlag_kept ((hM).mono (by decide)) ?_
    | refine KeptP.of_eq (by assumption) ?_
    | with_reducible refine KeptP.snd ?_
    | split
    | dsimp only
    | intro _
    | with_reducible refine Kept.lit_sys_mgmt ((hM).mono (by decide)) ((hM).mono (by decide)) ?_
    | with_reducible refine Kept.lit_mgmt ((hM).mono (by decide)) ?_
    | with_reducible refine Kept.lit_sys ((hM).mono (by decide)) ?_
    | with_reducible refine KeptP.mk ?_

theorem execRomCheckDone_kept {a1 : _} {s : State} : KeptX 1070601 s (execRomCheckDone a1 s) := by
  unfold execRomCheckDone
  repeat' first
    | with_reducible assumption
    | with_reducible refine KeptX.run ?_
    | with_reducible refine Kept.onlyIf ?_ ?_
    | with_reducible refine Dev.enterLoader_kept ((Sub.rfl).mono (by decide)) ?_
    | with_reducible refine Dev.put_kept ((Sub.rfl).mono (by decide)) ?_
    | split
    | dsimp only
    | intro _
    | with_reducible refine Kept.lit_sys ((Sub.rfl).mono (by decide)) ?_

theorem Dev.confirm_kept {M : Nat} {d0 d : Dev} (hM : Sub 1065985 M) (h : Kept M d0 d) :
    Kept M d0 (Dev.confirm d) := by
  unfold Dev.confirm
  repeat' first
    | with_reducible assumption
    | with_reducible refine Dev.put_kept ((hM).mono (by decide)) ?_
    | with_reducible refine Dev.peak_kept ((hM).mono (by decide)) ?_
    | with_reducible refine Dev.flushStages_kept ((hM).mono (by decide)) ?_
    | with_reducible refine Dev.stageRecord_kept ((hM).mono (by decide)) ?_
    | split
    | dsimp only
    | intro _

theorem execConfirmDeadline_kept {s : State} : KeptX 1070081 s (execConfirmDeadline s) := by
  unfold execConfirmDeadline
  repeat' first
    | with_reducible assumption
    | with_reducible refine KeptX.run ?_
    | with_reducible refine Kept.onlyIf ?_ ?_
    | with_reducible refine Dev.raise_kept ((Sub.rfl).mono (by decide)) ?_
    | with_reducible refine Dev.put_kept ((Sub.rfl).mono (by decide)) ?_
    | with_reducible refine Dev.flushStages_kept ((Sub.rfl).mono (by decide)) ?_
    | with_reducible refine Dev.stageRecord_kept ((Sub.rfl).mono (by decide)) ?_
    | split
    | dsimp only
    | intro _
    | with_reducible refine Kept.lit_sys ((Sub.rfl).mono (by decide)) ?_

theorem Dev.putAdj_kept {M : Nat} {d0 d : Dev} {a1 : _} {a2 : _} {a3 : _} (hM : Sub 64 M) (h : Kept M d0 d) :
    Kept M d0 (Dev.putAdj a1 a2 a3 d) := by
  unfold Dev.putAdj
  repeat' first
    | with_reducible assumption
    | with_reducible refine Dev.putDmem_kept ((hM).mono (by decide)) ?_
    | split
    | dsimp only
    | intro _

theorem Dev.setting_kept {M : Nat} {d0 d : Dev} {a1 : _} {a2 : _} (hM : Sub 2 M) (h : Kept M d0 d) :
    Kept M d0 (Dev.setting a1 a2 d) := by
  unfold Dev.setting
  repeat' first
    | with_reducible assumption
    | exact fun c => (Dev.Canonical.slots c : _)
    | exact fun c => (Dev.Canonical.keys c)
    | exact fun c => (Dev.Canonical.regs c)
    | exact fun c => Tab.wf_drop _ _ (Dev.Canonical.slots c)
    | exact fun c => Tab.wf_set _ _ _ (Dev.Canonical.slots c)
    | exact fun c => Tab.wf_set _ _ _ (Dev.Canonical.keys c)
    | exact fun c => Tab.wf_set _ _ _ (Dev.Canonical.regs c)
    | exact fun c => Tab.wf_drop _ _ (Dev.Canonical.regs c)
    | exact fun c => Tab.wf_set _ _ _ (Dev.Canonical.settings c)
    | exact fun _ => rfl
    | split
    | dsimp only
    | intro _
    | with_reducible refine Kept.lit_settings ((hM).mono (by decide)) ?_ ?_

theorem Dev.defaultSettings_kept {M : Nat} {d0 d : Dev} (hM : Sub 3 M) (h : Kept M d0 d) :
    Kept M d0 (Dev.defaultSettings d) := by
  unfold Dev.defaultSettings
  repeat' first
    | with_reducible assumption
    | exact fun c => (Dev.Canonical.slots c : _)
    | exact fun c => (Dev.Canonical.keys c)
    | exact fun c => (Dev.Canonical.regs c)
    | exact fun c => Tab.wf_drop _ _ (Dev.Canonical.slots c)
    | exact fun c => Tab.wf_set _ _ _ (Dev.Canonical.slots c)
    | exact fun c => Tab.wf_set _ _ _ (Dev.Canonical.keys c)
    | exact fun c => Tab.wf_set _ _ _ (Dev.Canonical.regs c)
    | exact fun c => Tab.wf_drop _ _ (Dev.Canonical.regs c)
    | exact fun c => Tab.wf_set _ _ _ (Dev.Canonical.settings c)
    | exact fun _ => rfl
    | with_reducible refine Kept.each ?_ ?_
    | with_reducible refine Dev.wr_kept ((hM).mono (by decide)) ?_
    | with_reducible refine Dev.storeSetting_kept ((hM).mono (by decide)) ?_
    | with_reducible refine Dev.setting_kept ((hM).mono (by decide)) ?_
    | split
    | dsimp only
    | intro _
    | with_reducible refine Kept.lit_settings ((hM).mono (by decide)) ?_ ?_

theorem Dev.restoreReg_kept {M : Nat} {d0 d : Dev} {a1 : _} (hM : Sub 1 M) (h : Kept M d0 d) :
    Kept M d0 (Dev.restoreReg a1 d) := by
  unfold Dev.restoreReg
  repeat' first
    | with_reducible assumption
    | with_reducible refine Dev.wr_kept ((hM).mono (by decide)) ?_
    | split
    | dsimp only
    | intro _

theorem Dev.restoreSettings_kept {M : Nat} {d0 d : Dev} (hM : Sub 65729 M) (h : Kept M d0 d) :
    Kept M d0 (Dev.restoreSettings d) := by
  unfold Dev.restoreSettings
  repeat' first
    | with_reducible assumption
    | with_reducible refine Kept.onlyIf ?_ ?_
    | with_reducible refine Kept.each ?_ ?_
    | with_reducible refine Dev.restoreReg_kept ((hM).mono (by decide)) ?_
    | with_reducible refine Dev.putAdj_kept ((hM).mono (by decide)) ?_
    | with_reducible refine Dev.putTdCfg_kept ((hM).mono (by decide)) ?_
    | with_reducible refine Dev.onCan_kept ((hM).mono (by decide)) ?_
    | split
    | dsimp only
    | intro _

theorem Dev.enginesIdle_kept {M : Nat} {d0 d : Dev} (hM : Sub 1088 M) (h : Kept M d0 d) :
    Kept M d0 (Dev.enginesIdle d) := by
  unfold Dev.enginesIdle
  repeat' first
    | with_reducible assumption
    | with_reducible refine Kept.each ?_ ?_
    | with_reducible refine Dev.ringEmpty_kept ((hM).mono (by decide)) ?_
    | with_reducible refine Dev.coresAnew_kept ((hM).mono (by decide)) ?_
    | split
    | dsimp only
    | intro _
    | with_reducible refine Kept.lit_eng ((hM).mono (by decide)) ?_

theorem Dev.enterService_kept {M : Nat} {d0 d : Dev} (hM : Sub 1572809 M) (h : Kept M d0 d) :
    Kept M d0 (Dev.enterService d) := by
  unfold Dev.enterService
  repeat' first
    | with_reducible assumption
    | with_reducible refine Dev.transit_kept ((hM).mono (by decide)) ?_
    | with_reducible refine Dev.canEntry_kept ((hM).mono (by decide)) ?_
    | with_reducible refine Dev.phaseEntry_kept ((hM).mono (by decide)) ?_
    | with_reducible refine Dev.enginesIdle_kept ((hM).mono (by decide)) ?_
    | with_reducible refine Dev.timeServiceEntry_kept ((hM).mono (by decide)) ?_
    | with_reducible refine Dev.wr_kept ((hM).mono (by decide)) ?_
    | with_reducible refine Dev.restoreSettings_kept ((hM).mono (by decide)) ?_
    | with_reducible refine Dev.showPinsAs_kept ((hM).mono (by decide)) ?_
    | with_reducible refine Dev.tamperArm_kept ((hM).mono (by decide)) ?_
    | with_reducible refine Dev.faultsEntry_kept ((hM).mono (by decide)) ?_
    | with_reducible refine Dev.loadsEntry_kept ((hM).mono (by decide)) ?_
    | with_reducible refine Dev.ringEntry_kept ((hM).mono (by decide)) ?_
    | with_reducible refine Dev.swEntry_kept ((hM).mono (by decide)) ?_
    | with_reducible refine Dev.clearFactoryKeys_kept ((hM).mono (by decide)) ?_
    | with_reducible refine Dev.tamperRecord_kept ((hM).mono (by decide)) ?_
    | with_reducible refine Dev.confirm_kept ((hM).mono (by decide)) ?_
    | split
    | dsimp only
    | intro _
    | with_reducible refine Kept.lit_img ((hM).mono (by decide)) ?_
    | with_reducible refine Kept.lit_sys ((hM).mono (by decide)) ?_

theorem Dev.partialsLost_kept {M : Nat} {d0 d : Dev} (hM : Sub 8225 M) (h : Kept M d0 d) :
    Kept M d0 (Dev.partialsLost d) := by
  unfold Dev.partialsLost
  repeat' first
    | with_reducible assumption
    | with_reducible refine Dev.partialDiscard_kept ((hM).mono (by decide)) ?_
    | with_reducible refine Dev.wr_kept ((hM).mono (by decide)) ?_
    | with_reducible refine Dev.put_kept ((hM).mono (by decide)) ?_
    | split
    | dsimp only
    | intro _
    | with_reducible refine Kept.lit_img ((hM).mono (by decide)) ?_

theorem Dev.checkRegion_kept {M : Nat} {d0 d : Dev} (hM : Sub 1074177 M) (h : Kept M d0 d) :
    Kept M d0 (Dev.checkRegion d) := by
  unfold Dev.checkRegion
  repeat' first
    | with_reducible assumption
    | with_reducible refine Dev.wr_kept ((hM).mono (by decide)) ?_
    | with_reducible refine Dev.confirm_kept ((hM).mono (by decide)) ?_
    | with_reducible refine Dev.put_kept ((hM).mono (by decide)) ?_
    | split
    | dsimp only
    | intro _
    | with_reducible refine Kept.lit_img ((hM).mono (by decide)) ?_

theorem Dev.configure_kept {M : Nat} {d0 d : Dev} (hM : Sub 1078305 M) (h : Kept M d0 d) :
    Kept M d0 (Dev.configure d) := by
  unfold Dev.configure
  repeat' first
    | with_reducible assumption
    | with_reducible refine Kept.foldl _ ?_ _ _ ?_
    | with_reducible refine Dev.loadKeys_kept ((hM).mono (by decide)) ?_
    | with_reducible refine Dev.partialsLost_kept ((hM).mono (by decide)) ?_
    | with_reducible refine Dev.checkRegion_kept ((hM).mono (by decide)) ?_
    | with_reducible refine Dev.wr_kept ((hM).mono (by decide)) ?_
    | split
    | dsimp only
    | intro _
    | with_reducible refine Kept.lit_sys ((hM).mono (by decide)) ?_

theorem execConfigureEntry_kept  {s : State} : KeptX 1078827 s (execConfigureEntry s) := by
  unfold execConfigureEntry
  repeat' first
    | with_reducible assumption
    | exact fun c => Tab.wf_set _ _ _ c.regs
    | exact fun c => Tab.wf_drop _ _ c.regs
    | exact fun _ => rfl
    | exact fun c => Tab.wf_set _ _ _ c.settings
    | with_reducible refine KeptX.run ?_
    | with_reducible refine Kept.onlyIf ?_ ?_
    | with_reducible refine Dev.put_kept ((Sub.rfl).mono (by decide)) ?_
    | with_reducible refine Dev.transit_kept ((Sub.rfl).mono (by decide)) ?_
    | with_reducible refine Dev.putFlag_kept ((Sub.rfl).mono (by decide)) ?_
    | with_reducible refine Dev.configure_kept ((Sub.rfl).mono (by decide)) ?_
    | with_reducible refine Dev.drawAckNonce_kept ((Sub.rfl).mono (by decide)) ?_
    | with_reducible refine Dev.flushStages_kept ((Sub.rfl).mono (by decide)) ?_
    | with_reducible refine Dev.recorderStart_kept ((Sub.rfl).mono (by decide)) ?_
    | split
    | dsimp only
    | intro _
    | with_reducible refine Kept.lit_mgmt ((Sub.rfl).mono (by decide)) ?_
    | with_reducible refine Kept.lit_settings_img_mgmt ((Sub.rfl).mono (by decide)) ?_ ((Sub.rfl).mono (by decide)) ((Sub.rfl).mono (by decide)) ?_

theorem Dev.sysCode_kept {M : Nat} {d0 d : Dev} {a1 : _} (hM : Sub 1 M) (h : Kept M d0 d) :
    Kept M d0 (Dev.sysCode a1 d) := by
  unfold Dev.sysCode
  repeat' first
    | with_reducible assumption
    | with_reducible refine Dev.put_kept ((hM).mono (by decide)) ?_
    | split
    | dsimp only
    | intro _

theorem Dev.sysOp_kept {M : Nat} {d0 d : Dev} {a1 : _} {a2 : _} {a3 : _} {a4 : _} (h4 : ∀ y0, Kept M d0 y0 → Kept M d0 (a4 y0)) (hM : Sub 1 M) (h : Kept M d0 d) :
    Kept M d0 (Dev.sysOp a1 a2 a3 a4 d) := by
  unfold Dev.sysOp
  repeat' first
    | with_reducible assumption
    | with_reducible refine h4 _ ?_
    | with_reducible refine Dev.sysCode_kept ((hM).mono (by decide)) ?_
    | split
    | dsimp only
    | intro _

theorem Dev.resetOp_kept {M : Nat} {d0 d : Dev} {a1 : _} (hM : Sub 2097149 M) (h : Kept M d0 d) :
    Kept M d0 (Dev.resetOp a1 d) := by
  unfold Dev.resetOp
  repeat' first
    | with_reducible assumption
    | with_reducible refine Dev.held_kept ((hM).mono (by decide)) ?_
    | split
    | dsimp only
    | intro _

theorem Dev.sysReset_kept {M : Nat} {d0 d : Dev} {a1 : _} {a2 : _} (hM : Sub 2097149 M) (h : Kept M d0 d) :
    Kept M d0 (Dev.sysReset a1 a2 d) := by
  unfold Dev.sysReset
  repeat' first
    | with_reducible assumption
    | with_reducible refine Dev.sysOp_kept ?_ ((hM).mono (by decide)) ?_
    | with_reducible refine Dev.resetOp_kept ((hM).mono (by decide)) ?_
    | split
    | dsimp only
    | intro _

theorem execSysReset_kept {a1 : _} {a2 : _} {s : State} : KeptX 2097149 s (execSysReset a1 a2 s) := by
  unfold execSysReset
  repeat' first
    | with_reducible assumption
    | with_reducible refine runWrite_kept ?_ ((Sub.rfl).mono (by decide))
    | with_reducible refine Dev.sysReset_kept ((Sub.rfl).mono (by decide)) ?_
    | split
    | dsimp only
    | intro _

theorem Dev.drainSystem_kept {M : Nat} {d0 d : Dev} {a1 : _} (hM : Sub 1050177 M) (h : Kept M d0 d) :
    Kept M d0 (Dev.drainSystem a1 d) := by
  induction a1 generalizing d  with
  | zero =>
    unfold Dev.drainSystem
    repeat' first
      | with_reducible assumption
      | with_reducible refine Dev.finishRecord_kept ((hM).mono (by decide)) ?_
      | with_reducible refine Dev.nextRecord_kept ((hM).mono (by decide)) ?_
      | with_reducible refine Dev.startRecord_kept ((hM).mono (by decide)) ?_
      | refine KeptP.of_eq (by assumption) ?_
      | with_reducible refine KeptP.snd ?_
      | split
      | dsimp only
      | intro _
      | with_reducible refine KeptP.mk ?_
  | succ n ih =>
    unfold Dev.drainSystem
    repeat' first
      | with_reducible refine ih ?_
      | with_reducible assumption
      | with_reducible refine Dev.finishRecord_kept ((hM).mono (by decide)) ?_
      | with_reducible refine Dev.nextRecord_kept ((hM).mono (by decide)) ?_
      | with_reducible refine Dev.startRecord_kept ((hM).mono (by decide)) ?_
      | refine KeptP.of_eq (by assumption) ?_
      | with_reducible refine KeptP.snd ?_
      | split
      | dsimp only
      | intro _
      | with_reducible refine KeptP.mk ?_

theorem Dev.leaveService_kept {M : Nat} {d0 d : Dev} {a1 : _} {a2 : _} (hM : Sub 1078889 M) (h : Kept M d0 d) :
    Kept M d0 (Dev.leaveService a1 a2 d) := by
  unfold Dev.leaveService
  repeat' first
    | with_reducible assumption
    | with_reducible refine Dev.transit_kept ((hM).mono (by decide)) ?_
    | with_reducible refine Dev.partialDiscard_kept ((hM).mono (by decide)) ?_
    | with_reducible refine Dev.queuesStop_kept ((hM).mono (by decide)) ?_
    | with_reducible refine Dev.drainSystem_kept ((hM).mono (by decide)) ?_
    | split
    | dsimp only
    | intro _

theorem Dev.sleepSteps_kept {M : Nat} {d0 d : Dev} {a1 : _} {a2 : _} {a3 : _} (hM : Sub 1572841 M) (h : Kept M d0 d) :
    Kept M d0 (Dev.sleepSteps a1 a2 a3 d) := by
  unfold Dev.sleepSteps
  repeat' first
    | with_reducible assumption
    | with_reducible refine Dev.writeEpochs_kept ((hM).mono (by decide)) ?_
    | with_reducible refine Dev.canDoze_kept ((hM).mono (by decide)) ?_
    | with_reducible refine Dev.swDoze_kept ((hM).mono (by decide)) ?_
    | with_reducible refine Dev.ringDoze_kept ((hM).mono (by decide)) ?_
    | with_reducible refine Dev.loadsPark_kept ((hM).mono (by decide)) ?_
    | with_reducible refine Dev.leaveService_kept ((hM).mono (by decide)) ?_
    | with_reducible refine Dev.putFlag_kept ((hM).mono (by decide)) ?_
    | with_reducible refine Dev.phaseDoze_kept ((hM).mono (by decide)) ?_
    | with_reducible refine Dev.timeDoze_kept ((hM).mono (by decide)) ?_
    | with_reducible refine Dev.flushJobs_kept ((hM).mono (by decide)) ?_
    | with_reducible refine Dev.ckptForSleep_kept ((hM).mono (by decide)) ?_
    | with_reducible refine Dev.showPins_kept ((hM).mono (by decide)) ?_
    | split
    | dsimp only
    | intro _
    | with_reducible refine Kept.lit_sys ((hM).mono (by decide)) ?_

theorem Dev.sysDoze_kept {M : Nat} {d0 d : Dev} {a1 : _} {a2 : _} (hM : Sub 1572841 M) (h : Kept M d0 d) :
    Kept M d0 (Dev.sysDoze a1 a2 d) := by
  unfold Dev.sysDoze
  repeat' first
    | with_reducible assumption
    | with_reducible refine Dev.sysOp_kept ?_ ((hM).mono (by decide)) ?_
    | with_reducible refine Dev.sleepSteps_kept ((hM).mono (by decide)) ?_
    | split
    | dsimp only
    | intro _

theorem execSysDoze_kept {a1 : _} {a2 : _} {s : State} : KeptX 1572841 s (execSysDoze a1 a2 s) := by
  unfold execSysDoze
  repeat' first
    | with_reducible assumption
    | with_reducible refine runWrite_kept ?_ ((Sub.rfl).mono (by decide))
    | with_reducible refine Dev.sysDoze_kept ((Sub.rfl).mono (by decide)) ?_
    | split
    | dsimp only
    | intro _

theorem Dev.sysSleep_kept {M : Nat} {d0 d : Dev} {a1 : _} {a2 : _} (hM : Sub 1572841 M) (h : Kept M d0 d) :
    Kept M d0 (Dev.sysSleep a1 a2 d) := by
  unfold Dev.sysSleep
  repeat' first
    | with_reducible assumption
    | with_reducible refine Dev.sysOp_kept ?_ ((hM).mono (by decide)) ?_
    | with_reducible refine Dev.linkDrop_kept ((hM).mono (by decide)) ?_
    | with_reducible refine Dev.sleepSteps_kept ((hM).mono (by decide)) ?_
    | split
    | dsimp only
    | intro _

theorem execSysSleep_kept {a1 : _} {a2 : _} {s : State} : KeptX 1572841 s (execSysSleep a1 a2 s) := by
  unfold execSysSleep
  repeat' first
    | with_reducible assumption
    | with_reducible refine runWrite_kept ?_ ((Sub.rfl).mono (by decide))
    | with_reducible refine Dev.sysSleep_kept ((Sub.rfl).mono (by decide)) ?_
    | split
    | dsimp only
    | intro _

theorem Dev.sysReconfig_kept {M : Nat} {d0 d : Dev} {a1 : _} {a2 : _} (hM : Sub 1572841 M) (h : Kept M d0 d) :
    Kept M d0 (Dev.sysReconfig a1 a2 d) := by
  unfold Dev.sysReconfig
  repeat' first
    | with_reducible assumption
    | with_reducible refine Dev.sysOp_kept ?_ ((hM).mono (by decide)) ?_
    | with_reducible refine Dev.ppsStop_kept ((hM).mono (by decide)) ?_
    | with_reducible refine Dev.phaseStop_kept ((hM).mono (by decide)) ?_
    | with_reducible refine Dev.flushJobs_kept ((hM).mono (by decide)) ?_
    | with_reducible refine Dev.enginesIdle_kept ((hM).mono (by decide)) ?_
    | with_reducible refine Dev.loadsStop_kept ((hM).mono (by decide)) ?_
    | with_reducible refine Dev.ringStop_kept ((hM).mono (by decide)) ?_
    | with_reducible refine Dev.leaveService_kept ((hM).mono (by decide)) ?_
    | with_reducible refine Dev.showPins_kept ((hM).mono (by decide)) ?_
    | with_reducible refine Dev.emit_kept ((hM).mono (by decide)) ?_
    | with_reducible refine Dev.configure_kept ((hM).mono (by decide)) ?_
    | with_reducible refine Dev.canDoze_kept ((hM).mono (by decide)) ?_
    | with_reducible refine Dev.swDoze_kept ((hM).mono (by decide)) ?_
    | split
    | dsimp only
    | intro _

theorem execSysReconfig_kept {a1 : _} {a2 : _} {s : State} : KeptX 1572841 s (execSysReconfig a1 a2 s) := by
  unfold execSysReconfig
  repeat' first
    | with_reducible assumption
    | with_reducible refine runWrite_kept ?_ ((Sub.rfl).mono (by decide))
    | with_reducible refine Dev.sysReconfig_kept ((Sub.rfl).mono (by decide)) ?_
    | split
    | dsimp only
    | intro _

theorem Dev.sysWakeOp_kept {M : Nat} {d0 d : Dev} {a1 : _} {a2 : _} (hM : Sub 4097 M) (h : Kept M d0 d) :
    Kept M d0 (Dev.sysWakeOp a1 a2 d) := by
  unfold Dev.sysWakeOp
  repeat' first
    | with_reducible assumption
    | with_reducible refine Dev.sysOp_kept ?_ ((hM).mono (by decide)) ?_
    | with_reducible refine Dev.wake_kept ((hM).mono (by decide)) ?_
    | split
    | dsimp only
    | intro _

theorem execSysWake_kept {a1 : _} {a2 : _} {s : State} : KeptX 1069569 s (execSysWake a1 a2 s) := by
  unfold execSysWake
  repeat' first
    | with_reducible assumption
    | with_reducible refine runWrite_kept ?_ ((Sub.rfl).mono (by decide))
    | with_reducible refine Dev.sysWakeOp_kept ((Sub.rfl).mono (by decide)) ?_
    | split
    | dsimp only
    | intro _

theorem Dev.dozeReturn_kept {M : Nat} {d0 d : Dev} (hM : Sub 1572841 M) (h : Kept M d0 d) :
    Kept M d0 (Dev.dozeReturn d) := by
  unfold Dev.dozeReturn
  repeat' first
    | with_reducible assumption
    | with_reducible refine Kept.onlyIf ?_ ?_
    | with_reducible refine Kept.each ?_ ?_
    | with_reducible refine Dev.raise_kept ((hM).mono (by decide)) ?_
    | with_reducible refine Dev.putFlag_kept ((hM).mono (by decide)) ?_
    | with_reducible refine Dev.transit_kept ((hM).mono (by decide)) ?_
    | with_reducible refine Dev.swEntry_kept ((hM).mono (by decide)) ?_
    | with_reducible refine Dev.canEntry_kept ((hM).mono (by decide)) ?_
    | with_reducible refine Dev.enginesIdle_kept ((hM).mono (by decide)) ?_
    | with_reducible refine Dev.timeServiceEntry_kept ((hM).mono (by decide)) ?_
    | with_reducible refine Dev.restoreSettings_kept ((hM).mono (by decide)) ?_
    | with_reducible refine Dev.onSwPort_kept ((hM).mono (by decide)) ?_
    | with_reducible refine Dev.withheldReactions_kept ((hM).mono (by decide)) ?_
    | with_reducible refine Dev.loadsEntry_kept ((hM).mono (by decide)) ?_
    | with_reducible refine Dev.ringEntry_kept ((hM).mono (by decide)) ?_
    | with_reducible refine Dev.tamperRecord_kept ((hM).mono (by decide)) ?_
    | with_reducible refine Dev.showPins_kept ((hM).mono (by decide)) ?_
    | split
    | dsimp only
    | intro _
    | with_reducible refine Kept.lit_sys ((hM).mono (by decide)) ?_

theorem execDozeReturn_kept {s : State} : KeptX 1572841 s (execDozeReturn s) := by
  unfold execDozeReturn
  repeat' first
    | with_reducible assumption
    | with_reducible refine KeptX.run ?_
    | with_reducible refine Kept.onlyIf ?_ ?_
    | with_reducible refine Dev.dozeReturn_kept ((Sub.rfl).mono (by decide)) ?_
    | split
    | dsimp only
    | intro _

theorem execDozeEntryDone_kept {s : State} : KeptX 1572841 s (execDozeEntryDone s) := by
  unfold execDozeEntryDone
  repeat' first
    | with_reducible assumption
    | with_reducible refine KeptX.run ?_
    | with_reducible refine Kept.onlyIf ?_ ?_
    | with_reducible refine Dev.putFlag_kept ((Sub.rfl).mono (by decide)) ?_
    | with_reducible refine Dev.dozeReturn_kept ((Sub.rfl).mono (by decide)) ?_
    | split
    | dsimp only
    | intro _
    | with_reducible refine Kept.lit_sys ((Sub.rfl).mono (by decide)) ?_

theorem Dev.sleepWake_kept {M : Nat} {d0 d : Dev} (hM : Sub 2097149 M) (h : Kept M d0 d) :
    Kept M d0 (Dev.sleepWake d) := by
  unfold Dev.sleepWake
  repeat' first
    | with_reducible assumption
    | with_reducible refine Dev.bootRom_kept ((hM).mono (by decide)) ?_
    | with_reducible refine Dev.held_kept ((hM).mono (by decide)) ?_
    | split
    | dsimp only
    | intro _

theorem execSleepPowerDown_kept {s : State} : KeptX 2097149 s (execSleepPowerDown s) := by
  unfold execSleepPowerDown
  repeat' first
    | with_reducible assumption
    | with_reducible refine KeptX.run ?_
    | with_reducible refine Kept.onlyIf ?_ ?_
    | with_reducible refine Dev.showPins_kept ((Sub.rfl).mono (by decide)) ?_
    | with_reducible refine Dev.logicReset_kept ((Sub.rfl).mono (by decide)) ?_
    | with_reducible refine Dev.sleepWake_kept ((Sub.rfl).mono (by decide)) ?_
    | split
    | dsimp only
    | intro _
    | with_reducible refine Kept.lit_sys ((Sub.rfl).mono (by decide)) ?_

theorem execSleepWake_kept {s : State} : KeptX 2097149 s (execSleepWake s) := by
  unfold execSleepWake
  repeat' first
    | with_reducible assumption
    | with_reducible refine KeptX.run ?_
    | with_reducible refine Kept.onlyIf ?_ ?_
    | with_reducible refine Dev.sleepWake_kept ((Sub.rfl).mono (by decide)) ?_
    | split
    | dsimp only
    | intro _

theorem execHostAbsent_kept {s : State} : KeptX 1070601 s (execHostAbsent s) := by
  unfold execHostAbsent
  repeat' first
    | with_reducible assumption
    | with_reducible refine KeptX.run ?_
    | with_reducible refine Kept.onlyIf ?_ ?_
    | with_reducible refine Dev.declareLoss_kept ((Sub.rfl).mono (by decide)) ?_
    | with_reducible refine Dev.raise_kept ((Sub.rfl).mono (by decide)) ?_
    | split
    | dsimp only
    | intro _

theorem Dev.hostAlive_kept {M : Nat} {d0 d : Dev} (hM : Sub 1070601 M) (h : Kept M d0 d) :
    Kept M d0 (Dev.hostAlive d) := by
  unfold Dev.hostAlive
  repeat' first
    | with_reducible assumption
    | with_reducible refine Dev.clearLoss_kept ((hM).mono (by decide)) ?_
    | split
    | dsimp only
    | intro _
    | with_reducible refine Kept.lit_sys ((hM).mono (by decide)) ?_

theorem execHostAlive_kept {a1 : _} {s : State} : KeptX 1070601 s (execHostAlive a1 s) := by
  unfold execHostAlive
  repeat' first
    | with_reducible assumption
    | with_reducible refine runWrite_kept ?_ ((Sub.rfl).mono (by decide))
    | with_reducible refine Dev.hostAlive_kept ((Sub.rfl).mono (by decide)) ?_
    | split
    | dsimp only
    | intro _

theorem Dev.partialLossClear_kept {M : Nat} {d0 d : Dev} {a1 : _} (hM : Sub 1078793 M) (h : Kept M d0 d) :
    Kept M d0 (Dev.partialLossClear a1 d) := by
  unfold Dev.partialLossClear
  repeat' first
    | with_reducible assumption
    | with_reducible refine Kept.onlyIf ?_ ?_
    | with_reducible refine Dev.clearLoss_kept ((hM).mono (by decide)) ?_
    | split
    | dsimp only
    | intro _
    | with_reducible refine Kept.lit_img ((hM).mono (by decide)) ?_

theorem execPartialLossClear_kept {a1 : _} {s : State} : KeptX 1078793 s (execPartialLossClear a1 s) := by
  unfold execPartialLossClear
  repeat' first
    | with_reducible assumption
    | with_reducible refine runWrite_kept ?_ ((Sub.rfl).mono (by decide))
    | with_reducible refine Dev.partialLossClear_kept ((Sub.rfl).mono (by decide)) ?_
    | split
    | dsimp only
    | intro _

theorem execLockstepMismatch_kept {s : State} : KeptX 1048577 s (execLockstepMismatch s) := by
  unfold execLockstepMismatch
  repeat' first
    | with_reducible assumption
    | with_reducible refine KeptX.run ?_
    | with_reducible refine Kept.onlyIf ?_ ?_
    | with_reducible refine Dev.putFlag_kept ((Sub.rfl).mono (by decide)) ?_
    | with_reducible refine Dev.raise_kept ((Sub.rfl).mono (by decide)) ?_
    | split
    | dsimp only
    | intro _

end Sys2Proof.Machine
end

