-- ==== Sys2Proof/Laws/KeptImageCmds.lean ====
section
/-! SUPPORT. What the operations and commands of Machine/ImageCmds.lean keep (`Kept`): the parts each changes, and the canonical form. -/

set_option Elab.async false

namespace Sys2Proof.Machine

theorem Dev.configReset_kept {M : Nat} {d0 d : Dev} (hM : Sub 503777 M) (h : Kept M d0 d) :
    Kept M d0 (Dev.configReset d) := by
  unfold Dev.configReset
  repeat' first
    | with_reducible assumption
    | exact fun c => (Dev.Canonical.slots c : _)
    | exact fun c => (Dev.Canonical.keys c)
    | exact fun c => (Dev.Canonical.regs c)
    | exact fun c => Tab.wf_drop _ _ (Dev.Canonical.slots c)
    | exact fun c => Tab.wf_set _ _ _ (Dev.Canonical.slots c)
    | exact fun c => Tab.wf_set _ _ _ (Dev.Canonical.keys c)
    | exact fun c => Tab.wf_set _ _ _ (Dev.Canonical.regs c)
    | exact fun c => Tab.wf_drop _ _ (Dev.Canonical.regs c)
    | exact fun c => Tab.wf_set _ _ _ (Dev.Canonical.settings c)
    | exact fun _ => rfl
    | with_reducible refine Dev.put_kept ((hM).mono (by decide)) ?_
    | with_reducible refine Dev.putFlag_kept ((hM).mono (by decide)) ?_
    | with_reducible refine Dev.wr_kept ((hM).mono (by decide)) ?_
    | with_reducible refine Dev.clearFactoryKeys_kept ((hM).mono (by decide)) ?_
    | with_reducible refine Dev.showErr_kept ((hM).mono (by decide)) ?_
    | split
    | dsimp only
    | intro _
    | with_reducible refine Kept.lit_regs_store_eng_time_phase_hq_sec_flt_img_loads_can_sw_drv ((hM).mono (by decide)) ?_ ((hM).mono (by decide)) ?_ ((hM).mono (by decide)) ((hM).mono (by decide)) ((hM).mono (by decide)) ((hM).mono (by decide)) ((hM).mono (by decide)) ?_ ((hM).mono (by decide)) ((hM).mono (by decide)) ((hM).mono (by decide)) ((hM).mono (by decide)) ((hM).mono (by decide)) ((hM).mono (by decide)) ?_

/-- Every section's application keeps the parts it may change. -/
theorem applyOrder_kept {M : Nat} {d0 : Dev} {pins : List Nat} (hM : Sub 503777 M) :
    ∀ x ∈ applyOrder pins, ∀ c b e, Kept M d0 e → KeptE M d0 (x.2 c b e) := by
  intro x hx c b e k
  simp only [applyOrder, List.mem_cons, List.not_mem_nil, or_false] at hx
  rcases hx with rfl | rfl | rfl | rfl | rfl | rfl | rfl | rfl | rfl | rfl | rfl | rfl <;> first
    | with_reducible exact applySecurity_kept (hM.mono (by decide)) k
    | with_reducible exact applyRecorder_kept (hM.mono (by decide)) k
    | with_reducible exact applyTime_kept (hM.mono (by decide)) k
    | with_reducible exact applySignals_kept (hM.mono (by decide)) k
    | with_reducible exact applyEngines_kept (hM.mono (by decide)) k
    | with_reducible exact applyQueues_kept (hM.mono (by decide)) k
    | with_reducible exact applySwitch_kept (hM.mono (by decide)) k
    | with_reducible exact applyRing_kept (hM.mono (by decide)) k
    | with_reducible exact applyLoads_kept (hM.mono (by decide)) k
    | with_reducible exact applyPhase_kept (hM.mono (by decide)) k
    | with_reducible exact applyFaults_kept (hM.mono (by decide)) k
    | with_reducible exact applyPins_kept (hM.mono (by decide)) k

theorem applyFrom_all {M : Nat} {d0 : Dev} {g : ImgSrc} : ∀ (fs : List (Nat × (Nat → List Byte → Dev → Applied))) (d : Dev),
    (∀ x ∈ fs, ∀ c b e, Kept M d0 e → KeptE M d0 (x.2 c b e)) → Kept M d0 d → KeptP M d0 (applyFrom g fs d)
  | [], d, _, h => h
  | (id, f) :: rest, d, hf, h => by
    have hr : ∀ x ∈ rest, ∀ c b e, Kept M d0 e → KeptE M d0 (x.2 c b e) := fun x hx => hf x (List.mem_cons_of_mem _ hx)
    unfold applyFrom
    split
    · split
      · exact h
      · exact applyFrom_all rest d hr h
    · split
      · rename_i x _ _ he
        exact applyFrom_all rest _ hr (KeptE.of_eq he (hf (id, f) List.mem_cons_self _ _ _ h))
      · exact h

theorem applyFrom_kept {M : Nat} {d0 d : Dev} {a1 : _} {a2 : List Nat} (hM : Sub 503777 M) (h : Kept M d0 d) :
    KeptP M d0 (applyFrom a1 (applyOrder a2) d) := applyFrom_all _ _ (applyOrder_kept hM) h

theorem Dev.imgStatus_kept {M : Nat} {d0 d : Dev} {a1 : _} {a2 : _} {a3 : _} {a4 : _} {a5 : _} (hM : Sub 1 M) (h : Kept M d0 d) :
    Kept M d0 (Dev.imgStatus a1 a2 a3 a4 a5 d) := by
  unfold Dev.imgStatus
  repeat' first
    | with_reducible assumption
    | with_reducible refine Dev.put_kept ((hM).mono (by decide)) ?_
    | split
    | dsimp only
    | intro _

theorem Dev.imgRefused_kept {M : Nat} {d0 d : Dev} {a1 : _} {a2 : _} {a3 : _} {a4 : _} (hM : Sub 1049601 M) (h : Kept M d0 d) :
    Kept M d0 (Dev.imgRefused a1 a2 a3 a4 d) := by
  unfold Dev.imgRefused
  repeat' first
    | with_reducible assumption
    | with_reducible refine Dev.recAppendFree_kept ((hM).mono (by decide)) ?_
    | with_reducible refine Dev.imgStatus_kept ((hM).mono (by decide)) ?_
    | split
    | dsimp only
    | intro _

theorem Dev.imgApplied_kept {M : Nat} {d0 d : Dev} {a1 : _} (hM : Sub 1572811 M) (h : Kept M d0 d) :
    Kept M d0 (Dev.imgApplied a1 d) := by
  unfold Dev.imgApplied
  repeat' first
    | with_reducible assumption
    | with_reducible refine Kept.each ?_ ?_
    | with_reducible refine Dev.wr_kept ((hM).mono (by decide)) ?_
    | with_reducible refine Dev.imgStatus_kept ((hM).mono (by decide)) ?_
    | with_reducible refine Dev.peak_kept ((hM).mono (by decide)) ?_
    | with_reducible refine Dev.put_kept ((hM).mono (by decide)) ?_
    | with_reducible refine Dev.defaultSettings_kept ((hM).mono (by decide)) ?_
    | with_reducible refine Dev.enterService_kept ((hM).mono (by decide)) ?_
    | with_reducible refine Dev.recAppendFree_kept ((hM).mono (by decide)) ?_
    | split
    | dsimp only
    | intro _
    | with_reducible refine Kept.lit_img ((hM).mono (by decide)) ?_

theorem Dev.sigChecked_kept {M : Nat} {d0 d : Dev} {a1 : _} (hM : Sub 1 M) (h : Kept M d0 d) :
    Kept M d0 (Dev.sigChecked a1 d) := by
  unfold Dev.sigChecked
  repeat' first
    | with_reducible assumption
    | with_reducible refine Kept.onlyIf ?_ ?_
    | with_reducible refine Dev.pqCode_kept ((hM).mono (by decide)) ?_
    | split
    | dsimp only
    | intro _

theorem execImageApplyDone_kept {a1 : _} {s : State} : KeptX 1572843 s (execImageApplyDone a1 s) := by
  unfold execImageApplyDone
  repeat' first
    | with_reducible assumption
    | with_reducible refine KeptX.run ?_
    | with_reducible refine Kept.onlyIf ?_ ?_
    | with_reducible refine Dev.sigChecked_kept ((Sub.rfl).mono (by decide)) ?_
    | with_reducible refine Dev.imgRefused_kept ((Sub.rfl).mono (by decide)) ?_
    | with_reducible refine Dev.storeRegion_kept ((Sub.rfl).mono (by decide)) ?_
    | with_reducible refine applyFrom_kept ((Sub.rfl).mono (by decide)) ?_
    | with_reducible refine Dev.configReset_kept ((Sub.rfl).mono (by decide)) ?_
    | with_reducible refine Dev.imgApplied_kept ((Sub.rfl).mono (by decide)) ?_
    | refine KeptP.of_eq (by assumption) ?_
    | with_reducible refine KeptP.snd ?_
    | split
    | dsimp only
    | intro _
    | with_reducible refine Kept.lit_img ((Sub.rfl).mono (by decide)) ?_
    | with_reducible refine KeptP.mk ?_

theorem Dev.applyImage_kept {M : Nat} {d0 d : Dev} {a1 : _} (hM : Sub 8193 M) (h : Kept M d0 d) :
    Kept M d0 (Dev.applyImage a1 d) := by
  unfold Dev.applyImage
  repeat' first
    | with_reducible assumption
    | with_reducible refine Dev.put_kept ((hM).mono (by decide)) ?_
    | with_reducible refine Dev.imgStatus_kept ((hM).mono (by decide)) ?_
    | split
    | dsimp only
    | intro _
    | with_reducible refine Kept.lit_img ((hM).mono (by decide)) ?_

theorem Dev.partSubmit_kept {M : Nat} {d0 d : Dev} (hM : Sub 8193 M) (h : Kept M d0 d) :
    Kept M d0 (Dev.partSubmit d) := by
  unfold Dev.partSubmit
  repeat' first
    | with_reducible assumption
    | with_reducible refine Dev.putFlag_kept ((hM).mono (by decide)) ?_
    | with_reducible refine Dev.put_kept ((hM).mono (by decide)) ?_
    | with_reducible refine Dev.sigChecked_kept ((hM).mono (by decide)) ?_
    | split
    | dsimp only
    | intro _
    | with_reducible refine Kept.lit_img ((hM).mono (by decide)) ?_

theorem Dev.imgCtrl_kept {M : Nat} {d0 d : Dev} {a1 : _} {a2 : _} (hM : Sub 8193 M) (h : Kept M d0 d) :
    Kept M d0 (Dev.imgCtrl a1 a2 d) := by
  unfold Dev.imgCtrl
  repeat' first
    | with_reducible assumption
    | with_reducible refine Dev.applyImage_kept ((hM).mono (by decide)) ?_
    | with_reducible refine Dev.partSubmit_kept ((hM).mono (by decide)) ?_
    | split
    | dsimp only
    | intro _

theorem execApply_kept {a1 : _} {a2 : _} {s : State} : KeptX 1073665 s (execApply a1 a2 s) := by
  unfold execApply
  repeat' first
    | with_reducible assumption
    | with_reducible refine runWrite_kept ?_ ((Sub.rfl).mono (by decide))
    | with_reducible refine Dev.imgCtrl_kept ((Sub.rfl).mono (by decide)) ?_
    | split
    | dsimp only
    | intro _

theorem execPartSubmit_kept {a1 : _} {a2 : _} {s : State} : KeptX 1073665 s (execPartSubmit a1 a2 s) := by
  unfold execPartSubmit
  repeat' first
    | with_reducible assumption
    | with_reducible refine runWrite_kept ?_ ((Sub.rfl).mono (by decide))
    | with_reducible refine Dev.imgCtrl_kept ((Sub.rfl).mono (by decide)) ?_
    | split
    | dsimp only
    | intro _

theorem Dev.partStage_kept {M : Nat} {d0 d : Dev} {a1 : _} {a2 : _} (hM : Sub 8193 M) (h : Kept M d0 d) :
    Kept M d0 (Dev.partStage a1 a2 d) := by
  unfold Dev.partStage
  repeat' first
    | with_reducible assumption
    | with_reducible refine Dev.putFlag_kept ((hM).mono (by decide)) ?_
    | split
    | dsimp only
    | intro _
    | with_reducible refine Kept.lit_img ((hM).mono (by decide)) ?_

theorem execPartStageWrite_kept {a1 : _} {a2 : _} {a3 : _} {s : State} : KeptX 1073665 s (execPartStageWrite a1 a2 a3 s) := by
  unfold execPartStageWrite
  repeat' first
    | with_reducible assumption
    | with_reducible refine KeptX.run ?_
    | with_reducible refine runWrite_kept ?_ ((Sub.rfl).mono (by decide))
    | with_reducible refine Dev.partStage_kept ((Sub.rfl).mono (by decide)) ?_
    | split
    | dsimp only
    | intro _

theorem Dev.partEnds_kept {M : Nat} {d0 d : Dev} {a1 : _} {a2 : _} {a3 : _} {a4 : _} (hM : Sub 8193 M) (h : Kept M d0 d) :
    Kept M d0 (Dev.partEnds a1 a2 a3 a4 d) := by
  unfold Dev.partEnds
  repeat' first
    | with_reducible assumption
    | with_reducible refine Dev.put_kept ((hM).mono (by decide)) ?_
    | with_reducible refine Dev.putFlag_kept ((hM).mono (by decide)) ?_
    | split
    | dsimp only
    | intro _
    | with_reducible refine Kept.lit_img ((hM).mono (by decide)) ?_

theorem Dev.partApplied_kept {M : Nat} {d0 d : Dev} {a1 : _} {a2 : _} {a3 : _} (hM : Sub 1078793 M) (h : Kept M d0 d) :
    Kept M d0 (Dev.partApplied a1 a2 a3 d) := by
  unfold Dev.partApplied
  repeat' first
    | with_reducible assumption
    | with_reducible refine Kept.onlyIf ?_ ?_
    | with_reducible refine Dev.putFlag_kept ((hM).mono (by decide)) ?_
    | with_reducible refine Dev.bump_kept ((hM).mono (by decide)) ?_
    | with_reducible refine Dev.partEnds_kept ((hM).mono (by decide)) ?_
    | with_reducible refine Dev.clearLoss_kept ((hM).mono (by decide)) ?_
    | split
    | dsimp only
    | intro _
    | with_reducible refine Kept.lit_img ((hM).mono (by decide)) ?_

theorem Dev.hideFromEvents_kept {M : Nat} {d0 d : Dev} {a1 : _} (hM : Sub 64 M) (h : Kept M d0 d) :
    Kept M d0 (Dev.hideFromEvents a1 d) := by
  unfold Dev.hideFromEvents
  repeat' first
    | with_reducible assumption
    | split
    | dsimp only
    | intro _
    | with_reducible refine Kept.lit_eng ((hM).mono (by decide)) ?_

theorem execPartialAdd_kept {s : State} : KeptX 1341033 s (execPartialAdd s) := by
  unfold execPartialAdd
  repeat' first
    | with_reducible assumption
    | with_reducible refine KeptX.run ?_
    | with_reducible refine Kept.onlyIf ?_ ?_
    | with_reducible refine eachItem_kept ?_ ((Sub.rfl).mono (by decide)) ?_
    | with_reducible refine routeItem_kept ((Sub.rfl).mono (by decide)) ?_
    | with_reducible refine exportItem_kept ((Sub.rfl).mono (by decide)) ?_
    | with_reducible refine slotItem_kept ((Sub.rfl).mono (by decide)) ?_
    | with_reducible refine Dev.hideFromEvents_kept ((Sub.rfl).mono (by decide)) ?_
    | with_reducible refine Dev.partApplied_kept ((Sub.rfl).mono (by decide)) ?_
    | split
    | dsimp only
    | intro _
    | with_reducible refine Kept.lit_img ((Sub.rfl).mono (by decide)) ?_

theorem execPartialRemove_kept {s : State} : KeptX 1335905 s (execPartialRemove s) := by
  unfold execPartialRemove
  repeat' first
    | with_reducible assumption
    | exact fun c => (Dev.Canonical.slots c : _)
    | exact fun c => (Dev.Canonical.keys c)
    | exact fun c => (Dev.Canonical.regs c)
    | exact fun c => Tab.wf_drop _ _ (Dev.Canonical.slots c)
    | exact fun c => Tab.wf_set _ _ _ (Dev.Canonical.slots c)
    | exact fun c => Tab.wf_set _ _ _ (Dev.Canonical.keys c)
    | exact fun c => Tab.wf_set _ _ _ (Dev.Canonical.regs c)
    | exact fun c => Tab.wf_drop _ _ (Dev.Canonical.regs c)
    | exact fun c => Tab.wf_set _ _ _ (Dev.Canonical.settings c)
    | exact fun _ => rfl
    | with_reducible refine KeptX.run ?_
    | with_reducible refine Kept.onlyIf ?_ ?_
    | with_reducible refine Kept.each ?_ ?_
    | with_reducible refine Dev.nodeLeave_kept ((Sub.rfl).mono (by decide)) ?_
    | with_reducible refine Dev.putSlot_kept ((Sub.rfl).mono (by decide)) ?_
    | split
    | dsimp only
    | intro _
    | with_reducible refine Kept.lit_store_img ((Sub.rfl).mono (by decide)) ?_ ((Sub.rfl).mono (by decide)) ?_

theorem execPartialRemoveUndefine_kept {a1 : _} {s : State} : KeptX 1340969 s (execPartialRemoveUndefine a1 s) := by
  unfold execPartialRemoveUndefine
  repeat' first
    | with_reducible assumption
    | exact fun c => (Dev.Canonical.slots c : _)
    | exact fun c => (Dev.Canonical.keys c)
    | exact fun c => (Dev.Canonical.regs c)
    | exact fun c => Tab.wf_drop _ _ (Dev.Canonical.slots c)
    | exact fun c => Tab.wf_set _ _ _ (Dev.Canonical.slots c)
    | exact fun c => Tab.wf_set _ _ _ (Dev.Canonical.keys c)
    | exact fun c => Tab.wf_set _ _ _ (Dev.Canonical.regs c)
    | exact fun c => Tab.wf_drop _ _ (Dev.Canonical.regs c)
    | exact fun c => Tab.wf_set _ _ _ (Dev.Canonical.settings c)
    | exact fun _ => rfl
    | with_reducible refine KeptX.run ?_
    | with_reducible refine Dev.invalidationWins_kept ((Sub.rfl).mono (by decide)) ?_
    | with_reducible refine Dev.partApplied_kept ((Sub.rfl).mono (by decide)) ?_
    | split
    | dsimp only
    | intro _
    | with_reducible refine Kept.lit_store_img_drv ((Sub.rfl).mono (by decide)) ?_ ((Sub.rfl).mono (by decide)) ((Sub.rfl).mono (by decide)) ?_

theorem execPartialRefused_kept {s : State} : KeptX 1078793 s (execPartialRefused s) := by
  unfold execPartialRefused
  repeat' first
    | with_reducible assumption
    | with_reducible refine KeptX.run ?_
    | with_reducible refine Kept.onlyIf ?_ ?_
    | with_reducible refine Dev.raise_kept ((Sub.rfl).mono (by decide)) ?_
    | with_reducible refine Dev.partEnds_kept ((Sub.rfl).mono (by decide)) ?_
    | with_reducible refine Dev.declareLoss_kept ((Sub.rfl).mono (by decide)) ?_
    | split
    | dsimp only
    | intro _
    | with_reducible refine Kept.lit_img ((Sub.rfl).mono (by decide)) ?_

end Sys2Proof.Machine
end

