-- ==== Sys2Proof/Laws/KeptLoader.lean ====
section
/-! SUPPORT. What the operations and commands of Machine/Loader.lean keep (`Kept`): the parts each changes, and the canonical form. -/

set_option Elab.async false

namespace Sys2Proof.Machine

theorem Dev.leaseTake_kept {M : Nat} {d0 d : Dev} {a1 : _} (hM : Sub 1048577 M) (h : Kept M d0 d) :
    Kept M d0 (Dev.leaseTake a1 d) := by
  unfold Dev.leaseTake
  repeat' first
    | with_reducible assumption
    | with_reducible refine Dev.putHolder_kept ((hM).mono (by decide)) ?_
    | split
    | dsimp only
    | intro _

theorem Dev.leaseRelease_kept {M : Nat} {d0 d : Dev} {a1 : _} (hM : Sub 1048577 M) (h : Kept M d0 d) :
    Kept M d0 (Dev.leaseRelease a1 d) := by
  unfold Dev.leaseRelease
  repeat' first
    | with_reducible assumption
    | with_reducible refine Dev.putHolder_kept ((hM).mono (by decide)) ?_
    | split
    | dsimp only
    | intro _

theorem Dev.leaseWrite_kept {M : Nat} {d0 d : Dev} {a1 : _} {a2 : _} (hM : Sub 1048577 M) (h : Kept M d0 d) :
    Kept M d0 (Dev.leaseWrite a1 a2 d) := by
  unfold Dev.leaseWrite
  repeat' first
    | with_reducible assumption
    | with_reducible refine Dev.put_kept ((hM).mono (by decide)) ?_
    | with_reducible refine Dev.leaseTake_kept ((hM).mono (by decide)) ?_
    | with_reducible refine Dev.leaseRelease_kept ((hM).mono (by decide)) ?_
    | split
    | dsimp only
    | intro _

theorem execHostLeaseRelease_kept {s : State} : KeptX 1065473 s (execHostLeaseRelease s) := by
  unfold execHostLeaseRelease
  repeat' first
    | with_reducible assumption
    | with_reducible refine runWrite_kept ?_ ((Sub.rfl).mono (by decide))
    | with_reducible refine Dev.leaseWrite_kept ((Sub.rfl).mono (by decide)) ?_
    | split
    | dsimp only
    | intro _

theorem Dev.leaseCfgWrite_kept {M : Nat} {d0 d : Dev} {a1 : _} {a2 : _} (hM : Sub 3 M) (h : Kept M d0 d) :
    Kept M d0 (Dev.leaseCfgWrite a1 a2 d) := by
  unfold Dev.leaseCfgWrite
  repeat' first
    | with_reducible assumption
    | with_reducible refine Dev.put_kept ((hM).mono (by decide)) ?_
    | with_reducible refine Dev.storeSetting_kept ((hM).mono (by decide)) ?_
    | with_reducible refine Dev.wr_kept ((hM).mono (by decide)) ?_
    | split
    | dsimp only
    | intro _

theorem Dev.ldrCode_kept {M : Nat} {d0 d : Dev} {a1 : _} (hM : Sub 1 M) (h : Kept M d0 d) :
    Kept M d0 (Dev.ldrCode a1 d) := by
  unfold Dev.ldrCode
  repeat' first
    | with_reducible assumption
    | with_reducible refine Dev.put_kept ((hM).mono (by decide)) ?_
    | split
    | dsimp only
    | intro _

theorem Dev.ldrOp_kept {M : Nat} {d0 d : Dev} {a1 : _} {a2 : _} {a3 : _} (h3 : ∀ y0, Kept M d0 y0 → Kept M d0 (a3 y0)) (hM : Sub 1 M) (h : Kept M d0 d) :
    Kept M d0 (Dev.ldrOp a1 a2 a3 d) := by
  unfold Dev.ldrOp
  repeat' first
    | with_reducible assumption
    | with_reducible refine h3 _ ?_
    | with_reducible refine Dev.ldrCode_kept ((hM).mono (by decide)) ?_
    | split
    | dsimp only
    | intro _

theorem Dev.ldrEnter_kept {M : Nat} {d0 d : Dev} {a1 : _} (hM : Sub 2097149 M) (h : Kept M d0 d) :
    Kept M d0 (Dev.ldrEnter a1 d) := by
  unfold Dev.ldrEnter
  repeat' first
    | with_reducible assumption
    | with_reducible refine Dev.ldrOp_kept ?_ ((hM).mono (by decide)) ?_
    | with_reducible refine Dev.resetOp_kept ((hM).mono (by decide)) ?_
    | with_reducible refine Dev.stageRecord_kept ((hM).mono (by decide)) ?_
    | with_reducible refine Dev.put_kept ((hM).mono (by decide)) ?_
    | split
    | dsimp only
    | intro _

theorem Dev.ldrVerify_kept {M : Nat} {d0 d : Dev} {a1 : _} (hM : Sub 16385 M) (h : Kept M d0 d) :
    Kept M d0 (Dev.ldrVerify a1 d) := by
  unfold Dev.ldrVerify
  repeat' first
    | with_reducible assumption
    | with_reducible refine Dev.ldrOp_kept ?_ ((hM).mono (by decide)) ?_
    | split
    | dsimp only
    | intro _
    | with_reducible refine Kept.lit_mgmt ((hM).mono (by decide)) ?_

theorem Dev.ldrActivate_kept {M : Nat} {d0 d : Dev} {a1 : _} (hM : Sub 16385 M) (h : Kept M d0 d) :
    Kept M d0 (Dev.ldrActivate a1 d) := by
  unfold Dev.ldrActivate
  repeat' first
    | with_reducible assumption
    | with_reducible refine Dev.ldrOp_kept ?_ ((hM).mono (by decide)) ?_
    | with_reducible refine Dev.put_kept ((hM).mono (by decide)) ?_
    | with_reducible refine Dev.stageRecord_kept ((hM).mono (by decide)) ?_
    | split
    | dsimp only
    | intro _
    | with_reducible refine Kept.lit_mgmt ((hM).mono (by decide)) ?_

theorem Dev.ldrReboot_kept {M : Nat} {d0 d : Dev} {a1 : _} (hM : Sub 2097149 M) (h : Kept M d0 d) :
    Kept M d0 (Dev.ldrReboot a1 d) := by
  unfold Dev.ldrReboot
  repeat' first
    | with_reducible assumption
    | with_reducible refine Dev.ldrOp_kept ?_ ((hM).mono (by decide)) ?_
    | with_reducible refine Dev.resetOp_kept ((hM).mono (by decide)) ?_
    | split
    | dsimp only
    | intro _

theorem Dev.ldrWrite_kept {M : Nat} {d0 d : Dev} {a1 : _} {a2 : _} (hM : Sub 2097149 M) (h : Kept M d0 d) :
    Kept M d0 (Dev.ldrWrite a1 a2 d) := by
  unfold Dev.ldrWrite
  repeat' first
    | with_reducible assumption
    | with_reducible refine Dev.ldrEnter_kept ((hM).mono (by decide)) ?_
    | with_reducible refine Dev.ldrVerify_kept ((hM).mono (by decide)) ?_
    | with_reducible refine Dev.ldrActivate_kept ((hM).mono (by decide)) ?_
    | with_reducible refine Dev.ldrReboot_kept ((hM).mono (by decide)) ?_
    | with_reducible refine Dev.ldrCode_kept ((hM).mono (by decide)) ?_
    | split
    | dsimp only
    | intro _

theorem execLdrEnter_kept {a1 : _} {s : State} : KeptX 2097149 s (execLdrEnter a1 s) := by
  unfold execLdrEnter
  repeat' first
    | with_reducible assumption
    | with_reducible refine runWrite_kept ?_ ((Sub.rfl).mono (by decide))
    | with_reducible refine Dev.ldrEnter_kept ((Sub.rfl).mono (by decide)) ?_
    | split
    | dsimp only
    | intro _

theorem execLdrVerify_kept {a1 : _} {s : State} : KeptX 1065473 s (execLdrVerify a1 s) := by
  unfold execLdrVerify
  repeat' first
    | with_reducible assumption
    | with_reducible refine runWrite_kept ?_ ((Sub.rfl).mono (by decide))
    | with_reducible refine Dev.ldrVerify_kept ((Sub.rfl).mono (by decide)) ?_
    | split
    | dsimp only
    | intro _

theorem execLdrActivate_kept {a1 : _} {s : State} : KeptX 1065473 s (execLdrActivate a1 s) := by
  unfold execLdrActivate
  repeat' first
    | with_reducible assumption
    | with_reducible refine runWrite_kept ?_ ((Sub.rfl).mono (by decide))
    | with_reducible refine Dev.ldrActivate_kept ((Sub.rfl).mono (by decide)) ?_
    | split
    | dsimp only
    | intro _

theorem execLdrReboot_kept {a1 : _} {s : State} : KeptX 2097149 s (execLdrReboot a1 s) := by
  unfold execLdrReboot
  repeat' first
    | with_reducible assumption
    | with_reducible refine runWrite_kept ?_ ((Sub.rfl).mono (by decide))
    | with_reducible refine Dev.ldrReboot_kept ((Sub.rfl).mono (by decide)) ?_
    | split
    | dsimp only
    | intro _

theorem Dev.unverify_kept {M : Nat} {d0 d : Dev} (hM : Sub 1 M) (h : Kept M d0 d) :
    Kept M d0 (Dev.unverify d) := by
  unfold Dev.unverify
  repeat' first
    | with_reducible assumption
    | with_reducible refine Dev.put_kept ((hM).mono (by decide)) ?_
    | split
    | dsimp only
    | intro _

theorem Dev.ldrLenWrite_kept {M : Nat} {d0 d : Dev} {a1 : _} (hM : Sub 1 M) (h : Kept M d0 d) :
    Kept M d0 (Dev.ldrLenWrite a1 d) := by
  unfold Dev.ldrLenWrite
  repeat' first
    | with_reducible assumption
    | with_reducible refine Kept.onlyIf ?_ ?_
    | with_reducible refine Dev.unverify_kept ((hM).mono (by decide)) ?_
    | with_reducible refine Dev.put_kept ((hM).mono (by decide)) ?_
    | split
    | dsimp only
    | intro _

theorem execVerifyDone_kept {s : State} : KeptX 1064961 s (execVerifyDone s) := by
  unfold execVerifyDone
  repeat' first
    | with_reducible assumption
    | with_reducible refine KeptX.run ?_
    | with_reducible refine Kept.onlyIf ?_ ?_
    | with_reducible refine Dev.pqCode_kept ((Sub.rfl).mono (by decide)) ?_
    | with_reducible refine Dev.stageRecord_kept ((Sub.rfl).mono (by decide)) ?_
    | with_reducible refine Dev.ldrCode_kept ((Sub.rfl).mono (by decide)) ?_
    | with_reducible refine Dev.put_kept ((Sub.rfl).mono (by decide)) ?_
    | with_reducible refine Dev.raise_kept ((Sub.rfl).mono (by decide)) ?_
    | split
    | dsimp only
    | intro _
    | with_reducible refine Kept.lit_mgmt ((Sub.rfl).mono (by decide)) ?_

theorem Dev.activatePart_kept {M : Nat} {d0 d : Dev} {a1 : _} (hM : Sub 16385 M) (h : Kept M d0 d) :
    Kept M d0 (Dev.activatePart a1 d) := by
  unfold Dev.activatePart
  repeat' first
    | with_reducible assumption
    | with_reducible refine Kept.onlyIf ?_ ?_
    | with_reducible refine Dev.put_kept ((hM).mono (by decide)) ?_
    | split
    | dsimp only
    | intro _
    | with_reducible refine Kept.lit_mgmt ((hM).mono (by decide)) ?_

theorem Dev.activateEnd_kept {M : Nat} {d0 d : Dev} {a1 : _} (hM : Sub 2097149 M) (h : Kept M d0 d) :
    Kept M d0 (Dev.activateEnd a1 d) := by
  unfold Dev.activateEnd
  repeat' first
    | with_reducible assumption
    | exact fun c => (Dev.Canonical.slots c : _)
    | exact fun c => (Dev.Canonical.keys c)
    | exact fun c => (Dev.Canonical.regs c)
    | exact fun c => Tab.wf_drop _ _ (Dev.Canonical.slots c)
    | exact fun c => Tab.wf_set _ _ _ (Dev.Canonical.slots c)
    | exact fun c => Tab.wf_set _ _ _ (Dev.Canonical.keys c)
    | exact fun c => Tab.wf_set _ _ _ (Dev.Canonical.regs c)
    | exact fun c => Tab.wf_drop _ _ (Dev.Canonical.regs c)
    | exact fun c => Tab.wf_set _ _ _ (Dev.Canonical.settings c)
    | exact fun _ => rfl
    | with_reducible refine Dev.put_kept ((hM).mono (by decide)) ?_
    | with_reducible refine Dev.resetOp_kept ((hM).mono (by decide)) ?_
    | with_reducible refine Dev.stageRecord_kept ((hM).mono (by decide)) ?_
    | with_reducible refine Dev.raise_kept ((hM).mono (by decide)) ?_
    | with_reducible refine Dev.ldrCode_kept ((hM).mono (by decide)) ?_
    | split
    | dsimp only
    | intro _
    | with_reducible refine Kept.lit_mgmt ((hM).mono (by decide)) ?_
    | with_reducible refine Kept.lit_sec_mgmt ((hM).mono (by decide)) ?_ ((hM).mono (by decide)) ?_
    | with_reducible refine Kept.lit_sec ((hM).mono (by decide)) ?_ ?_

theorem execActivateDone_kept {a1 : _} {s : State} : KeptX 2097149 s (execActivateDone a1 s) := by
  unfold execActivateDone
  repeat' first
    | with_reducible assumption
    | with_reducible refine KeptX.run ?_
    | with_reducible refine Dev.activatePart_kept ((Sub.rfl).mono (by decide)) ?_
    | with_reducible refine Dev.activateEnd_kept ((Sub.rfl).mono (by decide)) ?_
    | split
    | dsimp only
    | intro _

end Sys2Proof.Machine
end

