-- ==== Sys2Proof/Laws/KeptBus.lean ====
section
/-! SUPPORT. What the operations and commands of Machine/Bus.lean keep (`Kept`): the parts each changes, and the canonical form. -/

set_option Elab.async false

namespace Sys2Proof.Machine

theorem Dev.clearRead_kept {M : Nat} {d0 d : Dev} {a1 : _} (hM : Sub 1 M) (h : Kept M d0 d) :
    Kept M d0 (Dev.clearRead a1 d) := by
  unfold Dev.clearRead
  repeat' first
    | with_reducible assumption
    | with_reducible refine Dev.put_kept ((hM).mono (by decide)) ?_
    | with_reducible refine Dev.wr_kept ((hM).mono (by decide)) ?_
    | split
    | dsimp only
    | intro _

theorem Dev.regRead_kept {M : Nat} {d0 d : Dev} {a1 : _} {a2 : _} (hM : Sub 525989 M) (h : Kept M d0 d) :
    KeptP M d0 (Dev.regRead a1 a2 d) := by
  unfold Dev.regRead
  repeat' first
    | with_reducible assumption
    | with_reducible refine Dev.consume_kept ((hM).mono (by decide)) ?_
    | with_reducible refine Dev.calReadLatch_kept ((hM).mono (by decide)) ?_
    | with_reducible refine Dev.tsqRead_kept ((hM).mono (by decide)) ?_
    | with_reducible refine Dev.capRead_kept ((hM).mono (by decide)) ?_
    | with_reducible refine Dev.logRead_kept ((hM).mono (by decide)) ?_
    | with_reducible refine Dev.cphRead_kept ((hM).mono (by decide)) ?_
    | with_reducible refine Dev.latchRead_kept ((hM).mono (by decide)) ?_
    | with_reducible refine Dev.clearRead_kept ((hM).mono (by decide)) ?_
    | refine KeptP.of_eq (by assumption) ?_
    | with_reducible refine KeptP.snd ?_
    | split
    | dsimp only
    | intro _
    | with_reducible refine KeptP.mk ?_

theorem Dev.plainWrite_kept {M : Nat} {d0 d : Dev} {a1 : _} {a2 : _} (hM : Sub 1 M) (h : Kept M d0 d) :
    Kept M d0 (Dev.plainWrite a1 a2 d) := by
  unfold Dev.plainWrite
  repeat' first
    | with_reducible assumption
    | with_reducible refine Dev.wr_kept ((hM).mono (by decide)) ?_
    | split
    | dsimp only
    | intro _

theorem Dev.settingWriteOr_kept {M : Nat} {d0 d : Dev} {a1 : _} {a2 : _} {a3 : _} {a4 : _} (hM : Sub 3 M) (h : Kept M d0 d) :
    Kept M d0 (Dev.settingWriteOr a1 a2 a3 a4 d) := by
  unfold Dev.settingWriteOr
  repeat' first
    | with_reducible assumption
    | with_reducible refine Kept.onlyIf ?_ ?_
    | with_reducible refine Dev.storeSetting_kept ((hM).mono (by decide)) ?_
    | with_reducible refine Dev.plainWrite_kept ((hM).mono (by decide)) ?_
    | with_reducible refine Dev.refuseSetting_kept ((hM).mono (by decide)) ?_
    | split
    | dsimp only
    | intro _

theorem Dev.settingWrite_kept {M : Nat} {d0 d : Dev} {a1 : _} {a2 : _} {a3 : _} (hM : Sub 3 M) (h : Kept M d0 d) :
    Kept M d0 (Dev.settingWrite a1 a2 a3 d) := by
  unfold Dev.settingWrite
  repeat' first
    | with_reducible assumption
    | with_reducible refine Dev.settingWriteOr_kept ((hM).mono (by decide)) ?_
    | split
    | dsimp only
    | intro _

theorem Dev.writeSys_kept {M : Nat} {d0 d : Dev} {a1 : _} {a2 : _} {a3 : _} (hM : Sub 2097151 M) (h : Kept M d0 d) :
    Kept M d0 (Dev.writeSys a1 a2 a3 d) := by
  unfold Dev.writeSys
  repeat' first
    | with_reducible assumption
    | with_reducible refine Kept.onlyIf ?_ ?_
    | with_reducible refine Dev.sysReset_kept ((hM).mono (by decide)) ?_
    | with_reducible refine Dev.sysDoze_kept ((hM).mono (by decide)) ?_
    | with_reducible refine Dev.sysSleep_kept ((hM).mono (by decide)) ?_
    | with_reducible refine Dev.sysReconfig_kept ((hM).mono (by decide)) ?_
    | with_reducible refine Dev.sysWakeOp_kept ((hM).mono (by decide)) ?_
    | with_reducible refine Dev.sysCode_kept ((hM).mono (by decide)) ?_
    | with_reducible refine Dev.partialLossClear_kept ((hM).mono (by decide)) ?_
    | with_reducible refine Dev.hostAlive_kept ((hM).mono (by decide)) ?_
    | with_reducible refine Dev.settingWrite_kept ((hM).mono (by decide)) ?_
    | with_reducible refine Dev.plainWrite_kept ((hM).mono (by decide)) ?_
    | split
    | dsimp only
    | intro _

theorem Dev.writeImg_kept {M : Nat} {d0 d : Dev} {a1 : _} {a2 : _} {a3 : _} (hM : Sub 8193 M) (h : Kept M d0 d) :
    Kept M d0 (Dev.writeImg a1 a2 a3 d) := by
  unfold Dev.writeImg
  repeat' first
    | with_reducible assumption
    | with_reducible refine Dev.imgCtrl_kept ((hM).mono (by decide)) ?_
    | with_reducible refine Dev.partStage_kept ((hM).mono (by decide)) ?_
    | with_reducible refine Dev.plainWrite_kept ((hM).mono (by decide)) ?_
    | split
    | dsimp only
    | intro _

theorem Dev.writeSig_kept {M : Nat} {d0 d : Dev} {a1 : _} {a2 : _} (hM : Sub 3 M) (h : Kept M d0 d) :
    Kept M d0 (Dev.writeSig a1 a2 d) := by
  unfold Dev.writeSig
  repeat' first
    | with_reducible assumption
    | with_reducible refine Dev.settingWrite_kept ((hM).mono (by decide)) ?_
    | split
    | dsimp only
    | intro _

theorem Dev.adjWrite_kept {M : Nat} {d0 d : Dev} {a1 : _} {a2 : _} {a3 : _} (hM : Sub 66 M) (h : Kept M d0 d) :
    Kept M d0 (Dev.adjWrite a1 a2 a3 d) := by
  unfold Dev.adjWrite
  repeat' first
    | with_reducible assumption
    | with_reducible refine Dev.setting_kept ((hM).mono (by decide)) ?_
    | with_reducible refine Dev.putAdj_kept ((hM).mono (by decide)) ?_
    | with_reducible refine Dev.refuseSetting_kept ((hM).mono (by decide)) ?_
    | split
    | dsimp only
    | intro _

theorem Dev.doorbellWrite_kept {M : Nat} {d0 d : Dev} {a1 : _} {a2 : _} (hM : Sub 1048641 M) (h : Kept M d0 d) :
    Kept M d0 (Dev.doorbellWrite a1 a2 d) := by
  unfold Dev.doorbellWrite
  repeat' first
    | with_reducible assumption
    | with_reducible refine Dev.postEvent_kept ((hM).mono (by decide)) ?_
    | split
    | dsimp only
    | intro _

theorem Dev.writeEng_kept {M : Nat} {d0 d : Dev} {a1 : _} {a2 : _} (hM : Sub 1048643 M) (h : Kept M d0 d) :
    Kept M d0 (Dev.writeEng a1 a2 d) := by
  unfold Dev.writeEng
  repeat' first
    | with_reducible assumption
    | with_reducible refine Dev.doorbellWrite_kept ((hM).mono (by decide)) ?_
    | with_reducible refine Dev.settingWrite_kept ((hM).mono (by decide)) ?_
    | with_reducible refine Dev.adjWrite_kept ((hM).mono (by decide)) ?_
    | with_reducible refine Dev.plainWrite_kept ((hM).mono (by decide)) ?_
    | split
    | dsimp only
    | intro _

theorem Dev.writeCan_kept {M : Nat} {d0 d : Dev} {a1 : _} {a2 : _} (hM : Sub 1114179 M) (h : Kept M d0 d) :
    Kept M d0 (Dev.writeCan a1 a2 d) := by
  unfold Dev.writeCan
  repeat' first
    | with_reducible assumption
    | with_reducible refine Kept.onlyIf ?_ ?_
    | with_reducible refine Dev.canCtrlWrite_kept ((hM).mono (by decide)) ?_
    | with_reducible refine Dev.canCycleWrite_kept ((hM).mono (by decide)) ?_
    | with_reducible refine Dev.settingWrite_kept ((hM).mono (by decide)) ?_
    | with_reducible refine Dev.winDataWrite_kept ((hM).mono (by decide)) ?_
    | with_reducible refine Dev.injectGo_kept ((hM).mono (by decide)) ?_
    | with_reducible refine Dev.plainWrite_kept ((hM).mono (by decide)) ?_
    | split
    | dsimp only
    | intro _

theorem Dev.writeSwitch_kept {M : Nat} {d0 d : Dev} {a1 : _} {a2 : _} (hM : Sub 131075 M) (h : Kept M d0 d) :
    Kept M d0 (Dev.writeSwitch a1 a2 d) := by
  unfold Dev.writeSwitch
  repeat' first
    | with_reducible assumption
    | with_reducible refine Dev.ethCfgWrite_kept ((hM).mono (by decide)) ?_
    | with_reducible refine Dev.ethAgeWrite_kept ((hM).mono (by decide)) ?_
    | with_reducible refine Dev.settingWrite_kept ((hM).mono (by decide)) ?_
    | with_reducible refine Dev.mdioStart_kept ((hM).mono (by decide)) ?_
    | split
    | dsimp only
    | intro _

theorem Dev.writeRing_kept {M : Nat} {d0 d : Dev} {a1 : _} {a2 : _} (hM : Sub 262147 M) (h : Kept M d0 d) :
    Kept M d0 (Dev.writeRing a1 a2 d) := by
  unfold Dev.writeRing
  repeat' first
    | with_reducible assumption
    | with_reducible refine Kept.onlyIf ?_ ?_
    | with_reducible refine Dev.settingWrite_kept ((hM).mono (by decide)) ?_
    | with_reducible refine Dev.quarEnd_kept ((hM).mono (by decide)) ?_
    | with_reducible refine Dev.refillRate_kept ((hM).mono (by decide)) ?_
    | with_reducible refine Dev.plainWrite_kept ((hM).mono (by decide)) ?_
    | split
    | dsimp only
    | intro _

theorem Dev.writeQueues_kept {M : Nat} {d0 d : Dev} {a1 : _} {a2 : _} (hM : Sub 1050179 M) (h : Kept M d0 d) :
    Kept M d0 (Dev.writeQueues a1 a2 d) := by
  unfold Dev.writeQueues
  repeat' first
    | with_reducible assumption
    | with_reducible refine Kept.onlyIf ?_ ?_
    | with_reducible refine Dev.queueEnable_kept ((hM).mono (by decide)) ?_
    | with_reducible refine Dev.queueCode_kept ((hM).mono (by decide)) ?_
    | with_reducible refine Dev.queueStop_kept ((hM).mono (by decide)) ?_
    | with_reducible refine Dev.versionOffer_kept ((hM).mono (by decide)) ?_
    | with_reducible refine Dev.consWrite_kept ((hM).mono (by decide)) ?_
    | with_reducible refine Dev.doorbell_kept ((hM).mono (by decide)) ?_
    | with_reducible refine Dev.dropRest_kept ((hM).mono (by decide)) ?_
    | with_reducible refine Dev.settingWriteOr_kept ((hM).mono (by decide)) ?_
    | with_reducible refine Dev.settingWrite_kept ((hM).mono (by decide)) ?_
    | with_reducible refine Dev.plainWrite_kept ((hM).mono (by decide)) ?_
    | with_reducible refine Dev.msixMask_kept ((hM).mono (by decide)) ?_
    | split
    | dsimp only
    | intro _

theorem Dev.writeTime_kept {M : Nat} {d0 d : Dev} {a1 : _} {a2 : _} {a3 : _} (hM : Sub 1639555 M) (h : Kept M d0 d) :
    Kept M d0 (Dev.writeTime a1 a2 a3 d) := by
  unfold Dev.writeTime
  repeat' first
    | with_reducible assumption
    | with_reducible refine Kept.onlyIf ?_ ?_
    | with_reducible refine Dev.snapshot_kept ((hM).mono (by decide)) ?_
    | with_reducible refine Dev.tdLoad_kept ((hM).mono (by decide)) ?_
    | with_reducible refine Dev.tdRateCmd_kept ((hM).mono (by decide)) ?_
    | with_reducible refine Dev.tdAdjCmd_kept ((hM).mono (by decide)) ?_
    | with_reducible refine Dev.lockWrite_kept ((hM).mono (by decide)) ?_
    | with_reducible refine Dev.plainWrite_kept ((hM).mono (by decide)) ?_
    | with_reducible refine Dev.sysRestart_kept ((hM).mono (by decide)) ?_
    | with_reducible refine Dev.sysSelectWrite_kept ((hM).mono (by decide)) ?_
    | with_reducible refine Dev.settingWrite_kept ((hM).mono (by decide)) ?_
    | with_reducible refine Dev.putResid_kept ((hM).mono (by decide)) ?_
    | with_reducible refine Dev.refuseSetting_kept ((hM).mono (by decide)) ?_
    | with_reducible refine Dev.calWrite_kept ((hM).mono (by decide)) ?_
    | with_reducible refine Dev.tampClearWrite_kept ((hM).mono (by decide)) ?_
    | split
    | dsimp only
    | intro _
    | with_reducible refine Kept.lit_time ((hM).mono (by decide)) ?_

theorem Dev.writePhase_kept {M : Nat} {d0 d : Dev} {a1 : _} {a2 : _} {a3 : _} (hM : Sub 291 M) (h : Kept M d0 d) :
    Kept M d0 (Dev.writePhase a1 a2 a3 d) := by
  unfold Dev.writePhase
  repeat' first
    | with_reducible assumption
    | with_reducible refine Kept.onlyIf ?_ ?_
    | with_reducible refine Dev.vminChanged_kept ((hM).mono (by decide)) ?_
    | with_reducible refine Dev.settingWrite_kept ((hM).mono (by decide)) ?_
    | with_reducible refine Dev.preset_kept ((hM).mono (by decide)) ?_
    | with_reducible refine Dev.actWrite_kept ((hM).mono (by decide)) ?_
    | with_reducible refine Dev.dioOutWrite_kept ((hM).mono (by decide)) ?_
    | with_reducible refine Dev.dioForceWrite_kept ((hM).mono (by decide)) ?_
    | with_reducible refine Dev.plainWrite_kept ((hM).mono (by decide)) ?_
    | split
    | dsimp only
    | intro _

theorem Dev.writeLoads_kept {M : Nat} {d0 d : Dev} {a1 : _} {a2 : _} (hM : Sub 33027 M) (h : Kept M d0 d) :
    Kept M d0 (Dev.writeLoads a1 a2 d) := by
  unfold Dev.writeLoads
  repeat' first
    | with_reducible assumption
    | with_reducible refine Kept.onlyIf ?_ ?_
    | with_reducible refine Dev.loadWrite_kept ((hM).mono (by decide)) ?_
    | with_reducible refine Dev.latchClearWrite_kept ((hM).mono (by decide)) ?_
    | with_reducible refine Dev.settingWrite_kept ((hM).mono (by decide)) ?_
    | split
    | dsimp only
    | intro _

theorem Dev.writeSecurity_kept {M : Nat} {d0 d : Dev} {a1 : _} {a2 : _} {a3 : _} (hM : Sub 1049667 M) (h : Kept M d0 d) :
    Kept M d0 (Dev.writeSecurity a1 a2 a3 d) := by
  unfold Dev.writeSecurity
  repeat' first
    | with_reducible assumption
    | exact fun c => (Dev.Canonical.slots c : _)
    | exact fun c => (Dev.Canonical.keys c)
    | exact fun c => (Dev.Canonical.regs c)
    | exact fun c => Tab.wf_drop _ _ (Dev.Canonical.slots c)
    | exact fun c => Tab.wf_set _ _ _ (Dev.Canonical.slots c)
    | exact fun c => Tab.wf_set _ _ _ (Dev.Canonical.keys c)
    | exact fun c => Tab.wf_set _ _ _ (Dev.Canonical.regs c)
    | exact fun c => Tab.wf_drop _ _ (Dev.Canonical.regs c)
    | exact fun c => Tab.wf_set _ _ _ (Dev.Canonical.settings c)
    | exact fun _ => rfl
    | with_reducible refine Kept.onlyIf ?_ ?_
    | with_reducible refine Dev.settingWrite_kept ((hM).mono (by decide)) ?_
    | with_reducible refine Dev.ksErase_kept ((hM).mono (by decide)) ?_
    | with_reducible refine Dev.ksLock_kept ((hM).mono (by decide)) ?_
    | with_reducible refine Dev.submitJob_kept ((hM).mono (by decide)) ?_
    | with_reducible refine Dev.recAck_kept ((hM).mono (by decide)) ?_
    | with_reducible refine Dev.ckptRequest_kept ((hM).mono (by decide)) ?_
    | with_reducible refine Dev.hostAppend_kept ((hM).mono (by decide)) ?_
    | with_reducible refine Dev.plainWrite_kept ((hM).mono (by decide)) ?_
    | split
    | dsimp only
    | intro _
    | with_reducible refine Kept.lit_sec ((hM).mono (by decide)) ?_ ?_

theorem Dev.writeFaults_kept {M : Nat} {d0 d : Dev} {a1 : _} {a2 : _} {a3 : _} (hM : Sub 1507307 M) (h : Kept M d0 d) :
    Kept M d0 (Dev.writeFaults a1 a2 a3 d) := by
  unfold Dev.writeFaults
  dsimp only
  repeat' first
    | with_reducible assumption
    | with_reducible refine Kept.onlyIf ?_ ?_
    | with_reducible refine Dev.forceSafe_kept ((hM).mono (by decide)) ?_
    | with_reducible refine Dev.safeExit_kept ((hM).mono (by decide)) ?_
    | with_reducible refine Dev.errHoldWrite_kept ((hM).mono (by decide)) ?_
    | with_reducible refine Dev.settingWrite_kept ((hM).mono (by decide)) ?_
    | with_reducible refine Dev.holdClear_kept ((hM).mono (by decide)) ?_
    | with_reducible refine Dev.inject_kept ((hM).mono (by decide)) ?_
    | with_reducible refine Dev.plainWrite_kept ((hM).mono (by decide)) ?_
    | with_reducible refine Dev.severeClear_kept ((hM).mono (by decide)) ?_
    | with_reducible refine Dev.settingWriteOr_kept ((hM).mono (by decide)) ?_
    | with_reducible refine Kept.ite ?_ ?_
    | split
    | dsimp only
    | intro _

theorem Dev.writeMgmt_kept {M : Nat} {d0 d : Dev} {a1 : _} {a2 : _} {a3 : _} (hM : Sub 2097151 M) (h : Kept M d0 d) :
    Kept M d0 (Dev.writeMgmt a1 a2 a3 d) := by
  unfold Dev.writeMgmt
  repeat' first
    | with_reducible assumption
    | with_reducible refine Dev.leaseWrite_kept ((hM).mono (by decide)) ?_
    | with_reducible refine Dev.leaseCfgWrite_kept ((hM).mono (by decide)) ?_
    | with_reducible refine Dev.ldrWrite_kept ((hM).mono (by decide)) ?_
    | with_reducible refine Dev.ldrLenWrite_kept ((hM).mono (by decide)) ?_
    | with_reducible refine Dev.plainWrite_kept ((hM).mono (by decide)) ?_
    | split
    | dsimp only
    | intro _

theorem Dev.windowWrite_kept {M : Nat} {d0 d : Dev} {a1 : _} {a2 : _} {a3 : _}  (hM : Sub 2097151 M) (h : Kept M d0 d) :
    Kept M d0 (Dev.windowWrite a1 a2 a3 d) := by
  unfold Dev.windowWrite
  repeat' with_reducible refine Kept.ite ?_ ?_
  all_goals try with_reducible exact Dev.writeSys_kept (hM.mono (by decide)) h
  all_goals try with_reducible exact Dev.writeImg_kept (hM.mono (by decide)) h
  all_goals try with_reducible exact Dev.writeSig_kept (hM.mono (by decide)) h
  all_goals try with_reducible exact Dev.writeEng_kept (hM.mono (by decide)) h
  all_goals try with_reducible exact Dev.writeCan_kept (hM.mono (by decide)) h
  all_goals try with_reducible exact Dev.writeSwitch_kept (hM.mono (by decide)) h
  all_goals try with_reducible exact Dev.writeRing_kept (hM.mono (by decide)) h
  all_goals try with_reducible exact Dev.writeQueues_kept (hM.mono (by decide)) h
  all_goals try with_reducible exact Dev.writeTime_kept (hM.mono (by decide)) h
  all_goals try with_reducible exact Dev.writePhase_kept (hM.mono (by decide)) h
  all_goals try with_reducible exact Dev.writeLoads_kept (hM.mono (by decide)) h
  all_goals try with_reducible exact Dev.writeSecurity_kept (hM.mono (by decide)) h
  all_goals try with_reducible exact Dev.writeFaults_kept (hM.mono (by decide)) h
  all_goals try with_reducible exact Dev.writeMgmt_kept (hM.mono (by decide)) h
  all_goals exact h

theorem Dev.pairCommit_kept {M : Nat} {d0 d : Dev} {a1 : _} {a2 : _} {a3 : _} (hM : Sub 2097151 M) (h : Kept M d0 d) :
    Kept M d0 (Dev.pairCommit a1 a2 a3 d) := by
  unfold Dev.pairCommit
  repeat' first
    | with_reducible assumption
    | with_reducible refine Dev.exportSelect_kept ((hM).mono (by decide)) ?_
    | with_reducible refine Dev.windowWrite_kept ((hM).mono (by decide)) ?_
    | split
    | dsimp only
    | intro _

theorem Dev.regWrite_kept {M : Nat} {d0 d : Dev} {a1 : _} {a2 : _} {a3 : _} (hM : Sub 2097151 M) (h : Kept M d0 d) :
    Kept M d0 (Dev.regWrite a1 a2 a3 d) := by
  unfold Dev.regWrite
  repeat' first
    | with_reducible assumption
    | with_reducible refine Dev.setLatch_kept ((hM).mono (by decide)) ?_
    | with_reducible refine Dev.pairCommit_kept ((hM).mono (by decide)) ?_
    | with_reducible refine Dev.windowWrite_kept ((hM).mono (by decide)) ?_
    | split
    | dsimp only
    | intro _

theorem Dev.pairRead_kept {M : Nat} {d0 d : Dev} {a1 : _} {a2 : _} (hM : Sub 525989 M) (h : Kept M d0 d) :
    KeptP M d0 (Dev.pairRead a1 a2 d) := by
  unfold Dev.pairRead
  repeat' first
    | with_reducible assumption
    | with_reducible refine Dev.regRead_kept ((hM).mono (by decide)) ?_
    | with_reducible refine Dev.latchRead_kept ((hM).mono (by decide)) ?_
    | refine KeptP.of_eq (by assumption) ?_
    | with_reducible refine KeptP.snd ?_
    | split
    | dsimp only
    | intro _
    | with_reducible refine KeptP.mk ?_

theorem Dev.pairWrite_kept {M : Nat} {d0 d : Dev} {a1 : _} {a2 : _} {a3 : _} (hM : Sub 2097151 M) (h : Kept M d0 d) :
    Kept M d0 (Dev.pairWrite a1 a2 a3 d) := by
  unfold Dev.pairWrite
  repeat' first
    | with_reducible assumption
    | with_reducible refine Dev.regWrite_kept ((hM).mono (by decide)) ?_
    | with_reducible refine Dev.setLatch_kept ((hM).mono (by decide)) ?_
    | split
    | dsimp only
    | intro _

theorem Dev.regAccess_kept {M : Nat} {d0 d : Dev} {a1 : _} {a2 : _} {a3 : _} {a4 : _} {a5 : _} (h5 : ∀ y0, Kept M d0 y0 → Kept M d0 (a5 y0)) (hM : Sub 1049089 M) (h : Kept M d0 d) :
    Kept M d0 (Dev.regAccess a1 a2 a3 a4 a5 d) := by
  unfold Dev.regAccess
  repeat' first
    | with_reducible assumption
    | with_reducible refine h5 _ ?_
    | with_reducible refine Dev.refuseAccess_kept ((hM).mono (by decide)) ?_
    | split
    | dsimp only
    | intro _

theorem Dev.busWrite_kept {M : Nat} {d0 d : Dev} {a1 : _} {a2 : _} {a3 : _} (hM : Sub 2097151 M) (h : Kept M d0 d) :
    Kept M d0 (Dev.busWrite a1 a2 a3 d) := by
  unfold Dev.busWrite
  repeat' first
    | with_reducible assumption
    | with_reducible refine Dev.regAccess_kept ?_ ((hM).mono (by decide)) ?_
    | with_reducible refine Dev.writeAs_kept ?_ ((hM).mono (by decide)) ?_
    | with_reducible refine Dev.regWrite_kept ((hM).mono (by decide)) ?_
    | split
    | dsimp only
    | intro _

theorem Dev.busRead_kept {M : Nat} {d0 d : Dev} {a1 : _} {a2 : _} (hM : Sub 1590949 M) (h : Kept M d0 d) :
    Kept M d0 (Dev.busRead a1 a2 d) := by
  unfold Dev.busRead
  repeat' first
    | with_reducible assumption
    | with_reducible refine Dev.regAccess_kept ?_ ((hM).mono (by decide)) ?_
    | with_reducible refine Dev.readAs_kept ?_ ((hM).mono (by decide)) ?_
    | with_reducible refine Dev.regRead_kept ((hM).mono (by decide)) ?_
    | refine KeptP.of_eq (by assumption) ?_
    | with_reducible refine KeptP.snd ?_
    | split
    | dsimp only
    | intro _
    | with_reducible refine KeptP.mk ?_

theorem execRegisterWrite_kept {a1 : _} {a2 : _} {a3 : _} {s : State} : KeptX 2097151 s (execRegisterWrite a1 a2 a3 s) := by
  unfold execRegisterWrite
  repeat' first
    | with_reducible assumption
    | with_reducible refine KeptX.run ?_
    | with_reducible refine Dev.busWrite_kept ((Sub.rfl).mono (by decide)) ?_
    | split
    | dsimp only
    | intro _

theorem execReadClear_kept {a1 : _} {a2 : _} {s : State} : KeptX 1590949 s (execReadClear a1 a2 s) := by
  unfold execReadClear
  repeat' first
    | with_reducible assumption
    | with_reducible refine KeptX.run ?_
    | with_reducible refine Kept.onlyIf ?_ ?_
    | with_reducible refine Dev.busRead_kept ((Sub.rfl).mono (by decide)) ?_
    | split
    | dsimp only
    | intro _

theorem execLowRegisterRead_kept {a1 : _} {a2 : _} {s : State} : KeptX 1590949 s (execLowRegisterRead a1 a2 s) := by
  unfold execLowRegisterRead
  repeat' first
    | with_reducible assumption
    | with_reducible refine KeptX.run ?_
    | with_reducible refine Kept.onlyIf ?_ ?_
    | with_reducible refine Dev.busRead_kept ((Sub.rfl).mono (by decide)) ?_
    | split
    | dsimp only
    | intro _

theorem execHighRegisterWrite_kept {a1 : _} {a2 : _} {a3 : _} {s : State} : KeptX 2097151 s (execHighRegisterWrite a1 a2 a3 s) := by
  unfold execHighRegisterWrite
  repeat' first
    | with_reducible assumption
    | with_reducible refine KeptX.run ?_
    | with_reducible refine Kept.onlyIf ?_ ?_
    | with_reducible refine Dev.busWrite_kept ((Sub.rfl).mono (by decide)) ?_
    | split
    | dsimp only
    | intro _

theorem execLowRegisterCommit_kept {a1 : _} {a2 : _} {a3 : _} {s : State} : KeptX 2097151 s (execLowRegisterCommit a1 a2 a3 s) := by
  unfold execLowRegisterCommit
  repeat' first
    | with_reducible assumption
    | with_reducible refine KeptX.run ?_
    | with_reducible refine Kept.onlyIf ?_ ?_
    | with_reducible refine Dev.busWrite_kept ((Sub.rfl).mono (by decide)) ?_
    | split
    | dsimp only
    | intro _

theorem Dev.busRead64_kept {M : Nat} {d0 d : Dev} {a1 : _} {a2 : _} (hM : Sub 1574565 M) (h : Kept M d0 d) :
    Kept M d0 (Dev.busRead64 a1 a2 d) := by
  unfold Dev.busRead64
  repeat' first
    | with_reducible assumption
    | with_reducible refine Dev.regAccess_kept ?_ ((hM).mono (by decide)) ?_
    | with_reducible refine Dev.pairRead_kept ((hM).mono (by decide)) ?_
    | with_reducible refine Dev.emit_kept ((hM).mono (by decide)) ?_
    | with_reducible refine Dev.refuseAccess_kept ((hM).mono (by decide)) ?_
    | refine KeptP.of_eq (by assumption) ?_
    | with_reducible refine KeptP.snd ?_
    | split
    | dsimp only
    | intro _
    | with_reducible refine KeptP.mk ?_

theorem Dev.busWrite64_kept {M : Nat} {d0 d : Dev} {a1 : _} {a2 : _} {a3 : _} (hM : Sub 2097151 M) (h : Kept M d0 d) :
    Kept M d0 (Dev.busWrite64 a1 a2 a3 d) := by
  unfold Dev.busWrite64
  repeat' first
    | with_reducible assumption
    | with_reducible refine Dev.regAccess_kept ?_ ((hM).mono (by decide)) ?_
    | with_reducible refine Dev.writeAs_kept ?_ ((hM).mono (by decide)) ?_
    | with_reducible refine Dev.pairWrite_kept ((hM).mono (by decide)) ?_
    | split
    | dsimp only
    | intro _

theorem execPairAccess64_kept {a1 : _} {a2 : _} {a3 : _} {s : State} : KeptX 2097151 s (execPairAccess64 a1 a2 a3 s) := by
  unfold execPairAccess64
  repeat' first
    | with_reducible assumption
    | with_reducible refine KeptX.run ?_
    | with_reducible refine Dev.busRead64_kept ((Sub.rfl).mono (by decide)) ?_
    | with_reducible refine Dev.busWrite64_kept ((Sub.rfl).mono (by decide)) ?_
    | split
    | dsimp only
    | intro _

end Sys2Proof.Machine
end

