-- ==== Sys2Proof/Laws/KeptBridge.lean ====
section
/-! SUPPORT. What the operations and commands of Machine/Bridge.lean keep (`Kept`): the parts each changes, and the canonical form. -/

set_option Elab.async false

namespace Sys2Proof.Machine

theorem Dev.regBlock_kept {M : Nat} {d0 d : Dev} {a1 : _} {a2 : _} {a3 : _}  (hM : Sub 525989 M) (h : Kept M d0 d) :
    KeptP M d0 (Dev.regBlock a1 a2 a3 d) := by
  have two : ∀ n, (∀ a (e : Dev), Kept M d0 e → KeptP M d0 (Dev.regBlock a1 a n e)) ∧
      (∀ a (e : Dev), Kept M d0 e → KeptP M d0 (Dev.regBlock a1 a (n + 1) e)) := by
    intro n
    induction n with
    | zero =>
      refine ⟨fun a e k => ?_, fun a e k => ?_⟩
      · unfold Dev.regBlock; exact k
      · unfold Dev.regBlock; exact Dev.regRead_kept hM k
    | succ n ih =>
      refine ⟨ih.2, fun a e k => ?_⟩
      unfold Dev.regBlock
      dsimp only
      split
      · exact ih.1 _ _ (Dev.pairRead_kept (hM.mono (by decide)) k)
      · exact ih.2 _ _ (Dev.regRead_kept (hM.mono (by decide)) k)
  exact (two a3).1 a2 d h

theorem Dev.regBlockWrite_kept {M : Nat} {d0 d : Dev} {a1 : _} {a2 : _} {a3 : _} {a4 : _}  (hM : Sub 2097151 M) (h : Kept M d0 d) :
    Kept M d0 (Dev.regBlockWrite a1 a2 a3 a4 d) := by
  have two : ∀ n, (∀ a b (e : Dev), Kept M d0 e → Kept M d0 (Dev.regBlockWrite a1 a b n e)) ∧
      (∀ a b (e : Dev), Kept M d0 e → Kept M d0 (Dev.regBlockWrite a1 a b (n + 1) e)) := by
    intro n
    induction n with
    | zero =>
      refine ⟨fun a b e k => ?_, fun a b e k => ?_⟩
      · unfold Dev.regBlockWrite; exact k
      · unfold Dev.regBlockWrite; exact Dev.regWrite_kept (hM.mono (by decide)) k
    | succ n ih =>
      refine ⟨ih.2, fun a b e k => ?_⟩
      unfold Dev.regBlockWrite
      split
      · exact ih.1 _ _ _ (Dev.pairWrite_kept (hM.mono (by decide)) k)
      · exact ih.2 _ _ _ (Dev.regWrite_kept (hM.mono (by decide)) k)
  exact (two a4).1 a2 a3 d h

theorem Dev.node0Read_kept {M : Nat} {d0 d : Dev} {a1 : _} {a2 : _} {a3 : _} {a4 : _} (hM : Sub 525989 M) (h : Kept M d0 d) :
    KeptP M d0 (Dev.node0Read a1 a2 a3 a4 d) := by
  unfold Dev.node0Read
  repeat' first
    | with_reducible assumption
    | with_reducible refine Dev.regBlock_kept ((hM).mono (by decide)) ?_
    | refine KeptP.of_eq (by assumption) ?_
    | with_reducible refine KeptP.snd ?_
    | split
    | dsimp only
    | intro _
    | with_reducible refine KeptP.mk ?_

theorem Dev.stageWrite_kept {M : Nat} {d0 d : Dev} {a1 : _} {a2 : _} (hM : Sub 4097 M) (h : Kept M d0 d) :
    Kept M d0 (Dev.stageWrite a1 a2 d) := by
  unfold Dev.stageWrite
  repeat' first
    | with_reducible assumption
    | with_reducible refine Dev.unverify_kept ((hM).mono (by decide)) ?_
    | split
    | dsimp only
    | intro _
    | with_reducible refine Kept.lit_sys ((hM).mono (by decide)) ?_

theorem Dev.leaseTo_kept {M : Nat} {d0 d : Dev} {a1 : _} (hM : Sub 1048577 M) (h : Kept M d0 d) :
    Kept M d0 (Dev.leaseTo a1 d) := by
  unfold Dev.leaseTo
  repeat' first
    | with_reducible assumption
    | with_reducible refine Dev.putHolder_kept ((hM).mono (by decide)) ?_
    | split
    | dsimp only
    | intro _

theorem Dev.hostRefuse_kept {M : Nat} {d0 d : Dev} {a1 : _} {a2 : _} {a3 : _} (hM : Sub 1049089 M) (h : Kept M d0 d) :
    Kept M d0 (Dev.hostRefuse a1 a2 a3 d) := by
  unfold Dev.hostRefuse
  repeat' first
    | with_reducible assumption
    | with_reducible refine Dev.bridgeLog_kept ((hM).mono (by decide)) ?_
    | with_reducible refine Dev.emit_kept ((hM).mono (by decide)) ?_
    | split
    | dsimp only
    | intro _

theorem Dev.hostActive_kept {M : Nat} {d0 d : Dev} {a1 : _} (hM : Sub 16384 M) (h : Kept M d0 d) :
    Kept M d0 (Dev.hostActive a1 d) := by
  unfold Dev.hostActive
  repeat' first
    | with_reducible assumption
    | with_reducible refine Dev.seen_kept ((hM).mono (by decide)) ?_
    | split
    | dsimp only
    | intro _

theorem Dev.hostReadGo_kept {M : Nat} {d0 d : Dev} {a1 : _} (hM : Sub 1853157 M) (h : Kept M d0 d) :
    Kept M d0 (Dev.hostReadGo a1 d) := by
  unfold Dev.hostReadGo
  repeat' first
    | with_reducible assumption
    | with_reducible refine Dev.hostRefuse_kept ((hM).mono (by decide)) ?_
    | with_reducible refine Dev.readIssue_kept ((hM).mono (by decide)) ?_
    | with_reducible refine Dev.node0Read_kept ((hM).mono (by decide)) ?_
    | with_reducible refine Dev.emit_kept ((hM).mono (by decide)) ?_
    | refine KeptP.of_eq (by assumption) ?_
    | with_reducible refine KeptP.snd ?_
    | split
    | dsimp only
    | intro _
    | with_reducible refine Kept.lit_hq ((hM).mono (by decide)) ?_
    | with_reducible refine KeptP.mk ?_

theorem Dev.accepted_kept {M : Nat} {d0 d : Dev} {a1 : _} (h1 : ∀ y0, Kept M d0 y0 → Kept M d0 (a1 y0)) (hM : Sub 16384 M) (h : Kept M d0 d) :
    Kept M d0 (Dev.accepted a1 d) := by
  unfold Dev.accepted
  repeat' first
    | with_reducible assumption
    | with_reducible refine h1 _ ?_
    | split
    | dsimp only
    | intro _
    | with_reducible refine Kept.lit_mgmt ((hM).mono (by decide)) ?_

theorem Dev.readsGo_kept {M : Nat} {d0 d : Dev} {a1 : _} (hM : Sub 1853157 M) (h : Kept M d0 d) :
    Kept M d0 (Dev.readsGo a1 d) := by
  induction a1 generalizing d  with
  | zero =>
    unfold Dev.readsGo
    repeat' first
      | with_reducible assumption
      | with_reducible refine Dev.accepted_kept ?_ ((hM).mono (by decide)) ?_
      | with_reducible refine Dev.hostReadGo_kept ((hM).mono (by decide)) ?_
      | split
      | dsimp only
      | intro _
      | with_reducible refine Kept.lit_hq ((hM).mono (by decide)) ?_
  | succ n ih =>
    unfold Dev.readsGo
    repeat' first
      | with_reducible refine ih ?_
      | with_reducible assumption
      | with_reducible refine Dev.accepted_kept ?_ ((hM).mono (by decide)) ?_
      | with_reducible refine Dev.hostReadGo_kept ((hM).mono (by decide)) ?_
      | split
      | dsimp only
      | intro _
      | with_reducible refine Kept.lit_hq ((hM).mono (by decide)) ?_

theorem Dev.hostWriteGo_kept {M : Nat} {d0 d : Dev} {a1 : _} {a2 : _} {a3 : _} (hM : Sub 2097151 M) (h : Kept M d0 d) :
    Kept M d0 (Dev.hostWriteGo a1 a2 a3 d) := by
  unfold Dev.hostWriteGo
  repeat' first
    | with_reducible assumption
    | with_reducible refine Dev.hostRefuse_kept ((hM).mono (by decide)) ?_
    | with_reducible refine Dev.leaseTo_kept ((hM).mono (by decide)) ?_
    | with_reducible refine Dev.enqueueAll_kept ((hM).mono (by decide)) ?_
    | with_reducible refine Dev.enqueue_kept ((hM).mono (by decide)) ?_
    | with_reducible refine Dev.regBlockWrite_kept ((hM).mono (by decide)) ?_
    | with_reducible refine Dev.storeWrite_kept ((hM).mono (by decide)) ?_
    | with_reducible refine Dev.stageWrite_kept ((hM).mono (by decide)) ?_
    | split
    | dsimp only
    | intro _

theorem Dev.underHolder_kept {M : Nat} {d0 d : Dev} {a1 : _} {a2 : _} (h2 : ∀ y0, Kept M d0 y0 → Kept M d0 (a2 y0)) (hM : Sub 1 M) (h : Kept M d0 d) :
    Kept M d0 (Dev.underHolder a1 a2 d) := by
  unfold Dev.underHolder
  repeat' first
    | with_reducible assumption
    | with_reducible refine h2 _ ?_
    | with_reducible refine Dev.put_kept ((hM).mono (by decide)) ?_
    | split
    | dsimp only
    | intro _

theorem Dev.writesGo_kept {M : Nat} {d0 d : Dev} {a1 : _} (hM : Sub 2097151 M) (h : Kept M d0 d) :
    Kept M d0 (Dev.writesGo a1 d) := by
  induction a1 generalizing d  with
  | zero =>
    unfold Dev.writesGo
    repeat' first
      | with_reducible assumption
      | with_reducible refine Dev.put_kept ((hM).mono (by decide)) ?_
      | with_reducible refine Dev.accepted_kept ?_ ((hM).mono (by decide)) ?_
      | with_reducible refine Dev.underHolder_kept ?_ ((hM).mono (by decide)) ?_
      | with_reducible refine Dev.hostWriteGo_kept ((hM).mono (by decide)) ?_
      | split
      | dsimp only
      | intro _
      | with_reducible refine Kept.lit_hq ((hM).mono (by decide)) ?_
  | succ n ih =>
    unfold Dev.writesGo
    repeat' first
      | with_reducible refine ih ?_
      | with_reducible assumption
      | with_reducible refine Dev.put_kept ((hM).mono (by decide)) ?_
      | with_reducible refine Dev.accepted_kept ?_ ((hM).mono (by decide)) ?_
      | with_reducible refine Dev.underHolder_kept ?_ ((hM).mono (by decide)) ?_
      | with_reducible refine Dev.hostWriteGo_kept ((hM).mono (by decide)) ?_
      | split
      | dsimp only
      | intro _
      | with_reducible refine Kept.lit_hq ((hM).mono (by decide)) ?_

theorem Dev.bridgeGo_kept {M : Nat} {d0 d : Dev} (hM : Sub 2097151 M) (h : Kept M d0 d) :
    Kept M d0 (Dev.bridgeGo d) := by
  unfold Dev.bridgeGo
  repeat' first
    | with_reducible assumption
    | with_reducible refine Dev.writesGo_kept ((hM).mono (by decide)) ?_
    | with_reducible refine Dev.readsGo_kept ((hM).mono (by decide)) ?_
    | split
    | dsimp only
    | intro _

theorem execHostRead_kept {a1 : _} {a2 : _} {a3 : _} {a4 : _} {s : State} : KeptX 1853157 s (execHostRead a1 a2 a3 a4 s) := by
  unfold execHostRead
  repeat' first
    | with_reducible assumption
    | with_reducible refine KeptX.run ?_
    | with_reducible refine Kept.onlyIf ?_ ?_
    | with_reducible refine Dev.hostActive_kept ((Sub.rfl).mono (by decide)) ?_
    | with_reducible refine Dev.hostReadGo_kept ((Sub.rfl).mono (by decide)) ?_
    | split
    | dsimp only
    | intro _
    | with_reducible refine Kept.lit_hq ((Sub.rfl).mono (by decide)) ?_

theorem Dev.hostTakes_kept {M : Nat} {d0 d : Dev} {a1 : _} {a2 : _} (hM : Sub 1064961 M) (h : Kept M d0 d) :
    Kept M d0 (Dev.hostTakes a1 a2 d) := by
  unfold Dev.hostTakes
  repeat' first
    | with_reducible assumption
    | with_reducible refine Kept.onlyIf ?_ ?_
    | with_reducible refine Dev.leaseTo_kept ((hM).mono (by decide)) ?_
    | with_reducible refine Dev.hostActive_kept ((hM).mono (by decide)) ?_
    | split
    | dsimp only
    | intro _

theorem Dev.hostWrite_kept {M : Nat} {d0 d : Dev} {a1 : _} {a2 : _} {a3 : _} (hM : Sub 2097151 M) (h : Kept M d0 d) :
    Kept M d0 (Dev.hostWrite a1 a2 a3 d) := by
  unfold Dev.hostWrite
  repeat' first
    | with_reducible assumption
    | with_reducible refine Kept.foldl _ ?_ _ _ ?_
    | with_reducible refine Dev.hostWriteGo_kept ((hM).mono (by decide)) ?_
    | with_reducible refine Dev.hostTakes_kept ((hM).mono (by decide)) ?_
    | split
    | dsimp only
    | intro _
    | with_reducible refine Kept.lit_hq ((hM).mono (by decide)) ?_

theorem execHostWrite_kept {a1 : _} {a2 : _} {a3 : _} {a4 : _} {s : State} : KeptX 2097151 s (execHostWrite a1 a2 a3 a4 s) := by
  unfold execHostWrite
  repeat' first
    | with_reducible assumption
    | with_reducible refine KeptX.run ?_
    | with_reducible refine Kept.onlyIf ?_ ?_
    | with_reducible refine Dev.hostWrite_kept ((Sub.rfl).mono (by decide)) ?_
    | split
    | dsimp only
    | intro _

theorem execHostSlotWrite_kept {a1 : _} {a2 : _} {a3 : _} {s : State} : KeptX 2097151 s (execHostSlotWrite a1 a2 a3 s) := by
  unfold execHostSlotWrite
  repeat' first
    | with_reducible assumption
    | with_reducible refine KeptX.run ?_
    | with_reducible refine Kept.onlyIf ?_ ?_
    | with_reducible refine Dev.hostWrite_kept ((Sub.rfl).mono (by decide)) ?_
    | split
    | dsimp only
    | intro _

theorem execStaleMarking_kept {a1 : _} {a2 : _} {s : State} : KeptX 33 s (execStaleMarking a1 a2 s) := by
  unfold execStaleMarking
  repeat' first
    | with_reducible assumption
    | with_reducible refine KeptX.run ?_
    | with_reducible refine Kept.onlyIf ?_ ?_
    | with_reducible refine Dev.scanVisit_kept ((Sub.rfl).mono (by decide)) ?_
    | split
    | dsimp only
    | intro _

theorem execNodeLeaveMark_kept {a1 : _} {s : State} : KeptX 33 s (execNodeLeaveMark a1 s) := by
  unfold execNodeLeaveMark
  repeat' first
    | with_reducible assumption
    | with_reducible refine KeptX.run ?_
    | with_reducible refine Kept.onlyIf ?_ ?_
    | with_reducible refine Dev.markStep_kept ((Sub.rfl).mono (by decide)) ?_
    | split
    | dsimp only
    | intro _

theorem execConsumingRead_kept {a1 : _} {a2 : _} {a3 : _} {s : State} : KeptX 1590949 s (execConsumingRead a1 a2 a3 s) := by
  unfold execConsumingRead
  repeat' first
    | with_reducible assumption
    | with_reducible refine KeptX.run ?_
    | with_reducible refine Kept.onlyIf ?_ ?_
    | with_reducible refine Dev.storeCycle_kept ((Sub.rfl).mono (by decide)) ?_
    | with_reducible refine Dev.busRead_kept ((Sub.rfl).mono (by decide)) ?_
    | split
    | dsimp only
    | intro _

theorem Dev.fetchBytes_kept {M : Nat} {d0 d : Dev} {a1 : _} {a2 : _} {a3 : _} (hM : Sub 0 M) (h : Kept M d0 d) :
    Kept M d0 (Dev.fetchBytes a1 a2 a3 d) := by
  induction a2 generalizing d a1 a3 with
  | zero =>
    unfold Dev.fetchBytes
    repeat' first
      | with_reducible assumption
      | with_reducible refine Dev.emit_kept ((hM).mono (by decide)) ?_
      | split
      | dsimp only
      | intro _
  | succ n ih =>
    unfold Dev.fetchBytes
    repeat' first
      | with_reducible refine ih ?_
      | with_reducible assumption
      | with_reducible refine Dev.emit_kept ((hM).mono (by decide)) ?_
      | split
      | dsimp only
      | intro _

theorem Dev.fetchReads_kept {M : Nat} {d0 d : Dev} {a1 : _} {a2 : _} (hM : Sub 0 M) (h : Kept M d0 d) :
    Kept M d0 (Dev.fetchReads a1 a2 d) := by
  unfold Dev.fetchReads
  repeat' first
    | with_reducible assumption
    | with_reducible refine Kept.onlyIf ?_ ?_
    | with_reducible refine Dev.emit_kept ((hM).mono (by decide)) ?_
    | with_reducible refine Dev.fetchBytes_kept ((hM).mono (by decide)) ?_
    | split
    | dsimp only
    | intro _

theorem execDescriptorFetched_kept {a1 : _} {a2 : _} {a3 : _} {a4 : _} {s : State} : KeptX 1049089 s (execDescriptorFetched a1 a2 a3 a4 s) := by
  unfold execDescriptorFetched
  repeat' first
    | with_reducible assumption
    | with_reducible refine KeptX.run ?_
    | with_reducible refine Dev.fetchReads_kept ((Sub.rfl).mono (by decide)) ?_
    | with_reducible refine Dev.onQueue_kept ((Sub.rfl).mono (by decide)) ?_
    | with_reducible refine Dev.raise_kept ((Sub.rfl).mono (by decide)) ?_
    | with_reducible refine Dev.bump_kept ((Sub.rfl).mono (by decide)) ?_
    | split
    | dsimp only
    | intro _
    | with_reducible refine Kept.lit_hq ((Sub.rfl).mono (by decide)) ?_

theorem execPort12FrameEntry_kept {a1 : _} {s : State} : KeptX 1180161 s (execPort12FrameEntry a1 s) := by
  unfold execPort12FrameEntry
  repeat' first
    | with_reducible assumption
    | with_reducible refine KeptX.run ?_
    | with_reducible refine Dev.onQueue_kept ((Sub.rfl).mono (by decide)) ?_
    | with_reducible refine Dev.swEnter_kept ((Sub.rfl).mono (by decide)) ?_
    | split
    | dsimp only
    | intro _

theorem execDescriptorRetire_kept {a1 : _} {s : State} : KeptX 513 s (execDescriptorRetire a1 s) := by
  unfold execDescriptorRetire
  repeat' first
    | with_reducible assumption
    | with_reducible refine KeptX.run ?_
    | with_reducible refine Dev.onQueue_kept ((Sub.rfl).mono (by decide)) ?_
    | with_reducible refine Dev.bump_kept ((Sub.rfl).mono (by decide)) ?_
    | with_reducible refine Dev.wr_kept ((Sub.rfl).mono (by decide)) ?_
    | with_reducible refine Dev.offerRecord_kept ((Sub.rfl).mono (by decide)) ?_
    | split
    | dsimp only
    | intro _

theorem Dev.linkFollow_kept {M : Nat} {d0 d : Dev} (hM : Sub 1183745 M) (h : Kept M d0 d) :
    Kept M d0 (Dev.linkFollow d) := by
  unfold Dev.linkFollow
  repeat' first
    | with_reducible assumption
    | with_reducible refine Dev.hostPort_kept ((hM).mono (by decide)) ?_
    | split
    | dsimp only
    | intro _
    | with_reducible refine Kept.lit_sys ((hM).mono (by decide)) ?_

theorem Dev.bridgeForget_kept {M : Nat} {d0 d : Dev}   (hM : Sub 262721 M) (h : Kept M d0 d) :
    Kept M d0 (Dev.bridgeForget d) := by
  unfold Dev.bridgeForget
  exact Kept.lit_regs_hq_drv (hM.mono (by decide)) (fun c => Tab.wf_drop _ _ c.regs) (hM.mono (by decide)) (hM.mono (by decide))
    (Kept.each (fun _ _ k => Dev.forgetRead_kept (hM.mono (by decide)) k) h)

theorem Dev.bridgeReset_kept {M : Nat} {d0 d : Dev} {a1 : _} (hM : Sub 2097151 M) (h : Kept M d0 d) :
    Kept M d0 (Dev.bridgeReset a1 d) := by
  unfold Dev.bridgeReset
  repeat' first
    | with_reducible assumption
    | with_reducible refine Kept.onlyIf ?_ ?_
    | with_reducible refine Dev.halfResetStart_kept ((hM).mono (by decide)) ?_
    | with_reducible refine Dev.bridgeGo_kept ((hM).mono (by decide)) ?_
    | with_reducible refine Dev.linkSync_kept ((hM).mono (by decide)) ?_
    | with_reducible refine Dev.linkFollow_kept ((hM).mono (by decide)) ?_
    | with_reducible refine Dev.bridgeForget_kept ((hM).mono (by decide)) ?_
    | with_reducible refine Dev.linkDrop_kept ((hM).mono (by decide)) ?_
    | with_reducible refine Dev.halfResetEnd_kept ((hM).mono (by decide)) ?_
    | split
    | dsimp only
    | intro _

theorem execBridgeReset_kept {a1 : _} {s : State} : KeptX 2097151 s (execBridgeReset a1 s) := by
  unfold execBridgeReset
  repeat' first
    | with_reducible assumption
    | with_reducible refine KeptX.run ?_
    | with_reducible refine Kept.onlyIf ?_ ?_
    | with_reducible refine Dev.bridgeReset_kept ((Sub.rfl).mono (by decide)) ?_
    | split
    | dsimp only
    | intro _

theorem Dev.masterGo_kept {M : Nat} {d0 d : Dev} (hM : Sub 513 M) (h : Kept M d0 d) :
    Kept M d0 (Dev.masterGo d) := by
  unfold Dev.masterGo
  repeat' first
    | with_reducible assumption
    | with_reducible refine Kept.each ?_ ?_
    | with_reducible refine Dev.post_kept ((hM).mono (by decide)) ?_
    | with_reducible refine Dev.sendPending_kept ((hM).mono (by decide)) ?_
    | split
    | dsimp only
    | intro _
    | with_reducible refine Kept.lit_hq ((hM).mono (by decide)) ?_

theorem Dev.pcieTaken_kept {M : Nat} {d0 d : Dev} (hM : Sub 1184257 M) (h : Kept M d0 d) :
    Kept M d0 (Dev.pcieTaken d) := by
  unfold Dev.pcieTaken
  repeat' first
    | with_reducible assumption
    | with_reducible refine Kept.onlyIf ?_ ?_
    | with_reducible refine Dev.put_kept ((hM).mono (by decide)) ?_
    | with_reducible refine Dev.putFlag_kept ((hM).mono (by decide)) ?_
    | with_reducible refine Dev.masterGo_kept ((hM).mono (by decide)) ?_
    | with_reducible refine Dev.linkFollow_kept ((hM).mono (by decide)) ?_
    | split
    | dsimp only
    | intro _
    | with_reducible refine Kept.lit_hq ((hM).mono (by decide)) ?_

theorem Dev.pcieState_kept {M : Nat} {d0 d : Dev} {a1 : _} (hM : Sub 1186305 M) (h : Kept M d0 d) :
    Kept M d0 (Dev.pcieState a1 d) := by
  unfold Dev.pcieState
  repeat' first
    | with_reducible assumption
    | with_reducible refine Kept.onlyIf ?_ ?_
    | with_reducible refine Dev.pcieTaken_kept ((hM).mono (by decide)) ?_
    | with_reducible refine Dev.crossWrite_kept ((hM).mono (by decide)) ?_
    | split
    | dsimp only
    | intro _

theorem execBusMasterChange_kept {a1 : _} {a2 : _} {a3 : _} {s : State} : KeptX 1186305 s (execBusMasterChange a1 a2 a3 s) := by
  unfold execBusMasterChange
  repeat' first
    | with_reducible assumption
    | with_reducible refine KeptX.run ?_
    | with_reducible refine Kept.onlyIf ?_ ?_
    | with_reducible refine Dev.pcieState_kept ((Sub.rfl).mono (by decide)) ?_
    | split
    | dsimp only
    | intro _

theorem execPcieLinkUp_kept {a1 : _} {a2 : _} {s : State} : KeptX 1186305 s (execPcieLinkUp a1 a2 s) := by
  unfold execPcieLinkUp
  repeat' first
    | with_reducible assumption
    | with_reducible refine KeptX.run ?_
    | with_reducible refine Kept.onlyIf ?_ ?_
    | with_reducible refine Dev.pcieState_kept ((Sub.rfl).mono (by decide)) ?_
    | with_reducible refine Dev.retrained_kept ((Sub.rfl).mono (by decide)) ?_
    | split
    | dsimp only
    | intro _

theorem Dev.crossEmpty_kept {M : Nat} {d0 d : Dev} {a1 : _} (hM : Sub 1180161 M) (h : Kept M d0 d) :
    Kept M d0 (Dev.crossEmpty a1 d) := by
  unfold Dev.crossEmpty
  repeat' first
    | with_reducible assumption
    | with_reducible refine Dev.rxError_kept ((hM).mono (by decide)) ?_
    | with_reducible refine Dev.onSwPort_kept ((hM).mono (by decide)) ?_
    | split
    | dsimp only
    | intro _
    | with_reducible refine Kept.lit_hq ((hM).mono (by decide)) ?_

theorem execHalfResetStart_kept {a1 : _} {s : State} : KeptX 1182209 s (execHalfResetStart a1 s) := by
  unfold execHalfResetStart
  repeat' first
    | with_reducible assumption
    | with_reducible refine KeptX.run ?_
    | with_reducible refine Kept.onlyIf ?_ ?_
    | with_reducible refine Dev.crossEmpty_kept ((Sub.rfl).mono (by decide)) ?_
    | with_reducible refine Dev.halfResetStart_kept ((Sub.rfl).mono (by decide)) ?_
    | split
    | dsimp only
    | intro _

theorem Dev.linkTaken_kept {M : Nat} {d0 d : Dev} {a1 : _} (hM : Sub 1184257 M) (h : Kept M d0 d) :
    Kept M d0 (Dev.linkTaken a1 d) := by
  unfold Dev.linkTaken
  repeat' first
    | with_reducible assumption
    | with_reducible refine Kept.onlyIf ?_ ?_
    | with_reducible refine Dev.pcieTaken_kept ((hM).mono (by decide)) ?_
    | with_reducible refine Dev.laneTaken_kept ((hM).mono (by decide)) ?_
    | with_reducible refine Dev.portTaken_kept ((hM).mono (by decide)) ?_
    | split
    | dsimp only
    | intro _

theorem execHalfResetEnd_kept {a1 : _} {s : State} : KeptX 1186305 s (execHalfResetEnd a1 s) := by
  unfold execHalfResetEnd
  repeat' first
    | with_reducible assumption
    | with_reducible refine KeptX.run ?_
    | with_reducible refine Kept.onlyIf ?_ ?_
    | with_reducible refine Dev.linkTaken_kept ((Sub.rfl).mono (by decide)) ?_
    | with_reducible refine Dev.halfResetEnd_kept ((Sub.rfl).mono (by decide)) ?_
    | split
    | dsimp only
    | intro _

end Sys2Proof.Machine
end

