-- ==== Sys2Proof/Laws/KeptEngineJobs.lean ====
section
/-! SUPPORT. What the operations and commands of Machine/EngineJobs.lean keep (`Kept`): the parts each changes, and the canonical form. -/

set_option Elab.async false

namespace Sys2Proof.Machine

theorem Dev.putCounter_kept {M : Nat} {d0 d : Dev} {a1 : _} {a2 : _} {a3 : _} (hM : Sub 64 M) (h : Kept M d0 d) :
    Kept M d0 (Dev.putCounter a1 a2 a3 d) := by
  unfold Dev.putCounter
  repeat' first
    | with_reducible assumption
    | with_reducible refine Dev.putFresh_kept ((hM).mono (by decide)) ?_
    | with_reducible refine Dev.writeEpoch_kept ((hM).mono (by decide)) ?_
    | split
    | dsimp only
    | intro _

theorem Dev.freshDone_kept {M : Nat} {d0 d : Dev} {a1 : _} {a2 : _} {a3 : _} {a4 : _} (hM : Sub 64 M) (h : Kept M d0 d) :
    KeptP M d0 (Dev.freshDone a1 a2 a3 a4 d) := by
  unfold Dev.freshDone
  repeat' first
    | with_reducible assumption
    | with_reducible refine Dev.putCounter_kept ((hM).mono (by decide)) ?_
    | with_reducible refine Dev.putAsm_kept ((hM).mono (by decide)) ?_
    | split
    | dsimp only
    | intro _
    | with_reducible refine KeptP.mk ?_

theorem Dev.macgenDone_kept {M : Nat} {d0 d : Dev} {a1 : _} {a2 : _} {a3 : _} {a4 : _} {a5 : _} (hM : Sub 64 M) (h : Kept M d0 d) :
    KeptP M d0 (Dev.macgenDone a1 a2 a3 a4 a5 d) := by
  unfold Dev.macgenDone
  repeat' first
    | with_reducible assumption
    | with_reducible refine Dev.putAsm_kept ((hM).mono (by decide)) ?_
    | split
    | dsimp only
    | intro _
    | with_reducible refine KeptP.mk ?_

theorem Dev.authFail_kept {M : Nat} {d0 d : Dev} {a1 : _} {a2 : _} {a3 : _} (hM : Sub 1 M) (h : Kept M d0 d) :
    Kept M d0 (Dev.authFail a1 a2 a3 d) := by
  unfold Dev.authFail
  repeat' first
    | with_reducible assumption
    | with_reducible refine Dev.putFlag_kept ((hM).mono (by decide)) ?_
    | with_reducible refine Dev.put_kept ((hM).mono (by decide)) ?_
    | with_reducible refine Dev.bump_kept ((hM).mono (by decide)) ?_
    | split
    | dsimp only
    | intro _

theorem Dev.macverDone_kept {M : Nat} {d0 d : Dev} {a1 : _} {a2 : _} {a3 : _} {a4 : _} {a5 : _} (hM : Sub 65 M) (h : Kept M d0 d) :
    KeptP M d0 (Dev.macverDone a1 a2 a3 a4 a5 d) := by
  unfold Dev.macverDone
  repeat' first
    | with_reducible assumption
    | with_reducible refine Dev.draw_kept ((hM).mono (by decide)) ?_
    | with_reducible refine Dev.authFail_kept ((hM).mono (by decide)) ?_
    | with_reducible refine Dev.onThread_kept ((hM).mono (by decide)) ?_
    | with_reducible refine Dev.putCounter_kept ((hM).mono (by decide)) ?_
    | refine KeptP.of_eq (by assumption) ?_
    | with_reducible refine KeptP.snd ?_
    | split
    | dsimp only
    | intro _
    | with_reducible refine KeptP.mk ?_

theorem Dev.macStart_kept {M : Nat} {d0 d : Dev} {a1 : _} {a2 : _} {a3 : _} {a4 : _} {a5 : _} {a6 : _} (hM : Sub 1088 M) (h : Kept M d0 d) :
    Kept M d0 (Dev.macStart a1 a2 a3 a4 a5 a6 d) := by
  unfold Dev.macStart
  repeat' first
    | with_reducible assumption
    | with_reducible refine Dev.coreMark_kept ((hM).mono (by decide)) ?_
    | with_reducible refine Dev.onThread_kept ((hM).mono (by decide)) ?_
    | split
    | dsimp only
    | intro _
    | with_reducible refine Kept.lit_eng ((hM).mono (by decide)) ?_

theorem execFresh_kept {a1 : _} {a2 : _} {a3 : _} {a4 : _} {a5 : _} {s : State} : KeptX 1312321 s (execFresh a1 a2 a3 a4 a5 s) := by
  unfold execFresh
  repeat' first
    | with_reducible assumption
    | with_reducible refine KeptX.run ?_
    | with_reducible refine Dev.issue_kept ?_ ((Sub.rfl).mono (by decide)) ?_
    | with_reducible refine Dev.trap_kept ((Sub.rfl).mono (by decide)) ?_
    | with_reducible refine Dev.macStart_kept ((Sub.rfl).mono (by decide)) ?_
    | split
    | dsimp only
    | intro _

theorem execMacgen_kept {a1 : _} {a2 : _} {a3 : _} {a4 : _} {a5 : _} {s : State} : KeptX 1312321 s (execMacgen a1 a2 a3 a4 a5 s) := by
  unfold execMacgen
  repeat' first
    | with_reducible assumption
    | with_reducible refine KeptX.run ?_
    | with_reducible refine Dev.issue_kept ?_ ((Sub.rfl).mono (by decide)) ?_
    | with_reducible refine Dev.trap_kept ((Sub.rfl).mono (by decide)) ?_
    | with_reducible refine Dev.macStart_kept ((Sub.rfl).mono (by decide)) ?_
    | split
    | dsimp only
    | intro _

theorem execMacver_kept {a1 : _} {a2 : _} {a3 : _} {a4 : _} {s : State} : KeptX 1312321 s (execMacver a1 a2 a3 a4 s) := by
  unfold execMacver
  repeat' first
    | with_reducible assumption
    | with_reducible refine KeptX.run ?_
    | with_reducible refine Dev.issue_kept ?_ ((Sub.rfl).mono (by decide)) ?_
    | with_reducible refine Dev.macStart_kept ((Sub.rfl).mono (by decide)) ?_
    | split
    | dsimp only
    | intro _

theorem Dev.txRef_kept {M : Nat} {d0 d : Dev} {a1 : _} {a2 : _} (hM : Sub 1 M) (h : Kept M d0 d) :
    Kept M d0 (Dev.txRef a1 a2 d) := by
  unfold Dev.txRef
  repeat' first
    | with_reducible assumption
    | with_reducible refine Dev.put_kept ((hM).mono (by decide)) ?_
    | with_reducible refine Dev.bump_kept ((hM).mono (by decide)) ?_
    | split
    | dsimp only
    | intro _

theorem Dev.txEnter_kept {M : Nat} {d0 d : Dev} {a1 : _} {a2 : _} {a3 : _} (hM : Sub 1179649 M) (h : Kept M d0 d) :
    Kept M d0 (Dev.txEnter a1 a2 a3 d) := by
  unfold Dev.txEnter
  repeat' first
    | with_reducible assumption
    | with_reducible refine Dev.swEnter_kept ((hM).mono (by decide)) ?_
    | split
    | dsimp only
    | intro _

theorem execTxsend_kept {a1 : _} {a2 : _} {a3 : _} {a4 : _} {s : State} : KeptX 1507905 s (execTxsend a1 a2 a3 a4 s) := by
  unfold execTxsend
  repeat' first
    | with_reducible assumption
    | with_reducible refine KeptX.run ?_
    | with_reducible refine Dev.issue_kept ?_ ((Sub.rfl).mono (by decide)) ?_
    | with_reducible refine Dev.trap_kept ((Sub.rfl).mono (by decide)) ?_
    | with_reducible refine Dev.onThread_kept ((Sub.rfl).mono (by decide)) ?_
    | with_reducible refine Dev.closeHandle_kept ((Sub.rfl).mono (by decide)) ?_
    | with_reducible refine Dev.txRef_kept ((Sub.rfl).mono (by decide)) ?_
    | with_reducible refine Dev.txEnter_kept ((Sub.rfl).mono (by decide)) ?_
    | with_reducible refine Dev.canBufferStore_kept ((Sub.rfl).mono (by decide)) ?_
    | refine KeptP.of_eq (by assumption) ?_
    | with_reducible refine KeptP.snd ?_
    | split
    | dsimp only
    | intro _
    | with_reducible refine KeptP.mk ?_

theorem Dev.creditTimeout_kept {M : Nat} {d0 d : Dev} {a1 : _} {a2 : _} {a3 : _} (hM : Sub 65 M) (h : Kept M d0 d) :
    Kept M d0 (Dev.creditTimeout a1 a2 a3 d) := by
  unfold Dev.creditTimeout
  repeat' first
    | with_reducible assumption
    | with_reducible refine Dev.onThread_kept ((hM).mono (by decide)) ?_
    | with_reducible refine Dev.closeHandle_kept ((hM).mono (by decide)) ?_
    | with_reducible refine Dev.txRef_kept ((hM).mono (by decide)) ?_
    | split
    | dsimp only
    | intro _

theorem execPort13CreditTimeout_kept {a1 : _} {a2 : _} {s : State} : KeptX 65 s (execPort13CreditTimeout a1 a2 s) := by
  unfold execPort13CreditTimeout
  repeat' first
    | with_reducible assumption
    | with_reducible refine KeptX.run ?_
    | with_reducible refine Kept.onlyIf ?_ ?_
    | with_reducible refine Dev.creditTimeout_kept ((Sub.rfl).mono (by decide)) ?_
    | split
    | dsimp only
    | intro _

theorem Dev.fabricRead_kept {M : Nat} {d0 d : Dev} {a1 : _} {a2 : _} {a3 : _} (hM : Sub 525989 M) (h : Kept M d0 d) :
    KeptP M d0 (Dev.fabricRead a1 a2 a3 d) := by
  unfold Dev.fabricRead
  repeat' first
    | with_reducible assumption
    | with_reducible refine Dev.regRead_kept ((hM).mono (by decide)) ?_
    | refine KeptP.of_eq (by assumption) ?_
    | with_reducible refine KeptP.snd ?_
    | split
    | dsimp only
    | intro _
    | with_reducible refine KeptP.mk ?_

theorem execFld_kept {a1 : _} {a2 : _} {a3 : _} {a4 : _} {a5 : _} {s : State} : KeptX 1853157 s (execFld a1 a2 a3 a4 a5 s) := by
  unfold execFld
  repeat' first
    | with_reducible assumption
    | with_reducible refine KeptX.run ?_
    | with_reducible refine Dev.issue_kept ?_ ((Sub.rfl).mono (by decide)) ?_
    | with_reducible refine Dev.onThread_kept ((Sub.rfl).mono (by decide)) ?_
    | with_reducible refine Dev.fabricRead_kept ((Sub.rfl).mono (by decide)) ?_
    | with_reducible refine Dev.readIssue_kept ((Sub.rfl).mono (by decide)) ?_
    | refine KeptP.of_eq (by assumption) ?_
    | with_reducible refine KeptP.snd ?_
    | split
    | dsimp only
    | intro _
    | with_reducible refine KeptP.mk ?_

theorem execFst_kept {a1 : _} {a2 : _} {a3 : _} {a4 : _} {a5 : _} {s : State} : KeptX 2097151 s (execFst a1 a2 a3 a4 a5 s) := by
  unfold execFst
  repeat' first
    | with_reducible assumption
    | with_reducible refine KeptX.run ?_
    | with_reducible refine Dev.issue_kept ?_ ((Sub.rfl).mono (by decide)) ?_
    | with_reducible refine Dev.onThread_kept ((Sub.rfl).mono (by decide)) ?_
    | with_reducible refine Dev.writeBy_kept ?_ ((Sub.rfl).mono (by decide)) ?_
    | with_reducible refine Dev.regWrite_kept ((Sub.rfl).mono (by decide)) ?_
    | with_reducible refine Dev.eventWrite_kept ((Sub.rfl).mono (by decide)) ?_
    | with_reducible refine Dev.enqueueAll_kept ((Sub.rfl).mono (by decide)) ?_
    | with_reducible refine Dev.enqueue_kept ((Sub.rfl).mono (by decide)) ?_
    | split
    | dsimp only
    | intro _

theorem execQput_kept {a1 : _} {a2 : _} {a3 : _} {a4 : _} {a5 : _} {s : State} : KeptX 1311297 s (execQput a1 a2 a3 a4 a5 s) := by
  unfold execQput
  repeat' first
    | with_reducible assumption
    | with_reducible refine KeptX.run ?_
    | with_reducible refine Kept.onlyIf ?_ ?_
    | with_reducible refine Dev.issue_kept ?_ ((Sub.rfl).mono (by decide)) ?_
    | with_reducible refine Dev.onThread_kept ((Sub.rfl).mono (by decide)) ?_
    | with_reducible refine Dev.trap_kept ((Sub.rfl).mono (by decide)) ?_
    | with_reducible refine Dev.countLenRef_kept ((Sub.rfl).mono (by decide)) ?_
    | with_reducible refine Dev.offerRecord_kept ((Sub.rfl).mono (by decide)) ?_
    | split
    | dsimp only
    | intro _

theorem Dev.jobComplete_kept {M : Nat} {d0 d : Dev} {a1 : _} {a2 : _} (hM : Sub 1180737 M) (h : Kept M d0 d) :
    Kept M d0 (Dev.jobComplete a1 a2 d) := by
  unfold Dev.jobComplete
  repeat' first
    | with_reducible assumption
    | with_reducible refine Dev.onThread_kept ((hM).mono (by decide)) ?_
    | with_reducible refine Dev.freshDone_kept ((hM).mono (by decide)) ?_
    | with_reducible refine Dev.macgenDone_kept ((hM).mono (by decide)) ?_
    | with_reducible refine Dev.macverDone_kept ((hM).mono (by decide)) ?_
    | with_reducible refine Dev.coreMark_kept ((hM).mono (by decide)) ?_
    | with_reducible refine Dev.creditTimeout_kept ((hM).mono (by decide)) ?_
    | with_reducible refine Dev.closeHandle_kept ((hM).mono (by decide)) ?_
    | with_reducible refine Dev.txEnter_kept ((hM).mono (by decide)) ?_
    | refine KeptP.of_eq (by assumption) ?_
    | with_reducible refine KeptP.snd ?_
    | split
    | dsimp only
    | intro _
    | with_reducible refine KeptP.mk ?_

theorem execEngineJobComplete_kept {a1 : _} {a2 : _} {s : State} : KeptX 1180737 s (execEngineJobComplete a1 a2 s) := by
  unfold execEngineJobComplete
  repeat' first
    | with_reducible assumption
    | with_reducible refine KeptX.run ?_
    | with_reducible refine Kept.onlyIf ?_ ?_
    | with_reducible refine Dev.jobComplete_kept ((Sub.rfl).mono (by decide)) ?_
    | split
    | dsimp only
    | intro _

theorem execDoorbell_kept {a1 : _} {a2 : _} {a3 : _} {s : State} : KeptX 1065537 s (execDoorbell a1 a2 a3 s) := by
  unfold execDoorbell
  repeat' first
    | with_reducible assumption
    | with_reducible refine runWrite_kept ?_ ((Sub.rfl).mono (by decide))
    | with_reducible refine Dev.doorbellWrite_kept ((Sub.rfl).mono (by decide)) ?_
    | split
    | dsimp only
    | intro _

end Sys2Proof.Machine
end

