-- ==== Sys2Proof/Laws/KeptMgmt.lean ====
section
/-! SUPPORT. What the operations and commands of Machine/Mgmt.lean keep (`Kept`): the parts each changes, and the canonical form. -/

set_option Elab.async false

namespace Sys2Proof.Machine

theorem Dev.nak_kept {M : Nat} {d0 d : Dev} {a1 : _} {a2 : _} (hM : Sub 16384 M) (h : Kept M d0 d) :
    Kept M d0 (Dev.nak a1 a2 d) := by
  unfold Dev.nak
  repeat' first
    | with_reducible assumption
    | split
    | dsimp only
    | intro _
    | with_reducible refine Kept.lit_mgmt ((hM).mono (by decide)) ?_

theorem Dev.respond_kept {M : Nat} {d0 d : Dev} {a1 : _} {a2 : _} {a3 : _} (hM : Sub 16384 M) (h : Kept M d0 d) :
    Kept M d0 (Dev.respond a1 a2 a3 d) := by
  unfold Dev.respond
  repeat' first
    | with_reducible assumption
    | split
    | dsimp only
    | intro _
    | with_reducible refine Kept.lit_mgmt ((hM).mono (by decide)) ?_

theorem Dev.mgmtTrunc_kept {M : Nat} {d0 d : Dev} (hM : Sub 1050625 M) (h : Kept M d0 d) :
    Kept M d0 (Dev.mgmtTrunc d) := by
  unfold Dev.mgmtTrunc
  repeat' first
    | with_reducible assumption
    | with_reducible refine Dev.halfResetEnd_kept ((hM).mono (by decide)) ?_
    | with_reducible refine Dev.halfResetStart_kept ((hM).mono (by decide)) ?_
    | with_reducible refine Dev.bump_kept ((hM).mono (by decide)) ?_
    | split
    | dsimp only
    | intro _

theorem Dev.mgmtSync_kept {M : Nat} {d0 d : Dev} (hM : Sub 1048577 M) (h : Kept M d0 d) :
    Kept M d0 (Dev.mgmtSync d) := by
  unfold Dev.mgmtSync
  repeat' first
    | with_reducible assumption
    | with_reducible refine Dev.raise_kept ((hM).mono (by decide)) ?_
    | with_reducible refine Dev.bump_kept ((hM).mono (by decide)) ?_
    | split
    | dsimp only
    | intro _

theorem Dev.mgmtAccept_kept {M : Nat} {d0 d : Dev} {a1 : _} {a2 : _} {a3 : _} {a4 : _} (hM : Sub 16384 M) (h : Kept M d0 d) :
    Kept M d0 (Dev.mgmtAccept a1 a2 a3 a4 d) := by
  unfold Dev.mgmtAccept
  repeat' first
    | with_reducible assumption
    | with_reducible refine Dev.respond_kept ((hM).mono (by decide)) ?_
    | split
    | dsimp only
    | intro _
    | with_reducible refine Kept.lit_mgmt ((hM).mono (by decide)) ?_

theorem Dev.mgmtFrame_kept {M : Nat} {d0 d : Dev} {a1 : _} (hM : Sub 1067009 M) (h : Kept M d0 d) :
    Kept M d0 (Dev.mgmtFrame a1 d) := by
  unfold Dev.mgmtFrame
  repeat' first
    | with_reducible assumption
    | with_reducible refine Dev.mgmtSync_kept ((hM).mono (by decide)) ?_
    | with_reducible refine Dev.mgmtTrunc_kept ((hM).mono (by decide)) ?_
    | with_reducible refine Dev.bump_kept ((hM).mono (by decide)) ?_
    | with_reducible refine Dev.nak_kept ((hM).mono (by decide)) ?_
    | with_reducible refine Dev.raise_kept ((hM).mono (by decide)) ?_
    | with_reducible refine Dev.mgmtAccept_kept ((hM).mono (by decide)) ?_
    | split
    | dsimp only
    | intro _

theorem Dev.mgmtFetch_kept {M : Nat} {d0 d : Dev} {a1 : _} (hM : Sub 16384 M) (h : Kept M d0 d) :
    Kept M d0 (Dev.mgmtFetch a1 d) := by
  unfold Dev.mgmtFetch
  repeat' first
    | with_reducible assumption
    | with_reducible refine Dev.emit_kept ((hM).mono (by decide)) ?_
    | split
    | dsimp only
    | intro _
    | with_reducible refine Kept.lit_mgmt ((hM).mono (by decide)) ?_

theorem execMgmtRequest_kept {a1 : _} {s : State} : KeptX 1067009 s (execMgmtRequest a1 s) := by
  unfold execMgmtRequest
  repeat' first
    | with_reducible assumption
    | with_reducible refine KeptX.run ?_
    | with_reducible refine Kept.onlyIf ?_ ?_
    | with_reducible refine Dev.mgmtFetch_kept ((Sub.rfl).mono (by decide)) ?_
    | with_reducible refine Dev.mgmtFrame_kept ((Sub.rfl).mono (by decide)) ?_
    | with_reducible refine Dev.emit_kept ((Sub.rfl).mono (by decide)) ?_
    | split
    | dsimp only
    | intro _

theorem execMgmtFetch_kept {a1 : _} {s : State} : KeptX 16384 s (execMgmtFetch a1 s) := by
  unfold execMgmtFetch
  repeat' first
    | with_reducible assumption
    | with_reducible refine KeptX.run ?_
    | with_reducible refine Kept.onlyIf ?_ ?_
    | with_reducible refine Dev.mgmtFetch_kept ((Sub.rfl).mono (by decide)) ?_
    | split
    | dsimp only
    | intro _

theorem execMgmtSyncError_kept {a1 : _} {a2 : _} {s : State} : KeptX 1048577 s (execMgmtSyncError a1 a2 s) := by
  unfold execMgmtSyncError
  repeat' first
    | with_reducible assumption
    | with_reducible refine KeptX.run ?_
    | with_reducible refine Kept.onlyIf ?_ ?_
    | with_reducible refine Dev.mgmtSync_kept ((Sub.rfl).mono (by decide)) ?_
    | with_reducible refine Dev.emit_kept ((Sub.rfl).mono (by decide)) ?_
    | split
    | dsimp only
    | intro _

theorem execMgmtTruncated_kept {a1 : _} {s : State} : KeptX 1050625 s (execMgmtTruncated a1 s) := by
  unfold execMgmtTruncated
  repeat' first
    | with_reducible assumption
    | with_reducible refine KeptX.run ?_
    | with_reducible refine Kept.onlyIf ?_ ?_
    | with_reducible refine Dev.mgmtTrunc_kept ((Sub.rfl).mono (by decide)) ?_
    | with_reducible refine Dev.emit_kept ((Sub.rfl).mono (by decide)) ?_
    | split
    | dsimp only
    | intro _

theorem Dev.reqCodes_kept {M : Nat} {d0 d : Dev} {a1 : _} {a2 : _} {a3 : _} (h3 : ∀ y0, Kept M d0 y0 → Kept M d0 (a3 y0)) (hM : Sub 16384 M) (h : Kept M d0 d) :
    Kept M d0 (Dev.reqCodes a1 a2 a3 d) := by
  unfold Dev.reqCodes
  repeat' first
    | with_reducible assumption
    | with_reducible refine h3 _ ?_
    | with_reducible refine Dev.respond_kept ((hM).mono (by decide)) ?_
    | split
    | dsimp only
    | intro _

theorem Dev.mgmtNop_kept {M : Nat} {d0 d : Dev} {a1 : _} (hM : Sub 16384 M) (h : Kept M d0 d) :
    Kept M d0 (Dev.mgmtNop a1 d) := by
  unfold Dev.mgmtNop
  repeat' first
    | with_reducible assumption
    | with_reducible refine Dev.reqCodes_kept ?_ ((hM).mono (by decide)) ?_
    | with_reducible refine Dev.respond_kept ((hM).mono (by decide)) ?_
    | split
    | dsimp only
    | intro _

theorem Dev.mgmtStatus_kept {M : Nat} {d0 d : Dev} {a1 : _} (hM : Sub 16384 M) (h : Kept M d0 d) :
    Kept M d0 (Dev.mgmtStatus a1 d) := by
  unfold Dev.mgmtStatus
  repeat' first
    | with_reducible assumption
    | with_reducible refine Dev.reqCodes_kept ?_ ((hM).mono (by decide)) ?_
    | with_reducible refine Dev.respond_kept ((hM).mono (by decide)) ?_
    | split
    | dsimp only
    | intro _

theorem Dev.noticeFetch_kept {M : Nat} {d0 d : Dev} {a1 : _} (hM : Sub 16385 M) (h : Kept M d0 d) :
    Kept M d0 (Dev.noticeFetch a1 d) := by
  unfold Dev.noticeFetch
  repeat' first
    | with_reducible assumption
    | with_reducible refine Dev.reqCodes_kept ?_ ((hM).mono (by decide)) ?_
    | with_reducible refine Dev.respond_kept ((hM).mono (by decide)) ?_
    | with_reducible refine Dev.showIrq_kept ((hM).mono (by decide)) ?_
    | with_reducible refine Dev.put_kept ((hM).mono (by decide)) ?_
    | split
    | dsimp only
    | intro _
    | with_reducible refine Kept.lit_mgmt ((hM).mono (by decide)) ?_

theorem Dev.calRead_kept {M : Nat} {d0 d : Dev} {a1 : _} (hM : Sub 16384 M) (h : Kept M d0 d) :
    Kept M d0 (Dev.calRead a1 d) := by
  unfold Dev.calRead
  repeat' first
    | with_reducible assumption
    | with_reducible refine Dev.reqCodes_kept ?_ ((hM).mono (by decide)) ?_
    | with_reducible refine Dev.respond_kept ((hM).mono (by decide)) ?_
    | split
    | dsimp only
    | intro _

theorem Dev.mgmtWake_kept {M : Nat} {d0 d : Dev} {a1 : _} (hM : Sub 20481 M) (h : Kept M d0 d) :
    Kept M d0 (Dev.mgmtWake a1 d) := by
  unfold Dev.mgmtWake
  repeat' first
    | with_reducible assumption
    | with_reducible refine Dev.reqCodes_kept ?_ ((hM).mono (by decide)) ?_
    | with_reducible refine Dev.respond_kept ((hM).mono (by decide)) ?_
    | with_reducible refine Dev.wake_kept ((hM).mono (by decide)) ?_
    | split
    | dsimp only
    | intro _

theorem Dev.mgmtReset_kept {M : Nat} {d0 d : Dev} {a1 : _} (hM : Sub 2097149 M) (h : Kept M d0 d) :
    Kept M d0 (Dev.mgmtReset a1 d) := by
  unfold Dev.mgmtReset
  repeat' first
    | with_reducible assumption
    | with_reducible refine Dev.reqCodes_kept ?_ ((hM).mono (by decide)) ?_
    | with_reducible refine Dev.resetOp_kept ((hM).mono (by decide)) ?_
    | with_reducible refine Dev.respond_kept ((hM).mono (by decide)) ?_
    | split
    | dsimp only
    | intro _

theorem Dev.mgmtForceSafe_kept {M : Nat} {d0 d : Dev} {a1 : _} (hM : Sub 1245161 M) (h : Kept M d0 d) :
    Kept M d0 (Dev.mgmtForceSafe a1 d) := by
  unfold Dev.mgmtForceSafe
  repeat' first
    | with_reducible assumption
    | with_reducible refine Dev.reqCodes_kept ?_ ((hM).mono (by decide)) ?_
    | with_reducible refine Dev.respond_kept ((hM).mono (by decide)) ?_
    | with_reducible refine Dev.forceSafe_kept ((hM).mono (by decide)) ?_
    | split
    | dsimp only
    | intro _

theorem Dev.mgmtLease_kept {M : Nat} {d0 d : Dev} {a1 : _} (hM : Sub 1064961 M) (h : Kept M d0 d) :
    Kept M d0 (Dev.mgmtLease a1 d) := by
  unfold Dev.mgmtLease
  repeat' first
    | with_reducible assumption
    | with_reducible refine Dev.reqCodes_kept ?_ ((hM).mono (by decide)) ?_
    | with_reducible refine Dev.leaseTake_kept ((hM).mono (by decide)) ?_
    | with_reducible refine Dev.leaseRelease_kept ((hM).mono (by decide)) ?_
    | with_reducible refine Dev.respond_kept ((hM).mono (by decide)) ?_
    | split
    | dsimp only
    | intro _

theorem Dev.blockRead_kept {M : Nat} {d0 d : Dev} {a1 : _} (hM : Sub 1853157 M) (h : Kept M d0 d) :
    Kept M d0 (Dev.blockRead a1 d) := by
  unfold Dev.blockRead
  repeat' first
    | with_reducible assumption
    | with_reducible refine Dev.respond_kept ((hM).mono (by decide)) ?_
    | with_reducible refine Dev.reqCodes_kept ?_ ((hM).mono (by decide)) ?_
    | with_reducible refine Dev.node0Read_kept ((hM).mono (by decide)) ?_
    | with_reducible refine Dev.readIssue_kept ((hM).mono (by decide)) ?_
    | refine KeptP.of_eq (by assumption) ?_
    | with_reducible refine KeptP.snd ?_
    | split
    | dsimp only
    | intro _
    | with_reducible refine KeptP.mk ?_

theorem Dev.blockWrite_kept {M : Nat} {d0 d : Dev} {a1 : _} {a2 : _} (hM : Sub 2097151 M) (h : Kept M d0 d) :
    Kept M d0 (Dev.blockWrite a1 a2 d) := by
  unfold Dev.blockWrite
  repeat' first
    | with_reducible assumption
    | with_reducible refine Dev.reqCodes_kept ?_ ((hM).mono (by decide)) ?_
    | with_reducible refine Dev.leaseTo_kept ((hM).mono (by decide)) ?_
    | with_reducible refine Dev.respond_kept ((hM).mono (by decide)) ?_
    | with_reducible refine Dev.enqueueAll_kept ((hM).mono (by decide)) ?_
    | with_reducible refine Dev.enqueue_kept ((hM).mono (by decide)) ?_
    | with_reducible refine Dev.regBlockWrite_kept ((hM).mono (by decide)) ?_
    | with_reducible refine Dev.storeWrite_kept ((hM).mono (by decide)) ?_
    | with_reducible refine Dev.stageWrite_kept ((hM).mono (by decide)) ?_
    | split
    | dsimp only
    | intro _

theorem Dev.mgmtExport_kept {M : Nat} {d0 d : Dev} {a1 : _} (hM : Sub 16384 M) (h : Kept M d0 d) :
    Kept M d0 (Dev.mgmtExport a1 d) := by
  unfold Dev.mgmtExport
  repeat' first
    | with_reducible assumption
    | with_reducible refine Dev.reqCodes_kept ?_ ((hM).mono (by decide)) ?_
    | with_reducible refine Dev.respond_kept ((hM).mono (by decide)) ?_
    | split
    | dsimp only
    | intro _

theorem Dev.mgmtAttest_kept {M : Nat} {d0 d : Dev} {a1 : _} (hM : Sub 1065985 M) (h : Kept M d0 d) :
    Kept M d0 (Dev.mgmtAttest a1 d) := by
  unfold Dev.mgmtAttest
  repeat' first
    | with_reducible assumption
    | with_reducible refine Dev.reqCodes_kept ?_ ((hM).mono (by decide)) ?_
    | with_reducible refine Dev.attest_kept ((hM).mono (by decide)) ?_
    | with_reducible refine Dev.respond_kept ((hM).mono (by decide)) ?_
    | with_reducible refine Dev.pqCode_kept ((hM).mono (by decide)) ?_
    | refine KeptPP.of_eq (by assumption) ?_
    | with_reducible refine KeptPP.snd ?_
    | split
    | dsimp only
    | intro _

theorem Dev.mgmtOtpRead_kept {M : Nat} {d0 d : Dev} {a1 : _} (hM : Sub 16384 M) (h : Kept M d0 d) :
    Kept M d0 (Dev.mgmtOtpRead a1 d) := by
  unfold Dev.mgmtOtpRead
  repeat' first
    | with_reducible assumption
    | with_reducible refine Dev.reqCodes_kept ?_ ((hM).mono (by decide)) ?_
    | with_reducible refine Dev.respond_kept ((hM).mono (by decide)) ?_
    | split
    | dsimp only
    | intro _

theorem Dev.mgmtOtpProg_kept {M : Nat} {d0 d : Dev} {a1 : _} (hM : Sub 49152 M) (h : Kept M d0 d) :
    Kept M d0 (Dev.mgmtOtpProg a1 d) := by
  unfold Dev.mgmtOtpProg
  repeat' first
    | with_reducible assumption
    | with_reducible refine Dev.reqCodes_kept ?_ ((hM).mono (by decide)) ?_
    | with_reducible refine Dev.draw_kept ((hM).mono (by decide)) ?_
    | with_reducible refine Dev.respond_kept ((hM).mono (by decide)) ?_
    | refine KeptP.of_eq (by assumption) ?_
    | with_reducible refine KeptP.snd ?_
    | split
    | dsimp only
    | intro _
    | with_reducible refine Kept.lit_loads ((hM).mono (by decide)) ?_
    | with_reducible refine KeptP.mk ?_

theorem Dev.mgmtOwner_kept {M : Nat} {d0 d : Dev} {a1 : _} (hM : Sub 17409 M) (h : Kept M d0 d) :
    Kept M d0 (Dev.mgmtOwner a1 d) := by
  unfold Dev.mgmtOwner
  repeat' first
    | with_reducible assumption
    | exact fun c => (Dev.Canonical.slots c : _)
    | exact fun c => (Dev.Canonical.keys c)
    | exact fun c => (Dev.Canonical.regs c)
    | exact fun c => Tab.wf_drop _ _ (Dev.Canonical.slots c)
    | exact fun c => Tab.wf_set _ _ _ (Dev.Canonical.slots c)
    | exact fun c => Tab.wf_set _ _ _ (Dev.Canonical.keys c)
    | exact fun c => Tab.wf_set _ _ _ (Dev.Canonical.regs c)
    | exact fun c => Tab.wf_drop _ _ (Dev.Canonical.regs c)
    | exact fun c => Tab.wf_set _ _ _ (Dev.Canonical.settings c)
    | exact fun _ => rfl
    | with_reducible refine Dev.reqCodes_kept ?_ ((hM).mono (by decide)) ?_
    | with_reducible refine Dev.respond_kept ((hM).mono (by decide)) ?_
    | with_reducible refine Dev.deriveOwner_kept ((hM).mono (by decide)) ?_
    | split
    | dsimp only
    | intro _
    | with_reducible refine Kept.lit_sec ((hM).mono (by decide)) ?_ ?_

theorem Dev.mgmtNonce_kept {M : Nat} {d0 d : Dev} {a1 : _} (hM : Sub 16384 M) (h : Kept M d0 d) :
    Kept M d0 (Dev.mgmtNonce a1 d) := by
  unfold Dev.mgmtNonce
  repeat' first
    | with_reducible assumption
    | with_reducible refine Dev.reqCodes_kept ?_ ((hM).mono (by decide)) ?_
    | with_reducible refine Dev.respond_kept ((hM).mono (by decide)) ?_
    | split
    | dsimp only
    | intro _

theorem Dev.mgmtToken_kept {M : Nat} {d0 d : Dev} {a1 : _} (hM : Sub 1070081 M) (h : Kept M d0 d) :
    Kept M d0 (Dev.mgmtToken a1 d) := by
  unfold Dev.mgmtToken
  repeat' first
    | with_reducible assumption
    | with_reducible refine Dev.respond_kept ((hM).mono (by decide)) ?_
    | with_reducible refine Dev.verifyJob_kept ((hM).mono (by decide)) ?_
    | with_reducible refine Dev.randomBytes_kept ((hM).mono (by decide)) ?_
    | with_reducible refine Dev.raise_kept ((hM).mono (by decide)) ?_
    | refine KeptP.of_eq (by assumption) ?_
    | with_reducible refine KeptP.snd ?_
    | split
    | dsimp only
    | intro _
    | with_reducible refine Kept.lit_sys ((hM).mono (by decide)) ?_
    | with_reducible refine Kept.lit_mgmt ((hM).mono (by decide)) ?_
    | with_reducible refine Kept.lit_sys_mgmt ((hM).mono (by decide)) ((hM).mono (by decide)) ?_
    | with_reducible refine KeptP.mk ?_

theorem Dev.serve_kept {M : Nat} {d0 d : Dev} {a1 : _} {a2 : _} (h2 : ∀ y0 y1, Kept M d0 y1 → Kept M d0 (a2 y0 y1)) (hM : Sub 0 M) (h : Kept M d0 d) :
    Kept M d0 (Dev.serve a1 a2 d) := by
  unfold Dev.serve
  repeat' first
    | with_reducible assumption
    | with_reducible refine h2 _ _ ?_
    | split
    | dsimp only
    | intro _

theorem execMgmtNop_kept {s : State} : KeptX 16384 s (execMgmtNop s) := by
  unfold execMgmtNop
  repeat' first
    | with_reducible assumption
    | with_reducible refine KeptX.run ?_
    | with_reducible refine Dev.serve_kept ?_ ((Sub.rfl).mono (by decide)) ?_
    | with_reducible refine Dev.mgmtNop_kept ((Sub.rfl).mono (by decide)) ?_
    | split
    | dsimp only
    | intro _

theorem execMgmtStatus_kept {s : State} : KeptX 16384 s (execMgmtStatus s) := by
  unfold execMgmtStatus
  repeat' first
    | with_reducible assumption
    | with_reducible refine KeptX.run ?_
    | with_reducible refine Dev.serve_kept ?_ ((Sub.rfl).mono (by decide)) ?_
    | with_reducible refine Dev.mgmtStatus_kept ((Sub.rfl).mono (by decide)) ?_
    | split
    | dsimp only
    | intro _

theorem execNoticeFetch_kept {s : State} : KeptX 16385 s (execNoticeFetch s) := by
  unfold execNoticeFetch
  repeat' first
    | with_reducible assumption
    | with_reducible refine KeptX.run ?_
    | with_reducible refine Dev.serve_kept ?_ ((Sub.rfl).mono (by decide)) ?_
    | with_reducible refine Dev.noticeFetch_kept ((Sub.rfl).mono (by decide)) ?_
    | split
    | dsimp only
    | intro _

theorem execCalRead_kept {s : State} : KeptX 16384 s (execCalRead s) := by
  unfold execCalRead
  repeat' first
    | with_reducible assumption
    | with_reducible refine KeptX.run ?_
    | with_reducible refine Dev.serve_kept ?_ ((Sub.rfl).mono (by decide)) ?_
    | with_reducible refine Dev.calRead_kept ((Sub.rfl).mono (by decide)) ?_
    | split
    | dsimp only
    | intro _

theorem execMgmtWake_kept {s : State} : KeptX 20481 s (execMgmtWake s) := by
  unfold execMgmtWake
  repeat' first
    | with_reducible assumption
    | with_reducible refine KeptX.run ?_
    | with_reducible refine Dev.serve_kept ?_ ((Sub.rfl).mono (by decide)) ?_
    | with_reducible refine Dev.mgmtWake_kept ((Sub.rfl).mono (by decide)) ?_
    | split
    | dsimp only
    | intro _

theorem execMgmtReset_kept {s : State} : KeptX 2097149 s (execMgmtReset s) := by
  unfold execMgmtReset
  repeat' first
    | with_reducible assumption
    | with_reducible refine KeptX.run ?_
    | with_reducible refine Dev.serve_kept ?_ ((Sub.rfl).mono (by decide)) ?_
    | with_reducible refine Dev.mgmtReset_kept ((Sub.rfl).mono (by decide)) ?_
    | split
    | dsimp only
    | intro _

theorem execMgmtForceSafe_kept {s : State} : KeptX 1245161 s (execMgmtForceSafe s) := by
  unfold execMgmtForceSafe
  repeat' first
    | with_reducible assumption
    | with_reducible refine KeptX.run ?_
    | with_reducible refine Dev.serve_kept ?_ ((Sub.rfl).mono (by decide)) ?_
    | with_reducible refine Dev.mgmtForceSafe_kept ((Sub.rfl).mono (by decide)) ?_
    | split
    | dsimp only
    | intro _

theorem execMgmtLeaseTake_kept {s : State} : KeptX 1064961 s (execMgmtLeaseTake s) := by
  unfold execMgmtLeaseTake
  repeat' first
    | with_reducible assumption
    | with_reducible refine KeptX.run ?_
    | with_reducible refine Dev.serve_kept ?_ ((Sub.rfl).mono (by decide)) ?_
    | with_reducible refine Dev.mgmtLease_kept ((Sub.rfl).mono (by decide)) ?_
    | split
    | dsimp only
    | intro _

theorem execMgmtLeaseRelease_kept {s : State} : KeptX 1064961 s (execMgmtLeaseRelease s) := by
  unfold execMgmtLeaseRelease
  repeat' first
    | with_reducible assumption
    | with_reducible refine KeptX.run ?_
    | with_reducible refine Dev.serve_kept ?_ ((Sub.rfl).mono (by decide)) ?_
    | with_reducible refine Dev.mgmtLease_kept ((Sub.rfl).mono (by decide)) ?_
    | split
    | dsimp only
    | intro _

theorem execHostLeaseTake_kept {a1 : _} {s : State} : KeptX 1065473 s (execHostLeaseTake a1 s) := by
  unfold execHostLeaseTake
  repeat' first
    | with_reducible assumption
    | with_reducible refine KeptX.run ?_
    | with_reducible refine Dev.serve_kept ?_ ((Sub.rfl).mono (by decide)) ?_
    | with_reducible refine Dev.mgmtLease_kept ((Sub.rfl).mono (by decide)) ?_
    | with_reducible refine Dev.writeAs_kept ?_ ((Sub.rfl).mono (by decide)) ?_
    | with_reducible refine Dev.leaseWrite_kept ((Sub.rfl).mono (by decide)) ?_
    | split
    | dsimp only
    | intro _

theorem execBlockRead_kept {s : State} : KeptX 1853157 s (execBlockRead s) := by
  unfold execBlockRead
  repeat' first
    | with_reducible assumption
    | with_reducible refine KeptX.run ?_
    | with_reducible refine Dev.serve_kept ?_ ((Sub.rfl).mono (by decide)) ?_
    | with_reducible refine Dev.blockRead_kept ((Sub.rfl).mono (by decide)) ?_
    | split
    | dsimp only
    | intro _

theorem execBlockWrite_kept {a1 : _} {s : State} : KeptX 2097151 s (execBlockWrite a1 s) := by
  unfold execBlockWrite
  repeat' first
    | with_reducible assumption
    | with_reducible refine KeptX.run ?_
    | with_reducible refine Dev.serve_kept ?_ ((Sub.rfl).mono (by decide)) ?_
    | with_reducible refine Dev.blockWrite_kept ((Sub.rfl).mono (by decide)) ?_
    | split
    | dsimp only
    | intro _

theorem execRecExport_kept {s : State} : KeptX 16384 s (execRecExport s) := by
  unfold execRecExport
  repeat' first
    | with_reducible assumption
    | with_reducible refine KeptX.run ?_
    | with_reducible refine Dev.serve_kept ?_ ((Sub.rfl).mono (by decide)) ?_
    | with_reducible refine Dev.mgmtExport_kept ((Sub.rfl).mono (by decide)) ?_
    | split
    | dsimp only
    | intro _

theorem execMgmtAttest_kept {s : State} : KeptX 1065985 s (execMgmtAttest s) := by
  unfold execMgmtAttest
  repeat' first
    | with_reducible assumption
    | with_reducible refine KeptX.run ?_
    | with_reducible refine Dev.serve_kept ?_ ((Sub.rfl).mono (by decide)) ?_
    | with_reducible refine Dev.mgmtAttest_kept ((Sub.rfl).mono (by decide)) ?_
    | split
    | dsimp only
    | intro _

theorem execOtpRead_kept {s : State} : KeptX 16384 s (execOtpRead s) := by
  unfold execOtpRead
  repeat' first
    | with_reducible assumption
    | with_reducible refine KeptX.run ?_
    | with_reducible refine Dev.serve_kept ?_ ((Sub.rfl).mono (by decide)) ?_
    | with_reducible refine Dev.mgmtOtpRead_kept ((Sub.rfl).mono (by decide)) ?_
    | split
    | dsimp only
    | intro _

theorem execOtpProg_kept {s : State} : KeptX 49152 s (execOtpProg s) := by
  unfold execOtpProg
  repeat' first
    | with_reducible assumption
    | with_reducible refine KeptX.run ?_
    | with_reducible refine Dev.serve_kept ?_ ((Sub.rfl).mono (by decide)) ?_
    | with_reducible refine Dev.mgmtOtpProg_kept ((Sub.rfl).mono (by decide)) ?_
    | split
    | dsimp only
    | intro _

theorem execOwnerDigest_kept {s : State} : KeptX 17409 s (execOwnerDigest s) := by
  unfold execOwnerDigest
  repeat' first
    | with_reducible assumption
    | with_reducible refine KeptX.run ?_
    | with_reducible refine Dev.serve_kept ?_ ((Sub.rfl).mono (by decide)) ?_
    | with_reducible refine Dev.mgmtOwner_kept ((Sub.rfl).mono (by decide)) ?_
    | split
    | dsimp only
    | intro _

theorem execTokenNonce_kept {s : State} : KeptX 16384 s (execTokenNonce s) := by
  unfold execTokenNonce
  repeat' first
    | with_reducible assumption
    | with_reducible refine KeptX.run ?_
    | with_reducible refine Dev.serve_kept ?_ ((Sub.rfl).mono (by decide)) ?_
    | with_reducible refine Dev.mgmtNonce_kept ((Sub.rfl).mono (by decide)) ?_
    | split
    | dsimp only
    | intro _

theorem execFactoryToken_kept {s : State} : KeptX 1070081 s (execFactoryToken s) := by
  unfold execFactoryToken
  repeat' first
    | with_reducible assumption
    | with_reducible refine KeptX.run ?_
    | with_reducible refine Dev.serve_kept ?_ ((Sub.rfl).mono (by decide)) ?_
    | with_reducible refine Dev.mgmtToken_kept ((Sub.rfl).mono (by decide)) ?_
    | split
    | dsimp only
    | intro _

theorem Dev.mgmtGo_kept {M : Nat} {d0 d : Dev} (hM : Sub 2097151 M) (h : Kept M d0 d) :
    Kept M d0 (Dev.mgmtGo d) := by
  unfold Dev.mgmtGo
  repeat' first
    | with_reducible assumption
    | with_reducible refine Kept.onlyIf ?_ ?_
    | with_reducible refine Dev.serve_kept ?_ ((hM).mono (by decide)) ?_
    | with_reducible refine Dev.blockWrite_kept ((hM).mono (by decide)) ?_
    | with_reducible refine Dev.blockRead_kept ((hM).mono (by decide)) ?_
    | split
    | dsimp only
    | intro _

end Sys2Proof.Machine
end

