-- ==== Sys2Proof/Laws/KeptRingCmds.lean ====
section
/-! SUPPORT. What the operations and commands of Machine/RingCmds.lean keep (`Kept`): the parts each changes, and the canonical form. -/

set_option Elab.async false

namespace Sys2Proof.Machine

theorem Dev.ringGo_kept {M : Nat} {d0 d : Dev} (hM : Sub 2097151 M) (h : Kept M d0 d) :
    Kept M d0 (Dev.ringGo d) := by
  unfold Dev.ringGo
  repeat' first
    | with_reducible assumption
    | with_reducible refine Dev.mgmtGo_kept ((hM).mono (by decide)) ?_
    | with_reducible refine Dev.bridgeGo_kept ((hM).mono (by decide)) ?_
    | split
    | dsimp only
    | intro _

theorem execRingFrameReceive_kept {a1 : _} {a2 : _} {a3 : _} {a4 : _} {a5 : _} {a6 : _} {a7 : _} {s : State} : KeptX 2097151 s (execRingFrameReceive a1 a2 a3 a4 a5 a6 a7 s) := by
  unfold execRingFrameReceive
  repeat' first
    | with_reducible assumption
    | with_reducible refine KeptX.run ?_
    | with_reducible refine Kept.onlyIf ?_ ?_
    | with_reducible refine Dev.bump_kept ((Sub.rfl).mono (by decide)) ?_
    | with_reducible refine Dev.ringGo_kept ((Sub.rfl).mono (by decide)) ?_
    | with_reducible refine Dev.ringReceive_kept ((Sub.rfl).mono (by decide)) ?_
    | split
    | dsimp only
    | intro _

theorem execRingBeaconSend_kept {s : State} : KeptX 2097151 s (execRingBeaconSend s) := by
  unfold execRingBeaconSend
  repeat' first
    | with_reducible assumption
    | with_reducible refine KeptX.run ?_
    | with_reducible refine Dev.ringGo_kept ((Sub.rfl).mono (by decide)) ?_
    | with_reducible refine Dev.ringCycle_kept ((Sub.rfl).mono (by decide)) ?_
    | split
    | dsimp only
    | intro _

theorem execRingReadIssue_kept {a1 : _} {s : State} : KeptX 2097151 s (execRingReadIssue a1 s) := by
  unfold execRingReadIssue
  repeat' first
    | with_reducible assumption
    | with_reducible refine KeptX.run ?_
    | with_reducible refine Kept.onlyIf ?_ ?_
    | with_reducible refine Dev.ringGo_kept ((Sub.rfl).mono (by decide)) ?_
    | with_reducible refine Dev.readSend_kept ((Sub.rfl).mono (by decide)) ?_
    | split
    | dsimp only
    | intro _

theorem execRingReadTimeout_kept {s : State} : KeptX 2097151 s (execRingReadTimeout s) := by
  unfold execRingReadTimeout
  repeat' first
    | with_reducible assumption
    | with_reducible refine KeptX.run ?_
    | with_reducible refine Dev.ringGo_kept ((Sub.rfl).mono (by decide)) ?_
    | with_reducible refine Dev.readTimeout_kept ((Sub.rfl).mono (by decide)) ?_
    | split
    | dsimp only
    | intro _

theorem execRingWriteSend_kept {a1 : _} {s : State} : KeptX 2097151 s (execRingWriteSend a1 s) := by
  unfold execRingWriteSend
  repeat' first
    | with_reducible assumption
    | with_reducible refine KeptX.run ?_
    | with_reducible refine Kept.onlyIf ?_ ?_
    | with_reducible refine Dev.ringGo_kept ((Sub.rfl).mono (by decide)) ?_
    | with_reducible refine Dev.bcastSend_kept ((Sub.rfl).mono (by decide)) ?_
    | with_reducible refine Dev.writeSend_kept ((Sub.rfl).mono (by decide)) ?_
    | split
    | dsimp only
    | intro _

end Sys2Proof.Machine
end

