-- ==== Sys2Proof/Laws/KeptSwitchPorts.lean ====
section
/-! SUPPORT. What the operations and commands of Machine/SwitchPorts.lean keep (`Kept`): the parts each changes, and the canonical form. -/

set_option Elab.async false

namespace Sys2Proof.Machine

theorem Dev.dequeueCheck_kept {M : Nat} {d0 d : Dev} {a1 : _} {a2 : _} {a3 : _} (hM : Sub 1179649 M) (h : Kept M d0 d) :
    KeptP M d0 (Dev.dequeueCheck a1 a2 a3 d) := by
  induction a3 generalizing d a1 a2 with
  | zero =>
    unfold Dev.dequeueCheck
    repeat' first
      | with_reducible assumption
      | with_reducible refine Dev.swRelease_kept ((hM).mono (by decide)) ?_
      | with_reducible refine Dev.onSwQueue_kept ((hM).mono (by decide)) ?_
      | with_reducible refine Dev.bump_kept ((hM).mono (by decide)) ?_
      | with_reducible refine Dev.raise_kept ((hM).mono (by decide)) ?_
      | split
      | dsimp only
      | intro _
      | with_reducible refine KeptP.mk ?_
  | succ n ih =>
    unfold Dev.dequeueCheck
    repeat' first
      | with_reducible refine ih ?_
      | with_reducible assumption
      | with_reducible refine Dev.swRelease_kept ((hM).mono (by decide)) ?_
      | with_reducible refine Dev.onSwQueue_kept ((hM).mono (by decide)) ?_
      | with_reducible refine Dev.bump_kept ((hM).mono (by decide)) ?_
      | with_reducible refine Dev.raise_kept ((hM).mono (by decide)) ?_
      | split
      | dsimp only
      | intro _
      | with_reducible refine KeptP.mk ?_

theorem Dev.toHost_kept {M : Nat} {d0 d : Dev} {a1 : _} {a2 : _} (hM : Sub 1049089 M) (h : Kept M d0 d) :
    KeptP M d0 (Dev.toHost a1 a2 d) := by
  unfold Dev.toHost
  repeat' first
    | with_reducible assumption
    | with_reducible refine Dev.bump_kept ((hM).mono (by decide)) ?_
    | with_reducible refine Dev.countLenRef_kept ((hM).mono (by decide)) ?_
    | with_reducible refine Dev.offerRecord_kept ((hM).mono (by decide)) ?_
    | split
    | dsimp only
    | intro _
    | with_reducible refine KeptP.mk ?_

theorem Dev.intakeRecord_kept {M : Nat} {d0 d : Dev} {a1 : _} {a2 : _} {a3 : _} {a4 : _}  (hM : Sub 64 M) (h : Kept M d0 d) :
    KeptO M d0 (Dev.intakeRecord a1 a2 a3 a4 d) := by
  unfold Dev.intakeRecord
  repeat' first
    | with_reducible assumption
    | with_reducible refine Dev.ringStore_kept ((hM).mono (by decide)) ?_
    | with_reducible exact KeptO.none
    | with_reducible refine KeptO.some ?_
    | split
    | dsimp only
    | intro _

theorem Dev.intakeRecords_kept {M : Nat} {d0 d : Dev} {a1 : _} {a2 : _} {a3 : _}  (hM : Sub 64 M) (h : Kept M d0 d) :
    KeptO M d0 (Dev.intakeRecords a1 a2 a3 d) := by
  induction a3 generalizing d  with
  | nil =>
    unfold Dev.intakeRecords
    repeat' first
      | with_reducible assumption
      | with_reducible refine Dev.intakeRecord_kept ((hM).mono (by decide)) ?_
      | with_reducible exact KeptO.none
      | with_reducible refine KeptO.some ?_
      | refine KeptO.of_eq (by assumption) ?_
      | with_reducible refine KeptO.getD ?_ ?_
      | split
      | dsimp only
      | intro _
  | cons x xs ih =>
    unfold Dev.intakeRecords
    repeat' first
      | with_reducible refine ih ?_
      | with_reducible assumption
      | with_reducible refine Dev.intakeRecord_kept ((hM).mono (by decide)) ?_
      | with_reducible exact KeptO.none
      | with_reducible refine KeptO.some ?_
      | refine KeptO.of_eq (by assumption) ?_
      | with_reducible refine KeptO.getD ?_ ?_
      | split
      | dsimp only
      | intro _

theorem Dev.toEngines_kept {M : Nat} {d0 d : Dev} {a1 : _} {a2 : _} (hM : Sub 65 M) (h : Kept M d0 d) :
    KeptP M d0 (Dev.toEngines a1 a2 d) := by
  unfold Dev.toEngines
  repeat' first
    | with_reducible assumption
    | with_reducible refine Dev.bump_kept ((hM).mono (by decide)) ?_
    | with_reducible refine Dev.intakeRecord_kept ((hM).mono (by decide)) ?_
    | with_reducible refine Dev.intakeRecords_kept ((hM).mono (by decide)) ?_
    | refine KeptO.of_eq (by assumption) ?_
    | with_reducible refine KeptO.getD ?_ ?_
    | split
    | dsimp only
    | intro _
    | with_reducible refine KeptP.mk ?_

theorem Dev.portTakes_kept {M : Nat} {d0 d : Dev} {a1 : _} {a2 : _} {a3 : _} (hM : Sub 1312321 M) (h : Kept M d0 d) :
    KeptP M d0 (Dev.portTakes a1 a2 a3 d) := by
  unfold Dev.portTakes
  repeat' first
    | with_reducible assumption
    | with_reducible refine Dev.toHost_kept ((hM).mono (by decide)) ?_
    | with_reducible refine Dev.toEngines_kept ((hM).mono (by decide)) ?_
    | with_reducible refine Dev.tunnelOut_kept ((hM).mono (by decide)) ?_
    | refine KeptP.of_eq (by assumption) ?_
    | with_reducible refine KeptP.snd ?_
    | split
    | dsimp only
    | intro _
    | with_reducible refine KeptP.mk ?_

theorem Dev.egressFrom_kept {M : Nat} {d0 d : Dev} {a1 : _} {a2 : _} (hM : Sub 1443393 M) (h : Kept M d0 d) :
    Kept M d0 (Dev.egressFrom a1 a2 d) := by
  induction a2 generalizing d a1 with
  | nil =>
    unfold Dev.egressFrom
    repeat' first
      | with_reducible assumption
      | with_reducible refine Dev.dequeueCheck_kept ((hM).mono (by decide)) ?_
      | with_reducible refine Dev.portTakes_kept ((hM).mono (by decide)) ?_
      | with_reducible refine Dev.onSwPort_kept ((hM).mono (by decide)) ?_
      | with_reducible refine Dev.onSwQueue_kept ((hM).mono (by decide)) ?_
      | refine KeptP.of_eq (by assumption) ?_
      | with_reducible refine KeptP.snd ?_
      | split
      | dsimp only
      | intro _
      | with_reducible refine KeptP.mk ?_
  | cons x xs ih =>
    unfold Dev.egressFrom
    repeat' first
      | with_reducible refine ih ?_
      | with_reducible assumption
      | with_reducible refine Dev.dequeueCheck_kept ((hM).mono (by decide)) ?_
      | with_reducible refine Dev.portTakes_kept ((hM).mono (by decide)) ?_
      | with_reducible refine Dev.onSwPort_kept ((hM).mono (by decide)) ?_
      | with_reducible refine Dev.onSwQueue_kept ((hM).mono (by decide)) ?_
      | refine KeptP.of_eq (by assumption) ?_
      | with_reducible refine KeptP.snd ?_
      | split
      | dsimp only
      | intro _
      | with_reducible refine KeptP.mk ?_

theorem execSwitchEgressStart_kept {a1 : _} {s : State} : KeptX 1443393 s (execSwitchEgressStart a1 s) := by
  unfold execSwitchEgressStart
  repeat' first
    | with_reducible assumption
    | with_reducible refine KeptX.run ?_
    | with_reducible refine Kept.onlyIf ?_ ?_
    | with_reducible refine Dev.egressFrom_kept ((Sub.rfl).mono (by decide)) ?_
    | split
    | dsimp only
    | intro _

theorem execSwitchEgressDone_kept {a1 : _} {s : State} : KeptX 131073 s (execSwitchEgressDone a1 s) := by
  unfold execSwitchEgressDone
  repeat' first
    | with_reducible assumption
    | with_reducible refine KeptX.run ?_
    | with_reducible refine Kept.onlyIf ?_ ?_
    | with_reducible refine Dev.swRelease_kept ((Sub.rfl).mono (by decide)) ?_
    | with_reducible refine Dev.onSwPort_kept ((Sub.rfl).mono (by decide)) ?_
    | with_reducible refine Dev.cutRelease_kept ((Sub.rfl).mono (by decide)) ?_
    | with_reducible refine Dev.putPair_kept ((Sub.rfl).mono (by decide)) ?_
    | with_reducible refine Dev.bump_kept ((Sub.rfl).mono (by decide)) ?_
    | with_reducible refine Dev.emit_kept ((Sub.rfl).mono (by decide)) ?_
    | split
    | dsimp only
    | intro _

theorem Dev.evict_kept {M : Nat} {d0 d : Dev} {a1 : _} {a2 : _} (hM : Sub 1179649 M) (h : Kept M d0 d) :
    Kept M d0 (Dev.evict a1 a2 d) := by
  unfold Dev.evict
  repeat' first
    | with_reducible assumption
    | with_reducible refine Dev.onSwQueue_kept ((hM).mono (by decide)) ?_
    | with_reducible refine Dev.swRelease_kept ((hM).mono (by decide)) ?_
    | with_reducible refine Dev.raise_kept ((hM).mono (by decide)) ?_
    | with_reducible refine Dev.bump_kept ((hM).mono (by decide)) ?_
    | split
    | dsimp only
    | intro _

theorem Dev.admitAt_kept {M : Nat} {d0 d : Dev} {a1 : _} {a2 : _} {a3 : _} (hM : Sub 1179649 M) (h : Kept M d0 d) :
    Kept M d0 (Dev.admitAt a1 a2 a3 d) := by
  unfold Dev.admitAt
  repeat' first
    | with_reducible assumption
    | with_reducible refine Kept.each ?_ ?_
    | with_reducible refine Dev.raise_kept ((hM).mono (by decide)) ?_
    | with_reducible refine Dev.bump_kept ((hM).mono (by decide)) ?_
    | with_reducible refine Dev.addUse_kept ((hM).mono (by decide)) ?_
    | with_reducible refine Dev.evict_kept ((hM).mono (by decide)) ?_
    | with_reducible refine Dev.putFree_kept ((hM).mono (by decide)) ?_
    | with_reducible refine Dev.onSwQueue_kept ((hM).mono (by decide)) ?_
    | with_reducible refine Dev.putSwFrame_kept ((hM).mono (by decide)) ?_
    | split
    | dsimp only
    | intro _

theorem Dev.admitAll_kept {M : Nat} {d0 d : Dev} {a1 : _} {a2 : _} {a3 : _} (hM : Sub 1179649 M) (h : Kept M d0 d) :
    Kept M d0 (Dev.admitAll a1 a2 a3 d) := by
  induction a2 generalizing d a1 a3 with
  | nil =>
    unfold Dev.admitAll
    repeat' first
      | with_reducible assumption
      | with_reducible refine Dev.putSwFrame_kept ((hM).mono (by decide)) ?_
      | with_reducible refine Dev.admitAt_kept ((hM).mono (by decide)) ?_
      | split
      | dsimp only
      | intro _
  | cons x xs ih =>
    unfold Dev.admitAll
    repeat' first
      | with_reducible refine ih ?_
      | with_reducible assumption
      | with_reducible refine Dev.putSwFrame_kept ((hM).mono (by decide)) ?_
      | with_reducible refine Dev.admitAt_kept ((hM).mono (by decide)) ?_
      | split
      | dsimp only
      | intro _

theorem execAdmission_kept {s : State} : KeptX 1179649 s (execAdmission s) := by
  unfold execAdmission
  repeat' first
    | with_reducible assumption
    | with_reducible refine KeptX.run ?_
    | with_reducible refine Kept.onlyIf ?_ ?_
    | with_reducible refine Dev.admitAll_kept ((Sub.rfl).mono (by decide)) ?_
    | with_reducible refine Dev.putSwFrame_kept ((Sub.rfl).mono (by decide)) ?_
    | with_reducible refine Dev.bump_kept ((Sub.rfl).mono (by decide)) ?_
    | split
    | dsimp only
    | intro _
    | with_reducible refine Kept.lit_sw ((Sub.rfl).mono (by decide)) ?_

theorem execCutThroughDecide_kept {a1 : _} {a2 : _} {s : State} : KeptX 1179649 s (execCutThroughDecide a1 a2 s) := by
  unfold execCutThroughDecide
  repeat' first
    | with_reducible assumption
    | with_reducible refine KeptX.run ?_
    | with_reducible refine Kept.each ?_ ?_
    | with_reducible refine Dev.addUse_kept ((Sub.rfl).mono (by decide)) ?_
    | with_reducible refine Dev.evict_kept ((Sub.rfl).mono (by decide)) ?_
    | with_reducible refine Dev.onSwPort_kept ((Sub.rfl).mono (by decide)) ?_
    | with_reducible refine Dev.putFree_kept ((Sub.rfl).mono (by decide)) ?_
    | with_reducible refine Dev.bump_kept ((Sub.rfl).mono (by decide)) ?_
    | split
    | dsimp only
    | intro _

end Sys2Proof.Machine
end

