-- ==== Sys2Proof/WellFormed.lean ====
section
/-! DEFINITION. Which commands the outside can present: the limits the spec sets on what a frame or an access carries. Operand ranges
that a type already holds (an engine number, a line, a port) are not repeated. The meanings do not need these limits. -/

namespace Sys2Proof

/-- A payload as long as its format carries at most (R208). -/
def CanFrame.wf (f : CanFrame) : Bool :=
  decide (f.payload.length ≤ (if f.format = 0 then 8 else if f.format = 1 then 64 else 2048))

/-- A command that the outside can present. -/
def Instr.wf : Instr → Bool
  | .canFrameReceive _ f => f.wf
  | .ethFrameReceive _ bytes _ _ _ => !bytes.isEmpty
  | .cutThroughDecide _ head => decide (14 ≤ head.length)
  | .wakePatternMatch _ bytes => !bytes.isEmpty
  | .ringFrameReceive _ bytes _ _ _ _ _ => !bytes.isEmpty
  | .hostRead _ _ len _ => decide (0 < len.toNat ∧ len.toNat ≤ 4096)
  | .hostWrite _ _ data _ => decide (0 < data.length ∧ data.length ≤ 4096)
  | .descriptorFetched _ _ data _ => decide ((data.getD []).length ≤ 262144)
  | .senseFrame _ _ chs _ => decide (chs.length ≤ 12)
  | .faultEvent evs => !evs.isEmpty
  | .mgmtRequest frame => !frame.isEmpty
  | _ => true

end Sys2Proof
end

