-- ==== Sys2Proof/Tests/Slice0.lean ====
section
/-! SUPPORT. Small tests: an ill-formed command for each check of `Instr.wf`, states that meet the hypotheses of the statements of
`Obligations.lean` (each theorem `witness_X` or `witness_X_…` is about `Obligations.X`), and a few commands with results worked out from
the spec. -/

namespace Sys2Proof.Tests

open Sys2Proof Sys2Proof.Machine

set_option maxRecDepth 100000

/-! ### Ill-formed commands, one for each check -/

/-- A frame of format 0 with 9 bytes. -/
def longFrame : CanFrame := ⟨0, false, 0x123, false, false, false, 9, false, 0, 0, 0, List.replicate 9 0, 0⟩

theorem test_wf_can_payload : (Instr.canFrameReceive 0 longFrame).wf = false := by decide
theorem test_wf_eth_empty : (Instr.ethFrameReceive 0 [] 0 true 0).wf = false := by decide
theorem test_wf_head_short : (Instr.cutThroughDecide 0 (List.replicate 13 0)).wf = false := by decide
theorem test_wf_wake_empty : (Instr.wakePatternMatch 0 []).wf = false := by decide
theorem test_wf_ring_empty : (Instr.ringFrameReceive 0 [] 0 true false 0 []).wf = false := by decide
theorem test_wf_host_read : (Instr.hostRead .bar0 0 0 true).wf = false ∧ (Instr.hostRead .bar0 0 4097 true).wf = false := by decide
theorem test_wf_host_write : (Instr.hostWrite .bar0 0 [] true).wf = false := by decide
theorem test_wf_sense : (Instr.senseFrame 0 0xA00000000000003C (List.replicate 13 ⟨0, 0, 0⟩) 0).wf = false := by decide
theorem test_wf_fault_empty : (Instr.faultEvent []).wf = false := by decide
theorem test_wf_mgmt_empty : (Instr.mgmtRequest []).wf = false := by decide
theorem test_wf_host_write_long : (Instr.hostWrite .bar0 0 (List.replicate 4097 0) true).wf = false := by decide +kernel
theorem test_wf_admits : (Instr.canFrameReceive 0 { longFrame with payload := List.replicate 8 0 }).wf = true ∧
    (Instr.hostRead .bar0 0 4096 true).wf = true := by decide

/-! ### Witnesses: states that meet the hypotheses of the statements -/

/-- The part in RUN, everything else as at reset. -/
def inRun : Dev := { devReset with mode := .run }

/-- An event of kind 0 of eight bytes. -/
def someEvent : Event := ⟨0, 5, 3, 0x123, 8, 0, 0, 0, 0, 0x40, none⟩

/-- A thread with an event, G1 = 8 under the neutral tag, buffer 2 under handle 0, a return address. -/
def someThread : Thread := { threadIdle with ev := some someEvent, g := [(1, ⟨8, 0x94⟩)], handles := [(0, some 2)], links := [7] }

/-- Engine 0, about to issue `w` as the instruction at address 0 of thread 0. -/
def issuing (th : Thread) (w : BitVec 40) : Dev :=
  let eng := { inRun.eng with threads := [(0, th)], imemCount := [(0, 1)], imem := [(0, w)], dmem := [(0, 1)] }
  Dev.put (Fld.ENG_THR_CFG_INSN_BUDGET 0 0) 100 { inRun with eng := eng }

/-- Every instruction can issue: the hypothesis of the statements about engine instructions. -/
theorem witness_EngineIssues (w : BitVec 40) : (issuing someThread w).Issues 0 0 w := ⟨by with_unfolding_all rfl, by with_unfolding_all exact Nat.one_pos, by rfl⟩

theorem witness_EngineLoads : someThread.slotIdx 1 0 < 131072 ∧ someThread.dataAddr 1 0 % 8 = 0 ∧ someThread.dataAddr 1 0 + 7 ≤ 0x1FFFF ∧
    someThread.dataAddr 1 0x1FFF0 + 7 = 0x1FFFF := by decide

/-- The same with slot 8 defined for engine 0. -/
def withSlot (owner : Fin 8) (d : Dev) : Dev :=
  { d with store := { d.store with slots := [(8, { slotUndefined with isDefined := true, owner := owner })] } }

theorem witness_EngineStores : (issuing someThread 0).touchesRing 0 8 8 = false ∧ tagClean (tagComb (someThread.reg 0).tag someThread.pt) = true ∧
    (withSlot 2 (issuing someThread 0)).storeAdmits (.engine 0) 8 = true ∧ (8 : Nat) ∉ someThread.unseen ∧
    (8 : Nat) ∈ ({ someThread with unseen := [8] } : Thread).unseen := by decide

theorem witness_EngineControlFlow : someThread.links.length < 8 ∧ someThread.links = 7 :: [] ∧ threadIdle.links = [] := by decide

/-- A thread with a full link stack and a tag of lesser quality in G2. -/
def badThread : Thread := { someThread with links := List.replicate 8 0, g := [(1, ⟨0x1FFFC, 0x94⟩), (2, ⟨3, 0⟩)] }

theorem witness_EngineTrapsAndDone : (issuing badThread 0).mayIssue 0 0 = true ∧ 8 ≤ badThread.links.length ∧ badThread.dataAddr 2 0 % 4 ≠ 0 ∧
    badThread.dataAddr 1 0x3FFFFFC % 8 = 0 ∧ 0x1FFFF < badThread.dataAddr 1 4 + 7 ∧ 131072 ≤ badThread.slotIdx 1 4 ∧
    tagClean (tagComb (badThread.reg 2).tag badThread.pt) = false := by decide

/-- CAN controller 1's receive ring in engine 0's data memory. -/
def someRing : RxRing := ⟨0, 0, 0x1000, 0x400, 0, 0, 0, 0, []⟩

/-- Engine 0 with a receive ring at 0x1000. -/
def withRing (d : Dev) : Dev := { d with eng := { d.eng with rings := [(1, some someRing)] } }

theorem witness_stores_into_ring : (withRing (issuing badThread 0)).touchesRing 0 0x1000 4 = true := by decide

/-- Engine 0 with a handler for every kind of event and a sorted lookup table of one entry. -/
def withVectors (d : Dev) : Dev :=
  { d with eng := { d.eng with vecs := [(0, 1), (1, 1), (2, 1), (3, 1), (4, 1), (5, 1), (6, 1)], lktabs := [(0, (0x40, 1))] } }

theorem witness_EngineLookupRateAndPost : (withVectors (issuing someThread 0)).vec 0 0 6 ≠ 0xFFFF ∧
    ((withVectors (issuing someThread 0)).thread 0 0).evq.length < 32 ∧ someThread.handle 1 = none ∧
    (issuing someThread 0).freeAsm 0 = some 0 ∧ someThread.handle 0 = some 2 := by decide

theorem witness_EnginePackAndUnpack : someThread.ev = some someEvent ∧ someEvent.kind < 2 ∧
    ((issuing someThread 0).descriptor 0 8).toOption = some 0 ∧ plainDesc 0 ∧ 63 * 8 + 7 < 64 * 8 ∧
    ((issuing someThread 0).listCount 0 0).toOption = some 1 ∧ someThread.unseen = [] ∧ ∀ p ∈ descNeeds 0, p < 2560 * 8 := by unfold plainDesc; decide

/-- A thread with an event queued, a timer due, an overrun, waiting for nothing. -/
def eventThread : Thread :=
  { threadIdle with evq := [⟨6, 1, 0, 0, 0⟩], timer := some (0, some 1000, 9), insns := 200, slice := 200 }

/-- Engine 0 with that thread, a limiter armed. -/
def eventDev : Dev :=
  let d := withVectors (issuing eventThread 0)
  { d with frc := 2000000, tns := 2000000, eng := { d.eng with limiters := [(0, ⟨1, 10, 4, true, 7, 0, 0, some (0, 5)⟩)] } }

theorem witness_EngineEvents : eventDev.enginesRun = true ∧ eventThread.ev = none ∧ eventDev.oldestRing 0 0 = none ∧
    eventDev.vec 0 0 3 ≠ 0xFFFF ∧ (∀ q ∈ eventThread.evq, ¬(q.kind = 3 ∧ q.code = 9)) ∧ (eventDev.limiter 0 0).tokens < (eventDev.limiter 0 0).burst ∧
    (eventDev.limiter 0 0).nextToken ≤ eventDev.tns ∧ Tab.get (fun _ => 0) eventDev.eng.loadMs 0 < eventDev.frc.toNat / 1000000 := by decide

/-- The same with a ring record that arrived at `at'`, handled by the thread, an event of a slot in its queue. -/
def ringEventDev (at' : Nat) : Dev :=
  let d := withVectors (issuing { eventThread with evq := [⟨2, 7, 8, 0, 50⟩], started := some 0 } 0)
  let r := { someRing with used := 40, recs := [⟨0, 40, 0, at', someEvent⟩] }
  { Dev.put (Fld.ENG_THR_TIME_TIME_BUDGET 0 0) 100 d with tns := 2000000, eng := { d.eng with rings := [(1, some r)] } }

theorem witness_EngineEvents_rings : (ringEventDev 40).enginesRun = true ∧ ((ringEventDev 40).thread 0 0).ev = none ∧
    (∀ at' ∈ [40, 50], (ringEventDev at').oldestRing 0 0 = some (1, ⟨0, 40, 0, at', someEvent⟩)) ∧
    (∀ x ∈ ((ringEventDev 40).thread 0 0).evq.head?, 40 ≤ x.arrival) ∧ ((ringEventDev 60).thread 0 0).evq = [⟨2, 7, 8, 0, 50⟩] ∧
    (ringEventDev 60).oldestRing 0 0 = some (1, ⟨0, 40, 0, 60, someEvent⟩) ∧
    ({ eventDev with eng := { eventDev.eng with threads := [(0, { eventThread with evq := [⟨2, 7, 8, 0, 50⟩] })] } } : Dev).oldestRing 0 0 = none ∧
    (let th := { someThread with started := some 0, wait := .load 9000000 }
     let d := ringEventDev 40
     let d : Dev := { d with eng := { d.eng with threads := [(0, th)] } }
     th.ev.isSome = true ∧ th.started = some 0 ∧ 1000 * d.fld (Fld.ENG_THR_TIME_TIME_BUDGET 0 0) < d.tns - 0 ∧
      (d.thread 0 0).isReady d.tns = false) := by decide

/-- Threads 0 and 1 ready, thread 0 past its time slice and budget; thread 2 waits for a buffer. -/
def busyDev : Dev :=
  let d := issuing someThread 0
  { d with eng := { d.eng with threads := [(0, { someThread with insns := 200, slice := 200 }), (1, someThread),
      (2, { someThread with wait := .buffer 1 4 })] } }

theorem witness_EngineEvents_budget : (busyDev.thread 0 0).ev.isSome = true ∧ (busyDev.thread 0 0).wait = .ready ∧
    busyDev.fld (Fld.ENG_THR_TIME_SLICE 0 0) ≤ (busyDev.thread 0 0).slice ∧ (busyDev.thread 0 1).isReady busyDev.tns = true ∧
    busyDev.fld (Fld.ENG_THR_CFG_INSN_BUDGET 0 0) ≤ (busyDev.thread 0 0).insns ∧ (busyDev.thread 0 2).wait = .buffer 1 4 ∧
    busyDev.freeAsm 0 = some 0 := by decide

/-- Engine 0: thread 0 waits for a FRESH job, thread 1 for an FLD that has ended, thread 2 for a credit. -/
def jobDev : Dev :=
  let d := issuing { someThread with wait := .mac .fresh 0 0 0 0 .live } 0
  { d with eng := { d.eng with
      threads := [(0, { someThread with wait := .mac .fresh 0 0 0 0 .live }), (1, { someThread with wait := .job (some 3) (some (⟨5, 0x94⟩, 0)) }),
        (2, { someThread with wait := .credit 0 64 0 })]
      fresh := [(0, ⟨41, 1, 16, 1, 1, 2, 4⟩)] } }

theorem witness_EngineAuthenticationJobs : jobDev.enginesRun = true ∧ (jobDev.thread 0 0).wait = .mac .fresh 0 0 0 0 .live ∧
    jobDev.macHeld 0 0 0 = false ∧ (jobDev.thread 0 0).handle 0 = some 2 ∧ (jobDev.freshEntry 0 0).mode = 1 ∧
    (jobDev.freshEntry 0 0).counter < 2 ^ 64 - 1 ∧ (jobDev.freshEntry 0 0).layoutEnd 0 ≤ 2560 ∧
    (jobDev.thread 0 1).wait = .job (some 3) (some (⟨5, 0x94⟩, 0)) ∧ (jobDev.thread 0 2).wait = .credit 0 64 0 := by decide

/-- Thread 0 waits for a MACGEN of entry 0, thread 1 for a MACVER of entry 1; the key of slot 2 serves both, or has been lost. -/
def macDev (k : MacKey) : Dev :=
  let d := issuing someThread 0
  { d with
    eng := { d.eng with
      threads := [(0, { someThread with wait := .mac .gen 0 0 0 0 k }), (1, { someThread with wait := .mac .ver 1 0 0 1 k })]
      fresh := [(0, ⟨41, 1, 16, 1, 1, 2, 4⟩), (1, ⟨41, 1, 16, 2, 4, 2, 4⟩)] }
    sec := { d.sec with slots := [(2, ⟨0x820C0001, List.replicate 16 1, List.replicate 16 2⟩)] } }

theorem witness_EngineAuthenticationJobs_mac : (∀ k ∈ [MacKey.live, .kept (some [7]), .lost], (macDev k).enginesRun = true ∧
      ((macDev k).thread 0 0).wait = .mac .gen 0 0 0 0 k ∧ ((macDev k).thread 0 1).wait = .mac .ver 1 0 0 1 k ∧
      (macDev k).macHeld 0 0 0 = false ∧ (macDev k).macHeld 0 1 1 = false) ∧
    ((macDev .live).thread 0 0).handle 0 = some 2 ∧ ((macDev .live).freshEntry 0 0).mode = 1 ∧ ((macDev .live).freshEntry 0 0).macBytes ≤ 16 ∧
    ((macDev .live).freshEntry 0 0).layoutEnd 0 ≤ 2560 ∧ ((macDev .live).thread 0 1).ev = some someEvent ∧ someEvent.kind < 2 ∧
    ((macDev .live).freshEntry 0 1).mode = 2 ∧ ((macDev .live).freshEntry 0 1).layoutEnd 0 ≤ someEvent.length ∧
    (macDev .lost).macKey 0 .gen ((macDev .lost).freshEntry 0 0) .lost = none ∧
    (macDev .live).macKey 0 .ver ((macDev .live).freshEntry 0 1) .live = some (List.replicate 16 3) ∧
    -- counter 41, window 4: the received fields 45 and 46 stand at the two sides of the window
    (∀ c ∈ [45, 46], 41 < c ∧ c ≤ 41 + 2 ^ 16 ∧ c % 2 ^ 16 = c) ∧ 45 - 41 ≤ 4 ∧ 4 < 46 - 41 := by decide +kernel

/-- G1 names the store of node 0, slot 8; G2 a length, G3 an unmapped fabric address. -/
def fabricThread : Thread := { someThread with g := [(1, ⟨0x40000080, 0x94⟩), (2, ⟨16, 0x94⟩), (3, ⟨0xC0000000, 0x94⟩)] }

/-- Queue 2, enabled, for records of engine 0. -/
def queueDev : Dev :=
  let d := withVectors (withSlot 2 (issuing fabricThread 0))
  let d := (d.putFlag (Fld.HQ_STATUS_ENABLED 2) true).put (Fld.HQ_STATUS_ROLE 2) 2
  { d with hq := { d.hq with qs := [(2, { queueIdle with engmask := 1 })] } }

theorem witness_EngineAccessAndQueueJobs : queueDev.fabricCode false (fabricThread.fabricAddr 1 0) = 0 ∧
    fabricNode (fabricThread.fabricAddr 1 0) = 0 ∧ fabricSpace (fabricThread.fabricAddr 1 0) = 1 ∧
    queueDev.fabricCode false (fabricThread.fabricAddr 3 0) ≠ 0 ∧ queueDev.fabricCode true (fabricThread.fabricAddr 1 0) = 0 ∧
    queueDev.storeAdmits (.engine 0) 8 = true ∧ queueDev.enabled 2 = true ∧ queueDev.role 2 = 2 ∧ bit (queueDev.queue 2).engmask 0 = true ∧
    queueDev.writeCode .host (Reg.ENG_DOORBELL 0) 0 = 0 ∧ queueDev.vec 0 0 5 ≠ 0xFFFF := by decide

/-- The same with a D2H ring of 4096 bytes and version 3. -/
def ringDev : Dev := (queueDev.put (Fld.HQ_D2H_SIZE_LOG2 2) 12).put (Fld.HQ_VER_CHOSEN 2) 3

theorem witness_EngineAccessAndQueueJobs_qput : (fabricThread.reg 2).value.toNat = 16 ∧ 8 + 16 ≤ 0x20000 ∧
    (∀ r : Rec, r.payload = ringDev.dmem 0 8 16 → ringDev.lenRefused 2 r = false) :=
  ⟨by decide, by decide, fun r h => by unfold Dev.lenRefused Rec.span; rw [h]; decide⟩

/-- Queue 2, not enabled, with its rings set out: all that an enable asks for. -/
def offerDev : Dev := ((inRun.put (Fld.HQ_D2H_SIZE_LOG2 2) 12).put (Fld.HQ_VER_CHOSEN 2) 3).put (Fld.HQ_STATUS_ROLE 2) 5

theorem witness_QueueConfiguration : offerDev.writeCode .host (Reg.HQ_VER 2) 0 = 0 ∧ offerDev.enabled 2 = false ∧ queueDev.enabled 2 = true ∧
    offerDev.writeCode .host (Reg.HQ_CTRL 2) 1 = 0 ∧ offerDev.version 2 ≠ 0 ∧ 1 ≤ offerDev.role 2 ∧ offerDev.role 2 ≤ 5 ∧
    offerDev.inService = true ∧ offerDev.fld (Fld.HQ_D2H_BASE_LO_BASE 2) % 4096 = 0 ∧ offerDev.fld (Fld.HQ_WB_LO_WB 2) % 16 = 0 ∧
    offerDev.fld (Fld.HQ_D2H_SIZE_LOG2 2) = 12 ∧ offerDev.fld (Fld.HQ_H2D_SIZE_LOG2 2) = 0 ∧
    queueDev.writeCode .host (Reg.HQ_CTRL 2) 0 = 0 ∧ queueDev.writeCode .mgmt (Reg.HQ_D2H_CONS 2) 64 = 0 ∧
    queueDev.writeCode .host (Reg.HQ_H2D_PROD 2) 32 = 0 ∧
    (let d := (offerDev.put (Fld.HQ_STATUS_ROLE 2) 1).put (Fld.HQ_H2D_SIZE_LOG2 2) 12
     d.writeCode .host (Reg.HQ_CTRL 2) 1 = 0 ∧ d.enabled 2 = false ∧ d.version 2 ≠ 0 ∧ d.role 2 = 1 ∧ d.inService = true ∧
      12 ≤ d.fld (Fld.HQ_H2D_SIZE_LOG2 2) ∧ d.fld (Fld.HQ_H2D_SIZE_LOG2 2) ≤ 24) := by decide

/-- A record of eight bytes. -/
def someRec : Rec := ⟨1, 0, 0, false, false, 0, 0, List.replicate 8 7, 0, .event⟩

/-- The host link up, bus mastering enabled. -/
def linked (d : Dev) : Dev := (d.putFlag Fld.BRG_STATUS_LINK true).putFlag Fld.BRG_STATUS_BME true

/-- Queue 2 with a record that waits; with a record in progress, one of its words committed; with a holdoff that has ended. -/
def waitDev : Dev := linked { ringDev with hq := { ringDev.hq with qs := [(2, { queueIdle with waiting := [someRec] })] } }
def curDev : Dev := linked { ringDev with
  hq := { ringDev.hq with qs := [(2, { queueIdle with cur := some ⟨someRec, 0, 0, 0⟩, lastMsg := some 0, gathered := true })] }
  eng := { ringDev.eng with threads := [(0, { someThread with wait := .space 2 8 16 0 })] } }

theorem witness_QueueRecords : waitDev.enabled 2 = true ∧ (waitDev.queue 2).cur = none ∧ waitDev.mayMaster = true ∧
    (waitDev.queue 2).waiting = [someRec] ∧ waitDev.qputLate someRec.prod = false ∧ waitDev.lenRefused 2 someRec = false ∧ waitDev.hasRoom 2 someRec = true ∧
    curDev.mayMaster = true ∧ (curDev.queue 2).cur = some ⟨someRec, 0, 0, 0⟩ ∧ curDev.version 2 = 3 ∧
    3 ≤ curDev.fld (Fld.HQ_D2H_SIZE_LOG2 2) ∧ curDev.writeCode .host (Reg.HQ_CMD 2) 1 = 0 ∧ (curDev.rd (Reg.HQ_CMD_ARG 2)).toNat = 0 ∧
    (0 : Nat) < someRec.payload.length ∧ (curDev.thread 0 0).wait = .space 2 8 16 0 ∧ (curDev.queue 2).lastMsg = some 0 ∧
    (curDev.queue 2).gathered = true ∧ 0 + 1000 * curDev.fld (Fld.HQ_IRQ_HOLDOFF 2) ≤ curDev.tns := by decide

theorem witness_RegisterAccesses : inRun.writeCode .host (Reg.HQ_D2H_BASE_LO 3) 0 = 0 ∧ pairLow (Reg.HQ_D2H_BASE_LO 3) = none ∧ pairWidth (Reg.HQ_D2H_BASE_LO 3) = 0 ∧
    0xD00000 ≤ Reg.HQ_D2H_BASE_LO 3 ∧ Reg.HQ_D2H_BASE_LO 3 % 0x100 ∉ [0x00, 0x08, 0x40, 0x50, 0x64, 0x68, 0x70] ∧
    pairLow Reg.SIG_STALE_EVT = none ∧ regMask (· = .rc) Reg.SIG_STALE_EVT ≠ 0 ∧ inRun.pathOpen .host Reg.SIG_STALE_EVT = true ∧
    inRun.pathOpen (.thread 0 0) Reg.TB_FRC_LO = true ∧
    pairLow (Reg.PH_DOM_PRESET_HI 3) = some (Reg.PH_DOM_PRESET_LO 3) ∧ setMask (Reg.PH_DOM_PRESET_HI 3) ≠ 0 ∧
    inRun.writeCode .host (Reg.PH_DOM_PRESET_HI 3) 0 = 0 ∧ inRun.writeCode .host (Reg.PH_DOM_PRESET_LO 3) 0 = 0 := by decide

/-- Slot 8 stale by age; the window of node 1, gone, with slots 8 and 9. -/
def staleDev : Dev :=
  let d := linked ((inRun.wr (Reg.SIG_AGE 1) 1).put Fld.MGT_STATUS_HOLDER 1)
  { d with frc := 2000000
           store := { d.store with slots := [(8, { slotUndefined with isDefined := true, ageIdx := 1, tag := 0x84 })], windows := [(1, (8, 2))],
                                   gone := [(1, ⟨true, []⟩)] } }

theorem witness_HostAndStoreAccesses : staleDev.flag Fld.BRG_STATUS_LINK = true ∧ staleDev.halfReset 0 = false ∧ staleDev.inService = true ∧ staleDev.hq.stalled = [] ∧
    staleDev.hq.posted = [] ∧ staleDev.leaseOk .host = true ∧ staleDev.storeAdmits .host 8 = true ∧ staleDev.scanMarks 8 = true ∧
    staleDev.markNode = some 1 ∧ (staleDev.slot 8).isDefined = true ∧ (staleDev.slot 8).owner ≠ 7 ∧ (staleDev.window 1).1 + staleDev.markPos 1 = 8 ∧ tagStale (staleDev.slot 8).tag = false ∧
    (8 : Nat) ∉ (staleDev.gone 1).written ∧ staleDev.pathOpen .host (0x300000 + 8 * 8) = true ∧
    inRun.fld (Fld.BRG_PAGE_NODE 1) = 0 ∧ inRun.fld (Fld.BRG_PAGE_SPACE 1) = 2 ∧
    (linked { inRun with mode := .configure }).flag Fld.BRG_STATUS_LINK = true := by decide

/-- Queue 2 as an ETH queue: a descriptor to fetch; a descriptor with a frame to enter; one to retire; a masked vector pending. -/
def ethQueueDev (qu : Queue) : Dev :=
  let d := ((linked (queueDev.put (Fld.HQ_STATUS_ROLE 2) 1)).wr (Reg.HQ_H2D_PROD 2) 64).putFlag (Fld.ETH_STATUS_LINK 12) true
  { d with hq := { d.hq with qs := [(2, qu)], log := [⟨1, 2, 3⟩] }
           sw := { d.sw with on := true, cfg := [(12, some ⟨1518, 1, 0, true, true, false, false, 0, []⟩)] } }
def frameDesc : Desc := ⟨0, 5, true, 0, 0, [⟨0, List.replicate 60 0, false, 0⟩]⟩

theorem witness_BridgeLinkAndDescriptors : (ethQueueDev queueIdle).mayMaster = true ∧
    (ethQueueDev queueIdle).fetchNext (headClass 2 0 []) = some 2 ∧ inRun.mode ≠ .rom ∧ (ethQueueDev queueIdle).enabled 2 = true ∧
    (ethQueueDev queueIdle).role 2 = 1 ∧ ((ethQueueDev queueIdle).rd (Reg.HQ_H2D_PROD 2)).toNat ≠ queueIdle.fetched ∧
    (let d := ethQueueDev { queueIdle with descs := [frameDesc] }
     (d.queue 2).descs = [frameDesc] ∧ d.swRuns = true ∧ d.swLink 12 = true ∧ d.headroomUsed 12 + cellsOf 60 ≤ d.headroom 12) ∧
    (let y := { frameDesc with frames := [], sent := 1 }
     let d := ethQueueDev { queueIdle with descs := [y] }
     (d.queue 2).descs = [y] ∧ d.descDone 2 y = true ∧ (d.queue 2).txdoneDue = false ∧ d.hq.log = [⟨1, 2, 3⟩]) ∧
    inRun.flag Fld.BRG_STATUS_LINK = false ∧ inRun.inService = true ∧ inRun.writeCode .host (Reg.MSIX_CTRL 4) 0 = 0 ∧
    (ethQueueDev queueIdle).pathOpen .host Reg.BRG_LOG_W0 = true := by decide

/-- Group `g` under a mismatch, until the link has trained again where `retrain`; the last value its source side wrote is `v`. -/
def mismatched (g : Nat) (retrain : Bool) (v : Nat) (d : Dev) : Dev :=
  { d with flt := { d.flt with halfReset := [(g, some ⟨0, retrain⟩)], crossings := [(g, { crossIdle with value := v })] } }

theorem witness_BridgeLinkAndDescriptors_link :
    (let d : Dev := { inRun with flt := { inRun.flt with crossings := [(0, { crossIdle with value := 1 })] } }
     bit (d.crossing 0).latest 0 = true ∧ d.mode ≠ .rom ∧ d.halfReset 0 = false) ∧
    (let d := mismatched 0 true 1 inRun
     bit (d.crossing 0).latest 0 = true ∧ d.mode ≠ .rom ∧ d.halfReset 0 = true) ∧
    bit (inRun.crossing 0).latest 0 = false ∧ Tab.get (fun _ => none) inRun.flt.halfReset 0 = none ∧
    (let d := mismatched 0 true 0 inRun
     bit (d.crossing 0).latest 0 = false ∧ Tab.get (fun _ => none) d.flt.halfReset 0 = some ⟨0, true⟩) := by decide

/-- A route event of each kind: to thread 0 of engine 0, to queue 2, to phase domain 1. -/
def routed (w : Word) : Dev := { withVectors queueDev with store := { queueDev.store with routeQ := [⟨8, w, 0⟩] } }

theorem witness_RouteDelivery : routeKind 0x08000005 = 1 ∧ (routed 0x08000005).enginesRun = true ∧ (routed 0x08000005).vec 0 0 2 ≠ 0xFFFF ∧
    ((routed 0x08000005).thread 0 0).evq = [] ∧ routeKind 0x10400007 = 2 ∧ (routed 0x10400007).enabled (bits 0x10400007 26 21) = true ∧
    routeKind 0x22000000 = 4 ∧ bits 0x22000000 26 25 = 1 := by decide

/-- The same for thread 0 of engine 0 with an event queue, or without a vector for slot events. -/
def routedTo (q : List QEvent) (vec : Bool) : Dev :=
  let d := routed 0x08000005
  { d with eng := { d.eng with vecs := if vec then d.eng.vecs else [], threads := [(0, { someThread with evq := q })] } }

theorem witness_RouteDelivery_others :
    (let d := routedTo [⟨2, 5, 8, 0, 0⟩] true
     d.enginesRun = true ∧ d.vec 0 0 2 ≠ 0xFFFF ∧ ∃ q ∈ (d.thread 0 0).evq, q.kind = 2 ∧ q.code = 5 ∧ q.source = 8) ∧
    (routedTo [] false).vec 0 0 2 = 0xFFFF ∧ (routedTo [] false).enginesRun = true ∧
    (let d := routedTo (List.replicate 32 ⟨6, 1, 0, 0, 0⟩) true
     (∀ q ∈ (d.thread 0 0).evq, q.kind ≠ 2) ∧ 32 ≤ (d.thread 0 0).evq.length) ∧
    routeKind 0x18200003 = 3 ∧ bits 0x18200003 26 21 = 1 ∧ (routed 0x18200003).isMember 1 = false ∧
    (let d := (routed 0x18200003).put (Fld.RING_NODE_STAT_STATE 1) 2
     d.isMember 1 = true ∧ d.immediate (bits 0x18200003 20 0) = false ∧ (d.node 1).exports.length < 255) ∧
    routeKind 0x28000100 = 5 ∧ (routed 0x28000100).recorderRuns = true ∧ (routed 0x28000100).flag Fld.REC_STATUS_FULL = false ∧
    (routed 0x28000100).flag Fld.REC_STATUS_RESERVE = false ∧ (routed 0x28000100).sec.fifo.length < 64 ∧
    (routed 0x28000100).flag Fld.SYS_STATUS_HALT = false ∧
    ((routed 0x28000100).putFlag Fld.REC_STATUS_FULL true).flag Fld.REC_STATUS_FULL = true := by decide

/-- The part with pins for encoder 1, for controller 1's TXD and RXD, and for PPS output 0. -/
def pinned (d : Dev) : Dev :=
  { d with img := { d.img with pins := [(0, 0x05010000), (1, 0x07010000), (2, 0x01010000), (3, 0x02010000), (4, 0x08000000)] } }

/-- Domain 0 on encoder 1, turning forward; domain 1 on slot 8; actions 3 (DIO line 2) and 5 (a ring command to node 1), both armed. -/
def domA : PhDom := { phNone with present := true, encoder := 1, inc := 100, zResync := true, ztol := 5, stalled := false, edgeAt := 0, vNum := 1,
                                  vDen := 10, waiting := [(3, 0)], seen := 0 }
def domB : PhDom := { phNone with present := true, source := 1, srcSlot := 8, stalled := false, update := true, vgain := 1 }
def phaseDev (tag : Byte) : Dev :=
  let d := ((inRun.put (Fld.PH_ACT_SHAPE_KIND 3) 1).put (Fld.PH_ACT_SHAPE_TARGET 3) 2).put (Fld.PH_ACT_SHAPE_KIND 5) 8
  let d := ((d.put (Fld.PH_ACT_SHAPE_DIR 5) 1).put (Fld.PH_ACT_SHAPE_TARGET 5) 0x100).put (Fld.PH_ACT_P_LO_P 5) 150
  let d := ((d.putFlag (Fld.PH_ACT_STATUS_ARMED 3) true).putFlag (Fld.PH_ACT_STATUS_ARMED 5) true).put (Fld.PH_ACT_CTRL_WIDTH 5) 9
  let d := d.put (Fld.PH_DOM_VMIN 0) 100000
  { d with frc := 1000, tns := 5000, phase := { d.phase with doms := [(0, domA), (1, domB)], pulses := [(4, 4000)] }
           store := { d.store with slots := [(8, { slotUndefined with isDefined := true, tag := tag, value := 9 })] } }

theorem witness_PhaseDomains : (phaseDev 0x84).phaseRuns = true ∧ ((phaseDev 0x84).phDom 0).present = true ∧ domA.source = 0 ∧ domA.encoder = 1 ∧
    domA.reverse = false ∧ (phaseDev 0x84).withinStall 0 (1000 - domA.edgeAt) = false ∧ domB.update = true ∧ domB.source = 1 ∧
    tagValid ((phaseDev 0x84).evalSlot 8).tag = true ∧ tagStale ((phaseDev 0x84).evalSlot 8).tag = false ∧
    tagSubst ((phaseDev 0x84).evalSlot 8).tag = false ∧ tagValid ((phaseDev 4).evalSlot 8).tag = false ∧
    (phaseDev 4).writeCode .host (Reg.PH_DOM_CTRL 0) 0 = 0 ∧ domA.filterNs ≤ (0 : BitVec 16).toNat ∧
    (pinned (phaseDev 0x84)).pinBound 5 1 = true ∧ (pinned (phaseDev 0x84)).pinBound 7 1 = true ∧
    (true : Bool) ≠ (pinned (phaseDev 0x84)).encInvert 7 1 ∧ domA.zResync = true ∧ domA.zpos < 2 ^ 24 ∧ domA.frozen = false ∧
    ({ domB with source := 2, count := some 4, frozen := true } : PhDom).source ≠ 1 := by decide

theorem witness_PhaseActions : (phaseDev 0).phaseRuns = true ∧ domA.stalled = false ∧ domA.frozen = false ∧ domA.seen < 2 ^ 40 ∧
    domA.lastDispatch = none ∧ lowestSlot domA.waiting = some (3, 0) ∧ (phaseDev 0).fld (Fld.PH_ACT_SHAPE_KIND 3) = 1 ∧
    (phaseDev 0).actPeriod 3 = 0 ∧ (phaseDev 0).timeToCross 5 = some 510 ∧ (phaseDev 0).fld (Fld.PH_ACT_SHAPE_DOMAIN 5) = 0 ∧
    (phaseDev 0).fld (Fld.PH_ACT_SHAPE_KIND 5) = 8 ∧ (phaseDev 0).flag (Fld.PH_ACT_STATUS_ARMED 5) = true ∧
    (∀ w ∈ ((phaseDev 0).phDom 0).waiting, w.1 ≠ 5) ∧ bits ((phaseDev 0).fld (Fld.PH_ACT_SHAPE_TARGET 5)) 13 8 = 1 ∧
    (phaseDev 0).isMember 1 = false ∧ 510 ≤ 1000 * (phaseDev 0).fld (Fld.RING_NODE_LAT 1) + 1000 * (phaseDev 0).fld (Fld.PH_ACT_CTRL_WIDTH 5) ∧
    (phaseDev 0).actPeriod 5 = 0 ∧ Tab.get (fun _ => 0) (phaseDev 0).phase.pulses 4 = 4000 ∧ 4000 ≤ (phaseDev 0).tns ∧
    domA.base < 2 ^ 40 ∧ (phaseDev 0).mode ≠ .safe ∧ (phaseDev 0).actedAbove 2 1 = false ∧
    ((phaseDev 0).put (Fld.RING_NODE_STAT_STATE 1) 2).isMember 1 = true ∧ ((phaseDev 0).node 1).queue = [] ∧
    (phaseDev 0).writeCode .host (Reg.PH_ACT_P_LO 5) 0 = 0 ∧ (phaseDev 0).actions = [3, 5] := by decide

/-- Domain 0 waits with action 3 and domain 1 with action 4 (both on DIO lines): one cycle serves both. -/
theorem witness_PhaseActions_lower :
    (let d := (phaseDev 0).put (Fld.PH_ACT_SHAPE_KIND 4) 2
     let d : Dev := { d with phase := { d.phase with doms := [(0, domA), (1, { domB with waiting := [(4, 900)] })] } }
     d.phaseRuns = true ∧ (d.phDom 1).present = true ∧ lowestSlot (d.phDom 1).waiting = some (4, 900) ∧ (d.phDom 1).lastDispatch = none ∧
      d.fld (Fld.PH_ACT_SHAPE_KIND 4) = 2 ∧ d.actPeriod 4 = 0 ∧ (∀ w ∈ (d.phDom 0).waiting, w.1 < 1024 ∧ w.1 ≠ 4) ∧
      lowestSlot (d.phDom 0).waiting = some (3, 0) ∧ d.fld (Fld.PH_ACT_SHAPE_KIND 3) ≠ 8 ∧ (d.phDom 0).lastDispatch = none) ∧
    ((phaseDev 0).phDom 0).waiting ≠ [] := by decide

/-- Line 2 an input with slot 8 and wake on the rising edge. -/
def lineDev (m : Mode) : Dev :=
  let d := withSlot 5 { inRun with mode := m }
  { d with phase := { d.phase with dio := [(2, { dioNone with input := true, slot := some 8, wakeOn := true, wakeEdge := 1 })] } }

theorem witness_DiscreteLines : (lineDev .run).inService = true ∧ ((lineDev .run).dioLine 2).input = true ∧
    ((lineDev .run).dioLine 2).level ≠ some true ∧ (lineDev .run).dioForced 2 = false ∧ (lineDev .run).storeAdmits .dio 8 = true ∧
    (lineDev .run).writeCode .host (dioRegAddr .set) 4 = 0 ∧ (lineDev .run).flag Fld.FLT_STATUS_SAFE_ACT = false ∧
    1000 * ((lineDev .run).dioLine 2).debounce ≤ (0 : BitVec 32).toNat ∧ (∀ n, n < 32 → (lineDev .run).actedAbove n 0 = false) ∧
    1000 * ((lineDev .run).dioLine 2).debounce ≤ (lineDev .run).tns - (lineDev .run).phase.entryAt ∧
    ((lineDev .doze).dioLine 2).wakeFilter ≤ (0 : BitVec 16).toNat ∧
    ((lineDev .doze).dioLine 2).wakeOn = true ∧ bit ((lineDev .doze).dioLine 2).wakeEdge 0 = true := by decide

/-- Both power dies under the logic die's control, link up; channel 1 on, with a PWM to come, channel 2 hot, channel 0 latched. -/
def chOnW : DieCh := { chBlank with on := true, pwmEn := true, diagEn := true, freq := 100, duty := 512, ioc := 300, iinr := 900, inrMs := 5,
                                    vref := 1200, freqUse := 100, dutyUse := 512 }
def ownedDie : Die := { dieNone with mode := .owned }
def loadDev (x : Die) : Dev :=
  let d := (inRun.putFlag Fld.LS_STATUS_PS0_LINK true).putFlag Fld.LS_STATUS_PS1_LINK true
  { d with tns := 400000000
           loads := { d.loads with dies := [(0, x), (1, ownedDie)], warm := [2]
                                   chs := [(0, { chOnW with cause := 1 }), (1, chOnW), (2, chOnW), (3, { chOnW with inrush := some 7 })]
                                   cfg := [(1, some ⟨100, 1000, 2000, 50, 10, 1000⟩)] } }

theorem witness_LoadProtection : (loadDev ownedDie).hasLoads = true ∧ (loadDev ownedDie).linkUp 0 = true ∧ (loadDev ownedDie).loads.reverse = false ∧
    (loadDev ownedDie).chConducts 1 = true ∧ (loadDev ownedDie).inInrush 1 = false ∧ ((loadDev ownedDie).chLimits 1).1 = 300 ∧
    (loadDev ownedDie).chOn 2 = true ∧ (loadDev ownedDie).loads.warm.contains 2 = true ∧ ((loadDev ownedDie).dieCh 3).inrush = some 7 ∧
    ((loadDev ownedDie).die 0).powered = true ∧ ((loadDev ownedDie).die 0).inLimp = false ∧ ((loadDev ownedDie).dieCh 1).pwmEn = true ∧
    ((loadDev ownedDie).dieCh 1).freq ≠ 0 ∧ ((loadDev ownedDie).dieCh 0).cause ≠ 0 ∧ ((loadDev ownedDie).dieCh 0).diagEn = true ∧
    ((loadDev ownedDie).dieCh 0).diagAt = none ∧
    -- 100 Hz: a period of 10,000 µs; channel 1 starts 833 µs after the reference
    pwmPeriod 100 = 10000 ∧ ((loadDev ownedDie).die 0).pwmRef + 1000 * (1 * roundDiv 10000 12) ≤ (loadDev ownedDie).tns ∧
    ((loadDev ownedDie).dieCh 1).startAt + 1000 * 10000 ≤ (loadDev ownedDie).tns := by decide

theorem witness_PhaseActions_pulseEnd :
    (let d := loadDev ownedDie
     let d : Dev := { d with loads := { d.loads with chs := [(1, { chOnW with pulse := some 5 })] }, phase := { d.phase with pulses := [(33, 5)] } }
     d.hasLoads = true ∧ (d.dieCh 1).pulse = some 5 ∧ 5 ≤ d.tns ∧ (d.die 0).powered = true ∧ Tab.get (fun _ => 0) d.phase.pulses 33 ≠ 0) := by
  decide

theorem witness_LoadSupply : ((loadDev ownedDie).die 0).supply = 0 ∧ ((loadDev ownedDie).die 1).supply = 0 ∧
    ((loadDev { ownedDie with supply := 1 }).die 0).supply ≠ 0 ∧ ((loadDev ownedDie).die 0).groundLost = false ∧
    (loadDev ownedDie).loads.dip = [] ∧ (loadDev ownedDie).pwmRuns 1 = true ∧
    (let d := loadDev ownedDie
     let d : Dev := { d with loads := { d.loads with dip := [1], dipCode := 1 } }
     d.loads.dip ≠ [] ∧ (0 : Nat) ∉ d.loads.dip ∧ d.loads.dipCode = 1 ∧ (d.die 0).supply = 0) ∧
    (let d : Dev := { loadDev ownedDie with tns := 1000000000 }; d.loads.sumFrom + 1000000000 ≤ d.tns) := by decide

/-- Settings of a channel: on, no PWM. -/
def someSet : ChSet := ⟨true, false, false, false, 0, 0, 300, 900, 5, 1200⟩

/-- Die 0 with a frame on its way. -/
def sending (f : LinkFrame) : Dev := loadDev { ownedDie with queue := [⟨f, 5, 0, 1, false, false⟩] }

theorem witness_LoadCommands : (loadDev ownedDie).writeCode .host (lsRegAddr 1 .thr) 0x0384012C = 0 ∧ (loadDev ownedDie).loadCode 1 .thr 0x0384012C = 0 ∧ (loadDev ownedDie).actedAbove 33 0 = false ∧
    (loadDev ownedDie).chUsed 0 = false ∧ (loadDev ownedDie).chUsed 1 = true ∧ bit (loadDev ownedDie).loads.ctl 1 = false ∧
    bits 0x7C000001 31 24 = 0x7C ∧ (loadDev ownedDie).writeCode .mgmt (Reg.LS_CH_CTRL 1) 0x7C000001 = 0 ∧
    (sending (.clear 0)).NextFrame 0 (.clear 0) 5 ∧ FrameOk 0x45000000000000D9 4 5 := by unfold Dev.NextFrame FrameOk; decide

/-- What a channel that is on reports of itself. -/
def someState : ChState := ⟨1, true, true, false, 100, 512, 0, false, some 500000000⟩

theorem witness_LoadFramesToDies : (∀ f ∈ [LinkFrame.park, .set 1 someSet .keep, .set 1 { someSet with pwmEn := true, freq := 100 } (.starts 20),
      .set 1 someSet .ends, .safe [(1, 2), (2, 1)], .readback, .takeover 0 [someState], .takeover 7 [someState]], (sending f).NextFrame 0 f 5) ∧
    (([(1, 2), (2, 1)] : List (Nat × Nat)).map Prod.fst).Nodup ∧ ((sending .park).die 0).stateId = 0 ∧ (sending .park).loads.limpN = false ∧
    ((sending .park).die 0).mode = .owned ∧ ((sending .park).die 0).inLimp = false ∧ (sending .park).linkRuns = true ∧
    -- PARK arrives in the course of a SLEEP entry
    (let d := sending .park
     ({ d with mode := .sleep, sys := { d.sys with entry := .sleep } } : Dev).NextFrame 0 .park 5) ∧
    ((sending .park).dieCh 1).freqUse ≠ 0 ∧ (loadDev ownedDie).chUsed 1 = true ∧ (loadDev ownedDie).chUsed 0 = false := by
  unfold Dev.NextFrame; decide

/-- Frames of each TYPE with SEQ 5 and payload 0, their CRC worked out by hand; one with a wrong CRC, one of an unlisted TYPE. -/
theorem witness_LoadFramesToDies_words : FrameOk 0x150000000000001A 1 5 ∧ FrameOk 0x250000000000005B 2 5 ∧ FrameOk 0x3500000000000081 3 5 ∧
    FrameOk 0x5500000000000003 5 5 ∧ FrameOk 0x6500000000000042 6 5 ∧ FrameOk 0x7500000000000098 7 5 ∧ FrameOk 0x9500000000000028 9 5 ∧
    FrameOk 0xA500000000000069 10 5 ∧ FrameOk 0xC5000000000000EB 12 5 ∧ linkOk typesDown 0x250000000000005C = false ∧
    linkOk typesDown 0x80000000000000A7 = false ∧ linkOk typesUp 0x250000000000005B = false := by unfold FrameOk; decide

theorem witness_LoadFramesFromDies : (loadDev ownedDie).inService = true ∧ ((loadDev ownedDie).die 0).reports = [] ∧
    (loadDev ownedDie).linkUp 0 = true ∧
    (let x := { ownedDie with answer := some (0, [someState]) }; ((loadDev x).die 0).answer = x.answer ∧ x.powered = true) ∧
    ((sending .park).die 0).queue = [] ++ ⟨.park, 5, 0, 1, false, false⟩ :: [] ∧ 0 + 20000 ≤ (sending .park).tns ∧
    ((loadDev ownedDie).die 0).linkDown = false ∧ ((loadDev ownedDie).die 0).linkHeard + 350000 ≤ (loadDev ownedDie).tns ∧
    ((loadDev { ownedDie with linkDown := true }).die 0).queue = [] := by decide

/-- Channel 1 mapped to LHI0, policy LIMP for die 0, T_HOLD 10 ms. -/
def otpDev (x : Die) : Dev :=
  let d := loadDev x
  { d with loads := { d.loads with otp := [(0, 0x02A00000), (2, 0x10000000)], otpUse := [(0, 0x02A00000), (2, 0x10000000)] } }

theorem witness_LoadSilence : ((loadDev ownedDie).die 0).heard + 350000 ≤ (loadDev ownedDie).tns ∧
    0 + 1000000 * (otpDev { ownedDie with mode := .hold 0 }).tHold 0 ≤ (otpDev { ownedDie with mode := .hold 0 }).tns ∧
    bit ((otpDev { ownedDie with mode := .hold 0 }).otpUsed 0 0) 21 = true ∧ bit ((loadDev { ownedDie with mode := .hold 0 }).otpUsed 0 0) 21 = false ∧
    0 + 300000000 ≤ (loadDev { ownedDie with mode := .init 0 }).tns ∧ (loadDev dieNone |>.die 0).powered = false ∧
    bit (loadDev ownedDie).loads.lhi 3 ≠ true ∧
    (let d := otpDev { ownedDie with mode := .limp }
     d.limpPinOf 1 = some 0 ∧ (d.die 0).inLimp = true ∧ d.limpOn 1 = false ∧ (d.die 0).limpAt + 10000000 ≤ d.tns ∧
      Tab.get (fun _ => 0) d.loads.lhiAt 0 + 10000000 ≤ d.tns ∧ (d.dieCh 1).latchAt ≠ d.tns) ∧
    (let d := loadDev ownedDie
     ({ d with loads := { d.loads with limpN := true } } : Dev).hasLoads = true) := by decide

/-- CAN controller 1: FD and XL, 64 byte buffers, two cycles of one window, under an own time reference. -/
def someCtl : CanCtl :=
  { fd := true, xl := false, rxOwn := false, modeLine := true, modeRx := false, modeInvert := false, timings := [(1, 2, 3, 4), (5, 6, 7, 8)], ref := 1, refParam := 0
    sizes := [8, 8], sets := [[⟨1, 0, 2, 100, 50⟩], [⟨1, 0, 2, 200, 50⟩]], use := [[⟨1, 0, 2, 100, 50⟩], [⟨1, 0, 2, 200, 50⟩]], cycleUse := 1000
    tx := none, seq := 7, steps := [], cycleAt := 0, inCycle := true, next := 0, win := none, tried := [], sent := [], kept := [], lastRef := 0, landed := none, reached := none }

/-- Controller 1 on the bus with a receive ring, in a mode, buffer 0 filled with a classical frame. -/
def canDev (m : Mode) (c : CanCtl) : Dev :=
  let d := withRing ((((inRun.put (Fld.CAN_STATUS_STATE 1) 2).put (Fld.CAN_TXB_STAT_STATE 1 0) 1).put (Fld.CAN_CYCLE_CYCLE_US 1) 1000).put
    (Fld.CAN_STATUS_TIMING 1) 1 |>.put (Fld.CAN_TXB_STAT_OWNER 1 0) 0)
  { d with mode := m, frc := 2000000, tns := 2000000, can := { d.can with ctls := [(1, some c)], bufs := [(64, ⟨⟨0, 0x123, 0, 4, [1, 2, 3, 4]⟩, false⟩)] } }

/-- A classical frame of two bytes. -/
def shortFrame : CanFrame := { longFrame with dlc := 2, payload := [1, 2] }

theorem witness_CanReception : (canDev .run someCtl).onBus 1 = true ∧ (pinned (canDev .run someCtl)).pinBound 2 1 = true ∧
    (canDev .run someCtl).pinBound 2 1 = false ∧ (canDev .run someCtl).canCtl 1 = some someCtl ∧ someCtl.takes 0 = true ∧
    someCtl.takes 2 = false ∧ (canDev .run someCtl).ring 1 = some someRing ∧ someRing.place (24 + 8) = some (0, 0) ∧
    shortFrame.payload.length = canLength shortFrame ∧ ({ someRing with used := 0x400 } : RxRing).place 32 = none ∧
    (canDev .run someCtl).writeCode .host (Reg.CAN_INJ_CTRL 1) 1 = 0 ∧ (canDev .factory someCtl).writeCode .host (Reg.CAN_INJ_CTRL 1) 1 = 0 ∧
    injectLenOk 0x9 0 = false ∧ injectLenOk 0x2002 0 = true ∧
    (let d := (canDev .doze someCtl).putFlag (Fld.CAN_WAKE_ID_EN 1) true
     (d.canCtl 1).isSome = true ∧ d.pinBound 2 1 = false ∧ (pinned d).pinBound 2 1 = true ∧ d.flag (Fld.CAN_WAKE_ID_EN 1) = true ∧ d.flag (Fld.CAN_WAKE_ID_IDE 1) = false ∧
      d.fld (Fld.CAN_WAKE_DATA_MASK 1) = 0 ∧ 0 &&& d.fld (Fld.CAN_WAKE_MASK 1) = d.fld (Fld.CAN_WAKE_ID_ID 1) &&& d.fld (Fld.CAN_WAKE_MASK 1)) := by
  decide

/-- Engine 0 about to send buffer 2: to a CAN buffer of controller 1, or to the switch. -/
def sendDev (target : Word) : Dev :=
  let d := canDev .run someCtl
  let b := issuing someThread (wordR 0x26 0 1 0 0)
  let regs := (d.put (Fld.ENG_THR_CFG_INSN_BUDGET 0 0) 100).regs
  { d with regs := regs, eng := { b.eng with asmTmpl := [(2, some 4)], templates := [(4, some ⟨target, []⟩)] } }

theorem witness_CanTransmission : (sendDev 0x01000000).Issues 0 0 (wordR 0x26 0 1 0 0) ∧ ((sendDev 0x01000000).thread 0 0).handle 0 = some 2 ∧
    bits ((sendDev 0x01000000).txTarget 0 2).toNat 31 30 = 0 ∧ (sendDev 0x01000000).canTxCode 1 0 0 0 8 = 0 ∧
    bits ((sendDev 0x40000000).txTarget 0 2).toNat 31 30 = 1 ∧ (sendDev 0x40000000).creditFree = false ∧
    (canDev .run someCtl).onBus 1 = true ∧ (canDev .run someCtl).mayStart 1 someCtl = [0] ∧ someCtl.rxOwn = false ∧
    (canDev .run someCtl).flag (Fld.CAN_STATUS_HELD 1) = false ∧ (pinned (canDev .run someCtl)).pinBound 1 1 = true ∧
    (pinned (canDev .run someCtl)).pinBound 2 1 = true := by unfold Dev.Issues; decide

theorem witness_CanErrorsAndModes : (canDev .run someCtl).canState 1 = 2 ∧ (canDev .run someCtl).busOff 1 = false ∧
    ((canDev .run someCtl).put (Fld.CAN_STATUS_STATE 1) 3).canState 1 = 3 ∧ ((canDev .run someCtl).put (Fld.CAN_STATUS_STATE 1) 3).onBus 1 = true ∧
    ((canDev .run someCtl).put (Fld.CAN_STATUS_ERRSTATE 1) 2).busOff 1 = true ∧ (someCtl.xl || !someCtl.fd) = false ∧
    ((canDev .run someCtl).put (Fld.CAN_STATUS_STATE 1) 1).canState 1 = 1 ∧ (canDev .run someCtl).writeCode .host (Reg.CAN_CTRL 1) 0 = 0 ∧
    someCtl.timings.length ≤ 2 ∧ (1 : Nat) < someCtl.timings.length ∧ someCtl.tx = none ∧
    (canDev .run someCtl).fld (Fld.CAN_STATUS_TIMING 1) ≠ (canDev .run someCtl).fld (Fld.CAN_CTRL_TIMING_SEL 1) := by decide

/-- The domain has been set back behind the present cycle's start, and has passed a multiple of the cycle time since. -/
theorem witness_CanMatrix_landed :
    (let c := { someCtl with cycleAt := 5000000, landed := some 500000, reached := some 5100000 }
     let d := canDev .run c
     d.inService = true ∧ d.canCtl 1 = some c ∧ c.ref = 1 ∧ c.win = none ∧ c.sets ≠ [] ∧ c.inCycle = true ∧ 0 < c.cycleUse ∧
      d.fld (Fld.CAN_CYCLE_CYCLE_US 1) = c.cycleUse ∧ (500000 : Int) < c.cycleAt ∧ (500000 : Int) ≤ 1 * 1000000 ∧ 1 * 1000000 ≤ d.canNow c) ∧
    (let d := canDev .run someCtl
     d.canListens 1 = false ∧ someCtl.landed = none ∧ ((d.put (Fld.CAN_STATUS_STATE 1) 1).putFlag (Fld.CAN_CTRL_LISTEN 1) true).canListens 1 = true) := by
  decide

theorem witness_CanMatrix :
    (let c := { someCtl with ref := 4, steps := [(some 1, 5)] }
     (canDev .run c).canCtl 1 = some c ∧ c.steps = (some 1, 5) :: [] ∧ c.sets ≠ [] ∧ c.sets.length ≤ 64 ∧ (canDev .run c).canState 1 ≠ 3 ∧
      c.win = none ∧ (canDev .run c).flag (Fld.CAN_SCHED_REFLOST 1) = false ∧
      c.lastRef + 100000 * (canDev .run c).fld (Fld.CAN_CYCLE_REF_TIMEOUT 1) ≤ (canDev .run c).tns) ∧
    0 < someCtl.cycleUse ∧ (canDev .run someCtl).fld (Fld.CAN_CYCLE_CYCLE_US 1) = someCtl.cycleUse ∧
    someCtl.cycleAt + ((1000 * someCtl.cycleUse : Nat) : Int) ≤ (canDev .run someCtl).canNow someCtl ∧
    (let d := (canDev .run someCtl).putFlag (Fld.CAN_SCHED_RUNNING 1) true
     d.cycleBefore 1 someCtl (someCtl.cycleAt + ((1000 * 100 : Nat) : Int)) = false ∧ d.matrixRuns 1 = true ∧ (d.canWins 1 someCtl)[someCtl.next]? = some ⟨1, 0, 2, 100, 50⟩ ∧
      someCtl.cycleAt + ((1000 * 100 : Nat) : Int) ≤ d.canNow someCtl) ∧
    (let c := { someCtl with next := 1, win := some 0 }
     (canDev .run c).canCtl 1 = some c ∧ ((canDev .run c).canWins 1 c)[0]? = some ⟨1, 0, 2, 100, 50⟩ ∧
      c.cycleAt + ((1000 * (100 + 50) : Nat) : Int) ≤ (canDev .run c).canNow c) ∧
    (canDev .run someCtl).writeCode .host (Reg.CAN_WIN_DATA 1) 0x00C80020 = 0 ∧ (someCtl.sets.getD 0 [])[0]? = some ⟨1, 0, 2, 100, 50⟩ ∧
    winsOk (someCtl.bound 1000) [⟨1, 0, 2, 200, 32⟩] = true ∧ (canDev .run someCtl).selectedWin 2 = none ∧
    (canDev .run someCtl).writeCode .mgmt (Reg.CAN_CYCLE 1) 0x000503E8 = 0 ∧ someCtl.sets.all (winsOk (someCtl.bound 1000)) = true ∧
    (canDev .run someCtl).canCtl 2 = none := by decide

/-- A port of VLAN 1, cut-through enabled. -/
def somePort : SwPortCfg := ⟨1518, 1, 0, true, true, true, false, 0, [64]⟩

/-- An untagged frame of 64 bytes from 02:00:00:00:00:02 to 02:00:00:00:00:01. -/
def someFrame : List Byte := [2, 0, 0, 0, 0, 1, 2, 0, 0, 0, 0, 2, 8, 0] ++ List.replicate 50 0

/-- A stored frame of class 0 from port 0 for port 3. -/
def storedFrame : SwFrame := ⟨someFrame, 0, 1, 0, false, 0, 1, 0, 0, none, none, [3], 0, 0⟩

/-- The switch with ports 0 and 3 linked, and port 12; the destination learned at port 3. -/
def switchDev : Dev :=
  let d := (inRun.putFlag (Fld.ETH_STATUS_LINK 0) true).putFlag (Fld.ETH_STATUS_LINK 3) true
  let d := ((d.putFlag (Fld.ETH_STATUS_LINK 12) true).put (Fld.ETH_CFG_MAXFRAME 0) 1518).put (Fld.ETH_CFG_MAXFRAME 3) 1518
  let d := (d.put (Fld.ETH_BUDGET_B 3) 64).put (Fld.ETH_CFG_LINGER 3) 10
  { d with tns := 5000000000
           sw := { d.sw with on := true, cfg := [(0, some somePort), (3, some somePort), (12, some somePort)], vlans := [(1, (0x1009, 0xFFFF))]
                             learned := [(4096 * 0x020000000001 + 1, (3, 0))]
                             ports := [(0, { swPortIdle with lingerOut := false }), (3, { swPortIdle with lingerOut := false })] } }

theorem witness_SwitchIngress : switchDev.swRuns = true ∧ switchDev.swLink 0 = true ∧ switchDev.halfReset 3 = false ∧
    switchDev.cutOutput 0 = none ∧ (switchDev.swPort 0).cutLost = false ∧ switchDev.swCfg 0 = some somePort ∧ switchDev.tagCount 0 someFrame = 0 ∧
    60 ≤ someFrame.length ∧ ¬switchDev.swLimit 0 0 < someFrame.length + 4 ∧ etherType someFrame 0 = 0x0800 ∧ reservedDst someFrame = false ∧
    switchDev.swVlan 0 somePort someFrame = (1, 0) ∧ switchDev.vlanMember 1 0 = true ∧ switchDev.vlanMember 2 0 = false ∧
    reservedDst [1, 0x80, 0xC2, 0, 0, 0x0E] = true ∧ switchDev.swLink 12 = true ∧
    switchDev.swLimit 0 0 < 1515 + 4 ∧ ¬switchDev.swLimitAt 0 0 switchDev.tns < someFrame.length + 4 ∧
    switchDev.swLimitAt 0 0 switchDev.tns < 1515 + 4 ∧ etherType someFrame 0 ≠ 0x8808 := by decide

/-- A gPTP frame of domain number 0, from port 0. -/
def gptpFrame : List Byte := [1, 0x80, 0xC2, 0, 0, 0x0E, 2, 0, 0, 0, 0, 2, 0x88, 0xF7] ++ List.replicate 50 0

theorem witness_SwitchIngress_gptp : etherType gptpFrame (switchDev.tagCount 0 gptpFrame) = 0x88F7 ∧ reservedDst gptpFrame = true ∧
    switchDev.vlanMember (switchDev.swVlan 0 somePort gptpFrame).1 0 = true ∧ switchDev.gptpToHost 0 gptpFrame = false ∧
    (let d := switchDev.putFlag (Fld.TB_TD_STATUS_SERVO 0) true
     ({ d with hq := { d.hq with ptpQ := 3 }, time := { d.time with cfg := [(0, { tdNone with present := true })] } } : Dev).gptpToHost 0 gptpFrame = true) ∧
    (let d : Dev := { switchDev with sw := { switchDev.sw with adm := [storedFrame], ports := [] } }
     d.swRuns = true ∧ storedFrame.outs = [3] ∧ (d.swPort 3).lingerOut = true) := by decide

theorem witness_SwitchIngress_admission :
    (let d : Dev := { switchDev with sw := { switchDev.sw with adm := [storedFrame] } }
     d.swRuns = true ∧ (d.swPort 3).lingerOut = false ∧ d.egressOver 3 storedFrame storedFrame.first = false ∧
      (d.swCfg 3).map (fun x => x.limits.getD 0 0) = some 64 ∧ d.useClass 3 0 + storedFrame.cells ≤ 64 ∧
      d.fld (Fld.ETH_USE_USE 3) + storedFrame.cells ≤ d.fld (Fld.ETH_BUDGET_B 3) ∧ (storedFrame.cells : Int) ≤ d.sw.free) ∧
    64 < (switchDev.put (Fld.ETH_QFILL_FILL 3 0) 64).useClass 3 0 + storedFrame.cells := by decide

theorem witness_SwitchIngress_cut :
    (let r := switchDev.swLookup 0 (beNat (bytesAt someFrame 0 6)) 1
     let n := cellsOf (switchDev.swLimit 0 0 - 4)
     let out := switchDev.egressBytes 3 (switchDev.cutFrame 0 0 someFrame)
     64 ≤ someFrame.length ∧ r.outs = [3] ∧ r.found = true ∧ swClass somePort false 0 r.cls = 0 ∧ (switchDev.swCfg 3).map (·.cut) = some true ∧
      switchDev.cutFree 3 0 = true ∧ switchDev.flowWaits 0 3 0 1 0 someFrame = false ∧ switchDev.vlanMember 1 0 = true ∧
      switchDev.cutOutput 0 = none ∧ switchDev.fld (Fld.ETH_STATUS_SPEED 3) ≤ switchDev.fld (Fld.ETH_STATUS_SPEED 0) ∧
      switchDev.swLimit 0 0 ≤ switchDev.swLimit 3 (switchDev.tagCount 3 out) ∧ switchDev.admitPlan 3 0 n true = some []) ∧
    (let d : Dev := { switchDev with sw := { switchDev.sw with ports := [(3, { swPortIdle with tx := some ⟨none, some 0, 0, 6, someFrame, true⟩ })] } }
     d.cutOutput 0 = some 3 ∧ (d.swPort 3).tx = some ⟨none, some 0, 0, 6, someFrame, true⟩) ∧
    ({ somePort with cut := false } : SwPortCfg).cut = false := by decide

/-- An idle output with a frame of another class in its queue takes no cut-through. -/
theorem witness_SwitchIngress_cut_busy :
    (let x := { swPortIdle with lingerOut := false, queues := [(5, [⟨9, 1, 0⟩])] }
     let d : Dev := { switchDev with sw := { switchDev.sw with frames := [(9, some { storedFrame with cls := 5 })], ports := [(3, x)] } }
     (d.swLookup 0 (beNat (bytesAt someFrame 0 6)) 1).outs = [3] ∧ d.cutFree 3 0 = false) := by decide

/-- Frame 9 queued at port 3; frame 9 being sent there. -/
def queuedDev (x : SwPort) : Dev := { switchDev with sw := { switchDev.sw with frames := [(9, some storedFrame)], ports := [(3, x)] } }
def queuedPort : SwPort := { swPortIdle with lingerOut := false, queues := [(0, [⟨9, 1, 0⟩])] }

theorem witness_SwitchEgressAndLinks : (queuedDev queuedPort).swRuns = true ∧ (queuedDev queuedPort).swLink 3 = true ∧
    ((queuedDev queuedPort).swPort 3).tx = none ∧ (∀ k, k < 8 → 0 < k → ((queuedDev queuedPort).swPort 3).queue k = []) ∧
    ((queuedDev queuedPort).swPort 3).queue 0 = [⟨9, 1, 0⟩] ∧ (queuedDev queuedPort).swFrame 9 = some storedFrame ∧
    (queuedDev queuedPort).visible ⟨9, 1, 0⟩ = true ∧ (queuedDev queuedPort).egressOver 3 storedFrame (queuedDev queuedPort).tns = false ∧ ((queuedDev queuedPort).swPort 3).backAt ≤ 1 ∧
    (queuedDev queuedPort).flag (Fld.ETH_STATUS_HELD 3) = false ∧
    ((queuedDev { swPortIdle with tx := some ⟨some 9, none, 0, 1, someFrame, false⟩ }).swPort 3).tx = some ⟨some 9, none, 0, 1, someFrame, false⟩ ∧
    (switchDev.swCfg 3).isSome = true ∧ switchDev.halfReset 6 = false ∧ Tab.get (fun _ => none) (mismatched 6 true 0 switchDev).flt.halfReset 6 = some ⟨0, true⟩ ∧ (5 : Nat) ∈ modeSpeeds 2 ∧
    (switchDev.put (Fld.ETH_STATUS_MODE 3) 2).fld (Fld.ETH_STATUS_MODE 3) = 2 ∧ (switchDev.putFlag (Fld.ETH_STATUS_LINK 3) false).swLink 3 = false ∧
    ((queuedDev { swPortIdle with lingerAt := some 7 }).swPort 3).lingerAt = some 7 ∧
    7 + 1000000 * (queuedDev queuedPort).fld (Fld.ETH_CFG_LINGER 3) < (queuedDev queuedPort).tns ∧
    Tab.find (fun j _ => j = 4096 * 0x020000000001 + 1) switchDev.sw.learned = some (4096 * 0x020000000001 + 1, 3, 0) ∧
    (let d := switchDev.put Fld.SW_AGING 4; 0 + 1000000000 * d.fld Fld.SW_AGING ≤ d.tns) := by decide

theorem witness_SwitchService :
    (let w : WakePat := ⟨[], crcLeft 16 0x1021 0xFFFF (List.replicate 128 0), 1⟩
     let d : Dev := { switchDev.put Fld.SW_WAKE_EN 2 with mode := .doze, sw := { switchDev.sw with wakes := [(1, some w)] } }
     (d.swCfg 0).isSome = true ∧ d.swLink 0 = true ∧ 60 ≤ someFrame.length ∧ someFrame.length + 4 ≤ d.swLimit 0 (d.tagCount 0 someFrame) ∧ bit (d.fld Fld.SW_WAKE_EN) 1 = true ∧
      Tab.get (fun _ => none) d.sw.wakes 1 = some w ∧ w.matches 0 someFrame = true ∧ bit (d.fld Fld.SW_WAKE_EN) 0 = false) ∧
    inRun.writeCode .host (Reg.SW_MDIO_CMD 1) 0x84000000 = 0 ∧ bits 0x84000000 27 26 ≠ 3 ∧ bits 0x8C000000 27 26 = 3 ∧
    inRun.writeCode .host (Reg.SW_MDIO_CMD 1) 0x8C000000 = 0 ∧ ({ inRun with mode := .configure } : Dev).writeCode .mgmt (Reg.SW_MDIO_CMD 1) 0x84000000 = 0 ∧ inRun.inService = true ∧ devReset.inService = false ∧ inRun.flag (Fld.SW_MDIO_CMD_BUSY 1) = false ∧
    (inRun.putFlag (Fld.SW_MDIO_CMD_BUSY 1) true).flag (Fld.SW_MDIO_CMD_BUSY 1) = true := by decide +kernel

/-- Both lanes used and up; node 1 a member of version 1 and session 5, its window at slot 8; what Drover keeps of it is `x`. -/
def ringDev1 (x : RingNode) : Dev :=
  let d := (inRun.putFlag Fld.RING_STATUS_A_LINK true).putFlag Fld.RING_STATUS_B_LINK true
  let d := ((d.put (Fld.RING_NODE_STAT_STATE 1) 2).put (Fld.RING_NODE_STAT_SESSION 1) 5).put (Fld.RING_NODE_STAT_VERSION 1) 1
  let d := withSlot 1 d
  { d with frc := 1000000, tns := 1000000000000
           store := { d.store with windows := [(1, (8, 1))] }
           drv := { d.drv with laneA := true, laneB := true, quarTime := 60, lastCycle := some 15, nodes := [(1, x)]
                               roster := [(1, some ⟨false, false, 2, 0, 0, 0, 0, 100, 100, 0, [], []⟩)] } }

/-- Node 1 past step 3: number 6 accepted last, tokens for one frame. -/
def ringNode : RingNode := { ringNodeIdle with started := true, high := 6, seen := [6], next := 7, tokF := 1000000, tokB := 200000000, reqDepth := 4 }

/-- A frame of node 1, sequence number `seq`, type 1, with a batch of one word. -/
def batchFrame (seq session : Byte) : List Byte :=
  List.replicate 12 0 ++ [0x88, 0xB5] ++ [0x11, 1, 0, 0, 0, seq, 0, 21, 0, 0, 0, session, 0, 0, 0, 0] ++
    [0, 0, 0, 1, 0, 0, 0, 0, 0, 0, 0, 0, 0, 0, 0, 0, 0x86, 0, 0, 0, 7] ++ List.replicate 30 0

theorem witness_RingReception :
    (let d := ringDev1 ringNode
     let bs := batchFrame 7 5
     d.laneTakes 0 = true ∧ d.hq.posted = [] ∧ d.mgmt.executing = none ∧
      ¬(bs.length + 4 < 64 ∨ 9280 < bs.length + 4 ∨ be16 bs 12 ≠ 0x88B5) ∧ be16 bs 18 = 7 ∧ be16 bs 20 = 21 ∧ be16 bs 24 = 5 ∧
      ¬(bs.length + 4 - 34 < be16 bs 20) ∧ beNat (bytesAt bs 26 4) = 0 ∧ (bs.getD 14 0).toNat = 0x11 ∧ (bs.getD 15 0).toNat = 1 ∧
      d.isMember 1 = true ∧ d.fld (Fld.RING_NODE_STAT_SESSION 1) = 5 ∧ d.fld (Fld.RING_NODE_STAT_VERSION 1) = 1 ∧ d.authb 1 = false ∧
      (d.node 1).queue = [] ∧ (d.node 1).started = true ∧ (d.node 1).held = [] ∧ (d.node 1).next = 7 ∧ 1000000 ≤ (d.node 1).tokF ∧
      (bs.length + 4) * 1000000 ≤ (d.node 1).tokB ∧ batchOk 1 (bytesAt bs 30 21) = true ∧
      (batchEntries (bytesAt bs 30 21) 125000).map (·.index) = [0] ∧ (0 : Nat) < (d.window 1).2 ∧ d.storeAdmits (.drover false) 8 = true ∧
      (6 : Nat) ∈ (d.node 1).seen ∧ be16 (batchFrame 6 5) 18 = 6 ∧ be16 (batchFrame 7 4) 24 ≠ 5 ∧ d.isMember 2 = false) ∧
    (let d := ringDev1 { ringNode with held := [⟨8, 8, none, 0⟩] }
     d.ringRuns = true ∧ (d.node 1).held = [⟨8, 8, none, 0⟩] ∧ 0 + 200000 ≤ d.tns ∧ 0 < seqDist (d.node 1).next 8) := by decide

/-- A HELLO of node 1, a member. -/
def helloPayload : List Byte := [1, 0, 0, 0] ++ List.replicate 36 9
def helloFrame : List Byte :=
  List.replicate 12 0 ++ [0x88, 0xB5] ++ [0x18, 1, 0, 0, 0, 7, 0, 40, 0, 0, 0, 5, 0, 0, 0, 0] ++ helloPayload

theorem witness_RingReception_join :
    (let d := ringDev1 { ringNode with tokF := 0, tokAt := 1000000000000 }
     let bs := helloFrame
     d.laneTakes 0 = true ∧ ¬(bs.length + 4 < 64 ∨ 9280 < bs.length + 4 ∨ be16 bs 12 ≠ 0x88B5) ∧ (bs.getD 14 0).toNat % 16 = 8 ∧
      (bs.getD 14 0).toNat / 16 = 1 ∧ be16 bs 24 = 5 ∧ ¬(bs.length + 4 - 34 < be16 bs 20) ∧ bytesAt bs 30 (be16 bs 20) = helloPayload ∧
      d.isMember 1 = true ∧ d.authb 1 = false ∧ (d.node 1).queue = [] ∧ (d.node 1).started = true ∧ d.joinRepeat helloPayload = false ∧
      (d.node 1).tokAt = d.tns ∧ (d.node 1).tokF < 1000000 ∧
      ({ d with drv := { d.drv with joinQ := [⟨1, 2, 4, helloPayload⟩] } } : Dev).joinRepeat helloPayload = true) := by decide

theorem witness_RingCycleAndRequests_lanes :
    (∀ retrain ∈ [true, false], (let d := mismatched 1 retrain 0 (ringDev1 ringNode)
      d.laneUsed 0 = true ∧ Tab.get (fun _ => none) d.flt.halfReset 1 = some ⟨0, retrain⟩)) ∧
    (mismatched 1 true 0 ((ringDev1 ringNode).putFlag (laneFld 0) false)).flag (laneFld 0) ≠ true := by decide

theorem witness_RingCycleAndRequests :
    (let d := ringDev1 { ringNode with exportAt := some 0, exports := [4] }
     d.ringRuns = true ∧ d.hq.stalled = [] ∧ d.drv.lastCycle = some 15 ∧ 15 + 1 ≤ d.frc.toNat / 62500 ∧ d.members = [1] ∧
      (d.node 1).firstCycle + 3 ≤ 16 ∧ (d.node 1).answered = [] ∧ d.fld (Fld.RING_NODE_STAT_MISSED 1) < 2 ∧
      (d.put (Fld.RING_NODE_STAT_MISSED 1) 2).fld (Fld.RING_NODE_STAT_MISSED 1) = 2 ∧ d.laneUsed 1 = true ∧ d.flag (laneFld 1) ≠ false ∧
      (d.node 1).exportAt = some 0 ∧ 0 + 1000 * d.fld Fld.RING_EXPORT_EXPORT_US ≤ d.tns ∧ (d.node 1).exports ≠ [] ∧
      (d.node 1).exports.length ≤ d.exportRoom 1 ∧ d.halfReset 1 = false) ∧
    (let d := (ringDev1 ringNode).put (Fld.RING_NODE_STAT_STATE 1) 0
     d.members = [] ∧ (d.frc.toNat / 62500 : Nat) = 16) ∧
    (let r : RingRead := ⟨3, 1, 0, 0, 0, 9, .nobody, none⟩
     let d := ringDev1 { ringNode with queue := [⟨.read 3, none⟩] }
     let d : Dev := { d with drv := { d.drv with reads := [r] } }
     (d.node 1).queue = [⟨.read 3, none⟩] ∧ d.drv.reads = [r] ∧ d.mayBulk 1 = true ∧ r.deadline ≤ d.tns) ∧
    (let d := ringDev1 { ringNode with queue := [⟨.write 0 0 8 [1, 2, 3, 4], none⟩], sent := 4 }
     (d.node 1).queue = [⟨.write 0 0 8 [1, 2, 3, 4], none⟩] ∧ d.mayBulk 1 = false ∧ d.authb 1 = false ∧ d.paceLeft d.drv.pace63 ≠ 0) := by decide

/-- Node 1 joins. -/
def joinDev (j : Option Joining) (q : List Hello) : Dev :=
  let d := ((ringDev1 { ringNode with quarAt := some 0 }).put (Fld.RING_NODE_STAT_STATE 1) 1)
  { d with drv := { d.drv with joining := j, joinQ := q } }
def someJoin : Joining := ⟨⟨1, 2, 4, List.replicate 40 0⟩, 1, List.replicate 32 1, 0, none⟩

theorem witness_RingMembership : (joinDev none []).flag Fld.KS_STATUS_DRBG_OK = false ∧
    ((joinDev none []).putFlag Fld.KS_STATUS_DRBG_OK true).flag Fld.KS_STATUS_DRBG_OK = true ∧
    (let j := { someJoin with response := some ([1], [2]) }
     (joinDev (some j) []).pqTaken = false ∧ (joinDev (some j) []).drv.joining = some j ∧ j.response = some ([1], [2])) ∧
    (joinDev none [⟨1, 2, 4, []⟩]).ringRuns = true ∧ (joinDev none [⟨1, 2, 4, []⟩]).drv.joining = none ∧
    (joinDev none [⟨1, 2, 4, []⟩]).fld (Fld.RING_NODE_STAT_STATE 1) ≠ 3 ∧ bit 2 1 = true ∧ bit 1 1 = false ∧
    (joinDev none []).authb 1 = false ∧ (joinDev (some someJoin) []).drv.joining = some someJoin ∧ (joinDev (some someJoin) []).ringRuns = true ∧ someJoin.response = none ∧
    someJoin.since + 20000000 ≤ (joinDev none []).tns ∧ ((joinDev none []).roster 1).isSome = true ∧ someJoin.version < 4 ∧
    (let d := (joinDev none []).put (Fld.RING_NODE_STAT_STATE 1) 3
     d.fld (Fld.RING_NODE_STAT_STATE 1) = 3 ∧ (d.node 1).quarAt = some 0 ∧ d.drv.quarTime ≠ 0 ∧ 0 + 1000000000 * d.drv.quarTime ≤ d.tns ∧
      d.writeCode .mgmt Reg.RING_QUAR_CLR 1 = 0) := by decide

/-- A 64-byte descriptor of operation `op` on key slot 5 for queue 2, 16 bytes long, label or AAD of 4; and the part with it as its
one job, queue 2 a CIPHER queue of 4096 bytes in version 3. -/
def jobOf (op : Byte) : Job := ⟨0, [op, 5, 2, 0, 9, 0, 4, 0, 16, 0, 0, 0, 4, 0, 0, 0] ++ List.replicate 48 0, false⟩
def cipherDev (j : Job) : Dev :=
  let d := linked (ringDev.put (Fld.HQ_STATUS_ROLE 2) 5)
  { d with sec := { d.sec with jobs := [j], qsets := [(1, 4)] } }

theorem witness_CipherDataJobs : (∀ op ∈ [(1 : Byte), 2, 3, 4, 5, 6, 12, 13], (cipherDev (jobOf op)).JobReady op.toNat (jobOf op)) ∧
    lowestCode ((jobOf 12).formCodes ++ (cipherDev (jobOf 12)).outCodes (jobOf 12) false 64 ++ [lenCode 16 0 1048576, lenCode 64 1 4096]) = E_VERSION ∧
    readInput (some (List.replicate 16 0)) 16 ≠ none := by unfold Dev.JobReady; decide

theorem witness_CipherKeyJobs : (∀ op ∈ [(7 : Byte), 8, 9, 10, 11, 14, 15], (cipherDev (jobOf op)).JobReady op.toNat (jobOf op)) ∧
    (cipherDev (jobOf 15)).sec.deviceId.length = 16 ∧ (cipherDev (jobOf 15)).sec.fwDigest.length = 64 ∧
    ({ secReset with chain := List.replicate 32 0 } : SecSt).chain.length = 32 := by unfold Dev.JobReady; decide

/-- A job that has ended, without a record; a key in slot 5; reserved slots to derive; tamper pin 2 and the supply watched. -/
def keyDev (m : Mode) : Dev :=
  let d := (inRun.putFlag Fld.KS_STATUS_DRBG_OK true).put Fld.KS_TAMPCFG_EN 0x14
  { d with mode := m, frc := 2000000, tns := 20000000
           sec := { d.sec with slots := [(5, ⟨0x80000000, [1], [2]⟩)], running := [⟨jobOf 5, 0, [7], some 5, true, none, some (6, 0x80000000, [1])⟩], rederive := true, tampEn := 0x14
                               drbgReqs := 2 ^ 20, done := [⟨1, 2, []⟩] } }

theorem witness_KeyStore : (keyDev .run).writeCode .host Reg.KS_CMD 0 = E_OK ∧ (keyDev .run).keysRun = true ∧ ((keyDev .run).keySlot 5).valid = true ∧
    (keyDev .run).flag Fld.KS_STATUS_DRBG_OK = true ∧ (keyDev .run).tamperWatched (.pin 2) = true ∧ (keyDev .sleep).tamperWatched (.pin 2) = true ∧
    (keyDev .run).tamperWatched (.pin 3) = false ∧ (keyDev .run).sec.rederive = true ∧ (keyDev .run).flag Fld.SYS_STATUS_HALT = false ∧
    2 ^ 20 ≤ (keyDev .run).sec.drbgReqs ∧ inRun.flag Fld.KS_STATUS_DRBG_OK = false ∧ (keyDev .run).sec.drbgFailAt + 10000000 ≤ (keyDev .run).tns ∧
    (keyDev .run).sec.done.length < 32 ∧ (keyDev .run).sec.doneLost = 0 ∧
    (keyDev .run).pathOpen .host Reg.CPH_DONE_W0 = true ∧ (keyDev .run).sec.cphMs < (keyDev .run).frc.toNat / 1000000 := by decide

theorem witness_KeyStore_more : (keyDev .run).diePowered = true ∧ (keyDev .sleep).diePowered = false ∧ (keyDev .sleep).tamperWatched .supply = false ∧
    (keyDev .run).sec.running[0]? = some ⟨jobOf 5, 0, [7], some 5, true, none, some (6, 0x80000000, [1])⟩ ∧
    (keyDev .run).sec.remaskDue ≤ 256 * (keyDev .run).tns ∧
    256 * (keyDev .run).tns < ({ (keyDev .run).sec with remaskDue := 6000000000 } : SecSt).remaskDue ∧
    ((keyDev .run).keySlot 6).locked = false ∧ (⟨jobOf 5, 0, [7], some 5, true, none, none⟩ : RunJob).keyOut = none := by decide

/-- A record of class 0x4000, which the host may append; a DATA sector that takes records, or a FIFO with one record. -/
def someAppend : RecAppend := ⟨0x4000, [1, 2], 4, 0, 0, 0⟩
def someSector : Sector := ⟨false, 4, 0, 0, [List.replicate 64 0], [], []⟩
def recDev (full fill : Bool) : Dev :=
  let d := ((inRun.put Fld.REC_APPEND_HDR_CLASS 0x4000).put Fld.REC_APPEND_HDR_LEN 4).putFlag Fld.REC_STATUS_FULL full
  { d with sec := { d.sec with classes := [(0x4000, 0x4FFF, false, true)], fifo := List.replicate (if fill then 64 else 1) someAppend
                               sectors := [someSector], dataOpen := true, sinceCkpt := 3, chain := List.replicate 32 9 } }

theorem witness_RecorderAppend : (recDev false false).writeCode .host Reg.REC_CTRL 1 = E_OK ∧ (recDev false false).fld Fld.REC_APPEND_HDR_LEN ≤ 32 ∧
    (∃ c ∈ (recDev false false).sec.classes, c.1 ≤ (recDev false false).fld Fld.REC_APPEND_HDR_CLASS ∧
      (recDev false false).fld Fld.REC_APPEND_HDR_CLASS ≤ c.2.1 ∧ c.2.2.2 = true) ∧
    inRun.sec.classes = [] ∧ 32 < ((recDev false false).put Fld.REC_APPEND_HDR_LEN 33).fld Fld.REC_APPEND_HDR_LEN ∧
    (recDev true false).flag Fld.REC_STATUS_FULL = true ∧ (recDev false true).flag Fld.REC_STATUS_FULL = false ∧
    (recDev false true).flag Fld.REC_STATUS_RESERVE = false ∧ 64 ≤ (recDev false true).sec.fifo.length ∧ (recDev false false).sec.fifo = [someAppend] ∧
    (recDev false false).recorderRuns = true ∧ (recDev false false).sec.recLostNote = 0 ∧ (recDev false false).recNext + 1 < 2 ^ 64 ∧
    2 ≤ (recDev false false).freeSectors ∧ (recDev false false).sec.ckptBody = none ∧ (recDev false false).writeCode .mgmt Reg.REC_EXP_SSEQ_LO 4 = E_OK ∧
    ((recDev false false).sec.sectors.find? (fun x => x.sseq = 4)).isSome = true := by decide +kernel

theorem witness_RecorderCheckpoints :
    (let d := (recDev false false).putFlag Fld.KS_STATUS_DRBG_OK true
     let d : Dev := { d with sec := { d.sec with ckptWant := some 1 } }
     d.sec.ckptWant = some 1 ∧ d.recorderRuns = true ∧ d.sec.ckptBody = none ∧ d.freeSectors ≠ 0 ∧ d.freeSectors ≠ 1 ∧ d.sec.sinceCkpt ≠ 0 ∧
      d.pqBusy = false ∧ d.flag Fld.KS_STATUS_DRBG_OK = true ∧ d.sec.chain.length = 32) ∧
    (recDev false false).flag Fld.KS_STATUS_DRBG_OK = false ∧ (recDev false false).writeCode .host Reg.REC_CTRL 2 = E_OK ∧
    (recDev false false).writeCode .host Reg.REC_CTRL 4 = E_OK ∧ (recDev false false).sec.ckptRetry = none ∧
    (let x : SecSt := { (recDev false false).sec with uncovered := some 0, ckptRetry := none, ckptBody := some (List.replicate 64 3, 7) }
     x.uncovered = some 0 ∧ x.ckptWant = none ∧ x.ckptBody = some (List.replicate 64 3, 7) ∧ (List.replicate 64 (3 : Byte)).length = 64) := by
  decide +kernel

/-- The last free sector: the checkpoint of reason 3 needs no record since the one before. -/
theorem witness_RecorderCheckpoints_last :
    (let d := recDev false false
     let d : Dev := { d with sec := { d.sec with sectors := List.replicate 2045 someSector, sinceCkpt := 0, ckptWant := some 1 } }
     d.freeSectors = 1 ∧ d.recorderRuns = true ∧ d.sec.ckptWant = some 1 ∧ d.pqBusy = false) := by decide +kernel

/-- Where the wrapped private key unwraps, there is a device key; before KS254 is derived there is none. -/
theorem witness_RecorderCheckpoints_deviceKey (hk : ∀ k b, Config.kwpUnwrap k b = some ((1 : Byte) :: List.replicate 4047 0)) :
    ({ recDev false false with sec := { (recDev false false).sec with slots := [(254, ⟨0x80000000, [], []⟩)] } } : Dev).deviceKey.1 = E_OK ∧
      (recDev false false).deviceKey.1 ≠ E_OK := by
  refine ⟨?_, by decide +kernel⟩
  simp only [Dev.deviceKey, unwrapSigner, hk]
  decide +kernel

/-- Source 70 enabled with arming `a`, five events raised, limit 5. -/
def faultDev (m : Mode) (a st count : Nat) : Dev :=
  let d := (((inRun.putFlag (Fld.FLT_SRC_ARM_EN 70) true).put (Fld.FLT_SRC_ARM_ARMING 70) a).put (Fld.FLT_SRC_LIMIT_N 70) 5)
  let d := (d.put (Fld.FLT_SRC_STATE_STATE 70) st).put (Fld.FLT_SRC_STATE_COUNT 70) count
  let d := d.putFlag (Fld.HQ_STATUS_ENABLED 2) true
  { d with mode := m, faultQ := ⟨[(70, 5)], []⟩, hq := { d.hq with sysQ := 2 } }

theorem witness_FaultCounting : sourceListed 70 = true ∧ (5 : Nat) ≤ (faultDev .run 0 0 0).raised 70 ∧ (faultDev .run 0 0 0).reactive = true ∧
    (faultDev .run 0 0 0).flag (Fld.FLT_SRC_ARM_EN 70) = true ∧ (faultDev .run 0 0 0).fld (Fld.FLT_SRC_ARM_ARMING 70) = 0 ∧
    (faultDev .run 0 0 0).srcState 70 = 0 ∧ (faultDev .run 0 1 2).srcState 70 = 1 ∧ (faultDev .run 0 2 7).srcState 70 = 2 ∧
    (faultDev .run 0 2 7).writeCode .host (Reg.FLT_SEVERE 2) 0x40 = E_OK ∧
    (faultDev .factory 0 0 0).writeCode .host Reg.FLT_INJ (0x7C000000 + 256 * 70 + 5) = E_OK ∧
    (faultDev .factory 0 0 0).flag Fld.FLT_INJ_COUNTS_EN = false ∧
    ((faultDev .factory 0 0 0).putFlag Fld.FLT_INJ_COUNTS_EN true).flag Fld.FLT_INJ_COUNTS_EN = true ∧
    inRun.logicRuns = true ∧ inRun.halfReset 4 = false ∧
    (mismatched 4 false 0 inRun).halfReset 4 = true ∧ (mismatched 0 false 3 inRun).halfReset 0 = true ∧
    -- real and injected events of one cycle
    ((70 : Fin 512) ≠ 1 ∧ (70 : Fin 512) ≠ 3 ∧ (70 : Fin 512) ≠ 4 ∧ (2 : Fin 256).val ≤ (faultDev .factory 0 0 0).raised 70) ∧
    (let d : Dev := { switchDev with sw := { switchDev.sw with ports := [(3, { swPortIdle with tx := some ⟨none, some 0, 0, 6, someFrame, true⟩ })] } }
     d.logicRuns = true ∧ d.halfReset 3 = false ∧ d.cutOutput (3 - 3) = some 3) := by decide

theorem witness_FaultReactions : (∀ a ∈ [1, 2, 8, 16, 32], (faultDev .run a 0 0).fld (Fld.FLT_SRC_ARM_ARMING 70) = a) ∧
    (faultDev .run 16 0 0).mode = .run ∧ (faultDev .run 16 0 0).fld (Fld.FLT_SRC_LIMIT_N 70) ≤ 5 ∧
    (faultDev .run 16 0 0).flag (Fld.FLT_SRC_STATE_INJ 70) = false ∧ (faultDev .run 1 0 0).hq.sysQ < 64 ∧
    (faultDev .run 1 0 0).enabled (faultDev .run 1 0 0).hq.sysQ = true ∧ (faultDev .run 2 0 0).mgmt.notices.length < 32 ∧
    inRun.writeCode .host Reg.FLT_CTRL (0x7C000002 + 4 * 3) = E_OK ∧ (faultDev .safe 0 0 0).writeCode .mgmt Reg.FLT_CTRL 0x7C000001 = E_OK ∧
    inRun.writeCode .host Reg.FLT_HOLD_HI 3 = E_OK ∧ inRun.writeCode .host Reg.FLT_ERR_HOLD 1 = E_OK ∧
    ({ fltReset with errEnd := some 5 } : FltSt).errEnd = some 5 := by decide

theorem witness_FaultReactions_safeExit : ∀ n, (inRun.src n).safeFired = true → inRun.severe n = false := fun n h => by
  have : (inRun.src n).safeFired = false := rfl
  rw [this] at h
  cases h

/-- CONFIGURE, a full check under way of the empty region. -/
def applyDev (check : Option Nat) : Dev := { inRun with mode := .configure, img := { inRun.img with check := check } }

theorem witness_ImageApply : (0x5C000001 : Word).toNat / 2 ^ 24 = 0x5C ∧ (0x5C000001 : Word).getLsbD 0 = true ∧ (0x5C000001 : Word).getLsbD 1 = false ∧
    (applyDev none).writeCode .mgmt Reg.IMG_CTRL 0x5C000001 = E_OK ∧ (applyDev none).img.check = none ∧ (applyDev (some 1)).img.check = some 1 ∧
    (applyDev (some 1)).flag Fld.SYS_STATUS_HALT = false := by decide

theorem witness_PartialImages : inRun.writeCode .host 0x19FFFC 5 = E_OK ∧ (0x5C000002 : Word).toNat / 2 ^ 24 = 0x5C ∧
    (0x5C000002 : Word).getLsbD 0 = false ∧ (0x5C000002 : Word).getLsbD 1 = true ∧ inRun.writeCode .host Reg.IMG_CTRL 0x5C000002 = E_OK ∧
    (∀ op ∈ [1, 2], ({ imgReset with partCheck := some (⟨8, 0, 0, 0⟩, op, 3) } : ImgSt).partCheck = some (⟨8, 0, 0, 0⟩, op, 3)) ∧
    ({ imgReset with removing := some 3 } : ImgSt).partCheck = none ∧
    ({ imgReset with partCheck := some (⟨2, 5, 0, 0⟩, 0, 0) } : ImgSt).partCheck = some (⟨2, 5, 0, 0⟩, 0, 0) := by decide

/-- LOADER in a stage, a request of the management port being executed. -/
def loaderDev (stage : Nat) (r : Option MgmtReq) : Dev :=
  let d := inRun.put Fld.LDR_STATE_STAGE stage
  { d with mode := .loader, mgmt := { d.mgmt with executing := r, ldrCause := 0x000A, verifying := stage = 1, activating := if stage = 3 then some true else none } }

theorem witness_LoaderStages : inRun.writeCode .host Reg.LDR_CTRL 0x7C000001 = E_OK ∧ (loaderDev 2 none).writeCode .mgmt Reg.LDR_CTRL 0x7C000003 = E_OK ∧
    (loaderDev 2 none).fld Fld.LDR_STATE_STAGE = 2 ∧ (loaderDev 1 none).mgmt.verifying = true ∧ (loaderDev 3 none).mgmt.activating = some true ∧
    (loaderDev 1 (some ⟨1, 0x40, List.replicate 32 7⟩)).portUp = true ∧ (loaderDev 1 none).flag Fld.SYS_STATUS_HALT = false ∧
    (loaderDev 1 (some ⟨1, 0x41, []⟩)).mgmt.executing = some ⟨1, 0x41, []⟩ ∧ (loaderDev 1 (some ⟨1, 0x42, [1]⟩)).mgmt.ldrCause = 0x000A := by decide

theorem witness_ManagementFrames : inRun.portUp = true ∧ inRun.halfReset 15 = false ∧
    (let f : List Byte := [0xC5, 0, 1, 0, 0, 0]
     let g := f ++ beBytes 2 (frameCrc f)
     g.getD 0 0 = 0xC5 ∧ 8 + beNat (bytesAt g 4 2) ≤ g.length ∧ frameCrc (g.take 6) = beNat (bytesAt g 6 2) ∧
      beNat (bytesAt g 4 2) ≤ 4104 ∧ inRun.mgmt.lastReq ≠ some (g.take 8) ∧ f.length < 8) ∧
    4104 < beNat (bytesAt ([0xC5, 0, 1, 0, 0xFF, 0xFF, 0, 0] : List Byte) 4 2) ∧ inRun.mgmt.executing = none ∧
    (([0x96, 0, 0] : List Byte).getD 0 0 = 0x96) ∧ (9 : BitVec 16) ≠ 0 ∧
    ({ inRun with mgmt := { inRun.mgmt with response := some [1, 2] } } : Dev).mgmt.response = some [1, 2] ∧
    (loaderDev 1 (some ⟨1, 0, []⟩)).mgmt.executing ≠ none ∧ (0x11 : Byte) ≠ 0xC5 ∧ (0x11 : Byte) ≠ 0x96 := by decide

/-- RUN with a request being executed. -/
def asked (r : MgmtReq) : Dev := { inRun with mgmt := { inRun.mgmt with executing := some r } }

theorem witness_ManagementCommands : (∀ c ∈ [0, 1, 3, 4, 5], (asked ⟨1, c, []⟩).mgmt.executing = some ⟨1, c, []⟩ ∧ (asked ⟨1, c, []⟩).portUp = true) ∧
    (∀ c ∈ [2, 6, 7], (asked ⟨1, c, [1]⟩).mgmt.executing = some ⟨1, c, [1]⟩) ∧ inRun.sys.woken = false ∧
    inRun.writeCode .host Reg.MGT_LEASE 0x7C000001 = E_OK ∧ inRun.mgmt.hostSeen ≤ inRun.tns ∧
    (let d := asked ⟨1, 7, [1]⟩
     d.mgmt.executing = some ⟨1, 7, [1]⟩ ∧ d.portUp = true ∧ d.writeCode .host Reg.MGT_LEASE 0x7C000001 = E_OK ∧
      d.fld Fld.MGT_STATUS_HOLDER = 0 ∧ d.tns < d.mgmt.lastValid + 1000000 * d.fld Fld.MGT_LEASE_CFG_MGMT_SILENCE) ∧
    (inRun.put Fld.MGT_STATUS_HOLDER 1).writeCode .host Reg.MGT_LEASE 0x7C000002 = E_OK := by decide

theorem witness_ManagementAccess :
    (let r : MgmtReq := ⟨1, 0x10, [0, 0, 0, 0, 0, 0, 0, 4]⟩
     (asked r).mgmt.ringResult = none ∧ (∀ x ∈ (asked r).drv.reads, x.by_ ≠ .mgmt) ∧ beNat (bytesAt r.payload 0 5) / 2 ^ 34 % 64 = 0 ∧
      r.payload.length = 8 ∧ (asked r).blockTargetCode false 0 4 = 0 ∧ blockSizeOk false 0 4 = true) ∧
    (let r : MgmtReq := ⟨1, 0x11, [0, 0x40, 0, 0, 0x80, 0, 0, 0, 1, 2, 3, 4, 0, 0, 0, 0]⟩
     let a := beNat (bytesAt r.payload 0 5)
     a / 2 ^ 34 % 64 = 0 ∧ a / 2 ^ 30 % 16 = 1 ∧ blockSizeOk true a 8 = true ∧ (asked r).blockTargetCode true a 8 = 0 ∧
      (asked r).fld Fld.MGT_STATUS_HOLDER = 0) ∧
    (let r : MgmtReq := ⟨1, 0x11, [0, 0x80, 0, 0, 8, 0, 0, 0, 1, 2, 3, 4]⟩
     let d : Dev := { asked r with mode := .configure }
     let a := beNat (bytesAt r.payload 0 5)
     a / 2 ^ 30 % 16 = 2 ∧ blockSizeOk true a 4 = true ∧ d.blockTargetCode true a 4 = 0) ∧
    ((inRun.put Fld.MGT_STATUS_HOLDER 1).fld Fld.MGT_STATUS_HOLDER = 1) ∧
    (loadDev ownedDie).hasLoads = true ∧ otpFits 1 0x10000000 = true ∧
    ((loadDev ownedDie).otpMayProg 0 1 = true) ∧ (otpDev { ownedDie with mode := .limp }).otpMayProg 0 1 = false := by decide

/-- Domain 0 with gPTP on port 0, domain number 0, locked and followed by the system time; domain 1 without. -/
def timeDev : Dev :=
  let d := (inRun.putFlag (Fld.TB_TD_STATUS_LOCKED 0) true).put Fld.TB_SYS_STATUS_SRC 1
  let d := ((d.putFlag Fld.TB_SYS_STATUS_SET true).put (Fld.TB_TD_STATUS_DOMNUM 1) 5).putFlag (Fld.TB_TD_STATUS_SERVO 0) true
  { d with time := { d.time with cfg := [(0, { tdNone with present := true, portMask := 1, syncLoss := 3 })] } }

theorem witness_TimeDomains : timeDev.inService = true ∧ (∀ v ∈ [0x7C000001, 0x7C000002, 0x7C000003, 0x7C000004, 0x7C000008],
      timeDev.writeCode .host (Reg.TB_TD_CTRL 0) v = E_OK) ∧
    (timeDev.tdCfg 0).present = true ∧ timeDev.fld (Fld.TB_TD_STATUS_DOMNUM 0) = 0 ∧ (timeDev.tdCfg 0).portMask.testBit 0 = true ∧
    timeDev.fld (Fld.TB_TD_STATUS_DOMNUM 1) ≠ 0 ∧ timeDev.flag (Fld.ETH_STATUS_HELD 0) = false ∧ (timeDev.tdCfg 0).due ≤ timeDev.tns ∧
    (timeDev.putFlag (Fld.ETH_STATUS_HELD 0) true).flag (Fld.ETH_STATUS_HELD 0) = true ∧ timeDev.flag (Fld.TB_TD_STATUS_SERVO 0) = true ∧ timeDev.sysSrc = 0 + 1 := by decide

theorem witness_SystemTimeAndStamps : (∀ v ∈ [0x7C000008, 0x7C000009, 0x7C00000A, 0x7C00000B, 0x7C000004],
      timeDev.writeCode .mgmt Reg.TB_SYS_CTRL v = E_OK) ∧
    timeDev.sysSrc ≤ 2 ∧ (timeDev.putFlag Fld.TB_SYS_STATUS_SET false).flag Fld.TB_SYS_STATUS_SET = false ∧ timeDev.sysSrc = 1 ∧
    timeDev.ppsWas 0 0 = false ∧ filterNs 3 ≤ (2000 : BitVec 16).toNat ∧
    timeDev.pathOpen .supervisor (Reg.TB_TSQ_W0 3) = true ∧ timeDev.writeCode .host Reg.TB_SNAP 1 = E_OK ∧
    timeDev.pathOpen .host (Reg.TB_CAP_W0 7) = true ∧
    (let d := { timeDev with time := { timeDev.time with cfg := [(0, { tdNone with present := true, followUps := [4] })] } }
     (4 : Nat) ∈ (d.tdCfg 0).followUps ∧ d.flag Fld.SYS_STATUS_HALT = false) := by decide

theorem witness_Calendar : inRun.writeCode .host Reg.TB_CAL_CTRL 0x7C000001 = E_OK ∧ inRun.writeCode .mgmt Reg.TB_CAL_CTRL 0x7C000002 = E_OK ∧
    inRun.pathOpen .host Reg.TB_CAL_SEC_LO = true ∧ inRun.time.calTaken = false ∧
    ({ inRun with time := { inRun.time with calNs := 999999000 } } : Dev).calEdge = true := by decide

theorem witness_PowerAndReset :
    (let d : Dev := { devReset with mode := .off, sys := { devReset.sys with vbat := false } }; d.mode = .off ∧ d.sys.vbat = false) ∧
    devReset.loads.reverse = false ∧ ({ devReset with loads := { devReset.loads with reverse := true } } : Dev).loads.reverse = true ∧
    inRun.sys.vbat = true ∧ ¬(inRun.mode = .off ∨ inRun.mode = .held ∨ inRun.mode = .limp) ∧ devReset.mode = .held ∧ devReset.sys.vbat = true ∧
    inRun.writeCode .host Reg.SYS_CTRL 0x7C000001 = E_OK ∧ devReset.sys.startup = none ∧
    ({ sysReset with startup := some 6 } : ModeSt).startup = some 6 := by decide

/-- DOZE or SLEEP, an entry going on or not, a wake latched or not. -/
def asleep (m : Mode) (e : Entry) (w : Bool) : Dev := { inRun with mode := m, sys := { inRun.sys with entry := e, woken := w } }

theorem witness_ServiceModes : (∀ v ∈ [0x7C000002, 0x7C000003, 0x7C000004, 0x7C000005], inRun.writeCode .host Reg.SYS_CTRL v = E_OK) ∧
    (asleep .doze .doze true).sys.entry = .doze ∧ (asleep .doze .none true).sys.woken = true ∧ (asleep .sleep .sleep false).mode = .sleep ∧
    (asleep .sleep .none true).sys.entry = .none ∧ inRun.writeCode .host Reg.SYS_HOST_ALIVE 0 = E_OK ∧ inRun.writeCode .host Reg.SYS_LOSS 4 = E_OK := by
  decide

theorem witness_ServiceModes_withheld (m : Mode) (e : Entry) (w : Bool) : ∀ n, ((asleep m e w).src n).withheld = false := fun _ => rfl

theorem witness_StepKeepsInvariant : State.reset.dev.Canonical := ⟨by decide, by decide, by decide, by decide⟩

/-- A state with slots, a key and stored settings in canonical form. -/
theorem witness_StepKeepsInvariant_filled : (staleDev.Canonical ∧ (keyDev .run).Canonical) ∧ (staleDev.storeSetting (Reg.SIG_AGE 1)).Canonical :=
  ⟨⟨⟨by decide, by decide, by decide, by decide⟩, ⟨by decide, by decide, by decide, by decide⟩⟩, ⟨by decide, by decide, by decide, by decide⟩⟩

/-! ### Commands, with values worked out from the spec -/

/-- The device after a command; the device before it where none answers. -/
def after (c : Instr) (d : Dev) : Dev :=
  match exec c ⟨d, []⟩ with
  | .next s => s.dev
  | _ => d

/-- R99, R95: 8 + (−1) is 7, the immediate brings no tag. -/
theorem test_add : ((after (.add 0 0 2 1 (.imm 0x1FFFFF)) (issuing someThread (wordOpB 0x04 2 1 (.imm 0x1FFFFF)))).thread 0 0).reg 2 = ⟨7, 0x94⟩ := by
  decide +kernel

/-- R99: division by 0 gives FFFFFFFF, VALID clear. -/
theorem test_divu_zero :
    (let w := ((after (.divu 0 0 2 1 3) (issuing someThread (wordR 0x08 2 1 3 0))).thread 0 0).reg 2
     w.value = 0xFFFFFFFF ∧ tagValid w.tag = false) := by decide +kernel

/-- R93: CALL on a full link stack traps with cause 7. -/
theorem test_call_overflow : (after (.call 0 0 5) (issuing badThread (wordJ 0x31 0 5))).fld (Fld.ENG_TRAP_CAUSE 0) = 7 := by decide +kernel

/-- R58, R57: a host slot write takes the value, the tag and clears CONSUMED. -/
theorem test_host_slot_write : ((after (.hostSlotWrite 8 0x8600000005 []) staleDev).slot 8).value = 5 := by decide +kernel

/-- R7: a read of FRC_LO latches the high half on the path. -/
theorem test_frc_latch : ((after (.lowRegisterRead .host (BitVec.ofNat 40 Reg.TB_FRC_LO)) { inRun with frc := 0x100000002 }).latch .host).read = 1 := by
  decide +kernel

/-- R455, R457: VBAT_LOG valid in HELD with RST_N high starts ROM. -/
theorem test_rom_start : (after (.vbatValid false true) devReset).mode = .rom ∧ (after (.rstNAssert) inRun).mode = .held := by decide +kernel

/-- The step takes the front command and keeps the rest. -/
theorem test_step_front : (match step ⟨devReset, [.vbatValid true true, .oscStop]⟩ with | .next s => s.pending | _ => []) = [.oscStop] := by
  decide +kernel

/-- The table gives no command bits: no word spells one. -/
theorem test_no_words : decodeTableWord 32 0x12345678 = none ∧ (State.reset.withFetchWord 32 5) = State.reset := by decide

/-- The check of an empty staging area fails at its header. -/
theorem witness_ImageApply_refused : ((applyDev (some 1)).checkImage false false (applyDev (some 1)).stagedImage).code ≠ 0 := by decide +kernel

/-! ### An image that is applied -/

/-- The owner's key digest, where the key is 1952 bytes of 0. -/
def zeroKeyDigest : List Byte := shake256 (List.replicate 1952 0) 32

/-- A full image with PINS, one slot definition and one data memory record, a key and a signature of zero bytes: the bytes that are
not 0. -/
def smallImage : Tab Byte :=
  [(0, 0x4D), (1, 0x49), (2, 0x51), (3, 0x43), (5, 1), (6, 96), (8, 0x40), (9, 0x96), (0xA, 3), (0xC, 0x50), (0xD, 0xA), (0x10, 7), (0x14, 3),
    (0x60, 1), (0x61, 1), (0x64, 0x90), (0x69, 2), (0x6C, 128), (0x70, 3), (0x71, 1), (0x74, 0x90), (0x75, 2), (0x78, 16), (0x7C, 1),
    (0x80, 4), (0x81, 1), (0x84, 0xA0), (0x85, 2), (0x88, 16), (0x8C, 1), (0x290, 1), (0x291, 5), (0x299, 1), (0x2A0, 2), (0x2A4, 8)] ++
    (List.range 32).map (fun i => (0x20 + i, zeroKeyDigest.getD i 0))

/-- CONFIGURE with that image staged and its owner's digest in the part. -/
def signedDev : Dev :=
  let d := { inRun with mode := .configure, img := { inRun.img with check := some 1 } }
  { d with sys := { d.sys with staged := smallImage }, sec := { d.sec with ownerDigest := some zeroKeyDigest } }

theorem firstFailed_append (a b : List Check) (h : firstFailed a = none) : firstFailed (a ++ b) = firstFailed b := by
  induction a with
  | nil => rfl
  | cons c cs ih =>
    simp only [firstFailed, List.cons_append] at h ⊢
    split at h
    · next hc => rw [if_pos hc]; exact ih h
    · cases h

theorem signed_header : firstFailed (Dev.headerChecks signedDev false signedDev.stagedImage) = none := by decide +kernel
theorem signed_owner : signedDev.stagedImage 0x20 32 = zeroKeyDigest := by rfl
theorem signed_key : signedDev.stagedImage (imgSigned signedDev.stagedImage - 1952) 1952 = List.replicate 1952 0 := by decide +kernel
theorem signed_table : lowestFailed (tableChecks false signedDev.stagedImage) = none := by decide +kernel
theorem signed_sizes : imgSigned signedDev.stagedImage = 2640 ∧ imgTotal signedDev.stagedImage ≤ 4194304 ∧ imgCount signedDev.stagedImage = 3 ∧
    signedDev.fld Fld.IMG_SEQ_FLOOR ≤ imgNum signedDev.stagedImage 0x10 4 := by decide +kernel
theorem signed_keyChecks : firstFailed (signedDev.keyChecks false signedDev.stagedImage) = none := by
  have ho : signedDev.sec.ownerDigest = some zeroKeyDigest := rfl
  obtain ⟨h1, h2, h3, h4⟩ := signed_sizes
  have h5 := signed_key
  rw [h1] at h5
  simp only [Dev.keyChecks, h1, h3, ho, signed_owner, h5, firstFailed, Option.getD_some, Option.isSome_some]
  have h6 : shake256 (List.replicate 1952 0) 32 = zeroKeyDigest := rfl
  simp only [Bool.false_eq_true, if_false, h2, h4, h6, decide_true, Bool.and_self, if_true]
  exact if_pos (by decide)

/-- Where its signature verifies, the image passes the check. -/
theorem witness_ImageApply_passes (hv : ∀ k m c g, Config.mldsaVerify k m c g = true) :
    (signedDev.checkImage false false signedDev.stagedImage).code = 0 := by
  have hs : firstFailed [sigCheck false signedDev.stagedImage] = none := by
    simp [firstFailed, sigCheck, verifySig, hv]
  unfold Dev.checkImage
  rw [firstFailed_append _ _ (by rw [firstFailed_append _ _ signed_header]; exact signed_keyChecks), hs, signed_table]
  rfl

/-- Its sections are applied without a refusal. -/
theorem witness_ImageApply_applies :
    (let checked := Dev.sigChecked ⟨8, 0, 0, 0⟩ { signedDev with out := [], img := { signedDev.img with check := none } }
     let held : Dev := { checked.storeRegion with img := { checked.storeRegion.img with torn := false } }
     (applyFrom signedDev.stagedImage (applyOrder (pinsAhead signedDev.stagedImage)) held.configReset).1) = none := by decide +kernel

end Sys2Proof.Tests
end

section
/-! PROOFS. What every step keeps: the law of `exec` over all commands, the canonical form over a tick. -/

namespace Sys2Proof.Machine

/-- Every command goes on, leaves the queue alone and changes only the parts `touches` gives it: one law per command, by its meaning. -/
theorem exec_kept (s : State) : ∀ c : Instr, KeptX (touches c) s (exec c s)
  | .registerWrite .. => execRegisterWrite_kept
  | .readClear .. => execReadClear_kept
  | .lowRegisterRead .. => execLowRegisterRead_kept
  | .highRegisterWrite .. => execHighRegisterWrite_kept
  | .lowRegisterCommit .. => execLowRegisterCommit_kept
  | .pairAccess64 .. => execPairAccess64_kept
  | .apply .. => execApply_kept
  | .imageApplyDone .. => execImageApplyDone_kept
  | .partStageWrite .. => execPartStageWrite_kept
  | .partSubmit .. => execPartSubmit_kept
  | .partialAdd => execPartialAdd_kept
  | .partialRemove => execPartialRemove_kept
  | .partialRemoveUndefine .. => execPartialRemoveUndefine_kept
  | .partialRefused => execPartialRefused_kept
  | .hostSlotWrite .. => execHostSlotWrite_kept
  | .routeEventDelivery => execRouteEventDelivery_kept
  | .staleMarking .. => execStaleMarking_kept
  | .nodeLeaveMark .. => execNodeLeaveMark_kept
  | .consumingRead .. => execConsumingRead_kept
  | .eventStart .. => execEventStart_kept
  | .doorbell .. => execDoorbell_kept
  | .threadTimerExpiry .. => execThreadTimerExpiry_kept
  | .rateTokenRefill .. => execRateTokenRefill_kept
  | .trailTimerExpiry .. => execTrailTimerExpiry_kept
  | .sliceDemotion .. => execSliceDemotion_kept
  | .budgetOverrun .. => execBudgetOverrun_kept
  | .engineJobComplete .. => execEngineJobComplete_kept
  | .assemblyBufferGrant .. => execAssemblyBufferGrant_kept
  | .engLoadUpdate .. => execEngLoadUpdate_kept
  | .nop .. => execNop_kept
  | .mov .. => execMov_kept
  | .movi .. => execMovi_kept
  | .movu .. => execMovu_kept
  | .add .. => execAdd_kept
  | .sub .. => execSub_kept
  | .mul .. => execMul_kept
  | .scale .. => execScale_kept
  | .divu .. => execDivu_kept
  | .and .. => execAnd_kept
  | .or .. => execOr_kept
  | .xor .. => execXor_kept
  | .shl .. => execShl_kept
  | .shr .. => execShr_kept
  | .sar .. => execSar_kept
  | .min .. => execMin_kept
  | .max .. => execMax_kept
  | .cmp .. => execCmp_kept
  | .sel .. => execSel_kept
  | .tagdn .. => execTagdn_kept
  | .tagrd .. => execTagrd_kept
  | .ext .. => execExt_kept
  | .lds .. => execLds_kept
  | .sts .. => execSts_kept
  | .age .. => execAge_kept
  | .ldw .. => execLdw_kept
  | .stw .. => execStw_kept
  | .ldt .. => execLdt_kept
  | .stt .. => execStt_kept
  | .ldh .. => execLdh_kept
  | .lkup .. => execLkup_kept
  | .unpk .. => execUnpk_kept
  | .unpks .. => execUnpks_kept
  | .pack .. => execPack_kept
  | .packs .. => execPacks_kept
  | .txopen .. => execTxopen_kept
  | .txsend .. => execTxsend_kept
  | .port13CreditTimeout .. => execPort13CreditTimeout_kept
  | .rate .. => execRate_kept
  | .fresh .. => execFresh_kept
  | .macgen .. => execMacgen_kept
  | .macver .. => execMacver_kept
  | .fld .. => execFld_kept
  | .fst .. => execFst_kept
  | .post .. => execPost_kept
  | .arm .. => execArm_kept
  | .qput .. => execQput_kept
  | .br .. => execBr_kept
  | .call .. => execCall_kept
  | .ret .. => execRet_kept
  | .jr .. => execJr_kept
  | .yield .. => execYield_kept
  | .done .. => execDone_kept
  | .trap .. => execTrap_kept
  | .tdLoad .. => execTdLoad_kept
  | .tdRate .. => execTdRate_kept
  | .tdAdj .. => execTdAdj_kept
  | .lockSet .. => execLockSet_kept
  | .lockClr .. => execLockClr_kept
  | .gptpFrameReceive .. => execGptpFrameReceive_kept
  | .syncLoss .. => execSyncLoss_kept
  | .sysSelect .. => execSysSelect_kept
  | .sysSelectEffect => execSysSelectEffect_kept
  | .sysRestart .. => execSysRestart_kept
  | .slewEnd => execSlewEnd_kept
  | .txTimestamp .. => execTxTimestamp_kept
  | .tsqRead .. => execTsqRead_kept
  | .snapshot .. => execSnapshot_kept
  | .ppsEdge .. => execPpsEdge_kept
  | .captureEdge .. => execCaptureEdge_kept
  | .captureRead .. => execCaptureRead_kept
  | .calWrite .. => execCalWrite_kept
  | .calLoad => execCalLoad_kept
  | .calReadLatch .. => execCalReadLatch_kept
  | .tampClr .. => execTampClr_kept
  | .calendarAlarm => execCalendarAlarm_kept
  | .oscStop => execOscStop_kept
  | .encoderEdge .. => execEncoderEdge_kept
  | .zResync .. => execZResync_kept
  | .stallTimeout .. => execStallTimeout_kept
  | .phaseSourceUpdate .. => execPhaseSourceUpdate_kept
  | .preset .. => execPreset_kept
  | .actionRearm .. => execActionRearm_kept
  | .actionCrossing .. => execActionCrossing_kept
  | .actionDispatch .. => execActionDispatch_kept
  | .pulseEnd .. => execPulseEnd_kept
  | .dcmdSend .. => execDcmdSend_kept
  | .dioInputAccept .. => execDioInputAccept_kept
  | .dioOutWrite .. => execDioOutWrite_kept
  | .dioWakeQualify .. => execDioWakeQualify_kept
  | .canFrameReceive .. => execCanFrameReceive_kept
  | .canBusError .. => execCanBusError_kept
  | .busOffRecovery .. => execBusOffRecovery_kept
  | .protocolException .. => execProtocolException_kept
  | .timingSelWrite .. => execTimingSelWrite_kept
  | .timingSwitch .. => execTimingSwitch_kept
  | .listenWrite .. => execListenWrite_kept
  | .listenEffect .. => execListenEffect_kept
  | .canTxStart .. => execCanTxStart_kept
  | .canTxSuccess .. => execCanTxSuccess_kept
  | .arbitrationLost .. => execArbitrationLost_kept
  | .cycleStart .. => execCycleStart_kept
  | .windowStart .. => execWindowStart_kept
  | .windowEnd .. => execWindowEnd_kept
  | .refTimeout .. => execRefTimeout_kept
  | .winDataWrite .. => execWinDataWrite_kept
  | .cycleWrite .. => execCycleWrite_kept
  | .canWakeMatch .. => execCanWakeMatch_kept
  | .injectGo .. => execInjectGo_kept
  | .ethFrameReceive .. => execEthFrameReceive_kept
  | .cutThroughDecide .. => execCutThroughDecide_kept
  | .admission => execAdmission_kept
  | .stomp .. => execStomp_kept
  | .switchEgressStart .. => execSwitchEgressStart_kept
  | .switchEgressDone .. => execSwitchEgressDone_kept
  | .portLinkDown .. => execPortLinkDown_kept
  | .portLinkUp .. => execPortLinkUp_kept
  | .lingerExpiry .. => execLingerExpiry_kept
  | .fdbAgeOut .. => execFdbAgeOut_kept
  | .wakePatternMatch .. => execWakePatternMatch_kept
  | .mdioStart .. => execMdioStart_kept
  | .mdioDone .. => execMdioDone_kept
  | .ringFrameReceive .. => execRingFrameReceive_kept
  | .orderGapTimeout .. => execOrderGapTimeout_kept
  | .ringBeaconSend => execRingBeaconSend_kept
  | .exportTimer .. => execExportTimer_kept
  | .ringReadIssue .. => execRingReadIssue_kept
  | .ringReadTimeout => execRingReadTimeout_kept
  | .ringWriteSend .. => execRingWriteSend_kept
  | .joinChallenge => execJoinChallenge_kept
  | .joinResponseTimeout => execJoinResponseTimeout_kept
  | .joinVerifyDone .. => execJoinVerifyDone_kept
  | .quarantineExpiry .. => execQuarantineExpiry_kept
  | .quarClr .. => execQuarClr_kept
  | .laneLinkChange .. => execLaneLinkChange_kept
  | .hostRead .. => execHostRead_kept
  | .hostWrite .. => execHostWrite_kept
  | .bridgeLogRead .. => execBridgeLogRead_kept
  | .versionOffer .. => execVersionOffer_kept
  | .queueEnable .. => execQueueEnable_kept
  | .queueDisable .. => execQueueDisable_kept
  | .recordStart .. => execRecordStart_kept
  | .recordFinish .. => execRecordFinish_kept
  | .d2hConsWrite .. => execD2hConsWrite_kept
  | .dropRest .. => execDropRest_kept
  | .qputTimeout .. => execQputTimeout_kept
  | .h2dDoorbell .. => execH2dDoorbell_kept
  | .descriptorFetched .. => execDescriptorFetched_kept
  | .port12FrameEntry .. => execPort12FrameEntry_kept
  | .descriptorRetire .. => execDescriptorRetire_kept
  | .holdoffExpiry .. => execHoldoffExpiry_kept
  | .msixUnmask .. => execMsixUnmask_kept
  | .bridgeReset .. => execBridgeReset_kept
  | .busMasterChange .. => execBusMasterChange_kept
  | .loadCommandWrite .. => execLoadCommandWrite_kept
  | .latchClear .. => execLatchClear_kept
  | .overcurrentTrip .. => execOvercurrentTrip_kept
  | .fastTrip .. => execFastTrip_kept
  | .overtempShutdown .. => execOvertempShutdown_kept
  | .inrushEnd .. => execInrushEnd_kept
  | .pwmPeriodStart .. => execPwmPeriodStart_kept
  | .diagCheck .. => execDiagCheck_kept
  | .supplyShutdown .. => execSupplyShutdown_kept
  | .supplyRestart .. => execSupplyRestart_kept
  | .groundLoss => execGroundLoss_kept
  | .reverseBattery .. => execReverseBattery_kept
  | .heartbeat .. => execHeartbeat_kept
  | .setFrame .. => execSetFrame_kept
  | .safeFrame .. => execSafeFrame_kept
  | .clearFrame .. => execClearFrame_kept
  | .readback .. => execReadback_kept
  | .takeover .. => execTakeover_kept
  | .park .. => execPark_kept
  | .statusFrame .. => execStatusFrame_kept
  | .senseFrame .. => execSenseFrame_kept
  | .stateFrame .. => execStateFrame_kept
  | .linkFrameRetry .. => execLinkFrameRetry_kept
  | .linkDown .. => execLinkDown_kept
  | .powerDieHold .. => execPowerDieHold_kept
  | .holdPolicy .. => execHoldPolicy_kept
  | .powerDiePowerup .. => execPowerDiePowerup_kept
  | .powerupTakeoverTimeout .. => execPowerupTakeoverTimeout_kept
  | .limpEntry => execLimpEntry_kept
  | .limpNRelease => execLimpNRelease_kept
  | .lhiFollow .. => execLhiFollow_kept
  | .limpLatchClear .. => execLimpLatchClear_kept
  | .supplyLimitReport => execSupplyLimitReport_kept
  | .xtsEnc .. => execXtsEnc_kept
  | .xtsDec .. => execXtsDec_kept
  | .gcmEnc .. => execGcmEnc_kept
  | .gcmDec .. => execGcmDec_kept
  | .cmacGen .. => execCmacGen_kept
  | .cmacVer .. => execCmacVer_kept
  | .unwrap .. => execUnwrap_kept
  | .wrap .. => execWrap_kept
  | .derive .. => execDerive_kept
  | .generate => execGenerate_kept
  | .random => execRandom_kept
  | .shake .. => execShake_kept
  | .mldsaVer .. => execMldsaVer_kept
  | .mldsaSign .. => execMldsaSign_kept
  | .attest .. => execAttest_kept
  | .cipherJobDone .. => execCipherJobDone_kept
  | .cphDoneRead .. => execCphDoneRead_kept
  | .cphLoadUpdate => execCphLoadUpdate_kept
  | .ksErase .. => execKsErase_kept
  | .ksLock .. => execKsLock_kept
  | .remaskVisit => execRemaskVisit_kept
  | .tamperEvent .. => execTamperEvent_kept
  | .rederive => execRederive_kept
  | .drbgHealthFail => execDrbgHealthFail_kept
  | .drbgResume => execDrbgResume_kept
  | .drbgReseed => execDrbgReseed_kept
  | .recAppend .. => execRecAppend_kept
  | .recorderWrite => execRecorderWrite_kept
  | .checkpoint => execCheckpoint_kept
  | .ckptRequest .. => execCkptRequest_kept
  | .ckptAgeExpiry => execCkptAgeExpiry_kept
  | .ckptRetry => execCkptRetry_kept
  | .checkSectorWritten => execCheckSectorWritten_kept
  | .recAck .. => execRecAck_kept
  | .recExportSelect .. => execRecExportSelect_kept
  | .faultEvent .. => execFaultEvent_kept
  | .faultWindowClose .. => execFaultWindowClose_kept
  | .severeClear .. => execSevereClear_kept
  | .safeExit .. => execSafeExit_kept
  | .forceSafe .. => execForceSafe_kept
  | .holdClear .. => execHoldClear_kept
  | .errHoldWrite .. => execErrHoldWrite_kept
  | .errminExpiry => execErrminExpiry_kept
  | .faultInject .. => execFaultInject_kept
  | .halfResetStart .. => execHalfResetStart_kept
  | .halfResetEnd .. => execHalfResetEnd_kept
  | .powerOn => execPowerOn_kept
  | .powerOff => execPowerOff_kept
  | .vbatValid .. => execVbatValid_kept
  | .vbatUndervoltage => execVbatUndervoltage_kept
  | .vbatWarning => execVbatWarning_kept
  | .rstNAssert => execRstNAssert_kept
  | .rstNRelease .. => execRstNRelease_kept
  | .romCheckDone .. => execRomCheckDone_kept
  | .configureEntry => execConfigureEntry_kept
  | .sysReset .. => execSysReset_kept
  | .sysDoze .. => execSysDoze_kept
  | .dozeEntryDone => execDozeEntryDone_kept
  | .sysSleep .. => execSysSleep_kept
  | .sleepPowerDown => execSleepPowerDown_kept
  | .sysReconfig .. => execSysReconfig_kept
  | .sysWake .. => execSysWake_kept
  | .dozeReturn => execDozeReturn_kept
  | .sleepWake => execSleepWake_kept
  | .hostAbsent => execHostAbsent_kept
  | .hostAlive .. => execHostAlive_kept
  | .partialLossClear .. => execPartialLossClear_kept
  | .lockstepMismatch => execLockstepMismatch_kept
  | .mgmtRequest .. => execMgmtRequest_kept
  | .mgmtFetch .. => execMgmtFetch_kept
  | .mgmtSyncError .. => execMgmtSyncError_kept
  | .mgmtTruncated .. => execMgmtTruncated_kept
  | .mgmtNop => execMgmtNop_kept
  | .mgmtStatus => execMgmtStatus_kept
  | .noticeFetch => execNoticeFetch_kept
  | .calRead => execCalRead_kept
  | .mgmtWake => execMgmtWake_kept
  | .mgmtReset => execMgmtReset_kept
  | .mgmtForceSafe => execMgmtForceSafe_kept
  | .mgmtLeaseTake => execMgmtLeaseTake_kept
  | .mgmtLeaseRelease => execMgmtLeaseRelease_kept
  | .hostLeaseTake .. => execHostLeaseTake_kept
  | .hostLeaseRelease => execHostLeaseRelease_kept
  | .blockRead => execBlockRead_kept
  | .blockWrite .. => execBlockWrite_kept
  | .recExport => execRecExport_kept
  | .mgmtAttest => execMgmtAttest_kept
  | .otpRead => execOtpRead_kept
  | .otpProg => execOtpProg_kept
  | .ownerDigest => execOwnerDigest_kept
  | .tokenNonce => execTokenNonce_kept
  | .factoryToken => execFactoryToken_kept
  | .ldrEnter .. => execLdrEnter_kept
  | .ldrVerify .. => execLdrVerify_kept
  | .verifyDone => execVerifyDone_kept
  | .ldrActivate .. => execLdrActivate_kept
  | .activateDone .. => execActivateDone_kept
  | .ldrReboot .. => execLdrReboot_kept
  | .confirmDeadline => execConfirmDeadline_kept
  | .busIntegration .. => execBusIntegration_kept
  | .pcieLinkUp .. => execPcieLinkUp_kept
  | .linkRecovery .. => execLinkRecovery_kept
  | .backupSupplyLoss => execBackupSupplyLoss_kept
  | .syncIntervalTimer .. => execSyncIntervalTimer_kept

theorem Dev.timeTick_canonical {d : Dev} (h : d.Canonical) : d.timeTick.Canonical := ⟨h.regs, h.settings, h.slots, h.keys⟩

theorem Dev.setOut_canonical {d : Dev} (h : d.Canonical) (x : List Emit) : (d.setOut x).Canonical :=
  ⟨h.regs, h.settings, h.slots, h.keys⟩

/-- Of a tick only the advance of time is outside `Kept`; what goes on after it may change any part (mask 2097151). -/
theorem Dev.tick_canonical {d : Dev} (h : d.Canonical) : d.tick.Canonical := by
  have hecc : d.eccTick.Canonical := (Dev.eccTick_kept Sub.rfl (Kept.refl _ d)).canonical h
  have hrest : Kept 2097151 d.eccTick.timeTick d.tick :=
    Dev.ringGo_kept Sub.rfl <| Dev.queueTick_kept (Sub.rfl.mono rfl) <| Dev.bootRom_kept (Sub.rfl.mono rfl) <|
      Dev.sweepTick_kept (Sub.rfl.mono rfl) <| Dev.calNsTick_kept (Sub.rfl.mono rfl) <| Dev.ppsTick_kept (Sub.rfl.mono rfl) <|
        Kept.refl _ _
  exact hrest.canonical (Dev.timeTick_canonical hecc)

/-- Settles O60: a step is the front command, of which `exec_kept` speaks, or a tick, which keeps the canonical form. -/
theorem stepKeepsInvariant : Obligations.StepKeepsInvariant := by
  unfold Obligations.StepKeepsInvariant
  intro s hs
  cases hq : s.pending with
  | nil =>
    refine ⟨⟨Dev.tick (s.dev.setOut []), []⟩, ?_, Dev.tick_canonical (Dev.setOut_canonical hs []), rfl, fun c hc => nomatch hc⟩
    rw [step_nil hq, run_eq, hq]
    rfl
  | cons c cs =>
    obtain ⟨e, hexec, hkept⟩ := exec_kept { s with pending := cs } c
    refine ⟨⟨e, cs⟩, (step_cons hq).trans hexec, hkept.canonical hs, rfl, fun c' hc => ?_⟩
    obtain rfl : c = c' := Option.some.inj hc
    exact hkept

end Sys2Proof.Machine
end

section
/-! PROOFS. An idle step is not idle where an access waits: a reset posted to the bridge is performed on the tick. -/

namespace Sys2Proof.Machine

/-- RUN, all else as at reset, with a host write of SYS_CTRL that asks for RESET in the bridge's posted buffer, where writes to ring
nodes have held it (R282, R312). -/
def resetPosted : Dev :=
  { devReset with mode := .run, hq := { devReset.hq with posted := [⟨⟨.bar0, Reg.SYS_CTRL, 4, true⟩, leBytes 4 0x7C000001, 0⟩] } }

/-- What of a tick comes after its draw of a corrected memory error. -/
def Dev.tickRest (d : Dev) : Dev := ((d.timeTick.ppsTick.calNsTick.sweepTick.bootRom).queueTick).ringGo

theorem Dev.tick_eq (d : Dev) : d.tick = d.eccTick.tickRest := rfl

theorem Dev.eccTick_service {d : Dev} (h : d.inService = true) : d.eccTick =
    (d.setFresh (d.fresh + 1)).count (Fld.ENG_ECC_CORR (Config.free d.fresh / 2 % 8)) (Config.free d.fresh % 2) := by
  simp only [Dev.eccTick, Dev.enginesRun, h, Bool.not_true, Bool.false_eq_true, if_false]
  rfl

/-- The waiting RESET is performed on the tick, whichever corrected error the tick draws. -/
theorem tickRest_resetPosted : ∀ (e : Fin 8) (n : Fin 2),
    ((resetPosted.setFresh 1).count (Fld.ENG_ECC_CORR e.val) n.val).tickRest.mode = .held := by decide +kernel

theorem tick_resetPosted : resetPosted.tick.mode = .held := by
  rw [Dev.tick_eq, Dev.eccTick_service (by decide)]
  exact tickRest_resetPosted ⟨_, Nat.mod_lt _ (by decide)⟩ ⟨_, Nat.mod_lt _ (by decide)⟩

/-- Refutes O59: a tick lets the accesses that wait in the bridge go on (R282), and one of them may be a SYS_CTRL write that ends RUN. -/
theorem not_stepAndReset : ¬ Obligations.StepAndReset := by
  unfold Obligations.StepAndReset
  rintro ⟨-, hidle, -⟩
  obtain ⟨d, hstep, -, hservice⟩ := hidle ⟨resetPosted, []⟩ rfl
  obtain ⟨-, hmode⟩ := hservice (by decide)
  have htick : step ⟨resetPosted, []⟩ = .next ⟨resetPosted.tick, []⟩ := step_nil rfl
  obtain rfl : resetPosted.tick = d := by simpa [htick] using hstep
  rw [tick_resetPosted] at hmode
  exact absurd hmode (by decide)

end Sys2Proof.Machine
end

section
/-! PROOFS. Accesses to the local registers (R6, R7, R76, R313): what an accepted write or read does, and the register pairs. -/

namespace Sys2Proof.Machine

/-! ### What precedes an accepted access -/

/-- The part once a path's write of `w` to `a` is accepted, before the register sees it: the master is not silent, a FREE lease is its. -/
def Dev.granted (p : Path) (a w : Nat) (d : Dev) : Dev := (d.seen p).takeLease p a w

@[simp] theorem Dev.rd_seen (d : Dev) (p : Path) (x : Nat) : (d.seen p).rd x = d.rd x := by cases p <;> rfl

@[simp] theorem Dev.frc_seen (d : Dev) (p : Path) : (d.seen p).frc = d.frc := by cases p <;> rfl

@[simp] theorem Dev.out_seen (d : Dev) (p : Path) : (d.seen p).out = d.out := by cases p <;> rfl

@[simp] theorem Dev.latch_seen (d : Dev) (p q : Path) : (d.seen p).latch q = d.latch q := by cases p <;> rfl

@[simp] theorem Dev.definedCount_seen (d : Dev) (p : Path) : (d.seen p).definedCount = d.definedCount := by cases p <;> rfl

@[simp] theorem Dev.rd_emit (d : Dev) (e : Emit) (x : Nat) : (d.emit e).rd x = d.rd x := rfl

@[simp] theorem Dev.latch_emit (d : Dev) (e : Emit) (p : Path) : (d.emit e).latch p = d.latch p := rfl

@[simp] theorem Dev.frc_emit (d : Dev) (e : Emit) : (d.emit e).frc = d.frc := rfl

@[simp] theorem Dev.out_emit (d : Dev) (e : Emit) : (d.emit e).out = d.out ++ [e] := rfl

@[simp] theorem Dev.rd_setLatch (d : Dev) (p : Path) (l : Latch) (x : Nat) : (d.setLatch p l).rd x = d.rd x := rfl

@[simp] theorem Dev.latch_setLatch (d : Dev) (p : Path) (l : Latch) : (d.setLatch p l).latch p = l := Tab.get_set _ _ _ _

@[simp] theorem Dev.rd_latchRead (d : Dev) (p : Path) (w : Word) (x : Nat) : (d.latchRead p w).rd x = d.rd x := rfl

@[simp] theorem Dev.latch_latchRead (d : Dev) (p : Path) (w : Word) : (d.latchRead p w).latch p = { d.latch p with read := w } :=
  Dev.latch_setLatch _ _ _

/-- FS25, which a new holder raises, passes no crossing group and so counts in no register. -/
theorem Dev.rd_putHolder_ne (d : Dev) (n : Nat) {x : Nat} (hx : x ≠ Reg.MGT_STATUS) : (d.putHolder n).rd x = d.rd x := by
  have hput : (d.put Fld.MGT_STATUS_HOLDER n).rd x = d.rd x := Dev.rd_put_ne d _ n hx
  simp only [Dev.putHolder]
  split
  · rw [Dev.raise_eq _ 25 (by decide)]; exact hput
  · exact hput

theorem Dev.rd_granted_ne (d : Dev) (p : Path) (a w : Nat) {x : Nat} (hx : x ≠ Reg.MGT_STATUS) :
    (d.granted p a w).rd x = d.rd x := by
  unfold Dev.granted Dev.takeLease
  split
  · rw [Dev.rd_putHolder_ne _ _ hx, Dev.rd_seen]
  · exact Dev.rd_seen d p x

theorem Dev.granted_kept (d : Dev) (p : Path) (a w : Nat) : Kept (Part.regs ||| Part.mgmt ||| Part.faultQ) d (d.granted p a w) :=
  Dev.takeLease_kept (Sub.rfl.mono rfl) (Dev.seen_kept (Sub.rfl.mono rfl) (Kept.refl _ d))

theorem Kept.latch_eq {M : Nat} {d e : Dev} (h : Kept M d e) (hM : M.testBit 2 = false) (p : Path) : e.latch p = d.latch p := by
  unfold Dev.latch; rw [h.latches hM]

@[simp] theorem Dev.latch_granted (d : Dev) (p q : Path) (a w : Nat) : (d.granted p a w).latch q = d.latch q :=
  (d.granted_kept p a w).latch_eq rfl q

@[simp] theorem Dev.rd_writeBy (d : Dev) (p : Path) (f : Dev → Dev) (x : Nat) : (d.writeBy p f).rd x = (f d).rd x := by
  unfold Dev.writeBy; split <;> rfl

@[simp] theorem Dev.latch_writeBy (d : Dev) (p q : Path) (f : Dev → Dev) : (d.writeBy p f).latch q = (f d).latch q := by
  unfold Dev.writeBy; split <;> rfl

/-- The outputs of the command before are no part the frames speak of. -/
theorem Kept.of_cleared {M : Nat} {d e : Dev} (h : Kept M (d.setOut []) e) : Kept M d e :=
  (Kept.refl M d).set_out.trans h

theorem Sub.zero {M : Nat} : Sub 0 M := Nat.zero_and M

/-! ### Accesses to the local registers -/

theorem regCode_ok {a : Nat} (ha : a < 0x1300000) (h4 : a % 4 = 0) : regCode a false = E_OK := by
  simp [regCode, inWindows, ha, h4, lowestCode, E_OK]

theorem regCode_outside {a : Nat} (ha : 0x1300000 ≤ a) (h4 : a % 4 = 0) : regCode a false = E_PERM := by
  have : ¬ a < 0x1300000 := by omega
  simp [regCode, inWindows, this, h4, lowestCode, E_OK, E_PERM]

/-- An accepted write of a register. -/
theorem Dev.busWrite_accepted {d : Dev} {p : Path} {a : Nat} {v : Word} (ha : a < 0x1300000) (h4 : a % 4 = 0)
    (hc : d.writeCode p a v.toNat = 0) : d.busWrite p a v = (d.granted p a v.toNat).writeBy p (Dev.regWrite p a v) := by
  simp [Dev.busWrite, Dev.regAccess, regCode_ok ha h4, Dev.writeAs, hc, E_OK, Dev.granted]

/-- An accepted read of a register. -/
theorem Dev.busRead_accepted {d : Dev} {p : Path} {a : Nat} (ha : a < 0x1300000) (h4 : a % 4 = 0) (hp : d.pathOpen p a = true) :
    d.busRead p a = ((d.seen p).regRead p a).2.emit (.data p a ((d.seen p).regRead p a).1.toNat) := by
  simp [Dev.busRead, Dev.regAccess, regCode_ok ha h4, Dev.readAs, hp]

/-! ### Writes by the access codes alone -/

/-- The word a plain write leaves: RW fields take the written bits, a written 1 clears W1C and sets W1S bits (R6). -/
def Dev.plainWord (d : Dev) (a : Nat) (v : Word) : Word :=
  ((d.rd a &&& ~~~setMask a) ||| (v &&& setMask a)) &&& ~~~(v &&& regMask (· = .w1c) a) ||| (v &&& regMask (· = .w1s) a)

@[simp] theorem Dev.rd_plainWrite (d : Dev) (a : Nat) (v : Word) : (d.plainWrite a v).rd a = d.plainWord a v := Dev.rd_wr _ _ _

theorem Dev.rd_plainWrite_ne (d : Dev) {a x : Nat} (v : Word) (h : x ≠ a) : (d.plainWrite a v).rd x = d.rd x := Dev.rd_wr_ne d _ h

theorem Dev.plainWord_congr {d e : Dev} {a : Nat} (h : e.rd a = d.rd a) (v : Word) : e.plainWord a v = d.plainWord a v := by
  unfold Dev.plainWord; rw [h]

/-- Where every bit is RW, the word written stands. -/
theorem Dev.plainWord_rw {d : Dev} {a : Nat} (v : Word) (hs : setMask a = BitVec.allOnes 32) (hc : regMask (· = .w1c) a = 0)
    (h1 : regMask (· = .w1s) a = 0) : d.plainWord a v = v := by
  unfold Dev.plainWord
  rw [hs, hc, h1]
  simp only [BitVec.not_allOnes, BitVec.ofNat_eq_ofNat, BitVec.and_zero, BitVec.and_allOnes, BitVec.zero_or, BitVec.not_zero,
    BitVec.or_zero]

/-- A register of the queue pairs outside those with an action of their own. -/
theorem Dev.regWrite_queue_plain {a : Nat} (hlo : 0xD00000 ≤ a) (hhi : a < 0xD04000)
    (hact : a % 0x100 ∉ [0x00, 0x08, 0x40, 0x50, 0x64, 0x68, 0x70]) (hpl : pairLow a = none) (hpw : pairWidth a = 0)
    (p : Path) (v : Word) (d : Dev) : d.regWrite p a v = d.plainWrite a v := by
  have hwin : d.windowWrite p a v = d.writeQueues a v := by
    unfold Dev.windowWrite
    iterate 8 rw [if_neg (by omega)]
    rw [if_pos (by omega)]
  have hq : d.writeQueues a v = d.plainWrite a v := by
    simp only [List.mem_cons, List.not_mem_nil, or_false, not_or] at hact
    unfold Dev.writeQueues
    simp only [hhi, if_true]
    split
    case h_8 => rfl
    all_goals omega
  simp [Dev.regWrite, hpl, hpw, hwin, hq]

/-- A register of the phase domains outside those with an action of their own. -/
theorem Dev.windowWrite_phase_plain {a : Nat} (hlo : 0xE80000 ≤ a) (hhi : a < 0xE80100) (hvmin : a % 0x40 ≠ 0x20)
    (hctrl : a % 0x40 ≠ 0x30) (p : Path) (v : Word) (d : Dev) : d.windowWrite p a v = d.plainWrite a v := by
  have hwin : d.windowWrite p a v = d.writePhase p a v := by
    unfold Dev.windowWrite
    iterate 10 rw [if_neg (by omega)]
    rw [if_pos (by omega)]
  have hact : ¬ 0xE88000 ≤ a := by omega
  have hdio : ∀ b, 0xE80100 ≤ b → a ≠ b := by omega
  rw [hwin]
  simp [Dev.writePhase, hvmin, hctrl, hact, hdio, Reg.DIO_OUT, Reg.DIO_OUT_SET, Reg.DIO_OUT_CLR, Reg.DIO_FORCE_EN, Reg.DIO_FORCE_VAL]

/-- The registers of the recorder's acknowledged sequence number. -/
theorem Dev.windowWrite_ack_plain {a : Nat} (hlo : Reg.REC_ACK_SEQ_LO ≤ a) (hhi : a < Reg.REC_EXP_SSEQ_LO) (p : Path) (v : Word)
    (d : Dev) : d.windowWrite p a v = d.plainWrite a v := by
  simp only [Reg.REC_ACK_SEQ_LO, Reg.REC_EXP_SSEQ_LO] at hlo hhi
  have hwin : d.windowWrite p a v = d.writeSecurity p a v := by
    unfold Dev.windowWrite
    iterate 12 rw [if_neg (by omega)]
    rw [if_pos (by omega)]
  have hlow : ∀ b, b < 0x1030058 → a ≠ b := by omega
  have hjd : ¬ a ≤ 0x101003C := by omega
  have hack : ¬ 0x1090000 ≤ a := by omega
  rw [hwin]
  simp [Dev.writeSecurity, hlow, hjd, hack, Reg.KS_REMASK, Reg.KS_CMD, Reg.CPH_JD, Reg.CPH_SUBMIT, Reg.REC_CTRL]

/-! ### Register pairs (R7) -/

/-- A pair of high width `w` from `a`, of RW bits only in its low register, both registers written by the access codes alone. -/
structure PlainPair (a w : Nat) : Prop where
  notHigh : pairLow a = none
  width : pairWidth a = w
  pair : w ≠ 0
  window : a < 0x1300000
  aligned : a % 4 = 0
  lowRw : setMask a = BitVec.allOnes 32
  lowNoW1c : regMask (· = .w1c) a = 0
  lowNoW1s : regMask (· = .w1s) a = 0
  noExport : a ≠ Reg.REC_EXP_SSEQ_LO
  noAction : a < 0xE88000 ∨ 0xE90000 ≤ a
  notHolder : a ≠ Reg.MGT_STATUS ∧ a + 4 ≠ Reg.MGT_STATUS
  low : ∀ (p : Path) (v : Word) (d : Dev), d.windowWrite p a v = d.plainWrite a v
  high : ∀ (p : Path) (v : Word) (d : Dev), d.windowWrite p (a + 4) v = d.plainWrite (a + 4) v

theorem plainPair_preset (k : Fin 4) : PlainPair (Reg.PH_DOM_PRESET_LO k.val) 8 := by
  constructor
  case low => exact Dev.windowWrite_phase_plain (by revert k; decide) (by revert k; decide) (by revert k; decide) (by revert k; decide)
  case high => exact Dev.windowWrite_phase_plain (by revert k; decide) (by revert k; decide) (by revert k; decide) (by revert k; decide)
  all_goals revert k; decide

theorem plainPair_ack : PlainPair Reg.REC_ACK_SEQ_LO 32 := by
  constructor
  case low => exact Dev.windowWrite_ack_plain (by decide) (by decide)
  case high => exact Dev.windowWrite_ack_plain (by decide) (by decide)
  all_goals decide

/-- A write of the low register commits the pair: both registers by their access codes, the high one from the staged word. -/
theorem Dev.regWrite_plainPair {a w : Nat} (h : PlainPair a w) (p : Path) (v : Word) (d : Dev) :
    d.regWrite p a v = (d.plainWrite a v).plainWrite (a + 4) (d.stagedHigh p w) := by
  have hset : setMask a ≠ 0 := by rw [h.lowRw]; decide
  have hcommit : d.regWrite p a v = d.pairCommit p a v := by
    unfold Dev.regWrite
    rw [h.notHigh, h.width]
    exact if_pos (by rw [decide_eq_true h.pair, decide_eq_true hset]; rfl)
  have hact : (decide (0xE88000 ≤ a) && decide (a < 0xE90000)) = false := by
    have := h.noAction
    simp only [Bool.and_eq_false_iff, decide_eq_false_iff_not]
    omega
  rw [hcommit, Dev.pairCommit, if_neg h.noExport, hact, h.width, h.low, h.high]
  rfl

/-- A write of a high register is only staged on its path. -/
theorem Dev.regWrite_high {a lo : Nat} (hpl : pairLow a = some lo) (hs : setMask a ≠ 0) (p : Path) (v : Word) (d : Dev) :
    d.regWrite p a v = d.setLatch p { d.latch p with staged := v &&& setMask a } := by
  unfold Dev.regWrite
  rw [hpl]
  exact if_neg hs

@[simp] theorem Dev.stagedHigh_granted (d : Dev) (p q : Path) (a x w : Nat) :
    (d.granted p a x).stagedHigh q w = d.stagedHigh q w := by
  simp [Dev.stagedHigh]

/-! ### Reads -/

/-- In the store's window a register shows the count of the defined slots or what the register file holds. -/
theorem Dev.regShow_store {a : Nat} (hlo : 0x200000 ≤ a) (hhi : a < 0x300000) (p : Path) (d : Dev) :
    d.regShow p a = if a = Reg.SIG_DEFINED then BitVec.ofNat 32 d.definedCount else d.rawReg a := by
  have hword : isLatchedWord a = false := by
    have hb : ∀ b, 0x300000 ≤ b → ¬ b ≤ a ∧ a ≠ b := by omega
    simp [isLatchedWord, hb, Reg.TB_SNAP_FRC_LO, Reg.TB_TSQ_W0, Reg.TB_CAP_W0, Reg.TB_CAL_SUB, Reg.BRG_LOG_W1, Reg.BRG_LOG_W2,
      Reg.CPH_DONE_W]
  have hb : ∀ b, 0x300000 ≤ b → ¬ b ≤ a ∧ a ≠ b := by omega
  simp [Dev.regShow, hword, hb, Reg.BRG_STATUS]

theorem Dev.regShow_store_seen {a : Nat} (hlo : 0x200000 ≤ a) (hhi : a < 0x300000) (p q : Path) (d : Dev) :
    (d.seen q).regShow p a = d.regShow p a := by
  simp [Dev.regShow_store hlo hhi, Dev.rawReg]

/-- A read in the store's window shows the register and clears its RC bits. -/
theorem Dev.regRead_store {a : Nat} (hlo : 0x200000 ≤ a) (hhi : a < 0x300000) (hpl : pairLow a = none)
    (hrc : regMask (· = .rc) a ≠ 0) (p : Path) (d : Dev) :
    (d.regRead p a).1 = d.regShow p a ∧ (d.regRead p a).2.out = d.out ∧
      ∀ x, (d.regRead p a).2.rd x = (d.wr a (d.rd a &&& ~~~regMask (· = .rc) a)).rd x := by
  have hb : ∀ b, 0x300000 ≤ b → ¬ b ≤ a ∧ a ≠ b := by omega
  have hclear : ∀ e : Dev, e.clearRead a = e.wr a (e.rd a &&& ~~~regMask (· = .rc) a) := fun e => by
    unfold Dev.clearRead
    rw [if_neg hrc]
    simp [hb, Reg.SW_FREE, Reg.LS_VBAT]
  have hread : d.regRead p a =
      (d.regShow p a, (if pairWidth a = 0 then d else d.latchRead p (d.regShow p (a + 4))).clearRead a) := by
    simp [Dev.regRead, hpl, hb, Reg.TB_CAL_SEC_LO, Reg.TB_TSQ_W0, Reg.TB_CAP_W0, Reg.BRG_LOG_W0, Reg.CPH_DONE_W0]
  rw [hread, hclear]
  dsimp only
  split <;> exact ⟨rfl, rfl, fun _ => rfl⟩

/-- A read of FRC_LO gives the low word and latches the high one on the path. -/
theorem Dev.regRead_frcLo (p : Path) (d : Dev) : d.regRead p Reg.TB_FRC_LO =
    (BitVec.ofNat 32 d.frc.toNat, d.latchRead p (BitVec.ofNat 32 (d.frc.toNat / 2 ^ 32))) := rfl

/-- A read of FRC_HI gives what the path has latched. -/
theorem Dev.regRead_frcHi (p : Path) (d : Dev) : d.regRead p Reg.TB_FRC_HI = ((d.latch p).read, d) := by
  have hmask : regMask (· ≠ .wo) Reg.TB_FRC_HI = BitVec.allOnes 32 := by decide
  have hread : d.regRead p Reg.TB_FRC_HI = ((d.latch p).read &&& regMask (· ≠ .wo) Reg.TB_FRC_HI, d) := rfl
  rw [hread, hmask, BitVec.and_allOnes]

theorem frcLow_toNat (c : BitVec 64) : (BitVec.ofNat 32 c.toNat).toNat = c.toNat % 2 ^ 32 := BitVec.toNat_ofNat _ _

theorem frcHigh_toNat (c : BitVec 64) : (BitVec.ofNat 32 (c.toNat / 2 ^ 32)).toNat = c.toNat / 2 ^ 32 := by
  rw [BitVec.toNat_ofNat]; omega

/-- A 64-bit read of FRC gives the whole counter and leaves the path's latch. -/
theorem Dev.pairRead_frc (p : Path) (d : Dev) :
    (d.pairRead p Reg.TB_FRC_LO).1 = d.frc.toNat ∧ ((d.pairRead p Reg.TB_FRC_LO).2.latch p).read = (d.latch p).read ∧
      (d.pairRead p Reg.TB_FRC_LO).2.out = d.out := by
  have hhi : Reg.TB_FRC_LO + 4 = Reg.TB_FRC_HI := rfl
  simp only [Dev.pairRead, hhi, Dev.regRead_frcLo, Dev.regRead_frcHi, Dev.latch_latchRead, frcLow_toNat, frcHigh_toNat]
  exact ⟨by omega, trivial, rfl⟩

/-! ### The commands -/

/-- A command that acts where a condition holds, where it holds. -/
theorem run_onlyIf {c : Bool} (h : c = true) (f : Dev → Dev) (s : State) : run (fun d => d.onlyIf c f) s = run f s := by
  subst h; rfl


/-- An accepted write of a plain register of the queue pairs. -/
theorem Dev.busWrite_queue_plain {a : Nat} (hlo : 0xD00000 ≤ a) (hhi : a < 0xD04000) (h4 : a % 4 = 0)
    (hact : a % 0x100 ∉ [0x00, 0x08, 0x40, 0x50, 0x64, 0x68, 0x70]) (hpl : pairLow a = none) (hpw : pairWidth a = 0)
    {p : Path} {v : Word} {d : Dev} (hc : d.writeCode p a v.toNat = 0) :
    (d.busWrite p a v).rd a = d.plainWord a v ∧ OtherRegs [a, Reg.MGT_STATUS] d (d.busWrite p a v) ∧
      Kept (Part.regs ||| Part.mgmt ||| Part.faultQ) d (d.busWrite p a v) := by
  have hwrite := Dev.regWrite_queue_plain hlo hhi hact hpl hpw p v
  have hmgt : a ≠ Reg.MGT_STATUS := by unfold Reg.MGT_STATUS; omega
  rw [Dev.busWrite_accepted (by omega) h4 hc]
  refine ⟨?_, fun x hx => ?_, Dev.writeBy_kept (fun y hy => ?_) Sub.zero (Dev.granted_kept _ _ _ _)⟩
  · rw [Dev.rd_writeBy, hwrite, Dev.rd_plainWrite]
    exact Dev.plainWord_congr (Dev.rd_granted_ne _ _ _ _ hmgt) v
  · obtain ⟨hxa, hxm⟩ : x ≠ a ∧ x ≠ Reg.MGT_STATUS := by simpa using hx
    rw [Dev.rd_writeBy, hwrite, Dev.rd_plainWrite_ne _ _ hxa, Dev.rd_granted_ne _ _ _ _ hxm]
  · rw [hwrite]
    exact Dev.plainWrite_kept (Sub.rfl.mono rfl) hy

/-- A write outside every window, on a path without a bridge log. -/
theorem Dev.busWrite_outside {a : Nat} (ha : 0x1300000 ≤ a) (h4 : a % 4 = 0) {p : Path} (hp : p ≠ .host) (v : Word) (d : Dev) :
    (d.busWrite p a v).out = d.out ++ [.code p E_PERM] ∧ (∀ x, (d.busWrite p a v).rd x = d.rd x) ∧ Kept 0 d (d.busWrite p a v) := by
  have hrefused : d.busWrite p a v = d.emit (.code p E_PERM) := by
    simp [Dev.busWrite, Dev.regAccess, regCode_outside ha h4, Dev.refuseAccess, hp, E_OK, E_PERM]
  rw [hrefused]
  exact ⟨rfl, fun _ => rfl, Dev.emit_kept Sub.zero (Kept.refl _ _)⟩

/-- A read of a register with RC bits in the store's window, on a path open to it. -/
theorem Dev.busRead_store {a : Nat} (hlo : 0x200000 ≤ a) (hhi : a < 0x300000) (h4 : a % 4 = 0) (hpl : pairLow a = none)
    (hrc : regMask (· = .rc) a ≠ 0) {p : Path} {d : Dev} (hp : d.pathOpen p a = true) (hout : d.out = []) :
    (d.busRead p a).out = [.data p a (d.regShow p a).toNat] ∧
      (d.busRead p a).rd a = d.rd a &&& ~~~regMask (· = .rc) a ∧ OtherRegs [a] d (d.busRead p a) := by
  obtain ⟨hword, hquiet, hrd⟩ := Dev.regRead_store hlo hhi hpl hrc p (d.seen p)
  rw [Dev.busRead_accepted (by omega) h4 hp]
  refine ⟨?_, ?_, fun x hx => ?_⟩
  · rw [Dev.out_emit, hquiet, Dev.out_seen, hout, hword, Dev.regShow_store_seen hlo hhi]
    rfl
  · rw [Dev.rd_emit, hrd, Dev.rd_wr, Dev.rd_seen]
  · rw [Dev.rd_emit, hrd, Dev.rd_wr_ne _ _ (by simpa using hx), Dev.rd_seen]

/-- A read of FRC_LO on a path open to it. -/
theorem Dev.busRead_frcLo {p : Path} {d : Dev} (hp : d.pathOpen p Reg.TB_FRC_LO = true) (hout : d.out = []) :
    (d.busRead p Reg.TB_FRC_LO).out = [.data p Reg.TB_FRC_LO (d.frc.toNat % 2 ^ 32)] ∧
      ((d.busRead p Reg.TB_FRC_LO).latch p).read.toNat = d.frc.toNat / 2 ^ 32 ∧
      ((d.busRead p Reg.TB_FRC_LO).latch p).staged = (d.latch p).staged ∧ (d.busRead p Reg.TB_FRC_LO).frc = d.frc := by
  rw [Dev.busRead_accepted (by decide) (by decide) hp, Dev.regRead_frcLo, Dev.frc_seen, frcLow_toNat]
  refine ⟨?_, ?_, ?_, (d.frc_seen p)⟩
  · exact congrArg (· ++ _) ((d.out_seen p).trans hout)
  · rw [Dev.latch_emit, Dev.latch_latchRead, frcHigh_toNat]
  · rw [Dev.latch_emit, Dev.latch_latchRead, Dev.latch_seen]

/-- A 64-bit read of FRC on a path open to it. -/
theorem Dev.busRead64_frc {p : Path} {d : Dev} (hp : d.pathOpen p Reg.TB_FRC_LO = true) (hout : d.out = []) :
    (d.busRead64 p Reg.TB_FRC_LO).out = [.data p Reg.TB_FRC_LO d.frc.toNat] ∧
      ((d.busRead64 p Reg.TB_FRC_LO).latch p).read = (d.latch p).read := by
  have hcode : regCode Reg.TB_FRC_LO true = E_OK := by decide
  have hread : d.busRead64 p Reg.TB_FRC_LO =
      (d.pairRead p Reg.TB_FRC_LO).2.emit (.data p Reg.TB_FRC_LO (d.pairRead p Reg.TB_FRC_LO).1) := by
    simp [Dev.busRead64, Dev.regAccess, hcode, hp]
  obtain ⟨hword, hlatch, hquiet⟩ := Dev.pairRead_frc p d
  rw [hread, hword, Dev.out_emit, Dev.latch_emit, hquiet, hout]
  exact ⟨rfl, hlatch⟩

/-- An accepted write of the high register of a pair. -/
theorem Dev.busWrite_high {a lo : Nat} (ha : a < 0x1300000) (h4 : a % 4 = 0) (hpl : pairLow a = some lo) (hs : setMask a ≠ 0)
    {p : Path} {v : Word} {d : Dev} (hc : d.writeCode p a v.toNat = 0) :
    ((d.busWrite p a v).latch p).staged = v &&& setMask a ∧ ((d.busWrite p a v).latch p).read = (d.latch p).read ∧
      OtherRegs [Reg.MGT_STATUS] d (d.busWrite p a v) ∧
      Kept (Part.regs ||| Part.latches ||| Part.mgmt ||| Part.faultQ) d (d.busWrite p a v) := by
  have hwrite := Dev.regWrite_high hpl hs p v
  rw [Dev.busWrite_accepted ha h4 hc]
  refine ⟨?_, ?_, fun x hx => ?_, Dev.writeBy_kept (fun y hy => ?_) Sub.zero ((Dev.granted_kept _ _ _ _).mono rfl)⟩
  · rw [Dev.latch_writeBy, hwrite, Dev.latch_setLatch]
  · rw [Dev.latch_writeBy, hwrite, Dev.latch_setLatch, Dev.latch_granted]
  · rw [Dev.rd_writeBy, hwrite, Dev.rd_setLatch, Dev.rd_granted_ne _ _ _ _ (by simpa using hx)]
  · rw [hwrite]
    exact Dev.setLatch_kept (Sub.rfl.mono rfl) hy

/-- An accepted write of the low register of a pair. -/
theorem Dev.busWrite_plainPair {a w : Nat} (h : PlainPair a w) {p : Path} {v : Word} {d : Dev} (hc : d.writeCode p a v.toNat = 0) :
    (d.busWrite p a v).rd a = v ∧ (d.busWrite p a v).rd (a + 4) = d.plainWord (a + 4) (d.stagedHigh p w) ∧
      OtherRegs [a, a + 4, Reg.MGT_STATUS] d (d.busWrite p a v) := by
  obtain ⟨hlow, hhigh⟩ := h.notHolder
  rw [Dev.busWrite_accepted h.window h.aligned hc]
  refine ⟨?_, ?_, fun x hx => ?_⟩
  · rw [Dev.rd_writeBy, Dev.regWrite_plainPair h, Dev.rd_plainWrite_ne _ _ (by omega), Dev.rd_plainWrite,
      Dev.plainWord_rw v h.lowRw h.lowNoW1c h.lowNoW1s]
  · rw [Dev.rd_writeBy, Dev.regWrite_plainPair h, Dev.rd_plainWrite, Dev.stagedHigh_granted]
    exact Dev.plainWord_congr ((Dev.rd_plainWrite_ne _ _ (by omega)).trans (Dev.rd_granted_ne _ _ _ _ hhigh)) _
  · obtain ⟨hx0, hx4, hxm⟩ : x ≠ a ∧ x ≠ a + 4 ∧ x ≠ Reg.MGT_STATUS := by simpa using hx
    rw [Dev.rd_writeBy, Dev.regWrite_plainPair h, Dev.rd_plainWrite_ne _ _ hx4, Dev.rd_plainWrite_ne _ _ hx0,
      Dev.rd_granted_ne _ _ _ _ hxm]

theorem lowRegisterCommit_plainPair {a w : Nat} (h : PlainPair a w) {p : Path} {v : Word} {s : State}
    (hc : s.dev.writeCode p a v.toNat = 0) : Does (.lowRegisterCommit p (BitVec.ofNat 40 a) v) s (fun d =>
      d.rd a = v ∧ d.rd (a + 4) = s.dev.plainWord (a + 4) (s.dev.stagedHigh p w) ∧
        OtherRegs [a, a + 4, Reg.MGT_STATUS] s.dev d) := by
  have haddr : (BitVec.ofNat 40 a).toNat = a := by
    have := h.window
    rw [BitVec.toNat_ofNat]; omega
  have hpair : pairWidth (BitVec.ofNat 40 a).toNat ≠ 0 := by rw [haddr, h.width]; exact h.pair
  have hrun : exec (.lowRegisterCommit p (BitVec.ofNat 40 a) v) s = run (Dev.busWrite p a v) s :=
    (run_onlyIf (decide_eq_true hpair) _ s).trans (by rw [haddr])
  exact ⟨_, hrun, Dev.busWrite_plainPair (d := s.dev.setOut []) h hc⟩

/-- Settles O17: each kind of access reduces to what `regWrite` or `regRead` does at its address, behind an accepted lease. -/
theorem registerAccesses : Obligations.RegisterAccesses := by
  unfold Obligations.RegisterAccesses
  intro p s
  refine ⟨?plain, ?outside, ?readClear, ?low, ?high, ?commit, ?wide⟩
  case plain =>
    rintro a v ⟨hlo, hhi, h4, hact⟩ hpl hpw hc
    obtain ⟨hword, hothers, hkept⟩ := Dev.busWrite_queue_plain (d := s.dev.setOut []) hlo hhi h4 hact hpl hpw hc
    exact ⟨_, rfl, hword, hothers, hkept.of_cleared⟩
  case outside =>
    intro a v ha h4 hp
    obtain ⟨hout, hregs, hkept⟩ := Dev.busWrite_outside ha h4 hp v (s.dev.setOut [])
    exact ⟨_, rfl, hout, hregs, hkept.of_cleared⟩
  case readClear =>
    intro a hlo hhi h4 hpl hrc hp
    have hrun : exec (.readClear p a) s = run (Dev.busRead p a.toNat) s := run_onlyIf (decide_eq_true hrc) _ s
    exact ⟨_, hrun, Dev.busRead_store (d := s.dev.setOut []) hlo hhi h4 hpl hrc hp rfl⟩
  case low =>
    intro hp
    exact ⟨_, rfl, Dev.busRead_frcLo (d := s.dev.setOut []) hp rfl⟩
  case high =>
    intro a v lo ha h4 hpl hs hc
    obtain ⟨hstaged, hread, hothers, hkept⟩ := Dev.busWrite_high (d := s.dev.setOut []) ha h4 hpl hs hc
    have hrun : exec (.highRegisterWrite p a v) s = run (Dev.busWrite p a.toNat v) s := run_onlyIf (by rw [hpl]; rfl) _ s
    exact ⟨_, hrun, hstaged, hread, hothers, hkept.of_cleared⟩
  case commit =>
    intro k ack v a hc
    cases ack with
    | false => exact lowRegisterCommit_plainPair (plainPair_preset k) hc
    | true => exact lowRegisterCommit_plainPair plainPair_ack hc
  case wide =>
    intro hp
    exact ⟨_, rfl, Dev.busRead64_frc (d := s.dev.setOut []) hp rfl⟩

end Sys2Proof.Machine
end
